-- ==== Sys2Proof/Word.lean ====
section
/-!
DEFINITION. The byte, byte strings and sparse tables. Algorithm byte strings keep the byte order of their standard
(00 R20); integer fields are little-endian (00 R19), which Machine/Bytes.lean codes once.
-/
namespace Sys2Proof

/-- A byte. -/
abbrev Byte := BitVec 8

/-- A byte string, byte 0 first. -/
abbrev Bytes := List Byte

/-- A sparse table: keys strictly rising, no key twice (Machine/Bytes.lean keeps that form). -/
abbrev Tbl (α : Type) := List (Nat × α)

end Sys2Proof
end

