-- ==== Sys2Proof/Types.lean ====
section
/-!
DEFINITION. The plain types that commands carry and the state holds: the fixed sets of names of the manual and its
records, key attributes and frames. Each docstring names the chapter (two digits) and rule that gives it.
-/
namespace Sys2Proof

/-- State of a Stall (03 R127, R138). -/
inductive StallState | free | bound | resetting
deriving DecidableEq, Repr

/-- TDI state of a Stall (03 R138, R145). -/
inductive Tdi | none | unlocked | locked | run | error
deriving DecidableEq, Repr

/-- The four kinds of shared engine capacity (01 R31, 03 R148). -/
inductive EngKind | loom | forge | kiln | mill
deriving DecidableEq, Repr

/-- Where an order stands on the path of Architecture and the Path of an Order (01 R45 and the stage table). -/
inductive Stage
  | committed   -- visible to the scheduler, not dispatched
  | waitFill    -- dispatched; a key-cache fill is under way (08 R387)
  | waitCharge  -- dispatched; a reservation waits for the twin (10 R471)
  | waitInput   -- dispatched; input, auxiliary input or a translation is not there yet
  | waitSeed    -- dispatched to a Loom lane that waits for a reseed (05 R244)
  | waitDrbg    -- RANDOM order that waits for the DRBG (07 R362)
  | ready       -- everything it needs is there: its opcode's row runs it
  | computed    -- both copies of the result are there (01 R51)
  | waitCard    -- waits for a custodian card (04 R212, R224)
  | waitTwin    -- PREPARE sent, the Follow's vote awaited (10 R467)
  | waitCommit  -- commit-point write made, its completion signal awaited (09 R431)
  | waitReset   -- waits for the hard reset it requested (03 R162)
  | waitPair    -- PAIR_BIND or PAIR_JOIN that waits for the twin (10 R439, R482)
  | redo        -- to be run again from its start (11 R491, R500)
  | done        -- result settled; its receipt is due
deriving DecidableEq, Repr

/-- The commit-point write of a stateful order (09 R431). -/
inductive CommitPt | none | pending | done
deriving DecidableEq, Repr

/-- What a queued write carries (01 R29). -/
inductive TlpKind | output | aux | rcptCont | rcptHead
deriving DecidableEq, Repr

/-- Status of an engine instance (01 R31, R34, R37; 11 R502). -/
inductive InstStatus | off | active | spare | retired | suspect
deriving DecidableEq, Repr

/-- The six kinds of dual-clock queue of R41, with the ring or link they belong to. -/
inductive QueueId
  | intake (stall ring : Nat)
  | readCompletion
  | egress
  | engineStacks (channel : Nat)
  | clerkControl (clerk : Nat)
  | courier
  | hopper
deriving DecidableEq, Repr

/-- Causes of a part Hold (11 R499; 10 R450, R453; 09 R428). -/
inductive HoldCause
  | releaseCrc          -- transmit buffer self-test runs (R47)
  | outOfRange          -- host write formed outside the permitted ranges (R29)
  | acuChecker          -- the two checkers of an ACU disagreed
  | bindery             -- the two Bindery datapaths differed
  | drbg                -- DRBG block mismatch
  | deed                -- a Deed entry is restored from its other copy
  | quorum              -- two Clerk quorum decisions differed
  | supply              -- a main rail below its warning level
  | clock (clk : Nat)   -- a clock outside its user window
  | glitch (idx : Nat)  -- glitch detector alarm
  | pairQuiet           -- twin heartbeat missed, arbitration or settle time
deriving DecidableEq, Repr

/-- Phase of the part as a whole (14 R596, R599; 11 R495). -/
inductive Phase | off | starting | waitProv | running | silent
deriving DecidableEq, Repr

/-- The PUF SRAM island (04 R167, R168): powered down, or powered with the response of this power-up in its cells. -/
inductive Puf
  | off
  | response
deriving DecidableEq, Repr

/-- Step of a custodian card session (15 R652). -/
inductive CardStep | idle | atr | select | identity | open | sign | put | get | close
deriving DecidableEq, Repr

/-- What the boundary cells drive (15 R654, R655). -/
inductive JPins | functional | extest (cells : Bytes) | clamp (cells : Bytes) | highz
deriving DecidableEq, Repr

/-- Which host read of an order a completion answers (02 R112; 05 R264). -/
inductive InPart | input | aux | pass2
deriving DecidableEq, Repr

/-- What a host read returned (02 R109, R112). -/
inductive ReadRes
  | data (bytes : Bytes)
  | noTranslation (addr : Nat)   -- 0x0401
  | forbidden (addr : Nat)       -- 0x0402
  | error (addr : Nat)           -- 0x0403: UR, CA or poisoned
deriving DecidableEq, Repr

/-- How the second copy of a result differs from the first one, for a command that brings the
two copies to compare (01 R51): the copies of a sound part are equal. -/
inductive Diff
  | none                                        -- both copies are as computed
  | flip (second : Bool) (byte : Nat) (mask : Byte)  -- one copy of the output has bits of one byte flipped
  | word (second : Bool) (mask : Nat)           -- one copy of the result word has bits flipped
  | crc (second : Bool)                         -- the release CRC of one copy differs
  | status (second : Bool) (code : Nat)         -- one copy of the verdict or status is another one (05 R245, R246)
  | selfCheck                                   -- the check before release fails (R290, R291, R312)
deriving DecidableEq, Repr

/-- What comes with a write to the registers of a ring or a Stall: its time in ns, and the T bit of its TLP (03 R145). -/
structure PageWrite where
  /-- Time of the write, in ns. -/
  t : Nat
  /-- The TLP carries the T bit. -/
  tbit : Bool
deriving DecidableEq, Repr

/-- Where a register write goes: setup registers, Stall pages, MSI-X table (15 R626). -/
inductive RegSpace | bar0 | stallPage | bar4
deriving DecidableEq, Repr

/-- The four writable fields of a STALLCFG entry (03 R139). -/
inductive QuotaField | weight | maxInflight | maxPk | maxCache
deriving DecidableEq, Repr

/-- The events that are a function reset (14 R597). -/
inductive FnReset | hotReset | linkDisable | linkDown | flr | d3hotExit
deriving DecidableEq, Repr

/-- What a configuration write sets beside the captured Requester ID (03 R129; 15 R628). -/
inductive CfgReg
  | other
  | atsEnable (on : Bool)
  | atomicRequester (on : Bool)
  | clearFatal
deriving DecidableEq, Repr

/-- What the egress checker finds at a queued TLP (01 R46, R29): nothing wrong, a payload in the transmit buffer that
is not the one queued, or an address that is not the one the order gives. -/
inductive TlpFault
  | none
  | readBack (bytes : Bytes)
  | address (addr : Nat)
deriving DecidableEq, Repr

/-- A record of a CLAIM frame (10 R458). -/
inductive ClaimRec
  | commit (slots stall ring : Nat) (gen : BitVec 16) (count : BitVec 32) (crc : Nat)
  | receipt (slots stall ring : Nat) (gen : BitVec 16) (status : Nat) (count rcpt : BitVec 32)
  | ring (stall ring : Nat) (gen : BitVec 16) (rcpLog2 : Nat) (base : BitVec 64)
deriving DecidableEq, Repr

/-- Attribute block of a key. -/
structure Attrs where
  /-- Key type code of R182 (04 R183; 16 bits). -/
  keyType : Nat
  /-- Nominal size in bits (04 R183; 16 bits). -/
  keyBits : Nat
  /-- Usage bits, encrypt at bit 0 to the bit at 8 that permits wrapping out (04 R183; 16 bits). -/
  usage : BitVec 16
  /-- QUORUM bit 0, DEVICE_NONCE bit 1, LEDGER bit 2 (04 R183; 16 bits). -/
  kflags : BitVec 16
  /-- Lifecycle states that permit use (04 R183; 8 bits). -/
  lcMask : BitVec 8
  /-- Use from a Stall that is not a TDI in RUN (bit 0) or is (bit 1) (04 R183; 8 bits). -/
  worldMask : BitVec 8
  /-- 0 Active, 1 Spent, 2 Retired (04 R183; 8 bits). -/
  kstate : Nat
  /-- Lowest Stall that may use the key (04 R183; 16 bits). -/
  stallLo : Nat
  /-- Highest Stall that may use the key (04 R183; 16 bits). -/
  stallHi : Nat
  /-- Invocation limit, 0 none (04 R183; 64 bits). -/
  invLimit : Nat
  /-- Byte limit, 0 none (04 R183; 64 bits). -/
  byteLimit : Nat
  /-- Tally that counts the reservations (04 R183; 16 bits). -/
  ledgerTally : Nat
  /-- Log2 of invocations per reservation (04 R183; 8 bits). -/
  invQ : Nat
  /-- Log2 of bytes per reservation (04 R183; 8 bits). -/
  byteQ : Nat
  /-- Tally value when the key was bound to it (04 R183; 64 bits). -/
  ledgerBase : Nat
  /-- Handle of the key this key replaced, or 0 (04 R183; 64 bits). -/
  predecessor : Nat
deriving DecidableEq, Repr

/-- The current reservation of a limited key. -/
structure Reservation where
  /-- Reservation number (04 R186; 48 bits). -/
  k : Nat
  /-- Next unused invocation index (04 R186; 64 bits). -/
  invNext : Nat
  /-- End of the granted invocations (04 R186; 64 bits). -/
  invEnd : Nat
  /-- Next unused byte (04 R186; 64 bits). -/
  byteNext : Nat
  /-- End of the granted bytes (04 R186; 64 bits). -/
  byteEnd : Nat
deriving DecidableEq, Repr

/-- A key record of the key store. -/
structure KeyRec where
  /-- Generation (04 R179; 24 bits). -/
  gen : Nat
  /-- Attribute block (04 R183; 64 bytes). -/
  attrs : Attrs
  /-- Key material (04 R182; m bytes). -/
  material : Bytes
  /-- Key check value (04 R194; 8 bytes). -/
  kcv : Bytes
  /-- Current reservation of this part, none after a load (04 R186). -/
  res : Option Reservation
deriving DecidableEq, Repr

/-- A custodian record. -/
structure Custodian where
  /-- 0 to 15 (04 R218; 8 bits). -/
  index : Nat
  /-- 1 ECDSA P-384, 2 ML-DSA-65 (04 R218; 8 bits). -/
  ktype : Nat
  /-- Bit 0: card-holding (04 R218; 8 bits). -/
  cflags : Nat
  /-- Card identifier (04 R218; 16 bytes). -/
  cardId : Bytes
  /-- Public key (04 R218; 97 or 1,952 bytes). -/
  pk : Bytes
deriving DecidableEq, Repr

/-- An Owner record (body of R233). -/
structure OwnerRec where
  /-- Owner number (04 R232; 10 bits). -/
  owner : Nat
  /-- 0 QUORUM_EACH, 1 STANDING (03 R125; 8 bits). -/
  bindRule : Nat
  /-- Every bind must set TDI (03 R125; 1 bit). -/
  tdiOnly : Bool
  /-- Most Stalls bound (03 R125; 16 bits). -/
  maxStalls : Nat
  /-- Ceiling on the sum of WEIGHT (03 R125; 16 bits). -/
  weightSum : Nat
  /-- Ceiling on keys held in Stacks (03 R125; 32 bits). -/
  maxStored : Nat
  /-- Lowest PASID under STANDING (03 R125; 20 bits). -/
  pasidLo : Nat
  /-- Highest PASID under STANDING (03 R125; 20 bits). -/
  pasidHi : Nat
  /-- Quorum threshold M (04 R218; 8 bits). -/
  m : Nat
  /-- Custodians N (04 R218; 8 bits). -/
  n : Nat
  /-- First ledger Tally of the allotment (04 R232; 16 bits). -/
  tallyFirst : Nat
  /-- Tallies in the allotment (04 R232; 16 bits). -/
  tallyCount : Nat
  /-- Record version (04 R233; 24 bits). -/
  version : Nat
  /-- Roster in index order (04 R233; N records). -/
  custodians : List Custodian
deriving DecidableEq, Repr

/-- A written slot of a two-slot MRAM entry. -/
structure MSlot where
  /-- 1 master, 2 record anchor, 3 share anchor, 4 sequence anchor (04 R174; 8 bits). -/
  kind : Nat
  /-- Owner number (04 R174; 10 bits). -/
  owner : Nat
  /-- Master epoch, record version or shared epoch (04 R174; 32 bits). -/
  epoch : Nat
  /-- Proposal sequence (04 R174; 64 bits). -/
  seq : Nat
  /-- Owner whose custodians approved, 0xFFFF none (04 R174; 16 bits). -/
  approver : Nat
  /-- Write count of the entry (04 R174; 32 bits). -/
  wcount : Nat
  /-- First 16 bytes of the proposal digest (04 R174; 16 bytes). -/
  pdigest : Bytes
  /-- Payload per kind (04 R174; 56 bytes). -/
  payload : Bytes
  /-- 1 written, any other value empty (04 R174; 8 bits). -/
  state : Nat
  /-- The MAC bytes are KMAC256 under the anchor MAC key over bytes 0 to 95; a torn write leaves others (04 R174; 32 bytes). -/
  macOk : Bool
deriving DecidableEq, Repr

/-- The parameter block of STALL_BIND. -/
structure StallBlk where
  /-- Stall number (03 R134; 16 bits). -/
  stall : Nat
  /-- Owner number (03 R134; 10 bits). -/
  owner : Nat
  /-- Requester ID (03 R134; 16 bits). -/
  rid : Nat
  /-- NO_PASID bit 0, TDI bit 1, ATS bit 2 (03 R134; 16 bits). -/
  bflags : Nat
  /-- PASID (03 R134; 20 bits). -/
  pasid : Nat
  /-- First vector (03 R134; 16 bits). -/
  vecBase : Nat
  /-- Vectors (03 R134; 16 bits). -/
  vecCount : Nat
  /-- Weight (03 R134; 8 bits). -/
  weight : Nat
  /-- Quota of orders in flight (03 R134; 16 bits). -/
  maxInflight : Nat
  /-- Quota of Forge and Kiln operations (03 R134; 16 bits). -/
  maxPk : Nat
  /-- Quota of cache entries (03 R134; 32 bits). -/
  maxCache : Nat
deriving DecidableEq, Repr

/-- A backup ceremony. -/
structure Backup where
  /-- Owner (04 R213; 10 bits). -/
  owner : Nat
  /-- Share-set identifier (04 R213; 16 bytes). -/
  shareId : Bytes
  /-- Owner Master Key of the constant terms (04 R213; 32 bytes). -/
  omk : Bytes
  /-- First DRBG byte of the polynomial coefficients (04 R213). -/
  coeffs : Nat
  /-- Epoch of the key shared (04 R213; 32 bits). -/
  epoch : Nat
  /-- Threshold: the Owner's M when the polynomials were formed (04 R213; 8 bits). -/
  m : Nat
  /-- Custodians that hold a share (04 R213; 16 custodians). -/
  given : List Nat
  /-- Time of opening (04 R214; ns). -/
  openedAt : Nat
  /-- Proposal sequence of the opening order (04 R176; 64 bits). -/
  seq : Nat
  /-- Proposal digest of the opening order (04 R174; 16 bytes). -/
  pdigest : Bytes
deriving DecidableEq, Repr

/-- Shares of a restore. -/
structure Restore where
  /-- Owner (04 R216; 10 bits). -/
  owner : Nat
  /-- Shares held (04 R216; custodian, x, 32 bytes). -/
  shares : List (Nat × Nat × Bytes)
  /-- Time of the first share (04 R216; ns). -/
  firstAt : Nat
deriving DecidableEq, Repr

/-- What an order ends with: one copy of it per datapath. -/
structure Result where
  /-- Receipt status (02 R101; 16 bits). -/
  status : Nat
  /-- Result word (02 R101; 64 bits). -/
  word : Nat
  /-- Main output (02 R76; output cap). -/
  out : Bytes
  /-- Auxiliary output (02 R76; auxiliary length). -/
  aux : Bytes
deriving DecidableEq, Repr

/-- Platform Description Block. -/
structure Pdb where
  /-- Pdb_version (14 R609; 32 bits). -/
  version : Nat
  /-- 1 Single-part, 2 Mirror, 3 Split (14 R609; 8 bits). -/
  config : Nat
  /-- S of R456 (14 R609; 8 bits). -/
  splitLog2 : Nat
  /-- Fabric settle time (14 R609; 8 bits). -/
  settleUs : Nat
  /-- Stacks population code (14 R609; 8 bits). -/
  popCode : Nat
  /-- Bit 0 TDEA policy flag (14 R609; 8 bits). -/
  policy : Nat
  /-- Card ports in use (14 R609; 8 bits). -/
  cards : Nat
  /-- User throttle level in degrees Celsius (14 R609; 8 bits). -/
  throttleC : Nat
  /-- Switches fitted (14 R609; 8 bits). -/
  swFitted : Nat
  /-- Switches normally closed (14 R609; 8 bits). -/
  swNc : Nat
  /-- Meshes fitted (14 R609; 8 bits). -/
  meshFitted : Nat
  /-- Filter codes (14 R609; 48 bits). -/
  filters : Nat
  /-- Boot Roll close time (14 R609; 16 bits). -/
  closeS : Nat
  /-- GPIO worlds (14 R609; 16 bits). -/
  gpioWorld : Nat
  /-- Card port worlds (14 R609; 8 bits). -/
  cardWorld : Nat
  /-- DMA channel worlds (14 R609; 32 bits). -/
  dmaWorld : Nat
  /-- Host sources expected (14 R609; 32 bits). -/
  srcExpected : Nat
  /-- Sources that may push by order (14 R609; 32 bits). -/
  srcOrder : Nat
  /-- Sources that may push over MCTP (14 R609; 32 bits). -/
  srcMctp : Nat
  /-- Arbiter word address (14 R609; 64 bits). -/
  arbiter : Nat
  /-- Identity hash (14 R609; 16 bytes). -/
  idA : Bytes
  /-- Identity hash (14 R609; 16 bytes). -/
  idB : Bytes
  /-- The block as stored, measured by R572 (14 R609; 96 bytes). -/
  raw : Bytes
deriving DecidableEq, Repr

/-- A Boot Roll block after the header. -/
structure BootBlk where
  /-- Block kind (13 R571; 8 bits). -/
  kind : Nat
  /-- SPDM measurement index (13 R571; 8 bits). -/
  index : Nat
  /-- Host source number or close reason (13 R571; 16 bits). -/
  source : Nat
  /-- Vigil seconds or all ones (13 R571; 32 bits). -/
  seconds : Nat
  /-- Detail (13 R571; 32 bits). -/
  detail : Nat
  /-- Digest or raw value (13 R571; 48 bytes). -/
  value : Bytes
deriving DecidableEq, Repr

/-- A Boot Roll entry: its header block and the blocks after it. -/
structure BootEntry where
  /-- Start kind (13 R570; 8 bits). -/
  start : Nat
  /-- Boot number (13 R570; 48 bits). -/
  boot : Nat
  /-- Entry digest of the previous entry (13 R570; 48 bytes). -/
  previous : Bytes
  /-- Blocks in order (13 R571; 1 to 63 blocks). -/
  blocks : List BootBlk
  /-- Tags of the header block and of every block after it (13 R573; 16 bytes a block). -/
  tags : List Bytes
deriving DecidableEq, Repr

/-- A monotonic counter. -/
structure Tally where
  /-- Value (13 R579; 48 bits). -/
  value : Nat
  /-- EXHAUSTED (13 R583; 1 bit). -/
  exhausted : Bool
  /-- WORN (13 R583; 1 bit). -/
  worn : Bool
  /-- Writes made; the slot in force is writes mod 8 (13 R579; 40 bits). -/
  writes : Nat
deriving DecidableEq, Repr

/-- Tally at reset. -/
def Tally.reset : Tally where
  value := 0
  exhausted := false
  worn := false
  writes := 0

/-- A Daybook record. -/
structure DbRec where
  /-- Event code (13 R552; 16 bits). -/
  code : Nat
  /-- Severity (13 R553; 3 bits). -/
  sev : Nat
  /-- SUBSUMED (13 R552; 1 bit). -/
  subsumed : Bool
  /-- Received from the twin (13 R552; 1 bit). -/
  twin : Bool
  /-- REPEAT_FULL (13 R552; 1 bit). -/
  repeatFull : Bool
  /-- Low 32 bits of Tally 2 (13 R552; 32 bits). -/
  hours : Nat
  /-- Low 24 bits of Tally 1 (13 R552; 24 bits). -/
  pcycles : Nat
  /-- Record sequence (13 R552; 16 bits). -/
  seq : Nat
  /-- Repeat count (13 R552; 16 bits). -/
  repeats : Nat
  /-- Parameter 0 (13 R552; 32 bits). -/
  p0 : Nat
  /-- Parameter 1 (13 R552; 32 bits). -/
  p1 : Nat
  /-- Parameter 2 (13 R552; 32 bits). -/
  p2 : Nat
deriving DecidableEq, Repr

/-- A tamper-buffer entry. -/
structure TEntry where
  /-- Vigil seconds (12 R539; 32 bits). -/
  seconds : Nat
  /-- Vigil fraction (12 R539; 15 bits). -/
  fraction : Nat
  /-- Time valid (12 R539; 1 bit). -/
  valid : Bool
  /-- Source code (12 R539; 8 bits). -/
  source : Nat
  /-- Detail (12 R539; 8 bits). -/
  detail : Nat
  /-- Parameter (12 R539; 16 bits). -/
  param : Nat
  /-- Power state at the event (12 R539; 8 bits). -/
  power : Nat
deriving DecidableEq, Repr

/-- A Tamper Roll entry. -/
structure RollEntry where
  /-- Entry number (13 R564; 32 bits). -/
  number : Nat
  /-- 1 tamper-buffer entry, 2 overflow, 3 Stacks failure (13 R564; 8 bits). -/
  kind : Nat
  /-- Low 24 bits of Tally 1 (13 R564; 24 bits). -/
  pcycles : Nat
  /-- Low 32 bits of Tally 2 (13 R564; 32 bits). -/
  hours : Nat
  /-- Body per kind (13 R564; 16 bytes). -/
  body : Bytes
  /-- First 32 bytes of SHA-384 of the previous entry (13 R564; 32 bytes). -/
  link : Bytes
  /-- Tag stored with the entry (13 R565; 16 bytes). -/
  tag : Bytes
deriving DecidableEq, Repr

/-- A written and valid pair record slot. -/
structure PairRec where
  /-- 1 Mirror, 2 Split (10 R436; 8 bits). -/
  mode : Nat
  /-- 0 or 1 (10 R436; 8 bits). -/
  side : Nat
  /-- Session epoch (10 R436; 32 bits). -/
  epoch : Nat
  /-- Last Arbiter value written or won (10 R436; 64 bits). -/
  arbiter : Nat
  /-- Pair identity (10 R436; 16 bytes). -/
  pairId : Bytes
  /-- Identity hash of the twin (10 R436; 16 bytes). -/
  twinId : Bytes
  /-- Wrapped pair secret (10 R436; 40 bytes). -/
  psWrap : Bytes
deriving DecidableEq, Repr

/-- What the Keeper world's firmware brings to a class 0x06, 0x07 or 0x0F order when it runs: the time, and the
outcomes of the tests it makes that depend on the sound working of the part alone. -/
structure FwEnv where
  /-- Time of the step, in ns. -/
  t : Nat
  /-- The known-answer or pairwise test of a new key, or the read-back of new material, passes (04 R206, R217). -/
  testOk : Bool
  /-- The two Clerks decide the quorum alike (04 R229). -/
  agree : Bool
  /-- The two runs of every signature verification of the order agree (04 R229). -/
  copies : Bool
deriving DecidableEq, Repr

/-- What a stateful order writes at its commit point. The constructors down to `tally` are the items of a PREPARE or a
RESYNC frame (10 R466); the others are effects that each part makes of its own (10 R467, 13 R585, 14 R624). -/
inductive Item
  | mram (entry slot : Nat) (img : Option MSlot)                -- kind 1: a master-entry slot written, or erased
  | key (owner slot : Nat) (k : KeyRec)                         -- kind 2: a key record stored; wrapped under the PTK on the link
  | keyGone (owner slot : Nat) (tomb : Option Nat) (next : Nat) -- kind 3: the key removed, or a tombstone set
  | bind (blk : StallBlk) (gen : BitVec 16)                     -- kind 4, op 1
  | unbind (stall : Nat) (gen : BitVec 16)                      -- kind 4, op 2
  | ownerBlob (blob : Bytes)                                    -- kind 5: an Owner record blob loaded
  | stallReset (stall : Nat) (gen : BitVec 16) (cause : Nat)    -- kind 6
  | receipt (r : Result)                                        -- kind 7
  | tally (n v : Nat)                                           -- kind 8
  | badOp                                                       -- kind 4 with any other op: malformed
  | ownerRec (r : OwnerRec)                                     -- an Owner record loaded on this part
  | ownerGone (owner : Nat)                                     -- an Owner's record is no longer loaded
  | keep (owner seq word : Nat)                                 -- result kept for "already applied" (04 R226)
  | keyRecord (handle new : Nat)                                -- Daybook record of a key's new state
  | backup (b : Option Backup)                                  -- backup ceremony (04 R213)
  | restore (owner : Nat) (r : Option Restore)                  -- restore shares of an Owner (04 R216)
  | tallyUp (n v : Nat)                                         -- TALLY_ADVANCE by an amount (13 R586)
  | bootBlk (kind index source detail : Nat) (value : Bytes)    -- a Boot Roll block (13 R576)
  | bootClose (reason : Nat)                                    -- host intake closes (13 R577)
  | vigilTime (v : Nat)                                         -- VIGIL_SET_TIME (12 R527)
  | pdb (p : Pdb)                                               -- a Platform Description Block (14 R611)
  | calib (b : Bytes)                                           -- a user calibration record (14 R613)
  | rootCheck                                                   -- Device Root formed, root check written (14 R620)
  | lifecycle (state seq : Nat) (digest : Bytes)                -- a lifecycle transition (14 R614, R617)
  | fuseR                                                       -- fuse R is blown (14 R621)
  | zeroize (cause : Nat)                                       -- Zeroize (14 R621)
  | bootRec (bank trial : Nat)                                  -- the boot record (14 R606)
  | flash (addr : Nat) (data : Bytes)                           -- image bytes (14 R608)
  | floor (svn : Nat)                                           -- Tally 5 (14 R608)
  | debugStage (level : Nat)                                    -- a staged debug level (15 R658)
  | pairGone                                                    -- the pair record is erased (10 R479)
  | pairMade (r : PairRec)                                      -- the pair record of a binding (10 R439)
  | hardReset (stall : Nat) (free : Bool)                       -- STALL_RESET or STALL_UNBIND (03 R137, R155)
deriving DecidableEq, Repr

/-- What an order asks of a custodian card (04 R212 to R224; 15 R652). -/
inductive CardWant
  | sign (entry port owner index : Nat) (proposal : Bytes)      -- an approval, by entry of the list
  | put (port owner index : Nat)                                -- a share of the open ceremony
  | get (port owner index : Nat)                                -- a share of the share set in the anchor
deriving DecidableEq, Repr

/-- What a custodian card answers (15 R650 to R652). -/
inductive CardAns
  | atr (cls : Nat)                                             -- answer to reset, with the class used; 0 when the card offers no T=1
  | ok                                                          -- SELECT, PUT_SHARE or CLOSE done
  | identity (cardId : Bytes) (ktype : Nat) (pk : Bytes)        -- GET_IDENTITY
  | opened (point sig : Bytes)                                  -- OPEN_SESSION
  | signature (sig : Bytes)                                     -- SIGN_PROPOSAL
  | share (enc : Bytes)                                         -- GET_SHARE
  | error                                                       -- an ATR or protocol error
deriving DecidableEq, Repr

/-- A DELTA payload (10 R464): its header and items. -/
structure Delta where
  /-- Transaction number. -/
  txn : Nat
  /-- Phase code. -/
  phase : Nat
  /-- APPLY flag. -/
  apply : Bool
  /-- Ring: Stall and position. -/
  stall : Nat
  ring : Nat
  /-- Stall generation of the order. -/
  gen : BitVec 16
  /-- Header count of the order. -/
  count : BitVec 32
  /-- Lead's Vigil time when the PREPARE was built. -/
  vigil : Nat
  /-- Order digest of R221. -/
  odigest : Bytes
  /-- Items, in PREPARE alone. -/
  items : List Item
deriving DecidableEq, Repr

/-- Payload of a HEARTBEAT frame (10 R449). -/
structure Beat where
  state : Nat
  role : Nat
  side : Nat
  beat : Nat
  vigil : Nat
  active : List Nat
  arbiter : Nat
  restarts : Nat
  troll : Nat
deriving DecidableEq, Repr

/-- Payload of a Courier Link frame (10 R447). -/
inductive FrameBody
  | heartbeat (b : Beat)                                        -- type 0x01
  | claim (rs : List ClaimRec)                                  -- type 0x02
  | delta (d : Delta)                                           -- type 0x03
  | stallReset (stall : Nat) (gen : BitVec 16) (cause : Nat)    -- type 0x03, an item of kind 6 alone (R461)
  | reserve (kind tally rid value handle : Nat)                 -- type 0x04
  | evidence (kind seq : Nat) (body : Bytes)                    -- type 0x05
  | silence (level cause seq : Nat)                             -- type 0x06
  | ack (nak : Bool)                                            -- type 0x07: what counts is the header, with its NAK flag
  | resync (items : List Item)                                  -- type 0x08
  | resyncEnd (digest : Bytes)                                  -- type 0x08: the digests of R482 step 4
  | hello (purpose epoch : Nat) (nonce pk pq : Bytes)           -- type 0x10
  | kex (ek x auth auth2 : Bytes)                               -- type 0x11
  | kexReply (ct x auth auth2 : Bytes)                          -- type 0x12
  | confirm (tag : Bytes)                                       -- type 0x13
  | other (type : Nat)                                          -- a type R447 does not list
deriving DecidableEq, Repr

/-- A frame of the Courier Link: virtual channel, sequence number, acknowledged sequence and payload (10 R444, R447). -/
structure Frame where
  /-- Virtual channel, 0 or 1. -/
  ch : Nat
  /-- Session epoch, 0 in handshake frames. -/
  epoch : Nat
  /-- Sequence number. -/
  seq : Nat
  /-- Highest sequence received in order on the same channel from the twin, none before the first. -/
  ack : Option Nat
  /-- Type and payload. -/
  body : FrameBody
deriving DecidableEq, Repr

/-- What a start finds: the outcomes of the tests of its steps 1 to 6, and how long the steps that run at once take
(14 R599, R601). -/
structure StartEnv where
  /-- Time at which the start begins, in ns. -/
  t : Nat
  /-- Time that the steps up to the next wait take, in ns. -/
  took : Nat
  /-- The two OTP reads agree (step 2). -/
  otpAgree : Bool
  /-- The ROM measurement and the known-answer test of a Mill pair pass (step 2). -/
  romOk : Bool
  /-- The entropy start-up tests and the DRBG known-answer test pass (step 3). -/
  entropyOk : Bool
  /-- The Watermark passes its check at the first attempt (step 4). -/
  watermarkOk : Bool
  /-- Bits of the 65,536 of the response that the regeneration corrected. -/
  corrected : Nat
  /-- Instances that fail their start-up self-test (step 6). -/
  failed : List (EngKind × Nat)
deriving DecidableEq, Repr
/-- A further Watermark attempt (04 R167), and what the steps after it find. -/
structure WmEnv where
  /-- The Watermark passes its check. -/
  ok : Bool
  /-- Bits of the 65,536 of the response that the regeneration corrected. -/
  corrected : Nat
  /-- Time that the steps up to the next wait take, in ns. -/
  took : Nat
  /-- Instances that fail their start-up self-test (step 6). -/
  failed : List (EngKind × Nat)
deriving DecidableEq, Repr
/-- An SPDM request as its fields (13 R590); the command names its code. -/
structure SpdmReq where
  /-- It came over MCTP on the sideband, else over DOE. -/
  mctp : Bool
  /-- Secure session it came in. -/
  session : Option Nat
  /-- SPDM version of the message header. -/
  version : Nat
  /-- The two parameter bytes of the header. -/
  param1 : Nat
  param2 : Nat
  /-- The message after its 4-byte header. -/
  data : Bytes
deriving DecidableEq, Repr
/-- A TDISP request (03 R143 to R146). -/
structure TdispReq where
  /-- Secure SPDM session it came in. -/
  session : Option Nat
  /-- TDISP version of the message header. -/
  version : Nat
  /-- Function ID of the INTERFACE_ID. -/
  func : Nat
  /-- Stall number of the INTERFACE_ID. -/
  stall : Nat
  /-- Selective IDE stream that a LOCK request names as the default. -/
  stream : Nat
  /-- Nonce of a START request. -/
  nonce : Bytes
deriving DecidableEq, Repr
/-- A pin that carries a world attribute (09 R420). -/
inductive PinId | gpio (i : Nat) | card (port : Nat)
deriving DecidableEq, Repr
/-- Who makes an access (09 R403, R404). A Clerk's world is that of the state; the access says whether it is made at user
level. -/
inductive Master
  | clerk (core : Nat) (user : Bool)
  | debug
  | dma (ch : Nat)
  | engine (code inst : Nat) (owner : Option Nat)
  | rom
  | none
deriving DecidableEq, Repr

/-- A request to the Bindery (08 R381). -/
structure BindReq where
  /-- Requesting master. -/
  who : Master
  /-- Stacks logical address. -/
  sla : Nat
  /-- Length in bytes. -/
  len : Nat
deriving DecidableEq, Repr
/-- What an access does (09 R415, R423): a copy is a DMA transfer with its destination. -/
inductive AccKind
  | read
  | write (data : Bytes)
  | fetch
  | atomic (data : Bytes)
  | copy (space addr : Nat)
deriving DecidableEq, Repr

/-- An access as an ACU sees it (09 R402, R415). -/
structure AccReq where
  /-- Master. -/
  who : Master
  /-- Space code. -/
  space : Nat
  /-- First address. -/
  addr : Nat
  /-- Length in bytes. -/
  len : Nat
  /-- What it does. -/
  kind : AccKind
deriving DecidableEq, Repr
/-- What a sample of a tamper input shows (12 R533, R534). -/
inductive TamperSmp
  | switch (high : Bool)      -- level of a strobed switch input; the pull-up takes an open switch high
  | mesh (detail : Nat)       -- 0 no alarm sample, else the detail code of R534
deriving DecidableEq, Repr
/-- The words of an ACU region that a write names (09 R411): offsets 0, 8, 16, 20 and 24. -/
inductive RegionField | base | last | rights | control | reserved
deriving DecidableEq, Repr
/-- What a message of the provisioning exchange does (14 R618). -/
inductive ProvBody
  | helper (data : Bytes)      -- PUF helper data, check value and OTP salt
  | identities                 -- the two identity public keys are returned
  | recognition                -- the recognition secret is returned, encrypted
  | chain (certs : Bytes)      -- the certificate chain of SPDM slot 0
  | finish                     -- fuse P is blown
deriving DecidableEq, Repr

/-- A message of the provisioning exchange, signed with Weleren's provisioning key (14 R618). -/
structure ProvMsg where
  /-- The two public keys whose hash the ROM holds. -/
  keys : Bytes
  /-- The signature. -/
  sig : Bytes
  /-- What it does. -/
  body : ProvBody
deriving DecidableEq, Repr
/-- What SECDED finds in a line (08 R368, R388): nothing, corrected codewords, or an uncorrectable one. -/
inductive LineEcc | clean | corrected (n : Nat) | bad
deriving DecidableEq, Repr
/-- An IDE_KM message (15 R631), by selective stream 0 to 7, or 8 for the link stream. -/
inductive IdeKm
  | query (port : Nat)
  | keyProg (stream keySet dir sub : Nat)
  | goSet (stream keySet dir sub : Nat)
  | stop (stream keySet dir sub : Nat)
deriving DecidableEq, Repr
/-- Why a received frame is discarded (10 R446). -/
inductive FrameErr | gap | crc | fec | tag
deriving DecidableEq, Repr
/-- What DRAM returns for a request (08 R382): the lines in the order in which they were asked for, and what goes wrong
inside the Bindery as it handles them (08 R391, kinds 7 and 8). -/
structure DramData where
  /-- The lines, with what SECDED finds; a corrected line is given as corrected. -/
  lines : List (LineEcc × Bytes)
  /-- The two datapaths differ. -/
  differ : Bool
  /-- A cache, the root counters or a remap table has an uncorrectable error, or its two copies differ. -/
  storeBad : Bool
deriving DecidableEq, Repr
/-- Clerk run control over the debug port (15 R656). -/
inductive DbgRun | halt | resume | step | readReg (i : Nat) | writeReg (i v : Nat)
deriving DecidableEq, Repr

/-- A debug command (09 R419; 15 R654, R656). -/
inductive DbgCmd
  | read (space addr len : Nat)
  | write (space addr : Nat) (data : Bytes)
  | fill (space addr len : Nat) (value : Byte)
  | run (clerk : Nat) (op : DbgRun)
deriving DecidableEq, Repr
/-- What an AtomicOp compare-and-swap of the part ends with (10 R477). -/
inductive CasRes
  | value (v : Nat)   -- the value the word held
  | error             -- a completion error
deriving DecidableEq, Repr
/-- What the part puts on its balls, as the model records it (01 R29, R45; the model's own record, log entry 5). -/
inductive Out
  | memWrite (stall : Nat) (pasid : Option Nat) (addr : Nat) (data : Bytes) (relaxed tbit : Bool) (kind : TlpKind)  -- posted write
  | readReq (stall : Nat) (pasid : Option Nat) (addr len : Nat) (tbit : Bool)  -- memory read request of at most 256 bytes
  | atsReq (stall : Nat) (pasid : Option Nat) (page : Nat)        -- translation request
  | atsInvDone (pasid : Option Nat)                               -- invalidation completion
  | msix (vector : Nat)                                           -- MSI-X message
  | errFatal                                                      -- ERR_FATAL message
  | casReq (addr expected desired : Nat)                          -- AtomicOp CAS on the Arbiter word
  | arbWrite (addr value : Nat)                                   -- plain write of the Arbiter word (10 R476)
  | casDone (value : BitVec 64)                                   -- completion of a CAS to a doorbell
  | unsupported                                                   -- completion with Unsupported Request
  | doe (bytes : Bytes)                                           -- SPDM or TDISP response
  | mctp (bytes : Bytes)                                          -- MCTP response over the sideband
  | i3c (bytes : Bytes)                                           -- data of a CCC read
  | i3cAck (ack : Bool)                                           -- address acknowledged or NACKed
  | ibi (bytes : Bytes)                                           -- in-band interrupt
  | frame (f : Frame)                                             -- Courier Link frame
  | card (port : Nat) (cmd : CardStep) (data : Bytes)             -- command to a custodian card
  | dramRead (id channel addr : Nat)                              -- DRAM burst read of one line
  | dramWrite (channel addr : Nat) (data : Bytes)                 -- DRAM burst write of one line
  | dramInit (channel : Nat)                                      -- Catalogue and tag initialisation of a channel
  | jtag (bytes : Bytes)                                          -- data register shifted out
  | clerkData (bytes : Bytes)                                     -- data an access returns to its master
  | refused                                                       -- an access refused whole
  | thermAlert (low : Bool)                                       -- THERM_ALERT# level
deriving DecidableEq, Repr

/-- Whether an output is one that the PCIe core sends (11 R495: none of them leaves in Silence but ERR_FATAL). -/
def Out.pcie : Out → Bool
  | .memWrite .. | .readReq .. | .atsReq .. | .atsInvDone _ | .msix _ | .errFatal | .casReq .. | .arbWrite .. | .casDone _
  | .doe _ => true
  | _ => false

end Sys2Proof
end

