-- ==== Sys2Proof/Syntax.lean ====
section
/-!
DEFINITION. The commands of the part, one constructor per row of spec/opcode_table.json. The rows of classes 0x00 to
0x0F are the orders of the rings: their operand is the model's own name of the order that an intake command committed
(`Order.id`), since the header, the parameter block and the input of the order are in the state. The other rows are
accesses, completions, frames, pin and timer events; their operands are what they bring.
-/
namespace Sys2Proof

/-- The commands, in the table's order. -/
inductive Instr where
  /-- NO_OPERATION (R79). Opcode 0x0000 passes through intake, dispatch and the receipt writer without touching an engine and is receipted with status 0x0000. -/
  | noOperation (id : Nat)
  /-- AES_ECB_ENC (R247). Encrypts the input with AES in ECB mode on both lanes of a Loom. -/
  | aesEcbEnc (id : Nat)
  /-- AES_ECB_DEC (R247). Decrypts the input with AES in ECB mode, refusing keys that carry unwrap or translate. -/
  | aesEcbDec (id : Nat)
  /-- AES_CBC_ENC (R247). Encrypts the input with AES in CBC mode under the IV in the parameter block. -/
  | aesCbcEnc (id : Nat)
  /-- AES_CBC_DEC (R247). Decrypts the input with AES in CBC mode under the IV in the parameter block. -/
  | aesCbcDec (id : Nat)
  /-- AES_CTR_ENC (R250). Encrypts with AES in CTR mode and refuses a counter that would wrap within the order. -/
  | aesCtrEnc (id : Nat)
  /-- AES_CTR_DEC (R250). Decrypts with AES in CTR mode and refuses a counter that would wrap within the order. -/
  | aesCtrDec (id : Nat)
  /-- AES_XTS_ENC (R248). Encrypts data units with AES-XTS under data key A and tweak key B. -/
  | aesXtsEnc (id : Nat)
  /-- AES_XTS_DEC (R248). Decrypts data units with AES-XTS under data key A and tweak key B. -/
  | aesXtsDec (id : Nat)
  /-- AES_GCM_SEAL_DN (R257). Seals with AES-GCM under a device-made nonce formed from the key check value and a ledger invocation index. -/
  | aesGcmSealDn (id : Nat)
  /-- AES_GCM_SEAL (R247). Seals plaintext and AAD with AES-GCM under a caller nonce and returns ciphertext and tag. -/
  | aesGcmSeal (id : Nat)
  /-- AES_GCM_OPEN (R263). Opens AES-GCM ciphertext, releasing plaintext only after both lanes verify the tag, in one or two passes. -/
  | aesGcmOpen (id : Nat)
  /-- AES_CMAC (R247). Computes an AES-CMAC tag of the message. -/
  | aesCmac (id : Nat)
  /-- AES_CMAC_VERIFY (R247). Verifies an AES-CMAC tag and reports the verdict in the status. -/
  | aesCmacVerify (id : Nat)
  /-- AES_KW_WRAP (R247). Wraps data with AES key wrap. -/
  | aesKwWrap (id : Nat)
  /-- AES_KW_UNWRAP (R263). Unwraps AES-KW data, holding output until the integrity check passes. -/
  | aesKwUnwrap (id : Nat)
  /-- AES_KWP_WRAP (R247). Wraps data with AES key wrap with padding. -/
  | aesKwpWrap (id : Nat)
  /-- AES_KWP_UNWRAP (R263). Unwraps AES-KWP data, holding output until the integrity check passes. -/
  | aesKwpUnwrap (id : Nat)
  /-- CHACHA_SEAL (R247). Seals plaintext with ChaCha20-Poly1305. -/
  | chachaSeal (id : Nat)
  /-- CHACHA_OPEN (R263). Opens ChaCha20-Poly1305 ciphertext, releasing plaintext only after the tag verifies. -/
  | chachaOpen (id : Nat)
  /-- TDEA_ECB_ENC (R269). Encrypts with TDEA in ECB mode under the TDEA policy and ledger limits. -/
  | tdeaEcbEnc (id : Nat)
  /-- TDEA_ECB_DEC (R268). Decrypts with TDEA in ECB mode under the TDEA policy. -/
  | tdeaEcbDec (id : Nat)
  /-- TDEA_CBC_ENC (R269). Encrypts with TDEA in CBC mode under the TDEA policy and ledger limits. -/
  | tdeaCbcEnc (id : Nat)
  /-- TDEA_CBC_DEC (R268). Decrypts with TDEA in CBC mode under the TDEA policy. -/
  | tdeaCbcDec (id : Nat)
  /-- PIN_TRANSLATE (R270). Decrypts a PIN block under key A, checks it and re-encrypts the same PIN in the output format under key B. -/
  | pinTranslate (id : Nat)
  /-- KEYBLOCK_TRANSLATE (R275). Verifies an X9.143 key block under the input KBPK and rewrites it under the output KBPK. -/
  | keyblockTranslate (id : Nat)
  /-- CIPHER_TRANSLATE (R278). Decrypts under key A into the hold buffer and re-encrypts under key B without releasing plaintext. -/
  | cipherTranslate (id : Nat)
  /-- ECDSA_SIGN (R300). Signs a message or digest with ECDSA using a hedged RFC 6979 secret on two Forges. -/
  | ecdsaSign (id : Nat)
  /-- ECDSA_VERIFY (R301). Verifies an ECDSA signature and reports the verdict in the status. -/
  | ecdsaVerify (id : Nat)
  /-- EDDSA_SIGN (R302). Signs with Ed25519 or Ed448 in pure, ph or ctx variant. -/
  | eddsaSign (id : Nat)
  /-- EDDSA_VERIFY (R302). Verifies an EdDSA signature with the unbatched equation. -/
  | eddsaVerify (id : Nat)
  /-- ECDH_DERIVE (R309). Computes an ECDH shared secret, derives key material and returns it as a blob for handle B. -/
  | ecdhDerive (id : Nat)
  /-- RSA_SIGN (R303). Signs with RSA in PSS, PKCS#1 v1.5 or raw mode, checking the result with the public exponent. -/
  | rsaSign (id : Nat)
  /-- RSA_VERIFY (R304). Verifies an RSA signature by recomputing and comparing the whole encoding. -/
  | rsaVerify (id : Nat)
  /-- RSA_ENCRYPT (R307). Encrypts with RSAES-OAEP or raw RSA. -/
  | rsaEncrypt (id : Nat)
  /-- RSA_DECRYPT (R308). Decrypts with RSA OAEP or raw mode in constant time. -/
  | rsaDecrypt (id : Nat)
  /-- RSA_UNWRAP (R311). Decrypts a wrapped key with RSAES-OAEP and returns it as a blob for handle B. -/
  | rsaUnwrap (id : Nat)
  /-- MLKEM_ENCAPS (R342). Runs ML-KEM encapsulation and returns the ciphertext and a blob of the derived key. -/
  | mlkemEncaps (id : Nat)
  /-- MLKEM_DECAPS (R342). Runs ML-KEM decapsulation with branch-free implicit rejection and returns a blob of the derived key. -/
  | mlkemDecaps (id : Nat)
  /-- MLDSA_SIGN (R343). Signs with ML-DSA, hedged or deterministic, verifying before release. -/
  | mldsaSign (id : Nat)
  /-- MLDSA_VERIFY (R343). Verifies an ML-DSA signature. -/
  | mldsaVerify (id : Nat)
  /-- SLHDSA_SIGN (R344). Signs with SLH-DSA, verifying before release. -/
  | slhdsaSign (id : Nat)
  /-- SLHDSA_VERIFY (R344). Verifies an SLH-DSA signature. -/
  | slhdsaVerify (id : Nat)
  /-- HASH (R358). Hashes the input on a Mill hash pair with the named hash or XOF. -/
  | hash (id : Nat)
  /-- HMAC (R354). Computes an HMAC tag under a secret key. -/
  | hmac (id : Nat)
  /-- HMAC_VERIFY (R355). Verifies an HMAC tag after comparing the whole tag. -/
  | hmacVerify (id : Nat)
  /-- KMAC (R354). Computes a KMAC tag with an optional customisation string. -/
  | kmac (id : Nat)
  /-- KMAC_VERIFY (R355). Verifies a KMAC tag after comparing the whole tag. -/
  | kmacVerify (id : Nat)
  /-- KDF (R356). Derives key material by HKDF or SP 800-108 and returns it as a blob for handle B. -/
  | kdf (id : Nat)
  /-- LMS_VERIFY (R357). Verifies an LMS or HSS signature. -/
  | lmsVerify (id : Nat)
  /-- RANDOM (R361). Returns DRBG output, reseeding first when PRED_RES is set. -/
  | random (id : Nat)
  /-- KEY_GENERATE (R201). Creates a key in a target slot from DRBG material or duplicated pair generation and returns its blob. -/
  | keyGenerate (id : Nat) (e : FwEnv)
  /-- KEY_LOAD (R200). Loads a key from a blob into the key store after the checks of R195. -/
  | keyLoad (id : Nat) (e : FwEnv)
  /-- KEY_UNLOAD (R204). Removes a key from the Muniment, making it Absent. -/
  | keyUnload (id : Nat) (e : FwEnv)
  /-- KEY_IMPORT (R199). Imports a key wrapped by AES-KWP or an X9.143 key block under key B and returns its blob. -/
  | keyImport (id : Nat) (e : FwEnv)
  /-- KEY_EXPORT (R199). Exports key A wrapped under key B by AES-KWP or an X9.143 key block. -/
  | keyExport (id : Nat) (e : FwEnv)
  /-- KEY_REPLACE (R205). Makes and self-tests a successor at generation g + 1 and commits it, tombstoning the old generation. -/
  | keyReplace (id : Nat) (e : FwEnv)
  /-- KEY_RETIRE (R204). Retires a key, leaving its generation as the slot's tombstone. -/
  | keyRetire (id : Nat) (e : FwEnv)
  /-- KEY_NARROW (R202). Replaces a key's attributes with narrower ones at generation g + 1. -/
  | keyNarrow (id : Nat) (e : FwEnv)
  /-- KEY_PUBLIC (R315). Returns the public key of a stored private key. -/
  | keyPublic (id : Nat) (e : FwEnv)
  /-- BLOB_REWRAP (R211). Turns a blob of the previous master epoch into one of the current epoch with a fresh nonce. -/
  | blobRewrap (id : Nat) (e : FwEnv)
  /-- MASTER_ROTATE (R209). Draws a new Owner Master Key and writes it to the free master slot at the next epoch. -/
  | masterRotate (id : Nat) (e : FwEnv)
  /-- MASTER_RETIRE_OLD (R210). Erases the previous-epoch master slot and writes the sequence anchor. -/
  | masterRetireOld (id : Nat) (e : FwEnv)
  /-- MASTER_BACKUP (R213). Opens or continues a Shamir share backup ceremony, writing one custodian's share to its card. -/
  | masterBackup (id : Nat) (e : FwEnv)
  /-- MASTER_RESTORE (R216). Reads one share from a card and, when M are held, reconstructs and writes the Owner Master Key. -/
  | masterRestore (id : Nat) (e : FwEnv)
  /-- CUSTODIAN_ENROL (R219). Adds a custodian record to the Owner's roster and writes a new Owner record. -/
  | custodianEnrol (id : Nat) (e : FwEnv)
  /-- CUSTODIAN_REMOVE (R219). Removes a custodian from the roster and writes a new Owner record. -/
  | custodianRemove (id : Nat) (e : FwEnv)
  /-- QUORUM_SET (R219). Changes the Owner's threshold M and writes a new Owner record. -/
  | quorumSet (id : Nat) (e : FwEnv)
  /-- QUORUM_STATUS (R203). Returns the Owner's 64-byte quorum status. -/
  | quorumStatus (id : Nat) (e : FwEnv)
  /-- HOST_MEASURE (R576). Appends a host measurement block to the current Boot Roll entry. -/
  | hostMeasure (id : Nat) (e : FwEnv)
  /-- BOOT_CLOSE (R577). Closes Boot Roll host intake with reason 1 and appends the close block. -/
  | bootClose (id : Nat) (e : FwEnv)
  /-- ROLL_EXPORT (R588). Exports a Tamper Roll or Boot Roll entry with a statement signed by both identity keys. -/
  | rollExport (id : Nat) (e : FwEnv)
  /-- GENUINE (R239). Returns HMAC-SHA-384 under the recognition secret over the serial number and a challenge. -/
  | genuine (id : Nat) (e : FwEnv)
  /-- TALLY_READ (R585). Returns the value and flags of an Owner Tally. -/
  | tallyRead (id : Nat) (e : FwEnv)
  /-- TALLY_ADVANCE (R586). Adds an amount to an Owner Tally, saturating or refusing when Exhausted or worn. -/
  | tallyAdvance (id : Nat) (e : FwEnv)
  /-- OWNER_CREATE (R234). Creates an Owner with its master entry, sequence anchor and record anchor under Owner 0's quorum. -/
  | ownerCreate (id : Nat) (e : FwEnv)
  /-- OWNER_RETIRE (R236). Marks an Owner Retiring and erases its master entries. -/
  | ownerRetire (id : Nat) (e : FwEnv)
  /-- OWNER_LOAD (R237). Loads an Owner record blob that matches its record anchor. -/
  | ownerLoad (id : Nat) (e : FwEnv)
  /-- OWNER_POLICY (R235). Changes an Owner's Stall-governing policy fields and writes a new record. -/
  | ownerPolicy (id : Nat) (e : FwEnv)
  /-- STALL_BIND (R135). Binds a Free Stall to an Owner, Requester ID and PASID after ordered checks. -/
  | stallBind (id : Nat) (e : FwEnv)
  /-- STALL_UNBIND (R137). Hard-resets a Bound Stall and sets it Free. -/
  | stallUnbind (id : Nat) (e : FwEnv)
  /-- STALL_RESET (R681). Starts a hard reset of a Bound Stall other than Stall 0. -/
  | stallReset (id : Nat) (e : FwEnv)
  /-- PAIR_BIND (R439). Runs the pair-binding ceremony with the twin and writes the pair record. -/
  | pairBind (id : Nat) (e : FwEnv)
  /-- PAIR_UNBIND (R479). Erases the pair record so the part runs as a single part. -/
  | pairUnbind (id : Nat) (e : FwEnv)
  /-- PAIR_JOIN (R482). Joins a Waiting twin by streaming the Sole part's state and comparing digests. -/
  | pairJoin (id : Nat) (e : FwEnv)
  /-- VIGIL_SET_TIME (R527). Sets the Vigil seconds count and marks the time valid under Owner 0's quorum. -/
  | vigilSetTime (id : Nat) (e : FwEnv)
  /-- PDB_APPLY (R611). Checks, stores and applies a new Platform Description Block. -/
  | pdbApply (id : Nat) (e : FwEnv)
  /-- CALIB_APPLY (R613). Stores a user calibration record and applies its narrowing fields. -/
  | calibApply (id : Nat) (e : FwEnv)
  /-- LC_COMMISSION (R620). Moves a Provisioned part to Commissioned, writing the Seal seed, Device Root, block and Owner 0. -/
  | lcCommission (id : Nat) (e : FwEnv)
  /-- LC_DEPLOY (R617). Moves the part from Commissioned to Deployed. -/
  | lcDeploy (id : Nat) (e : FwEnv)
  /-- LC_QUARANTINE (R617). Moves the part to Quarantined. -/
  | lcQuarantine (id : Nat) (e : FwEnv)
  /-- LC_ZEROIZE (R621). Records the transition and enters Zeroize with cause 0x0206, writing no receipt. -/
  | lcZeroize (id : Nat) (e : FwEnv)
  /-- LC_RETIRE (R621). Blows fuse R and enters Zeroize with cause 0x0206. -/
  | lcRetire (id : Nat) (e : FwEnv)
  /-- LC_RECOMMISSION (R622). Returns a Zeroized part to Commissioned with a new Seal seed and Device Root. -/
  | lcRecommission (id : Nat) (e : FwEnv)
  /-- RECORD_ADOPT (R623). Loads an Owner record from its clear body checked against the record anchor. -/
  | recordAdopt (id : Nat) (e : FwEnv)
  /-- FW_WRITE (R608). Writes image bytes to the flash bank that does not run. -/
  | fwWrite (id : Nat) (e : FwEnv)
  /-- FW_ACTIVATE (R608). Verifies a bank's image and writes the boot record to prefer it at the next start. -/
  | fwActivate (id : Nat) (e : FwEnv)
  /-- FW_FLOOR (R608). Raises Tally 5 to the svn of the running image. -/
  | fwFloor (id : Nat) (e : FwEnv)
  /-- DEBUG_UNLOCK (R660). Stages a debug unlock level for the next cold start under Owner 0's quorum. -/
  | debugUnlock (id : Nat) (e : FwEnv)
  /-- DOORBELL_WRITE (R81). Accepts or ignores a new producer count for a ring, or stops the ring on overrun. -/
  | doorbellWrite (stall ring : Nat) (v : BitVec 32) (gen : BitVec 16) (width : Nat) (tbit : Bool)
  /-- DOORBELL_CAS (R630). A 64-bit AtomicOp CAS to a doorbell applies the swap as a doorbell write when the compare matches. -/
  | doorbellCas (stall ring : Nat) (cmp swap : BitVec 64) (tbit : Bool)
  /-- COUNTER_WINDOW_WRITE (R83). A TLP writes bytes of a Counter-window order, which commits once its slots are present and its CRC checks. -/
  | counterWindowWrite (stall off : Nat) (bytes : List (Option Byte)) (tbit : Bool) (t : Nat)
  /-- SLOT_READ_COMPLETION (R82). Fetched order slots arrive in the ring's packet queue and are assembled into orders. -/
  | slotReadCompletion (stall ring : Nat) (count : BitVec 32) (r : ReadRes) (t : Nat)
  /-- DISPATCH (R150). The scheduler dispatches a dispatchable head order by weighted deficit round robin once quota and receipt room allow. -/
  | dispatch (kind : Option EngKind) (t : Nat)
  /-- KEY_CACHE_FILL_DONE (R387). A Muniment cache miss completes its fill from the Stacks record. -/
  | keyCacheFillDone (id : Nat) (copiesAgree integrityOk : Bool) (t : Nat)
  /-- INPUT_READ_COMPLETION (R112). Input or auxiliary input data, or a completion error, arrives for a dispatched order. -/
  | inputReadCompletion (id : Nat) (part : InPart) (r : ReadRes) (t : Nat)
  /-- ATS_TRANSLATION_COMPLETION (R680). An ATS translation for an order's range returns, allowing or faulting its reads and writes. -/
  | atsTranslationCompletion (stall : Nat) (page : Nat) (read write : Bool) (t : Nat)
  /-- LOOM_RESEED_ARRIVAL (R244). A Loom lane's reseed from the Mill arrives and the waiting order continues. -/
  | loomReseedArrival (loom : Nat)
  /-- COMPARE_AND_RELEASE (R51). The two copies of a finished engine operation are compared word by word and released or withheld. -/
  | compareAndRelease (id : Nat) (d : Diff) (t : Nat)
  /-- EGRESS_CHECK (R46). The egress checker recomputes the release CRC of a TLP and passes it or discards it and raises Hold. -/
  | egressCheck (x : TlpFault) (t : Nat)
  /-- RECEIPT_RELEASE (R50). Once output, commits and any twin acknowledgement are done, the receipt is built and written. -/
  | receiptRelease (id : Nat) (t : Nat)
  /-- COMMIT_WRITE_DONE (R431). The commit port signals completion of a stateful order's commit-point write to the receipt writer. -/
  | commitWriteDone (id : Nat) (ok : Bool) (t : Nat)
  /-- COAL_TIME_EXPIRY (R119). COAL_TIME elapses after the first unnoticed receipt and a completion notice is sent. -/
  | coalTimeExpiry (stall ring : Nat) (t : Nat)
  /-- VECTOR_UNMASK (R120). Unmasking an MSI-X vector sends a notice held pending in the PBA. -/
  | vectorUnmask (vector : Nat)
  /-- RING_ENABLE (R61). Setting ENABLE brings a ring into service with zeroed counts, or sets CFG_ERR. -/
  | ringEnable (stall ring : Nat) (twin : Option (BitVec 32)) (w : PageWrite)
  /-- RING_DISABLE (R63). Clearing ENABLE stops intake and completes undispatched committed orders with 0x0310. -/
  | ringDisable (stall ring : Nat) (w : PageWrite)
  /-- CW_ENABLE (R64). Setting CW_EN takes a Counter-window buffer from the pool or sets CFG_ERR. -/
  | cwEnable (stall ring : Nat) (w : PageWrite)
  /-- CW_DISABLE (R64). Clearing CW_EN returns the buffer and discards any partial order. -/
  | cwDisable (stall ring : Nat) (w : PageWrite)
  /-- RING_FLUSH (R93). FLUSH discards partial orders, completes undispatched orders with 0x0310 and sets H to P. -/
  | ringFlush (stall ring : Nat) (w : PageWrite)
  /-- RING_RESUME (R91). RESUME clears STOPPED and STOP_CODE and reads again from count H. -/
  | ringResume (stall ring : Nat) (w : PageWrite)
  /-- RCP_HEAD_WRITE (R68). A write of the consumer count is accepted within range or sets CFG_ERR. -/
  | rcpHeadWrite (stall ring : Nat) (c : BitVec 32) (w : PageWrite)
  /-- REGISTER_WRITE (R21). A write to a register field with no row of its own acts by its access code, including refused sizes and locks. -/
  | registerWrite (space : RegSpace) (off : Nat) (size : Nat) (v : BitVec 64) (tbit : Bool) (t : Nat)
  /-- STALL_SELF_RESET (R156). RESET in the Stall page starts a self reset and advances the generation. -/
  | stallSelfReset (stall : Nat) (w : PageWrite)
  /-- STALLCFG_HARD_RESET (R140). HARD_RESET in STALLCFG starts a hard reset of a Bound Stall other than Stall 0. -/
  | stallcfgHardReset (stall : Nat) (t : Nat)
  /-- STALLCFG_QUOTA_WRITE (R139). A write to WEIGHT, MAX_INFLIGHT, MAX_PK or MAX_CACHE is applied or refused with CFG_ERR. -/
  | stallcfgQuotaWrite (stall : Nat) (f : QuotaField) (v : Nat)
  /-- STALL_RESET_COMPLETE (R162). When no old-generation request can be issued, the reset completes and its state fields are set. -/
  | stallResetComplete (stall : Nat) (twinDone : Bool) (t : Nat)
  /-- FUNCTION_RESET (R597). A hot reset, link disable, link down, FLR or D3hot exit disables every ring and frees every Stall but Stall 0. -/
  | functionReset (cause : FnReset) (t : Nat)
  /-- CONFIG_WRITE (R129). A configuration write captures the Requester ID, which every Bound Stall then takes. -/
  | configWrite (rid : Nat) (reg : CfgReg) (t : Nat)
  /-- ATS_INVALIDATION (R131). An ATS invalidation request removes translations of the Stall it names and completes when none can be used. -/
  | atsInvalidation (pasid : Option Nat) (page count : Nat)
  /-- TDISP_GET_VERSION (R143). Returns the supported TDISP version. -/
  | tdispGetVersion (q : TdispReq)
  /-- TDISP_GET_CAPABILITIES (R143). Returns the TDISP capabilities. -/
  | tdispGetCapabilities (q : TdispReq)
  /-- LOCK_INTERFACE_REQUEST (R145). Moves a TDI to CONFIG_LOCKED if a selective IDE stream is bound, hard-resetting the Stall. -/
  | lockInterfaceRequest (q : TdispReq) (t : Nat)
  /-- GET_DEVICE_INTERFACE_REPORT (R144). Returns the TDI report listing the Stall page as its only TEE MMIO range. -/
  | getDeviceInterfaceReport (q : TdispReq)
  /-- GET_DEVICE_INTERFACE_STATE (R145). Returns the TDI state of a Stall. -/
  | getDeviceInterfaceState (q : TdispReq)
  /-- START_INTERFACE_REQUEST (R145). Moves a TDI to RUN. -/
  | startInterfaceRequest (q : TdispReq) (t : Nat)
  /-- STOP_INTERFACE_REQUEST (R146). Returns a TDI to CONFIG_UNLOCKED. -/
  | stopInterfaceRequest (q : TdispReq) (t : Nat)
  /-- IDE_STREAM_FAILURE (R145). A bound IDE stream leaves its secure state or fails integrity and the TDI enters ERROR. -/
  | ideStreamFailure (stream : Nat) (integrity : Bool) (t : Nat)
  /-- IDE_KM_MESSAGE (R631). An IDE_KM message is accepted inside a secured SPDM session or refused with SessionRequired. -/
  | ideKmMessage (session : Option Nat) (m : IdeKm)
  /-- SPDM_GET_VERSION (R590). Answers the SPDM GET_VERSION request. -/
  | spdmGetVersion
  /-- SPDM_GET_CAPABILITIES (R590). Answers the SPDM GET_CAPABILITIES request. -/
  | spdmGetCapabilities (q : SpdmReq)
  /-- NEGOTIATE_ALGORITHMS (R591). Negotiates the fixed SPDM algorithms. -/
  | negotiateAlgorithms (q : SpdmReq)
  /-- GET_DIGESTS (R590). Returns certificate chain digests. -/
  | getDigests (q : SpdmReq)
  /-- GET_CERTIFICATE (R591). Returns the certificate chain of slot 0. -/
  | getCertificate (q : SpdmReq)
  /-- CHALLENGE (R590). Answers an SPDM challenge signed with the classical identity key. -/
  | challenge (q : SpdmReq)
  /-- GET_MEASUREMENTS (R592). Reports the current Boot Roll entry in DMTF measurement form. -/
  | getMeasurements (q : SpdmReq)
  /-- KEY_EXCHANGE (R590). Starts an SPDM secure session. -/
  | keyExchange (q : SpdmReq)
  /-- FINISH (R590). Completes the SPDM session handshake. -/
  | finish (q : SpdmReq)
  /-- END_SESSION (R590). Ends an SPDM session. -/
  | endSession (q : SpdmReq)
  /-- KEY_UPDATE (R590). Updates the keys of an SPDM session. -/
  | keyUpdate (q : SpdmReq)
  /-- SPDM_HEARTBEAT (R590). Answers an SPDM session heartbeat. -/
  | spdmHeartbeat (q : SpdmReq)
  /-- VENDOR_DEFINED_REQUEST (R590). Carries TDISP messages within SPDM. -/
  | vendorDefinedRequest (q : SpdmReq)
  /-- WORKING_KEY_IDLE_EXPIRY (R192). After 1 µs of engine idle time the working-key register is cleared. -/
  | workingKeyIdleExpiry (kind : EngKind) (idx : Nat)
  /-- CARD_RESPONSE (R652). A custodian card answers a command of the custodian applet. -/
  | cardResponse (port : Nat) (r : CardAns) (t : Nat)
  /-- CARD_TIMEOUT (R212). A card that does not answer within 10 s ends the waiting order with 0x0709. -/
  | cardTimeout (port : Nat) (t : Nat)
  /-- CARD_PRESENCE_CHANGE (R651). A change of CPRES, such as card removal, ends any session and raises its event. -/
  | cardPresenceChange (port : Nat) (present : Bool) (t : Nat)
  /-- CEREMONY_TIMEOUT (R214). A backup ceremony not committed within 600 s is abandoned and its shares cleared. -/
  | ceremonyTimeout (t : Nat)
  /-- RESTORE_SHARES_EXPIRY (R216). Restore shares held 600 s since the first are cleared. -/
  | restoreSharesExpiry (t : Nat)
  /-- HEARTBEAT_SEND (R449). Every 10 µs the part sends a HEARTBEAT frame to its twin. -/
  | heartbeatSend (t : Nat)
  /-- HEARTBEAT (R449). A HEARTBEAT frame from the twin is received and checked. -/
  | heartbeat (f : Frame) (t : Nat)
  /-- HEARTBEAT_MISS (R450). 11 µs pass without a valid heartbeat, entering pair-quiet Hold and declaring failure at the third miss. -/
  | heartbeatMiss (t : Nat)
  /-- CLAIM (R458). A CLAIM frame carries commit, receipt and ring records, checked for divergence. -/
  | claim (f : Frame) (t : Nat)
  /-- DELTA_PREPARE (R468). The Follow checks a PREPARE, stages its items and votes, or applies it directly when APPLY is set. -/
  | deltaPrepare (f : Frame) (t : Nat)
  /-- DELTA_VOTE_YES (R467). The Lead makes its commit-point write and sends COMMIT. -/
  | deltaVoteYes (f : Frame) (t : Nat)
  /-- DELTA_VOTE_NO (R467). The Lead discards its change, sends ABORT and completes the order with 0x0541. -/
  | deltaVoteNo (f : Frame) (t : Nat)
  /-- DELTA_COMMIT (R467). The Follow makes its commit-point writes and replies COMMITTED. -/
  | deltaCommit (f : Frame) (t : Nat)
  /-- DELTA_COMMITTED (R467). The Lead releases the stateful order's receipt. -/
  | deltaCommitted (f : Frame) (t : Nat)
  /-- DELTA_ABORT (R467). The Follow discards its staged items. -/
  | deltaAbort (f : Frame) (t : Nat)
  /-- RESERVE_REQUEST (R471). The Lead increments the ledger Tally and replies GRANT, or REFUSE at the limit. -/
  | reserveRequest (f : Frame) (t : Nat)
  /-- RESERVE_GRANT (R471). The Follow writes the granted Tally value and uses the reservation. -/
  | reserveGrant (f : Frame) (t : Nat)
  /-- RESERVE_NOTE (R471). The Follow records the Lead's increment and replies NOTED. -/
  | reserveNote (f : Frame) (t : Nat)
  /-- RESERVE_NOTED (R471). The Lead uses the reservation it noted. -/
  | reserveNoted (f : Frame) (t : Nat)
  /-- RESERVE_REFUSE (R471). The Follow marks the key Spent. -/
  | reserveRefuse (f : Frame) (t : Nat)
  /-- EVIDENCE (R474). An evidence item from the twin is recorded in the Daybook. -/
  | evidence (f : Frame) (t : Nat)
  /-- SILENCE_FRAME (R451). A SILENCE frame makes the receiver declare its twin failed and become Sole without arbitration. -/
  | silenceFrame (f : Frame) (t : Nat)
  /-- ACK (R446). An acknowledgement or NAK frees or resends frames in the replay buffer. -/
  | ack (f : Frame) (t : Nat)
  /-- RESYNC (R482). A RESYNC frame carries state items that the joining part applies. -/
  | resync (f : Frame) (t : Nat)
  /-- HELLO (R440). A HELLO handshake frame starts binding or a session. -/
  | hello (f : Frame) (t : Nat)
  /-- KEX (R440). Side 0's key exchange frame of the handshake. -/
  | kex (f : Frame) (t : Nat)
  /-- KEX_REPLY (R440). Side 1's key exchange reply of the handshake. -/
  | kexReply (f : Frame) (t : Nat)
  /-- CONFIRM (R440). The confirmation frame that ends the handshake. -/
  | confirm (f : Frame) (t : Nat)
  /-- FRAME_ERROR (R446). A frame with a gap, CRC, FEC or tag failure is discarded with later frames and a NAK is sent. -/
  | frameError (ch : Nat) (k : FrameErr) (t : Nat)
  /-- COURIER_LANE_FAIL (R443). A Courier lane fails and traffic re-stripes, or the link goes down below 4 lanes. -/
  | courierLaneFail (lane : Nat) (t : Nat)
  /-- ARBITER_CAS_COMPLETION (R477). The Arbiter compare-and-swap returns and the part becomes Sole, retries or enters Silence. -/
  | arbiterCasCompletion (r : CasRes) (t : Nat)
  /-- ARBITER_CAS_TIMEOUT (R477). No completion within 50 µs of the first Arbiter request sends the part to Silence. -/
  | arbiterCasTimeout (t : Nat)
  /-- SETTLE_EXPIRY (R480). The fabric settle time elapses and the Sole part takes over the twin's work. -/
  | settleExpiry (t : Nat)
  /-- TAKEOVER_SCAN_COMPLETION (R480). Reads of the twin's receipt rings return and unreceipted orders are entered for dispatch. -/
  | takeoverScanCompletion (stall ring : Nat) (slots : List Bytes) (t : Nat)
  /-- SESSION_FORM_TIMEOUT (R478). No session forms within 100 ms of start and the part arbitrates for the Arbiter word. -/
  | sessionFormTimeout (t : Nat)
  /-- PAIR_BIND_TIMEOUT (R439). The twin fails to complete binding within 60 s and PAIR_BIND ends with 0x0331. -/
  | pairBindTimeout (t : Nat)
  /-- SPARE_PROMOTION (R35). A spare completes its self-test and enters the active set. -/
  | sparePromotion (kind : EngKind) (idx : Nat) (ok : Bool) (t : Nat)
  /-- SUSPECT_SELFTEST_DONE (R502). An instance with a strike finishes its suspect self-test and returns or is retired. -/
  | suspectSelftestDone (kind : EngKind) (idx : Nat) (ok : Bool) (t : Nat)
  /-- PERIODIC_KAT (R502). An instance runs its 1 s periodic known-answer test and is retired on failure. -/
  | periodicKat (kind : EngKind) (idx : Nat) (ok : Bool) (t : Nat)
  /-- PROGRESS_WATCHDOG_EXPIRY (R499). An engine sequencer makes no progress for 100 µs and the instance is retired. -/
  | progressWatchdogExpiry (kind : EngKind) (idx : Nat) (t : Nat)
  /-- HOLD_END (R491). The last Hold cause clears and withheld work is released or re-executed by taint. -/
  | holdEnd (t : Nat)
  /-- HOLD_TIMEOUT (R490). A part Hold lasting 10 ms becomes Silence with cause 0x0001. -/
  | holdTimeout (t : Nat)
  /-- WARM_RESET (R510). 1 ms after Silence a warm reset restarts the part unless the Silence is latched. -/
  | warmReset (e : StartEnv)
  /-- QUEUE_POINTER_MISMATCH (R41). A dual-clock queue's pointer copies differ or a word is uncorrectable, so the queue is reset and its contents handled. -/
  | queuePointerMismatch (q : QueueId) (t : Nat)
  /-- ACU_CHECKER_DISAGREEMENT (R499). An ACU's two checkers disagree, refusing the access and raising a part Hold. -/
  | acuCheckerDisagreement (q : AccReq) (t : Nat)
  /-- SUPPLY_WARNING (R506). A main rail falls below its warning level, raising a tainting Hold and a Daybook flush. -/
  | supplyWarning (rail : Nat) (mv : Nat) (t : Nat)
  /-- SUPPLY_RECOVERED (R507). Every rail stays above warning plus hysteresis for 10 µs and the brownout Hold ends. -/
  | supplyRecovered (t : Nat)
  /-- DIP_TIMEOUT (R509). A supply dip longer than 1 ms ends in Silence with cause 0x000E. -/
  | dipTimeout (t : Nat)
  /-- SUPPLY_BELOW_RESET (R525). A main rail falls below its reset level, clearing keys and bleeding the rails on hold-up energy. -/
  | supplyBelowReset (rail : Nat) (mv : Nat) (t : Nat)
  /-- SUPPLY_OVERVOLTAGE (R542). A rail above its upper edge causes Zeroize 0x0203. -/
  | supplyOvervoltage (rail : Nat) (mv : Nat) (t : Nat)
  /-- GLITCH_ALARM (R545). A glitch detector raises a tainting Hold, or Zeroize at the fourth within 1 s. -/
  | glitchAlarm (idx : Nat) (t : Nat)
  /-- GLITCH_HOLD_END (R499). The glitch Hold ends 10 µs after the alarm. -/
  | glitchHoldEnd (t : Nat)
  /-- LIGHT_ALARM (R545). A light sensor alarm causes Zeroize 0x0202. -/
  | lightAlarm (idx : Nat) (t : Nat)
  /-- TEMP_SAMPLE (R543). Junction sensors are sampled every 10 µs and the throttle, upper and lower limits judged. -/
  | tempSample (sensor : Nat) (v : Int) (t : Nat)
  /-- CLOCK_WINDOW (R544). Each 1 µs window measures a clock against the monitor reference and may raise Hold or Silence. -/
  | clockWindow (clk : Nat) (dev : Int) (t : Nat)
  /-- PLL_LOCK_LOSS (R496). A PLL out of lock for 10 µs causes Silence 0x000C. -/
  | pllLockLoss (pll : Nat) (t : Nat)
  /-- KEEPER_WATCHDOG_EXPIRY (R428). A Keeper gate call held 2 ms without progress triggers a Keeper restart. -/
  | keeperWatchdogExpiry (clerk : Nat) (t : Nat)
  /-- KEEPER_RESTART (R429). The Keeper world is halted, measured and restarted while the Shop world keeps rings in service. -/
  | keeperRestart (trigger : Nat) (imageOk : Bool) (t : Nat)
  /-- KEEPER_RESTART_TIMEOUT (R433). A Keeper restart that exceeds 10 ms ends in Silence. -/
  | keeperRestartTimeout (t : Nat)
  /-- PERF_HOLD_RELEASE (R427). 2 µs after the last Keeper-world Clerk leaves, held counters take their internal values. -/
  | perfHoldRelease (t : Nat)
  /-- WORLD_GATE_CALL (R400). A Shop-level Clerk enters the Keeper world at a fixed entry vector, or waits at the gate. -/
  | worldGateCall (clerk : Nat) (t : Nat)
  /-- WORLD_GATE_RETURN (R400). A Clerk returns to the Shop world with Keeper registers cleared and Shop registers restored. -/
  | worldGateReturn (clerk : Nat) (t : Nat)
  /-- ACCESS_CHECK (R416). An ACU checks every byte of an access and performs it or refuses it whole with a report. -/
  | accessCheck (q : AccReq) (deedErr : Nat) (t : Nat)
  /-- DEED_SET (R408). A Keeper-privileged Clerk changes a Deed entry, scrubbing the page through Free where needed. -/
  | deedSet (clerk space page : Nat) (entry : BitVec 32) (t : Nat)
  /-- DEED_SET_DONE (R408). Once prior accesses drain, the new Deed entry is written and caches invalidated. -/
  | deedSetDone (space page : Nat)
  /-- ACU_REGION_WRITE (R413). A write to the ACU region table is applied in all ACUs or refused with a Note. -/
  | acuRegionWrite (level : Nat) (idx : Nat) (f : RegionField) (v : Nat) (t : Nat)
  /-- PIN_WORLD_SET (R421). A pin's world changes, forcing it to input and clearing its state. -/
  | pinWorldSet (pin : PinId) (keeper : Bool) (t : Nat)
  /-- PIN_WORLD_TAKEOVER (R421). 10 µs after a world change the new world takes the pin over. -/
  | pinWorldTakeover (pin : PinId)
  /-- DMA_CHANNEL_BIND (R422). A DMA channel's world and Owner binding change while idle, or the request is refused. -/
  | dmaChannelBind (level ch : Nat) (keeper : Bool) (owner : Option Nat) (t : Nat)
  /-- CLAIM_SET (R425). The Keeper world claims a gateable block. -/
  | claimSet (block : Nat) (t : Nat)
  /-- CLAIM_RELEASE (R425). Releasing a claim applies the pending gating request within 100 ns. -/
  | claimRelease (block : Nat) (t : Nat)
  /-- GATING_REQUEST (R425). A Shop gating request is applied, or held pending while the block is claimed. -/
  | gatingRequest (block : Nat) (gate : Bool) (t : Nat)
  /-- BINDERY_READ (R382). A read request to Stacks is checked and its lines, tags and Catalogue nodes fetched. -/
  | binderyRead (q : BindReq) (t : Nat)
  /-- BINDERY_WRITE (R383). A write to a sector raises its version and writes encrypted lines and tags. -/
  | binderyWrite (q : BindReq) (data : Bytes) (t : Nat)
  /-- DRAM_READ_COMPLETION (R382). DRAM data returns and is corrected, verified against tags and nodes, and decrypted. -/
  | dramReadCompletion (id : Nat) (d : DramData) (t : Nat)
  /-- PATROL_READ (R389). The patrol reads a line and checks it by SECDED. -/
  | patrolRead (ch : Nat) (e : LineEcc) (written : Bool) (t : Nat)
  /-- REMAP_DONE (R390). The remap copy completes and waiting accesses resume at the spare block. -/
  | remapDone (ch : Nat) (bad : Option (Nat × Bool)) (t : Nat)
  /-- DRAM_TEMP_POLL (R687). Every 32 ms MR4 codes are read and the DRAM temperature Throttle or Silence is judged. -/
  | dramTempPoll (ch : Nat) (codes : List Nat) (t : Nat)
  /-- DRAM_CMD_ERROR (R391). A command/address parity or write CRC error retries the command, or ends in Silence at the third. -/
  | dramCmdError (ch id addr : Nat) (wcrc : Bool) (t : Nat)
  /-- DRAM_TIMEOUT (R391). A channel gives no data or completion within 10 µs, ending in Silence kind 11. -/
  | dramTimeout (ch : Nat) (t : Nat)
  /-- CAT_INIT_DONE (R378). Catalogue initialisation completes and CAT_READY is set. -/
  | catInitDone (t : Nat)
  /-- IF_ACK (R397). Writing IF_ACK clears the Stacks failure report. -/
  | ifAck
  /-- SCRUB_REGION (R325). The scrubber overwrites a freed operand memory region with DRBG-seeded output. -/
  | scrubRegion (kind : EngKind) (idx region : Nat)
  /-- DRBG_RESEED (R360). The DRBG reseeds after 2^20 requests or 1 ms. -/
  | drbgReseed (t : Nat)
  /-- DRBG_KAT (R362). The DRBG runs its 1 s known-answer test and Silence follows a failure. -/
  | drbgKat (ok : Bool) (t : Nat)
  /-- HEALTH_TEST_FAILURE (R362). A noise source fails a health test and is excluded, or Silence follows when fewer than two remain. -/
  | healthTestFailure (src : Nat) (t : Nat)
  /-- DRBG_MISMATCH (R362). The shadow core differs, the block is discarded, a clean Hold raised and the DRBG reinstantiated. -/
  | drbgMismatch (t : Nat)
  /-- RANDOM_WAIT_TIMEOUT (R362). A RANDOM order waiting 10 ms for the DRBG completes with 0x0530. -/
  | randomWaitTimeout (id : Nat) (t : Nat)
  /-- TAMPER_SAMPLE (R535). A tamper input is sampled and its filter count updated or reset. -/
  | tamperSample (input : Nat) (v : TamperSmp) (t : Nat)
  /-- MESH_EXCURSION_TIMEOUT (R523). A mesh drive excursion is ended by a timer, raising a mesh alarm and turning the driver off. -/
  | meshExcursionTimeout (mesh : Nat) (t : Nat)
  /-- VIGIL_SOURCE_CHANGE (R518). VDD_VIGIL falls below 1.62 V or a cell comparison changes the selected cell. -/
  | vigilSourceChange (vdd a b : Nat) (t : Nat)
  /-- VIGIL_SOURCE_RETURN (R518). VDD_VIGIL held above 1.68 V for 1 s and the Vigil returns to it. -/
  | vigilSourceReturn (vdd : Nat) (t : Nat)
  /-- CELL_MEASURE (R542). VDD_VIGIL and the cells are measured every 1 s and low or depleted flags set. -/
  | cellMeasure (vdd a b : Nat) (t : Nat)
  /-- VIGIL_POWER_ON (R519). The Vigil leaves Dead with an empty latch, invalid time and disarmed inputs. -/
  | vigilPowerOn (t : Nat)
  /-- OSC_STOP (R526). No Vigil oscillator edge for 4 ms marks the Vigil time not valid. -/
  | oscStop (t : Nat)
  /-- SEAL_WRITE (R529). A Keeper-privileged write of the Seal latch is accepted or refused with a Note. -/
  | sealWrite (level : Nat) (seed inv : BitVec 256) (t : Nat)
  /-- TAMPER_TRANSFER (R540). The Keeper world transfers new tamper-buffer entries to the Tamper Roll within 1 ms. -/
  | tamperTransfer (t : Nat)
  /-- DAYBOOK_FLUSH_TIMER (R556). 1 s after the previous flush a Daybook flush begins. -/
  | daybookFlushTimer (t : Nat)
  /-- DAYBOOK_FLUSH_DONE (R561). A flush completes its writes and read-backs to MRAM. -/
  | daybookFlushDone (ok : Bool) (t : Nat)
  /-- OPERATING_TIME_TICK (R582). Every 3.515625 s under main power Tally 2 advances. -/
  | operatingTimeTick (t : Nat)
  /-- BOOT_CLOSE_TIMER (R577). The close time passes and host intake closes with reason 2. -/
  | bootCloseTimer (t : Nat)
  /-- WIN_BASE_WRITE (R594). A WIN_BASE write starts a snapshot of 128 Daybook records, or is refused with WIN_ERR. -/
  | winBaseWrite (v : Nat)
  /-- WIN_SNAPSHOT_DONE (R594). The Daybook window snapshot completes and WIN_VALID is set. -/
  | winSnapshotDone
  /-- PERST_ASSERT (R598). PERST# asserted starts a cold start at any moment. -/
  | perstAssert (t : Nat)
  /-- COLD_START (R599). With rails up and PERST# deasserted the start-up sequence runs. -/
  | coldStart (e : StartEnv)
  /-- WATERMARK_RETRY (R167). After a failed Watermark check and a 10 ms power cycle the regeneration is repeated. -/
  | watermarkRetry (w : WmEnv) (t : Nat)
  /-- DRAM_TRAINING_DONE (R367). DRAM training ends, succeeding or ending start-up in Silence. -/
  | dramTrainingDone (ok : Bool) (t : Nat)
  /-- START_TIMEOUT (R601). Step 10 is not reached within 1 s and the start fails with code 0x09. -/
  | startTimeout (t : Nat)
  /-- PROVISIONING_EXCHANGE (R618). A Weleren-signed provisioning message writes OTP data and moves a Blank part to Provisioned. -/
  | provisioningExchange (m : ProvMsg) (t : Nat)
  /-- CAUSE_ACK (R636). Writing CAUSE_ACK clears the recorded Silence cause and start failure. -/
  | causeAck
  /-- FIRST_ACK (R424). Writing FIRST_ACK clears the ACU first-report latch. -/
  | firstAck
  /-- PERF_CLEAR (R641). Writing PERF_CLEAR sets every PERF counter to 0. -/
  | perfClear
  /-- EVENT_STATUS_CLEAR (R640). An RW1C write clears EVENT status bits, with a meeting occurrence keeping the bit and sending a message. -/
  | eventStatusClear (grp : Nat) (mask meet : BitVec 32)
  /-- EVENT_ENABLE_WRITE (R640). Setting an enable whose status is already 1 sends the event message then. -/
  | eventEnableWrite (grp : Nat) (bmc : Bool) (v : BitVec 32)
  /-- ENTDAA (R642). CCC assigning a dynamic address. -/
  | entdaa (addr : Nat)
  /-- SETDASA (R642). CCC setting the dynamic address from the static address. -/
  | setdasa (addr : Nat)
  /-- RSTDAA (R646). CCC resetting the dynamic address while the endpoint ID survives. -/
  | rstdaa
  /-- ENEC (R642). CCC enabling target events such as IBI. -/
  | enec (events : BitVec 8)
  /-- DISEC (R642). CCC disabling target events. -/
  | disec (events : BitVec 8)
  /-- GETPID (R642). CCC returning the provisional ID. -/
  | getpid
  /-- GETBCR (R642). CCC returning the bus characteristics register. -/
  | getbcr
  /-- GETDCR (R642). CCC returning the device characteristics register. -/
  | getdcr
  /-- GETSTATUS (R642). CCC returning the target status. -/
  | getstatus
  /-- GETMWL (R642). CCC returning the maximum write length. -/
  | getmwl
  /-- SETMWL (R642). CCC setting the maximum write length within 16 to 256. -/
  | setmwl (v : Nat)
  /-- GETMRL (R642). CCC returning the maximum read length. -/
  | getmrl
  /-- SETMRL (R642). CCC setting the maximum read length within 16 to 256. -/
  | setmrl (v : Nat)
  /-- I3C_PRIVATE_WRITE (R648). A private write is acknowledged when the Hopper has room and packed into tagged words. -/
  | i3cPrivateWrite (bytes : Bytes) (parityOk : Bool) (t : Nat)
  /-- SET_ENDPOINT_ID (R643). MCTP control message setting the endpoint ID. -/
  | setEndpointId (op eid : Nat)
  /-- GET_ENDPOINT_ID (R643). MCTP control message returning the endpoint ID. -/
  | getEndpointId (arg : Nat)
  /-- GET_MCTP_VERSION_SUPPORT (R643). MCTP control message returning version support. -/
  | getMctpVersionSupport (arg : Nat)
  /-- GET_MESSAGE_TYPE_SUPPORT (R643). MCTP control message returning supported message types. -/
  | getMessageTypeSupport (arg : Nat)
  /-- GET_VENDOR_DEFINED_MSG_SUPPORT (R643). MCTP control message returning vendor-defined message support. -/
  | getVendorDefinedMsgSupport (arg : Nat)
  /-- GET_STATUS (R645). Weleren message returning GCTL status and BMC_PENDING, answered even in Silence. -/
  | getStatus
  /-- MCTP_HOST_MEASURE (R644). Weleren message pushing a host measurement over the sideband. -/
  | mctpHostMeasure (params : Bytes) (t : Nat)
  /-- EVENT_READ (R644). Weleren message returning STATUS AND BMC_ENABLE of a group. -/
  | eventRead (grp : Nat)
  /-- EVENT_CLEAR (R644). Weleren message clearing EVENT status bits of a group. -/
  | eventClear (grp : Nat) (mask meet : BitVec 32)
  /-- GPIO_EDGE (R653). An enabled edge on a Shop-world GPIO pin raises its event source. -/
  | gpioEdge (pin : Nat) (level : Bool) (t : Nat)
  /-- EXTEST (R655). JTAG instruction selecting boundary scan external test. -/
  | extest (cells : Bytes)
  /-- SAMPLE_PRELOAD (R654). JTAG instruction selecting boundary scan sample and preload. -/
  | samplePreload (cells : Bytes)
  /-- IDCODE (R654). JTAG instruction returning the device identification code. -/
  | idcode
  /-- CLAMP (R654). JTAG instruction clamping outputs with bypass selected. -/
  | clamp (cells : Bytes)
  /-- HIGHZ (R654). JTAG instruction placing outputs in high impedance. -/
  | highz (cells : Bytes)
  /-- DBG_CHALLENGE (R659). Reading the challenge register draws a fresh nonce and returns a 64-byte challenge. -/
  | dbgChallenge (t : Nat)
  /-- DBG_TOKEN (R659). A written debug token is verified and a level staged or refused. -/
  | dbgToken (token : Bytes) (t : Nat)
  /-- DBG_ACCESS (R419). A debug command is checked in full by the ACU and performed entirely or not at all. -/
  | dbgAccess (q : DbgCmd) (t : Nat)
  /-- BYPASS (R654). JTAG bypass instruction selecting the one-bit register. -/
  | bypass
  /-- COURIER_LINK_UP (R442). The Courier Link comes up at its start or after a link failure, and side 0 begins forming a session. -/
  | courierLinkUp (t : Nat)
  /-- BLOCK_WAITING_TIME_EXPIRY (R651). A card stays silent beyond its T=1 block waiting time, ending the session and completing the waiting order with 0x0709. -/
  | blockWaitingTimeExpiry (port : Nat) (t : Nat)
  /-- TRANSMIT_BUFFER_SELFTEST_DONE (R499). The 2 µs transmit buffer self-test after a release CRC mismatch completes, clearing that Hold cause. -/
  | transmitBufferSelftestDone (ok : Bool) (t : Nat)
  /-- ACU_SELFTEST_DONE (R499). The 5 µs ACU self-test after a checker disagreement completes, clearing that Hold cause. -/
  | acuSelftestDone (ok : Bool) (t : Nat)
  /-- DEED_ENTRY_RESTORED (R499). A Deed entry with an uncorrectable error in one copy is restored from the other copy within 2 µs, clearing its Hold cause. -/
  | deedEntryRestored (space page : Nat) (t : Nat)
  /-- DRBG_REINSTANTIATED (R362). The DRBG, reinstantiated from fresh entropy after a mismatch, passes its known-answer test and its Hold ends. -/
  | drbgReinstantiated (ok : Bool) (t : Nat)
  /-- FIRMWARE_REQUEST_TIMEOUT (R41). A firmware request lost when a Clerk control queue was reset times out and is retried by the requesting world. -/
  | firmwareRequestTimeout (id : Nat) (t : Nat)
  /-- VIGIL_REACHES_DEAD (R517). With VDD_VIGIL absent and the selected cell below 2.2 V, the Vigil loses power and enters Dead, losing the Seal latch, time and arming. -/
  | vigilReachesDead (t : Nat)
deriving DecidableEq, Repr

end Sys2Proof
end

