-- ==== Sys2Proof/Decode.lean ====
section
/-!
DEFINITION. The command that a word of the opcode table spells. The table gives no row any bits, since the commands of
this part are transactions, messages and events and not words of a program, so no word spells a command.
-/
namespace Sys2Proof

/-- The command that `nbits` bits `w` spell: none, since no row of the table has bits. -/
def decodeTableWord (_nbits _w : Nat) : Option Instr := none

end Sys2Proof
end

