-- ==== Sys2Proof/Config.lean ====
section
/-!
DEFINITION. What one part fixes (one-time-programmable data) and what the manual leaves to standards outside it or
leaves open. Every constant here is opaque: no proof can see a value, so a statement holds whatever the value is.
A function that gives bytes gives them one at a time, so that every use states the length it takes.
-/
namespace Sys2Proof
namespace Config

-- One-time-programmable data and images of one part.
/-- The serial number, 16 bytes (IDENT, 15 R633). -/
opaque serialByte : Nat → Byte
/-- PCI-SIG vendor ID of Weleren (15 R633). -/
opaque vendorId : Nat
/-- JEP106 manufacturer code (15 R633). -/
opaque jep106 : Nat
/-- Silicon stepping (15 R633). -/
opaque stepping : Nat
/-- The OTP salt, 32 bytes (04 R165). -/
opaque otpSaltByte : Nat → Byte
/-- The Watermark key that the PUF gives, 32 bytes (04 R165). -/
opaque watermarkByte : Nat → Byte
/-- Random output: byte `n` of all that the DRBG ever gives (07 R360). A fresh draw is a fresh index. -/
opaque drbg : Nat → Byte
/-- The erased byte of the flash banks (14 R603 gives none; log entry 7). -/
opaque erasedByte : Byte

-- Values the manual leaves open.
/-- Free value `i` of all that the part takes where the manual leaves a value open; `State.free` counts them. -/
opaque freeValue (i : Nat) : Nat
/-- Byte `i` of masking value `n` of a local mask generator (04 R180, 05 R243: its output is random); `State.free` counts them. -/
opaque maskByte (n i : Nat) : Byte
/-- What ball cell `i` of the boundary-scan chain serves (15 R655 gives no order of the chain): 1 a Stacks ball, 2 CVCC_EN of a
card port, any other value a ball that the chain always covers. -/
opaque cellBall (i : Nat) : Nat
/-- The ack field of a Courier Link frame sent before any was received on its channel (10 R444 names no value). -/
opaque noAck : Nat
/-- Low byte of the Daybook event code of a Note for which 13 R563 lists none (log entry 44). -/
opaque noteLow (which : Nat) : Nat
/-- Parameter `i` of such a Note. -/
opaque noteParam (which i : Nat) : Nat
/-- Cost of a Forge or Kiln order for which the tables of 06 R329 and 07 R348, R350 give none, by opcode, curve or
parameter set, and size. -/
opaque workUnits (opcode code bits : Nat) : Nat
/-- What a control page is the port of (09 R407 names the ports and no page numbers): 0 a port of the Keeper world, locked;
1 one of the Shop world, locked; 2 + p card port p; 8 + i GPIO pin i; 32 + c DMA channel c; anything else no port. -/
opaque controlPage (page : Nat) : Nat
/-- Control page of the Deed unit (09 R407, R408). -/
opaque deedUnitPage : Nat
/-- The regions 0 to 7 that the start-up ROM programs (09 R413 gives no contents): first page, last page, rights by field of
R411, and space. -/
opaque romRegion (i field : Nat) : Nat
/-- Bus and device characteristics registers of the I3C target, the largest IBI payload of GETMRL (15 R642 gives none). -/
opaque i3cBcr : Byte
opaque i3cDcr : Byte
opaque i3cIbiMax : Byte
/-- Byte `i` of the version that MCTP Get Version Support returns for a message type, and of the version of the
vendor-defined message set (15 R643 gives none). -/
opaque mctpVersion (type i : Nat) : Byte
opaque mctpVendorVersion (i : Nat) : Byte
/-- What the SPDM responder states of itself and the manual gives no value for (13 R590): CTExponent, the sizes it takes, the
heartbeat period. -/
opaque spdmCt : Byte
opaque spdmTransferSize : Nat
opaque spdmMessageSize : Nat
opaque spdmHeartbeat : Byte
/-- Opaque data of a KEY_EXCHANGE response, which names the versions of secured messages. -/
opaque spdmKexOpaque : Bytes
/-- TDISP capabilities besides the requests supported (03 R143), and the MSI-X control word, LNR and TPH fields of a report. -/
opaque tdispCaps (i : Nat) : Byte
opaque tdispReport (i : Nat) : Byte
/-- IDE capability and control registers that IDE_KM QUERY returns (15 R631). -/
opaque ideQuery (port : Nat) : Bytes

/-- Next value of a mesh pattern LFSR (12 R534 gives no polynomial). -/
opaque meshLfsr (x : Nat) : Nat

-- Algorithms of standards the manual names and does not restate (log entry 6).
/-- Byte `i` of the digest of a message under a hash of R294 (codes 1 to 6), of an extendable output function of the
Mill (R354), or of a longer code the chapter names. -/
opaque hash (alg : Nat) (msg : Bytes) (i : Nat) : Byte
/-- Byte `i` of KMAC256 (SP 800-185) under a key, over a message, for an output of `n` bytes, with a customisation. -/
opaque kmac256 (key msg : Bytes) (n : Nat) (custom : Bytes) (i : Nat) : Byte
/-- Byte `i` of KMAC128. -/
opaque kmac128 (key msg : Bytes) (n : Nat) (custom : Bytes) (i : Nat) : Byte
/-- Byte `i` of an ECDSA P-384 signature r ‖ s by a private key over a digest. -/
opaque ecdsaP384Sign (key digest : Bytes) (i : Nat) : Byte
/-- Whether an ECDSA P-384 signature verifies under a public key of 97 bytes. -/
opaque ecdsaP384Verify (pk digest sig : Bytes) : Bool
/-- Byte `i` of an ML-DSA-65 signature from a seed over a message with a context. -/
opaque mldsa65Sign (seed msg ctx : Bytes) (i : Nat) : Byte
/-- Whether an ML-DSA-65 signature verifies under a public key of 1,952 bytes. -/
opaque mldsa65Verify (pk msg ctx sig : Bytes) : Bool

/-- Byte `i` of one AES encryption of a 16-byte block (FIPS 197); the key length fixes the variant. -/
opaque aesEnc (key block : Bytes) (i : Nat) : Byte
/-- Byte `i` of one AES decryption of a 16-byte block. -/
opaque aesDec (key block : Bytes) (i : Nat) : Byte
/-- Byte `i` of one TDEA encryption of an 8-byte block (SP 800-67); 16 or 24 key bytes. -/
opaque tdeaEnc (key block : Bytes) (i : Nat) : Byte
/-- Byte `i` of one TDEA decryption of an 8-byte block. -/
opaque tdeaDec (key block : Bytes) (i : Nat) : Byte
/-- Byte `i` of the ChaCha20 key stream of RFC 8439 from block counter 1. -/
opaque chachaByte (key nonce : Bytes) (i : Nat) : Byte
/-- Byte `i` of the Poly1305 tag of RFC 8439 over additional data and ciphertext. -/
opaque chachaTag (key nonce aad ct : Bytes) (i : Nat) : Byte
/-- Byte `i` of the check value of a chunk under a 16-byte key: a polynomial hash whose form 05 R264 does not give. -/
opaque polyHash (key chunk : Bytes) (i : Nat) : Byte
/-- Byte `i` of an HMAC under a hash of R294. -/
opaque hmac (alg : Nat) (key msg : Bytes) (i : Nat) : Byte
/-- Byte `i` of the encoded public key of a private key of a type of R182 (06 R315, 07 R345). -/
opaque publicKey (keyType : Nat) (priv : Bytes) (i : Nat) : Byte
/-- Byte `i` of the private key made of DRBG output from a first byte on, for a type and size (06 R312, R313; 07 R345). -/
opaque genKey (keyType keyBits draw : Nat) (i : Nat) : Byte

/-- Byte `i` of the MAC of an ASC X9.143 key block under a key-block protection key: over header and clear key field, with
an AES key (version D) or a TDEA key (version B). -/
opaque keyBlockMac (aes : Bool) (kbpk data : Bytes) (i : Nat) : Byte
/-- Byte `i` of the encrypted, and of the decrypted, key field of such a block under its MAC. -/
opaque keyBlockEnc (aes : Bool) (kbpk mac data : Bytes) (i : Nat) : Byte
opaque keyBlockDec (aes : Bool) (kbpk mac data : Bytes) (i : Nat) : Byte
/-- Field prime, coefficients, group order of the curve of a code of R294 (06 R292 to R294; Edwards order L for 7 and 8). -/
opaque curveP (curve : Nat) : Nat
opaque curveA (curve : Nat) : Nat
opaque curveB (curve : Nat) : Nat
opaque curveN (curve : Nat) : Nat
/-- Whether an Edwards encoding decodes to a point (RFC 8032), and whether its order divides the cofactor. -/
opaque edwardsOn (curve : Nat) (enc : Bytes) : Bool
opaque edwardsSmall (curve : Nat) (enc : Bytes) : Bool
/-- The two u-coordinates of points of order 8 of RFC 7748 section 7. -/
opaque order8 (i : Nat) : Nat
/-- Byte `i` of an ECDSA signature r ‖ s with the additional input of R300, and the verification. -/
opaque ecdsaSign (curve : Nat) (d digest extra : Bytes) (i : Nat) : Byte
opaque ecdsaVerify (curve : Nat) (pk digest sig : Bytes) : Bool
/-- Byte `i` of an EdDSA signature of a variant, and the verification (06 R302). -/
opaque eddsaSign (curve variant : Nat) (d msg ctx : Bytes) (i : Nat) : Byte
opaque eddsaVerify (curve variant : Nat) (pk msg ctx sig : Bytes) : Bool
/-- Byte `i` of the shared secret of a private key and a peer key (06 R309). -/
opaque ecdh (curve : Nat) (d peer : Bytes) (i : Nat) : Byte
/-- Byte `i` of the RSA signature encoding of a digest (EMSA-PSS for pad 1, EMSA-PKCS1-v1_5 for pad 2), `bits` the modulus
bits, and whether an encoding is one of the digest with that salt length (06 R303, R304). -/
opaque rsaEncode (pad hash bits : Nat) (digest salt : Bytes) (i : Nat) : Byte
opaque rsaEncodingOk (pad hash bits saltLen : Nat) (digest em : Bytes) : Bool
/-- Byte `i` of the OAEP encoding of a message for a `k`-byte modulus, and the decoding (06 R307, R308). -/
opaque oaepEncode (hash k : Nat) (label msg seed : Bytes) (i : Nat) : Byte
opaque oaepOk (hash k : Nat) (label em : Bytes) : Bool
opaque oaepLen (hash k : Nat) (label em : Bytes) : Nat
opaque oaepByte (hash k : Nat) (label em : Bytes) (i : Nat) : Byte
/-- Byte `i` of an ML-KEM ciphertext and shared key from the message m, and of the shared key of a ciphertext (07 R342). -/
opaque kemCipher (pset : Nat) (ek m : Bytes) (i : Nat) : Byte
opaque kemShared (pset : Nat) (ek m : Bytes) (i : Nat) : Byte
opaque kemDecaps (pset : Nat) (dz ct : Bytes) (i : Nat) : Byte
/-- Byte `i` of an ML-DSA signature, whether signing reaches 1,000 iterations, and the verification (07 R343). -/
opaque mldsaSign (pset variant hash : Nat) (seed msg ctx rnd : Bytes) (i : Nat) : Byte
opaque mldsaStuck (pset variant hash : Nat) (seed msg ctx rnd : Bytes) : Bool
opaque mldsaVerify (pset variant hash : Nat) (pk msg ctx sig : Bytes) : Bool
/-- Byte `i` of an SLH-DSA signature, the verification, and byte `i` of the root of a private key (07 R344, R345). -/
opaque slhSign (pset variant hash : Nat) (key msg ctx rnd : Bytes) (i : Nat) : Byte
opaque slhVerify (pset variant hash : Nat) (pk msg ctx sig : Bytes) : Bool
opaque slhRoot (pset : Nat) (key : Bytes) (i : Nat) : Byte
/-- Whether an LMS or HSS signature verifies (07 R357). -/
opaque lmsVerify (hss : Bool) (pk msg sig : Bytes) : Bool
/-- Byte `i` of one of the two Weleren HSS public keys of the start-up ROM (14 R604, R605). -/
opaque romHssByte (keyId : Nat) (i : Nat) : Byte
/-- Length of each of them. -/
opaque romHssLen (keyId : Nat) : Nat
/-- Byte `i` of the hash of Weleren's provisioning key that the ROM holds (14 R618, 15 R659). -/
opaque provHashByte (i : Nat) : Byte
/-- Byte `i` of the context of provisioning signatures, of Weleren's ML-KEM-1024 provisioning key, and of the recognition secret
as that key's shared secret encrypts it (14 R618 gives no form). -/
opaque provContext (i : Nat) : Byte
opaque provKemByte (i : Nat) : Byte
opaque provWrap (shared secret : Bytes) (i : Nat) : Byte
/-- Byte `i` of the digest of the start-up ROM (13 R572). -/
opaque romDigestByte (i : Nat) : Byte
/-- Whether an ML-DSA-87 signature verifies under a key, over a message with a context (15 R659). -/
opaque mldsa87Verify (pk msg ctx sig : Bytes) : Bool

end Config
end Sys2Proof
end

