-- ==== Sys2Proof/Machine/Bytes.lean ====
section
/-!
DEFINITION. Byte strings, bit fields, byte order, sparse tables and the two CRCs of the manual.
-/
namespace Sys2Proof
namespace Machine

/-- Bits [lo + w - 1 : lo] of a number (Conventions, 00 R20). -/
def bits (n lo w : Nat) : Nat := n / 2 ^ lo % 2 ^ w

/-- One bit of a number. -/
def bitOf (n i : Nat) : Bool := n / 2 ^ i % 2 == 1

/-- `n` zero bytes. -/
def zeros (n : Nat) : Bytes := List.replicate n 0

/-- The `k` little-endian bytes of a number (00 R19). -/
def leBytes : Nat → Nat → Bytes
  | 0, _ => []
  | k + 1, n => BitVec.ofNat 8 n :: leBytes k (n / 256)

/-- The `k` big-endian bytes of a number. -/
def beBytes (k n : Nat) : Bytes := (leBytes k n).reverse

/-- The number a little-endian byte string holds (00 R19). -/
def ofLe : Bytes → Nat
  | [] => 0
  | b :: bs => b.toNat + 256 * ofLe bs

/-- The number a big-endian byte string holds. -/
def ofBe (b : Bytes) : Nat := ofLe b.reverse

/-- The string cut or extended with zero bytes to `n` bytes. -/
def fit (n : Nat) (b : Bytes) : Bytes := (b ++ zeros n).take n

/-- `n` bytes at an offset, bytes past the end reading 0. -/
def slice (b : Bytes) (off n : Nat) : Bytes := fit n (b.drop off)

/-- The little-endian field of `n` bytes at an offset. -/
def field (b : Bytes) (off n : Nat) : Nat := ofLe (slice b off n)

/-- Bytewise exclusive or; the shorter string is extended with zeros. -/
def xorBytes : Bytes → Bytes → Bytes
  | [], b => b
  | a, [] => a
  | x :: a, y :: b => (x ^^^ y) :: xorBytes a b

/-- Whether every byte is zero (Res0 fields, 00 R24). -/
def allZero (b : Bytes) : Bool := b.all (· == 0)

/-- The ASCII bytes of a string of the manual. -/
def ascii (s : String) : Bytes := s.toList.map (fun c => BitVec.ofNat 8 c.toNat)

/-- `n` bytes of a function that gives one byte at a time. -/
def take (n : Nat) (f : Nat → Byte) : Bytes := (List.range n).map f

/-- The number rounded up to a multiple of `m`. -/
def roundUp (n m : Nat) : Nat := (n + m - 1) / m * m

/-- The string cut into pieces of `n` bytes, the last one possibly shorter; `fuel` bounds the pieces. -/
def chunksAux (n : Nat) : Nat → Bytes → List Bytes
  | 0, _ => []
  | fuel + 1, b => if b.isEmpty then [] else b.take n :: chunksAux n fuel (b.drop n)

/-- The string cut into pieces of `n` bytes. -/
def chunks (n : Nat) (b : Bytes) : List Bytes := chunksAux n b.length b

/-- A count that saturates at the largest value of `w` bits. -/
def satAdd (w n k : Nat) : Nat := min (2 ^ w - 1) (n + k)

/-- One step of a reflected CRC of 32 bits with the reflected polynomial `poly`. -/
def crcBit (poly c : BitVec 32) : BitVec 32 := if c.getLsbD 0 then (c >>> 1) ^^^ poly else c >>> 1

/-- One byte of a reflected CRC. -/
def crcByte (poly c : BitVec 32) (b : Byte) : BitVec 32 :=
  let c := c ^^^ b.zeroExtend 32
  let c := crcBit poly (crcBit poly (crcBit poly (crcBit poly c)))
  crcBit poly (crcBit poly (crcBit poly (crcBit poly c)))

/-- A reflected CRC of 32 bits with initial value and final XOR 0xFFFF_FFFF. -/
def crcOf (poly : BitVec 32) (b : Bytes) : BitVec 32 := (b.foldl (crcByte poly) 0xFFFFFFFF#32) ^^^ 0xFFFFFFFF#32

/-- CRC-32C of orders, receipts and release words (02 R73); the polynomial 0x1EDC_6F41 reflected is 0x82F6_3B78. -/
def crc32c (b : Bytes) : BitVec 32 := crcOf 0x82F63B78#32 b

/-- CRC-32/ISO-HDLC of Daybook records and tamper-buffer entries (13 R551); 0x04C1_1DB7 reflected is 0xEDB8_8320. -/
def crc32 (b : Bytes) : BitVec 32 := crcOf 0xEDB88320#32 b

/-- What a sparse table holds at a key. -/
def Tbl.find? {α : Type} : Tbl α → Nat → Option α
  | [], _ => none
  | (k, v) :: r, i => if i = k then some v else Tbl.find? r i

/-- What a sparse table holds at a key, an unlisted key holding `d`. -/
def Tbl.getD {α : Type} (t : Tbl α) (i : Nat) (d : α) : α := (Tbl.find? t i).getD d

/-- The table without a key. -/
def Tbl.del {α : Type} (t : Tbl α) (i : Nat) : Tbl α := t.filter (fun p => p.1 != i)

/-- The table with a value at a key; keys stay strictly rising. -/
def Tbl.ins {α : Type} : Tbl α → Nat → α → Tbl α
  | [], i, v => [(i, v)]
  | (k, w) :: r, i, v =>
    if i = k then (i, v) :: r else if i < k then (i, v) :: (k, w) :: r else (k, w) :: Tbl.ins r i v

/-- The table with a value at a key where unlisted keys hold `d`: a value equal to `d` is not listed. -/
def Tbl.put {α : Type} [DecidableEq α] (d : α) (t : Tbl α) (i : Nat) (v : α) : Tbl α :=
  if v = d then Tbl.del t i else Tbl.ins t i v

/-- Whether every key of the table lies above `lo`, they rise strictly, and no listed value is the default. -/
def Tbl.wfFrom {α : Type} [DecidableEq α] (d : α) : Option Nat → Tbl α → Bool
  | _, [] => true
  | lo, (k, v) :: r =>
    (match lo with | none => true | some l => decide (l < k)) && decide (v ≠ d) && Tbl.wfFrom d (some k) r

/-- The canonical form of a table: keys strictly rising, no value that an unlisted key reads as. -/
def Tbl.wf {α : Type} [DecidableEq α] (d : α) (t : Tbl α) : Bool := Tbl.wfFrom d none t

/-- The bytes a byte table holds from an address on. -/
def memRead (d : Byte) (m : Tbl Byte) (a n : Nat) : Bytes := (List.range n).map (fun i => Tbl.getD m (a + i) d)

/-- The byte table after bytes are written from an address on. -/
def memWrite (d : Byte) : Tbl Byte → Nat → Bytes → Tbl Byte
  | m, _, [] => m
  | m, a, b :: bs => memWrite d (Tbl.put d m a b) (a + 1) bs

/-- The list with element `i` replaced by what `f` makes of it. -/
def modAt {α : Type} (f : α → α) : List α → Nat → List α
  | [], _ => []
  | a :: r, 0 => f a :: r
  | a :: r, i + 1 => a :: modAt f r i

/-- The list with the first element that `p` accepts replaced by what `f` makes of it. -/
def modFirst {α : Type} (p : α → Bool) (f : α → α) : List α → List α
  | [] => []
  | a :: r => if p a then f a :: r else a :: modFirst p f r

/-- The times of a list that lie within `w` ns before `t`, with `t` added. -/
def within (w : Nat) (ts : List Nat) (t : Nat) : List Nat := ts.filter (fun x => decide (t < x + w)) ++ [t]

end Machine
end Sys2Proof
end

