-- ==== Sys2Proof/Machine/State.lean ====
section
/-!
DEFINITION. The state of the part: every register, ring, queue, store, mode and pin the manual gives it, as plain
data. Each field's docstring names the chapter and rule of the spec and the width. `pending`, `clock`, `free`,
`nextId` and `out` of `State` are the model's own fields (log entries 1 to 5).
-/
namespace Sys2Proof

/-- A translation the part holds or has been refused (02 R112, R680). -/
structure Trans where
  /-- Stall whose PASID it belongs to. -/
  stall : Nat
  /-- Number of the 4 KiB page. -/
  page : Nat
  /-- The page has a translation. -/
  valid : Bool
  /-- Reads are allowed. -/
  rd : Bool
  /-- Writes are allowed. -/
  wr : Bool
deriving DecidableEq, Repr

/-- One ring position of a Stall: order ring and receipt ring (R58, R60). -/
structure Ring where
  /-- ORD_BASE (02 R60; 52 bits [63:12]). -/
  ordBase : BitVec 64
  /-- RCP_BASE (02 R60; 52 bits [63:12]). -/
  rcpBase : BitVec 64
  /-- ORD_LOG2 (02 R60; 5 bits). -/
  ordLog2 : Nat
  /-- RCP_LOG2 (02 R60; 5 bits). -/
  rcpLog2 : Nat
  /-- ENABLE and ENABLED (02 R60; 1 bit). -/
  enabled : Bool
  /-- CW_EN and CW_READY: a buffer of the pool is held (02 R60; 1 bit). -/
  cwEn : Bool
  /-- VEC_EN (02 R60; 1 bit). -/
  vecEn : Bool
  /-- OUT_RLX (02 R60; 1 bit). -/
  outRlx : Bool
  /-- STOPPED (02 R60; 1 bit). -/
  stopped : Bool
  /-- CFG_ERR (02 R60; 1 bit). -/
  cfgErr : Bool
  /-- OVERRUN (02 R60; 1 bit). -/
  overrun : Bool
  /-- RCP_WAIT (02 R60; 1 bit). -/
  rcpWait : Bool
  /-- STOP_CODE (02 R60; 16 bits). -/
  stopCode : Nat
  /-- Producer count P (ORD_TAIL) (02 R66; 32 bits). -/
  p : BitVec 32
  /-- Head count H (ORD_HEAD) (02 R66; 32 bits). -/
  h : BitVec 32
  /-- Receipt count W (RCP_TAIL) (02 R66; 32 bits). -/
  w : BitVec 32
  /-- Consumer count C (RCP_HEAD) (02 R66; 32 bits). -/
  c : BitVec 32
  /-- COAL_COUNT (02 R60; 16 bits). -/
  coalCount : Nat
  /-- COAL_TIME (02 R60; 16 bits). -/
  coalTime : Nat
  /-- VEC_OFF (02 R60; 12 bits). -/
  vecOff : Nat
  /-- INTAKE_ERRS (02 R60; 16 bits). -/
  intakeErrs : Nat
  /-- CW_DROPS (02 R60; 16 bits). -/
  cwDrops : Nat
  /-- STALE_DBS (02 R60; 16 bits). -/
  staleDbs : Nat
  /-- RCP_DROPS (02 R60; 16 bits). -/
  rcpDrops : Nat
  /-- Intake packet queue: count of the next header to assemble (01 R41; 32 bits). -/
  asm : BitVec 32
  /-- Intake packet queue: count of the next slot to request from host memory (02 R82; 32 bits). -/
  rd : BitVec 32
  /-- Intake packet queue: fetched slots not yet committed, by count (01 R41; 64 bytes a slot). -/
  fetched : List (Nat × Bytes)
  /-- Counter-window assembly buffer: bytes written since the last commit, discard or flush (02 R83; 512 bytes). -/
  cwBytes : Tbl Byte
  /-- Counter-window ranges between H and P (02 R85; 32-bit count and length). -/
  cwRanges : List (Nat × Nat)
  /-- Receipt slots reserved by dispatched orders (02 R98; 17 bits). -/
  reserved : Nat
  /-- Receipts since the last notice (02 R119; 16 bits). -/
  noticeCount : Nat
  /-- Time of the first receipt after the last notice (02 R119; ns). -/
  noticeAt : Nat
  /-- The time condition runs: a receipt is not yet covered by a notice (02 R119; 1 bit). -/
  noticeDue : Bool
  /-- Mirror mode: the ring is enabled on both parts (10 R455; 1 bit). -/
  shared : Bool
  /-- Mirror mode: twin's RCP_BASE of its ring record (10 R458; 64 bits). -/
  twinRcpBase : BitVec 64
  /-- Mirror mode: twin's RCP_LOG2 of its ring record (10 R458; 5 bits). -/
  twinRcpLog2 : Nat
  /-- Mirror mode: count after the twin's last receipt record (10 R480; 32 bits). -/
  twinW : BitVec 32
  /-- Mirror mode: header counts with a receipt of the twin (10 R457; 32-bit counts). -/
  twinDone : List Nat
  /-- Mirror mode: commit records of this part at or above H (10 R460; count, slots, CRC). -/
  commits : List (Nat × Nat × Nat)
  /-- Mirror mode: commit records of the twin at or above H (10 R460; count, slots, CRC). -/
  twinCommits : List (Nat × Nat × Nat)
  /-- Mirror mode: private copy of Counter-window slots by count (10 R457; 64 bytes a slot). -/
  privCopy : List (Nat × Bytes)
deriving DecidableEq, Repr

/-- Ring at reset. -/
def Ring.reset : Ring where
  ordBase := 0
  rcpBase := 0
  ordLog2 := 6
  rcpLog2 := 6
  enabled := false
  cwEn := false
  vecEn := false
  outRlx := false
  stopped := false
  cfgErr := false
  overrun := false
  rcpWait := false
  stopCode := 0
  p := 0
  h := 0
  w := 0
  c := 0
  coalCount := 0
  coalTime := 10
  vecOff := 0
  intakeErrs := 0
  cwDrops := 0
  staleDbs := 0
  rcpDrops := 0
  asm := 0
  rd := 0
  fetched := []
  cwBytes := []
  cwRanges := []
  reserved := 0
  noticeCount := 0
  noticeAt := 0
  noticeDue := false
  shared := false
  twinRcpBase := 0
  twinRcpLog2 := 6
  twinW := 0
  twinDone := []
  commits := []
  twinCommits := []
  privCopy := []

/-- One Stall: STALLCFG entry and Stall-page control area (R138, R141). -/
structure Stall where
  /-- Free, Bound or Resetting (03 R138; 2 bits). -/
  state : StallState
  /-- OWNER (03 R138; 10 bits). -/
  owner : Nat
  /-- GEN (03 R138; 16 bits). -/
  gen : BitVec 16
  /-- TDI_STATE (03 R138; 3 bits). -/
  tdi : Tdi
  /-- NO_PASID (03 R138; 1 bit). -/
  noPasid : Bool
  /-- ATS (03 R138; 1 bit). -/
  ats : Bool
  /-- RID (03 R138; 16 bits). -/
  rid : Nat
  /-- PASID (03 R138; 20 bits). -/
  pasid : Nat
  /-- VEC_BASE (03 R138; 12 bits). -/
  vecBase : Nat
  /-- VEC_COUNT (03 R138; 13 bits). -/
  vecCount : Nat
  /-- WEIGHT (03 R138; 8 bits). -/
  weight : Nat
  /-- MAX_INFLIGHT (03 R138; 13 bits). -/
  maxInflight : Nat
  /-- MAX_PK (03 R138; 9 bits). -/
  maxPk : Nat
  /-- MAX_CACHE (03 R138; 17 bits). -/
  maxCache : Nat
  /-- RESETS (03 R138; 16 bits). -/
  resets : Nat
  /-- CFG_ERR of the STALLCFG entry (03 R138; 1 bit). -/
  cfgErr : Bool
  /-- RESET_DONE (03 R141; 1 bit). -/
  resetDone : Bool
  /-- QUOTA_WAIT (03 R141; 1 bit). -/
  quotaWait : Bool
  /-- LAST_CAUSE (03 R141; 4 bits). -/
  lastCause : Nat
  /-- ABANDONED (03 R141; 16 bits). -/
  abandoned : Nat
  /-- LOST_RCPTS (03 R141; 16 bits). -/
  lostRcpts : Nat
  /-- Report entries (03 R141; 8 entries of tag and status). -/
  reports : List (Nat × Nat)
  /-- Report entries a reset in progress will set (03 R157; 8 entries). -/
  newReports : List (Nat × Nat)
  /-- Orders abandoned by the reset in progress (03 R162; 16 bits). -/
  newAbandoned : Nat
  /-- The reset in progress is hard (03 R155; 1 bit). -/
  hardReset : Bool
  /-- The reset in progress frees the Stall (03 R137; 1 bit). -/
  freeAfter : Bool
  /-- Orders that requested the hard reset in progress (03 R162). -/
  resetOrder : List Nat
  /-- ORDERS (internal count) (03 R141; 64 bits). -/
  orders : Nat
  /-- BYTES_IN (internal count) (03 R141; 64 bits). -/
  bytesIn : Nat
  /-- BYTES_OUT (internal count) (03 R141; 64 bits). -/
  bytesOut : Nat
  /-- ENGINE_TIME (internal count) (03 R141; 64 bits). -/
  engineTime : Nat
  /-- WAIT_TIME (internal count) (03 R141; 64 bits). -/
  waitTime : Nat
  /-- Values the host sees while the counters hold still (09 R427; 5 of 64 bits). -/
  held : Option (List Nat)
  /-- Deficit per engine kind (03 R147; 4 numbers). -/
  deficits : List Nat
  /-- Ring the scheduler takes next (03 R149; 2 bits). -/
  nextRing : Nat
  /-- Selective IDE stream bound to the TDI (03 R145; 8 streams). -/
  stream : Option Nat
  /-- First DRBG byte of the nonce that START_INTERFACE_REQUEST returns (03 R145; 256 bits). -/
  tdiNonce : Option Nat
deriving DecidableEq, Repr

/-- Stall at reset. -/
def Stall.reset : Stall where
  state := .free
  owner := 0
  gen := 0
  tdi := .none
  noPasid := false
  ats := false
  rid := 0
  pasid := 0
  vecBase := 0
  vecCount := 0
  weight := 0
  maxInflight := 0
  maxPk := 0
  maxCache := 0
  resets := 0
  cfgErr := false
  resetDone := false
  quotaWait := false
  lastCause := 0
  abandoned := 0
  lostRcpts := 0
  reports := []
  newReports := []
  newAbandoned := 0
  hardReset := false
  freeAfter := false
  resetOrder := []
  orders := 0
  bytesIn := 0
  bytesOut := 0
  engineTime := 0
  waitTime := 0
  held := none
  deficits := [0, 0, 0, 0]
  nextRing := 0
  stream := none
  tdiNonce := none

/-- Stall 0 from the end of every start-up (03 R128, and the bracketed resets of R138). -/
def Stall.zero : Stall :=
  { Stall.reset with state := .bound, noPasid := true, vecCount := 1, weight := 16, maxInflight := 256, maxPk := 16,
                     maxCache := 4096 }


/-- A TLP in the egress queue, not yet past the release point. -/
structure Tlp where
  /-- What the write carries (01 R45). -/
  kind : TlpKind
  /-- Order it belongs to (01 R47). -/
  order : Nat
  /-- Stall (02 R111; 12 bits). -/
  stall : Nat
  /-- Generation tag (03 R157; 16 bits). -/
  gen : BitVec 16
  /-- Address (02 R111; 64 bits). -/
  addr : Nat
  /-- Payload (01 R54; at most 512 bytes). -/
  data : Bytes
  /-- Relaxed Ordering attribute (02 R106; 1 bit). -/
  relaxed : Bool
  /-- Release CRCs attached by the producer, one for each 64-byte egress word (01 R46; 32 bits a word). -/
  crcs : List (BitVec 32)
  /-- T bit on the bound IDE stream (03 R145; 1 bit). -/
  tbit : Bool
deriving DecidableEq, Repr

/-- An order from its commit to its receipt. -/
structure Order where
  /-- The model's own name of the order (02 R88). -/
  id : Nat
  /-- Stall (02 R88; 12 bits). -/
  stall : Nat
  /-- Ring (02 R88; 2 bits). -/
  ring : Nat
  /-- Stall generation it carries (03 R156; 16 bits). -/
  gen : BitVec 16
  /-- Header count (02 R85; 32 bits). -/
  count : BitVec 32
  /-- Slot count (02 R70; 4 bits). -/
  nslots : Nat
  /-- Not an order but the receipt of an intake error or of a refused Counter-window order (02 R94; 1 bit). -/
  intakeErr : Bool
  /-- Receipt slots reserved for it, 0 when none (02 R98; 17 bits). -/
  rsv : Nat
  /-- Posted through the Counter window (02 R85; 1 bit). -/
  viaWindow : Bool
  /-- Opcode (02 R70; 16 bits). -/
  opcode : Nat
  /-- Flags (02 R71; 8 bits). -/
  flags : BitVec 8
  /-- Order tag (02 R70; 32 bits). -/
  tag : Nat
  /-- Key handle A (02 R70; 64 bits). -/
  keyA : Nat
  /-- Key handle B (02 R70; 64 bits). -/
  keyB : Nat
  /-- Input IOVA (02 R70; 64 bits). -/
  inIova : Nat
  /-- Input length (02 R70; 32 bits). -/
  inLen : Nat
  /-- Output cap (02 R70; 32 bits). -/
  outCap : Nat
  /-- Output IOVA (02 R70; 64 bits). -/
  outIova : Nat
  /-- Auxiliary IOVA (02 R70; 64 bits). -/
  auxIova : Nat
  /-- Auxiliary length (02 R70; 32 bits). -/
  auxLen : Nat
  /-- Inline area (02 R72; at most 448 bytes). -/
  inl : Bytes
  /-- Input, none until it is present (02 R112; input length). -/
  input : Option Bytes
  /-- Auxiliary input, none until it is present (02 R112; auxiliary length). -/
  aux : Option Bytes
  /-- Second reading of the input of a two-pass open (05 R264; input length). -/
  pass2 : Option Bytes
  /-- Stage of the order's path (01 R45). -/
  stage : Stage
  /-- Runs so far (11 R493; 3 bits). -/
  runs : Nat
  /-- Re-executed: receipt flag bit 2 (02 R102; 1 bit). -/
  reexec : Bool
  /-- Completed by the twin: receipt flag bit 3 (02 R102; 1 bit). -/
  byTwin : Bool
  /-- Key A as loaded into the working-key registers (04 R191). -/
  recA : Option KeyRec
  /-- Key B as loaded (04 R191). -/
  recB : Option KeyRec
  /-- Invocation index charged to key A or B with DEVICE_NONCE (05 R257; 64 bits). -/
  invIndex : Nat
  /-- Usage charged (04 R117; 1 bit). -/
  charged : Bool
  /-- Instances it runs on (01 R32; 1 or 2 instances). -/
  insts : List (EngKind × Nat)
  /-- Instances the failed run used (11 R500). -/
  avoid : List (EngKind × Nat)
  /-- Staged behind an executing order (05 R279; 1 bit). -/
  staged : Bool
  /-- Its firmware request was lost with a Clerk control queue and has not timed out yet (01 R41; 1 bit). -/
  fwLost : Bool
  /-- First DRBG byte of its shared draws, none before the first run (11 R500). -/
  draws : Option Nat
  /-- First copy of the result (01 R51). -/
  copyA : Option Result
  /-- Second copy of the result (01 R51). -/
  copyB : Option Result
  /-- The two copies of a failed compare (11 R500). -/
  withheld : Option (Result × Result)
  /-- The result once compared or settled (01 R51). -/
  result : Option Result
  /-- Commit-point write of a stateful order (09 R431). -/
  commit : CommitPt
  /-- Card signatures received, by approval entry (04 R224). -/
  sigs : List (Nat × Bytes)
  /-- Answer of the card the order waited for (15 R652). -/
  cardData : Option Bytes
  /-- Time of commit (03 R141; ns). -/
  commitAt : Nat
  /-- Time of the last dispatch (02 R101; ns). -/
  dispatchAt : Nat
  /-- Time the compare completed (11 R491; ns). -/
  compareAt : Nat
  /-- Time from the last dispatch to the end of its compare, 0 while no engine has run (02 R101; ns). -/
  engTime : Nat
  /-- Output has been handed to the egress queue (01 R49; 1 bit). -/
  outSent : Bool
  /-- Output writes that the Loom has not yet handed to the egress queue: at most 16 KiB run ahead of the release point (05 R280). -/
  outWait : List Tlp
  /-- Vigil time at which the Quorum Gate tested the time and the window, kept while a card is asked (04 R225; 32 bits). -/
  quorumAt : Option Nat
  /-- Signature verifications of the decision that differed and were run again (04 R229; 1 bit). -/
  verifyRuns : Nat
  /-- Its receipt is in the egress queue (02 R106; 1 bit). -/
  rcptQueued : Bool
  /-- Faults that translations of its output and auxiliary pages met: page and status (02 R680). -/
  wfault : List (Nat × Nat)
  /-- Abandoned by a Stall reset with this status (03 R157; 16 bits). -/
  abandoned : Option Nat
  /-- Keys whose charge is not made yet (05 R260; 2 handles). -/
  toCharge : List Nat
  /-- Tally value of the first reservation granted for the charge that waits (10 R471; 48 bits). -/
  firstGrant : Nat
  /-- Quorum decisions of the order that differed (04 R229). -/
  differs : Nat
  /-- Staged change of a stateful order whose commit-point write is not made (10 R467). -/
  items : List Item
  /-- What the order asks of a custodian card (15 R652). -/
  want : Option CardWant
deriving DecidableEq, Repr

/-- A working-key register of an engine instance: one a Loom lane, one a Forge or Kiln slot, one a Mill pair. -/
structure WReg where
  /-- Lane or slot (04 R191; 3 bits). -/
  pos : Nat
  /-- Order it was loaded for last (04 R192). -/
  order : Nat
  /-- Stall of the key it keeps (04 R192; 12 bits). -/
  stall : Nat
  /-- Handle and generation of key A (04 R192; 64 bits). -/
  keyA : Nat
  /-- Handle and generation of key B, 0 without one (04 R192; 64 bits). -/
  keyB : Nat
  /-- First share of its contents, under the lane's own randomness (04 R191; m bytes). -/
  share0 : Bytes
  /-- Second share of its contents (04 R191; m bytes). -/
  share1 : Bytes
deriving DecidableEq, Repr

/-- A half of the input buffer of both lanes of a Loom. -/
structure LoomBuf where
  /-- Order whose input it holds (05 R279). -/
  order : Nat
  /-- Stall of that order (05 R281; 12 bits). -/
  stall : Nat
deriving DecidableEq, Repr

/-- An engine instance. -/
structure Inst where
  /-- Off, active, spare, retired or suspect (01 R31). -/
  status : InstStatus
  /-- Slots that run an operation whose result will be discarded, by order (03 R161; 8 slots). -/
  discard : List Nat
  /-- Times of its strikes (11 R502; ns). -/
  strikes : List Nat
  /-- Instance Hold: order whose compare failed (11 R487). -/
  heldFor : Option Nat
  /-- Instance that this promoted spare replaces (13 R563). -/
  replaces : Option Nat
  /-- Working-key registers that hold a key (04 R191; 2 lanes or 8 slots). -/
  wregs : List WReg
  /-- Input-buffer halves of a Loom's lanes that hold valid input (05 R241; 2 halves). -/
  loomBufs : List LoomBuf
  /-- Hold buffer: order whose output is valid in it (05 R263; 64 KiB a lane). -/
  heldBy : Option Nat
  /-- Check table: check values of the chunks of a two-pass open (05 R264; 4,096 entries). -/
  checks : List Bytes
  /-- Masking value that is the key of the check table (05 R264). -/
  checkKey : Nat
  /-- Stall of the order that the Loom executed last (05 R281; 12 bits). -/
  lastStall : Option Nat
  /-- Mask register or mask generator of a slot: order and first DRBG byte it was loaded with (06 R324; 128 or 256 bits a slot). -/
  masks : List (Nat × Nat)
  /-- Mask generator waits for a reseed (05 R244; 1 bit). -/
  needReseed : Bool
  /-- Operand memory regions freed and not yet scrubbed (06 R325; 8 regions). -/
  dirty : Nat
  /-- Clock or power gated (09 R425; 1 bit). -/
  gated : Bool
deriving DecidableEq, Repr

/-- Inst at reset. -/
def Inst.reset : Inst where
  status := .off
  discard := []
  strikes := []
  heldFor := none
  replaces := none
  wregs := []
  loomBufs := []
  heldBy := none
  checks := []
  checkKey := 0
  lastStall := none
  masks := []
  needReseed := false
  dirty := 0
  gated := false

/-- A slot of an Owner's key namespace. -/
structure KeySlot where
  /-- Key held in Stacks (04 R181). -/
  key : Option KeyRec
  /-- Tombstone generation (04 R204; 24 bits). -/
  tomb : Option Nat
  /-- Successor handle that status 0x0209 reports (04 R238; 64 bits). -/
  tombNext : Nat
  /-- Order that locks the slot (04 R207). -/
  lock : Option Nat
deriving DecidableEq, Repr

/-- KeySlot at reset. -/
def KeySlot.reset : KeySlot where
  key := none
  tomb := none
  tombNext := 0
  lock := none

/-- An entry of the Muniment cache (R180). -/
structure CacheEnt where
  /-- Handle (04 R180; 64 bits). -/
  handle : Nat
  /-- Stall that last used it; 4,096 when that Stall has been reset since (03 R142) (03 R151; 12 bits). -/
  stall : Nat
  /-- First XOR share of the key (04 R180; m bytes). -/
  shareA : Bytes
  /-- Second XOR share of the key (04 R180; m bytes). -/
  shareB : Bytes
  /-- Provisional fill: ring and header count of the uncommitted order it was made for, none for an ordinary entry (02 R116). -/
  prov : Option (Nat × Nat)
deriving DecidableEq, Repr

/-- The Muniment: key registers, cache, key store, ceremonies. -/
structure Muniment where
  /-- Watermark key (04 R165; 256 bits). -/
  watermark : Option Bytes
  /-- Device Root (04 R165; 256 bits). -/
  deviceRoot : Option Bytes
  /-- Anchor MAC key (04 R165; 256 bits). -/
  anchorKey : Option Bytes
  /-- Store key (04 R165; 256 bits). -/
  storeKey : Option Bytes
  /-- Identity keys and recognition secret formed (04 R172; 1 bit). -/
  ids : Bool
  /-- Failed Watermark attempts of the start (04 R167; 3 bits). -/
  wmTries : Nat
  /-- PUF SRAM island: powered down, or powered with its power-up response (04 R168; 8 KiB). -/
  puf : Puf
  /-- Time at which the PUF island was powered down last (04 R167; ns). -/
  pufOffAt : Nat
  /-- Muniment cache, least recently used first (04 R180; 65,536 entries). -/
  cache : List CacheEnt
  /-- Fill buffers in use, by order (03 R151; 16 buffers). -/
  fillBufs : List Nat
  /-- Key store: Stacks key records by Owner and slot (04 R181; 2^28 slots an Owner). -/
  keys : Tbl KeySlot
  /-- Backup ceremony open (04 R213; share registers). -/
  backup : Option Backup
  /-- Owners whose ceremony was abandoned (04 R214). -/
  backupLost : List Nat
  /-- Restore shares held, by Owner (04 R216; share registers). -/
  restore : List Restore
  /-- Policy tables marked stale (09 R429; 1 bit). -/
  policyStale : Bool
deriving DecidableEq, Repr

/-- Muniment at reset. -/
def Muniment.reset : Muniment where
  watermark := none
  deviceRoot := none
  anchorKey := none
  storeKey := none
  ids := false
  wmTries := 0
  puf := .off
  pufOffAt := 0
  cache := []
  fillBufs := []
  keys := []
  backup := none
  backupLost := []
  restore := []
  policyStale := false

/-- The record store and the other non-volatile stores. -/
structure Mram where
  /-- Owner master entries (04 R173; 4,096 entries of two slots). -/
  master : Tbl (Option MSlot × Option MSlot)
  /-- Slot writes whose completion signal is awaited: order, entry, slot, and what the slot held before (04 R175). -/
  writing : List (Nat × Nat × Nat × Option MSlot)
  /-- Root check with its MAC (04 R171; 16 and 32 bytes). -/
  rootCheck : Option (Bytes × Bytes)
  /-- Pair record in force (10 R436; two slots). -/
  pairRec : Option PairRec
  /-- Lifecycle record: the slot in force (14 R614; a slot: state, seq, pdigest). -/
  lifecycle : Option (Nat × Nat × Bytes)
  /-- Tally allotments of Owners, as their records gave them last (04 R234; first and count, by Owner). -/
  allots : Tbl (Nat × Nat)
  /-- Lifecycle record: the other slot, while it is valid (14 R614; a slot: state, seq, pdigest). -/
  lifePrev : Option (Nat × Nat × Bytes)
  /-- The lifecycle record holds a written slot and no valid slot (14 R615; 1 bit). -/
  lifeTorn : Bool
  /-- Boot record (1), Platform Description Block (2) or calibration record (3) that holds a written slot and no valid slot (14 R601; 3 records). -/
  recTorn : List Nat
  /-- Boot record: preferred bank p (14 R606; 1 bit). -/
  bootBank : Nat
  /-- Boot record: trial state t (14 R606; 2 bits). -/
  bootTrial : Nat
  /-- Platform Description Block in force (14 R611; two slots). -/
  pdb : Option Pdb
  /-- User calibration record (14 R613; 96 bytes). -/
  calib : Option Bytes
  /-- Staged debug level (15 R658; 2 bits). -/
  dbgStaged : Option Nat
  /-- Tallies (13 R579; 256 counters). -/
  tallies : Tbl Tally
  /-- Tallies that hold a written slot and no valid slot (13 R580; 256 bits). -/
  tallyTorn : List Nat
  /-- Daybook general area by slot (13 R559; 4,096 records). -/
  general : Tbl DbRec
  /-- Daybook protected areas by 512 times class plus slot (13 R560; 3 classes of 512 records). -/
  protect : Tbl DbRec
  /-- Records placed in each protected class (13 R560; 3 numbers). -/
  protCount : List Nat
  /-- Tamper Roll in number order (13 R564; 8,192 entries). -/
  troll : List RollEntry
  /-- Boot Roll by slot (13 R574; 1,024 entries). -/
  broll : Tbl BootEntry
  /-- SPDM certificate chain of slot 0 (14 R618). -/
  certChain : Option Bytes
  /-- Next record sequence kept with each flush (13 R555; 16 bits). -/
  nextSeq : Nat
  /-- OTP fuse P (14 R614; 1 bit). -/
  fuseP : Bool
  /-- OTP fuse R (14 R614; 1 bit). -/
  fuseR : Bool
  /-- PUF helper data, check value and OTP salt (04 R166). -/
  helper : Option Bytes
  /-- The recognition secret has left the part (04 R240). -/
  recogSent : Bool
  /-- Instances that were retired when the power went, by kind index and number (01 R37; 4 kinds). -/
  retired : List (Nat × Nat)
  /-- QSPI flash banks; an address not listed holds the erased byte (14 R603; 2 banks of 4 MiB). -/
  flash : Tbl Byte
  /-- HSS keys revoked by OTP fuses (14 R612; 2 fuses). -/
  hssRevoked : List Nat
deriving DecidableEq, Repr

/-- Mram at reset. -/
def Mram.reset : Mram where
  master := []
  writing := []
  rootCheck := none
  pairRec := none
  lifecycle := none
  allots := []
  lifePrev := none
  lifeTorn := false
  recTorn := []
  bootBank := 0
  bootTrial := 0
  pdb := none
  calib := none
  dbgStaged := none
  tallies := []
  tallyTorn := []
  general := []
  protect := []
  protCount := [0, 0, 0]
  troll := []
  broll := []
  certChain := none
  nextSeq := 0
  fuseP := false
  fuseR := false
  helper := none
  recogSent := false
  retired := []
  flash := []
  hssRevoked := []

/-- Volatile state of the Keeper world. -/
structure Keeper where
  /-- Owner records loaded since the last start (04 R237; 1,024 Owners). -/
  loaded : Tbl OwnerRec
  /-- Results kept for already applied (04 R226; Owner, seq, result word). -/
  results : List (Nat × Nat × Nat)
  /-- A Keeper restart is in progress (15 R636; 1 bit). -/
  restarting : Bool
  /-- Trigger of the restart in progress (13 R563). -/
  trigger : Nat
  /-- Time of that trigger (09 R433; ns). -/
  restartFrom : Nat
  /-- Times of the restarts (09 R433; ns). -/
  restartAt : List Nat
  /-- Keeper restarts since cold start, saturating (10 R449; 16 bits). -/
  restarts : Nat
  /-- Times of quorum decisions that differed (09 R428; ns). -/
  differAt : List Nat
  /-- Times of orders ended with 0x0510 (11 R503; ns). -/
  codes0510 : List Nat
  /-- Dispatches of ROLL_EXPORT and GENUINE within 1 s (13 R585; ns). -/
  attTimes : List Nat
  /-- Clerks waiting at the World Gate (09 R400; 8 Clerks). -/
  waitGate : List Nat
deriving DecidableEq, Repr

/-- Keeper at reset. -/
def Keeper.reset : Keeper where
  loaded := []
  results := []
  restarting := false
  trigger := 0
  restartFrom := 0
  restartAt := []
  restarts := 0
  differAt := []
  codes0510 := []
  attTimes := []
  waitGate := []

/-- Daybook buffer, flush engine and export window. -/
structure Daybook where
  /-- Buffer in sequence order (13 R556; 128 records). -/
  buf : List DbRec
  /-- FLUSHING (13 R593; 1 bit). -/
  flushing : Bool
  /-- A flush is due when the one in progress ends (13 R556; 1 bit). -/
  flushAgain : Bool
  /-- Records dropped since the counts were last written (13 R558; 32 bits). -/
  dropped : Nat
  /-- Records replaced since the counts were last written (13 R558; 32 bits). -/
  replaced : Nat
  /-- DROPPED (13 R593; 16 bits). -/
  droppedReg : Nat
  /-- WIN_BASE (13 R593; 13 bits). -/
  winBase : Nat
  /-- WIN_ERR (13 R593; 1 bit). -/
  winErr : Bool
  /-- WIN_VALID (13 R593; 1 bit). -/
  winValid : Bool
  /-- A snapshot of the export window is being taken (13 R594; 1 bit). -/
  winBusy : Bool
  /-- Export window (13 R593; 128 records). -/
  winData : List (Option DbRec)
  /-- TALLY_SEL (13 R593; 8 bits). -/
  tallySel : Nat
  /-- The Admin ring has entered service since cold start: record-store fields are shown (13 R593; 1 bit). -/
  shown : Bool
  /-- BOOT_OPEN (13 R593; 1 bit). -/
  bootOpen : Bool
  /-- Boot number of the entry of this start (13 R575; 48 bits). -/
  bootCur : Option Nat
  /-- Measurements of a start that opens no entry (13 R578; 8 blocks). -/
  bootNoRoll : List BootBlk
deriving DecidableEq, Repr

/-- Daybook at reset. -/
def Daybook.reset : Daybook where
  buf := []
  flushing := false
  flushAgain := false
  dropped := 0
  replaced := 0
  droppedReg := 0
  winBase := 0
  winErr := false
  winValid := false
  winBusy := false
  winData := []
  tallySel := 0
  shown := false
  bootOpen := false
  bootCur := none
  bootNoRoll := []

/-- A backup cell. -/
structure Cell where
  /-- Last measured voltage (12 R542; 16 bits). -/
  mv : Nat
  /-- Low flag (12 R548; 1 bit). -/
  low : Bool
  /-- Depleted flag (12 R548; 1 bit). -/
  depleted : Bool
deriving DecidableEq, Repr

/-- Cell at reset. -/
def Cell.reset : Cell where
  mv := 3000
  low := false
  depleted := false

/-- One of the 12 tamper inputs. -/
structure TamperIn where
  /-- Armed (12 R537; 1 bit). -/
  armed : Bool
  /-- Normally closed (12 R533; 1 bit). -/
  nc : Bool
  /-- Filter code (12 R535; 4 bits). -/
  filter : Nat
  /-- Consecutive alarm samples (12 R535; 5 bits). -/
  alarmRun : Nat
  /-- Consecutive samples without alarm while in alarm state (12 R538; 5 bits). -/
  cleanRun : Nat
  /-- Alarm state (12 R538; 1 bit). -/
  alarm : Bool
  /-- Mesh driver off after an excursion ended by a timer (12 R523; 1 bit). -/
  driverOff : Bool
  /-- Mesh pattern LFSR (12 R534; 32 bits). -/
  lfsr : Nat
deriving DecidableEq, Repr

/-- TamperIn at reset. -/
def TamperIn.reset : TamperIn where
  armed := false
  nc := false
  filter := 0
  alarmRun := 0
  cleanRun := 0
  alarm := false
  driverOff := false
  lfsr := 0

/-- The Vigil domain. -/
structure Vigil where
  /-- 0 Main, 1 Standby, 2 Cell, 3 Dead (12 R517; 2 bits). -/
  power : Nat
  /-- VIGIL_SRC: 0 VDD_VIGIL, 1 cell A, 2 cell B (12 R548; 2 bits). -/
  src : Nat
  /-- Seal latch: seed (12 R528; 256 bits). -/
  seed : BitVec 256
  /-- Seal latch: complement (12 R528; 256 bits). -/
  seedInv : BitVec 256
  /-- A clear of the latch is in progress (12 R529; 1 bit). -/
  clearing : Bool
  /-- The latch has been read in this start: its read port is closed (12 R530; 1 bit). -/
  sealRead : Bool
  /-- Vigil seconds count (12 R526; 32 bits). -/
  seconds : BitVec 32
  /-- Vigil fraction (12 R526; 15 bits). -/
  fraction : Nat
  /-- Vigil time valid (12 R526; 1 bit). -/
  timeValid : Bool
  /-- Switches 0 to 7 then meshes 0 to 3 (12 R533; 12 inputs). -/
  inputs : List TamperIn
  /-- Untransferred tamper-buffer entries, oldest first (12 R539; 64 entries). -/
  tbuf : List TEntry
  /-- TBUF_OVERFLOW (12 R548; 16 bits). -/
  tbufOver : Nat
  /-- Cell A (12 R518). -/
  cellA : Cell
  /-- Cell B (12 R518). -/
  cellB : Cell
  /-- Last measured VDD_VIGIL (12 R542; 16 bits). -/
  vddVigilMv : Nat
  /-- Times of the last 0x42 and 0x43 entries (12 R540; ns, source). -/
  lastMove : List (Nat × Nat)
deriving DecidableEq, Repr

/-- Vigil at reset. -/
def Vigil.reset : Vigil where
  power := 0
  src := 0
  seed := 0
  seedInv := 0
  clearing := false
  sealRead := false
  seconds := 0
  fraction := 0
  timeValid := false
  inputs := List.replicate 12 TamperIn.reset
  tbuf := []
  tbufOver := 0
  cellA := Cell.reset
  cellB := Cell.reset
  vddVigilMv := 1800
  lastMove := []

/-- One MON entry (R548). -/
structure MonEnt where
  /-- VALUE (12 R548; 16 bits). -/
  value : BitVec 16
  /-- EXTREME (12 R548; 16 bits). -/
  extreme : BitVec 16
  /-- The monitor has made a measurement (12 R548; 1 bit). -/
  measured : Bool
  /-- USER_LIMIT (12 R548; 16 bits). -/
  userLimit : Nat
  /-- FACTORY_LIMIT (12 R548; 16 bits). -/
  factoryLimit : Nat
  /-- USER_FILTER (12 R548; 8 bits). -/
  userFilter : Nat
  /-- FACTORY_FILTER (12 R548; 8 bits). -/
  factoryFilter : Nat
  /-- PRESENT (12 R548; 1 bit). -/
  present : Bool
  /-- ALARM (12 R548; 1 bit). -/
  alarm : Bool
  /-- LATCHED (12 R548; 1 bit). -/
  latched : Bool
  /-- HYST (12 R548; 8 bits). -/
  hyst : Nat
  /-- ALARMS (12 R548; 32 bits). -/
  alarms : Nat
  /-- Consecutive samples or windows beyond the user limit (12 R543; 8 bits). -/
  runUser : Nat
  /-- Consecutive samples or windows beyond the factory limit (12 R543; 8 bits). -/
  runFactory : Nat
  /-- Consecutive samples below the lower limit (12 R543; 8 bits). -/
  runLow : Nat
  /-- Since when the sensor has stayed 5 degrees below the throttle level (12 R543; ns). -/
  coolAt : Option Nat
  /-- Rail below its warning level since (11 R508; ns). -/
  dipAt : Option Nat
  /-- Lowest voltage of the dip (11 R508; 16 bits). -/
  dipMin : Nat
deriving DecidableEq, Repr

/-- MonEnt at reset. -/
def MonEnt.reset : MonEnt where
  value := 0
  extreme := 0
  measured := false
  userLimit := 0
  factoryLimit := 0
  userFilter := 0
  factoryFilter := 0
  present := false
  alarm := false
  latched := false
  hyst := 0
  alarms := 0
  runUser := 0
  runFactory := 0
  runLow := 0
  coolAt := none
  dipAt := none
  dipMin := 0

/-- The environment monitors. -/
structure Monitors where
  /-- MON entries by index; reset values are those of MonEnt.at (12 R548; 76 entries). -/
  ents : Tbl MonEnt
  /-- USER_APPLIED (12 R548; 1 bit). -/
  userApplied : Bool
  /-- GLITCHES (12 R548; 32 bits). -/
  glitches : Nat
  /-- Temperature Throttle in force (MON_THROTTLE) (12 R548; 1 bit). -/
  throttle : Bool
  /-- DRAM temperature Throttle (THROTTLED) (08 R396; 1 bit). -/
  stacksThrottle : Bool
  /-- Times of glitch alarms (11 R499; ns). -/
  glitchTimes : List Nat
  /-- Times of supply dips (11 R509; ns). -/
  dipTimes : List Nat
  /-- THERM_ALERT# driven low (16 R673; 1 bit). -/
  thermAlert : Bool
deriving DecidableEq, Repr

/-- Monitors at reset. -/
def Monitors.reset : Monitors where
  ents := []
  userApplied := false
  glitches := 0
  throttle := false
  stacksThrottle := false
  glitchTimes := []
  dipTimes := []
  thermAlert := false

/-- The response ladder. -/
structure Faults where
  /-- Off, starting, waiting for provisioning, running or silent (14 R599). -/
  phase : Phase
  /-- START_STEP (15 R636; 4 bits). -/
  step : Nat
  /-- Kind of the start in progress: 1 cold, 2 after Silence (13 R570; 2 bits). -/
  startKind : Nat
  /-- Time of the start (15 R636; ns). -/
  startAt : Nat
  /-- READY_MS (15 R636; 16 bits). -/
  readyMs : Nat
  /-- READY (15 R636; 1 bit). -/
  ready : Bool
  /-- The start in force skipped step 4 (14 R682; 1 bit). -/
  skipStep4 : Bool
  /-- LIFECYCLE: state code in force (15 R636; 3 bits). -/
  lifecycle : Nat
  /-- DEBUG_LEVEL (15 R636; 2 bits). -/
  debugLevel : Nat
  /-- CONFIG (15 R636; 2 bits). -/
  config : Nat
  /-- Platform Description Block in force when the part started (14 R611). -/
  pdbStart : Option Pdb
  /-- Active causes of the part Hold (11 R494). -/
  holds : List HoldCause
  /-- A part Hold is in force (11 R491; 1 bit). -/
  holdCovered : Bool
  /-- A tainting cause was active during the Hold (11 R491; 1 bit). -/
  holdTaint : Bool
  /-- Entry of the Hold (11 R491; ns). -/
  holdAt : Nat
  /-- The part is in Silence (11 R495; 1 bit). -/
  silent : Bool
  /-- Entry of Silence (11 R497; ns). -/
  silentAt : Nat
  /-- SILENCE_LATCHED (11 R512; 1 bit). -/
  silenceLatched : Bool
  /-- LAST_CAUSE (15 R636; 16 bits). -/
  lastCause : Nat
  /-- LAST_LEVEL (15 R636; 2 bits). -/
  lastLevel : Nat
  /-- START_FAIL (15 R636; 8 bits). -/
  startFail : Nat
  /-- FAIL_STEP (15 R636; 4 bits). -/
  failStep : Nat
  /-- Times of Silences: SILENCES_24H (11 R512; ns). -/
  silences : List Nat
  /-- ACCESS_ERR (15 R636; 1 bit). -/
  accessErr : Bool
  /-- Zeroize line asserted (12 R532; 2 wires). -/
  zeroizeLine : Bool
  /-- Release CRC mismatches (11 R499; ns). -/
  crcTimes : List Nat
  /-- Writes formed outside the permitted ranges (11 R499; ns). -/
  rangeTimes : List Nat
  /-- Pointer mismatches by queue (11 R499; queue, ns). -/
  queueTimes : List (Nat × Nat)
  /-- ACU checker disagreements (11 R499; ns). -/
  acuTimes : List Nat
  /-- Bindery datapath differences (11 R499; ns). -/
  binderyTimes : List Nat
  /-- DRBG block mismatches (07 R362; ns). -/
  drbgTimes : List Nat
  /-- Corrected errors counted per queue (01 R40; 32 bits a queue). -/
  queueErrs : List (Nat × Nat)
  /-- Main rails above their reset levels (14 R596; 1 bit). -/
  railsUp : Bool
  /-- PERST# asserted (14 R598; 1 bit). -/
  perst : Bool
deriving DecidableEq, Repr

/-- Faults at reset. -/
def Faults.reset : Faults where
  phase := .off
  step := 0
  startKind := 0
  startAt := 0
  readyMs := 0
  ready := false
  skipStep4 := false
  lifecycle := 0
  debugLevel := 0
  config := 0
  pdbStart := none
  holds := []
  holdCovered := false
  holdTaint := false
  holdAt := 0
  silent := false
  silentAt := 0
  silenceLatched := false
  lastCause := 0
  lastLevel := 0
  startFail := 0
  failStep := 0
  silences := []
  accessErr := false
  zeroizeLine := false
  crcTimes := []
  rangeTimes := []
  queueTimes := []
  acuTimes := []
  binderyTimes := []
  drbgTimes := []
  queueErrs := []
  railsUp := true
  perst := true

/-- One of the eight Clerks. -/
structure Clerk where
  /-- 0 Keeper-privileged, 1 Keeper-user, 2 Shop-privileged, 3 Shop-user (09 R399; 2 bits). -/
  level : Nat
  /-- Shop level saved in the Keeper-owned save area while the Clerk is in the Keeper world (09 R400). -/
  saved : Option Nat
  /-- Shop registers of the Clerk (09 R400; register file). -/
  shopRegs : List Nat
  /-- Keeper registers of the Clerk (09 R400; register file). -/
  keeperRegs : List Nat
  /-- Shop registers in the save area (09 R400; register file). -/
  savedRegs : List Nat
  /-- Time of the gate call or of its last progress point (09 R428; ns). -/
  callAt : Nat
  /-- Debug halt that takes effect at the return through the gate (15 R656; 1 bit). -/
  haltReq : Bool
  /-- Halted by debug (15 R656; 1 bit). -/
  halted : Bool
deriving DecidableEq, Repr

/-- Clerk at reset. -/
def Clerk.reset : Clerk where
  level := 2
  saved := none
  shopRegs := []
  keeperRegs := []
  savedRegs := []
  callAt := 0
  haltReq := false
  halted := false

/-- An ACU region. -/
structure Region where
  /-- BASE, first page (09 R411; 52 bits). -/
  base : Nat
  /-- LAST, last page (09 R411; 52 bits). -/
  last : Nat
  /-- KP, KU, SP, SU, DBG, DMA, ENG (09 R411; 7 fields of 3 bits). -/
  rights : List Nat
  /-- ENABLE (09 R411; 1 bit). -/
  enable : Bool
  /-- LOCK (09 R411; 1 bit). -/
  lock : Bool
  /-- SPACE (09 R411; 2 bits). -/
  space : Nat
deriving DecidableEq, Repr

/-- Region at reset. -/
def Region.reset : Region where
  base := 0
  last := 0
  rights := [0, 0, 0, 0, 0, 0, 0]
  enable := false
  lock := false
  space := 0

/-- An internal DMA channel. -/
structure DmaCh where
  /-- World attribute: Keeper (09 R420; 1 bit). -/
  keeper : Bool
  /-- Owner binding (09 R422; 10 bits). -/
  owner : Option Nat
  /-- Busy (09 R422; 1 bit). -/
  busy : Bool
  /-- Halted with an error (09 R418; 1 bit). -/
  halted : Bool
  /-- Descriptors and buffers (09 R422; descriptors). -/
  desc : List Nat
deriving DecidableEq, Repr

/-- DmaCh at reset. -/
def DmaCh.reset : DmaCh where
  keeper := false
  owner := none
  busy := false
  halted := false
  desc := []

/-- A DMA channel of the Keeper world (09 R420). -/
def DmaCh.keeperReset : DmaCh := { DmaCh.reset with keeper := true }


/-- A DEED_SET being applied. -/
structure DeedPend where
  /-- Space (09 R408; 2 bits). -/
  space : Nat
  /-- Page (09 R408). -/
  page : Nat
  /-- New entry (09 R408; 32 bits). -/
  entry : Nat
deriving DecidableEq, Repr

/-- A gateable block. -/
structure Gate where
  /-- Claim bit (09 R425; 1 bit). -/
  claimed : Bool
  /-- Gating in force (09 R425; 1 bit). -/
  gatedReq : Bool
  /-- Pending gating request (09 R425; 1 bit). -/
  pendingReq : Option Bool
  /-- A deferral of this claim has been recorded (09 R425; 1 bit). -/
  deferred : Bool
deriving DecidableEq, Repr

/-- Gate at reset. -/
def Gate.reset : Gate where
  claimed := false
  gatedReq := false
  pendingReq := none
  deferred := false

/-- A violation report entry (R423). -/
structure Viol where
  /-- ADDR (09 R423; 64 bits). -/
  addr : Nat
  /-- SPACE (09 R423; 2 bits). -/
  space : Nat
  /-- KIND (09 R423; 2 bits). -/
  kind : Nat
  /-- LEN_M1 (09 R423; 10 bits). -/
  lenM1 : Nat
  /-- MASTER (09 R423; 16 bits). -/
  master : Nat
  /-- REGION and REGION_VALID (09 R423; 6 bits). -/
  region : Option Nat
  /-- DEED_TYPE (09 R423; 3 bits). -/
  deedType : Nat
  /-- CAUSE (09 R423; 4 bits). -/
  cause : Nat
  /-- SEQ (09 R423; 16 bits). -/
  seq : Nat
  /-- START (09 R423; 64 bits). -/
  start : Nat
  /-- DBK_SEQ (09 R423; 16 bits). -/
  dbkSeq : Nat
deriving DecidableEq, Repr

/-- Viol at reset. -/
def Viol.reset : Viol where
  addr := 0
  space := 0
  kind := 0
  lenM1 := 0
  master := 0
  region := none
  deedType := 0
  cause := 0
  seq := 0
  start := 0
  dbkSeq := 0

/-- Worlds, Deeds, ACUs, claims and their reports. -/
structure Worlds where
  /-- The Clerks (09 R398; 8 Clerks). -/
  clerks : List Clerk
  /-- Deed table, SRAM pages then general-region pages from 2^24 (09 R405; 32 bits a page). -/
  deeds : Tbl Nat
  /-- Deed entries with an uncorrectable error: bit 0 first copy, bit 1 second (09 R409; copies unusable). -/
  deedBad : Tbl Nat
  /-- DEED_SET commands being applied (09 R408). -/
  deedPend : List DeedPend
  /-- ACU region table (09 R411; 64 regions). -/
  regions : List Region
  /-- GPIO pins of Keeper world (09 R420; 16 bits). -/
  gpioKeeper : Nat
  /-- Card ports of Keeper world (09 R420; 4 bits). -/
  cardKeeper : Nat
  /-- Pins whose new world takes over 10 us after the change (09 R421; 20 pins). -/
  pinMoving : List (Nat × Bool)
  /-- Card port changes deferred while a session is open (09 R421; 4 ports). -/
  pinDeferred : List (Nat × Bool)
  /-- Internal DMA channels (09 R420; 32 channels). -/
  dma : List DmaCh
  /-- Claims and gating requests (09 R425; 97 blocks). -/
  gates : Tbl Gate
  /-- VIOL_TOTAL (09 R423; 32 bits). -/
  violTotal : Nat
  /-- DBG_REFUSED (09 R423; 16 bits). -/
  dbgRefused : Nat
  /-- DEFERRALS (09 R423; 16 bits). -/
  deferrals : Nat
  /-- First-report latch with FIRST_VALID (09 R423; 64 bytes). -/
  first : Option Viol
  /-- Report log (09 R423; 16 entries). -/
  log : List Viol
  /-- LOG_NEXT (09 R423; 4 bits). -/
  logNext : Nat
  /-- LOG_WRAPPED (09 R423; 1 bit). -/
  logWrapped : Bool
  /-- Next report sequence (09 R423; 16 bits). -/
  violSeq : Nat
  /-- Clerk SRAM; an address not listed reads as 0 (09 R402; 16 MiB). -/
  sram : List (Nat × Byte)
  /-- Host-visible counters hold still: a Clerk runs in the Keeper world or left within 2 us (09 R427; 1 bit). -/
  hidden : Bool
deriving DecidableEq, Repr

/-- Worlds at reset. -/
def Worlds.reset : Worlds where
  clerks := List.replicate 8 Clerk.reset
  deeds := []
  deedBad := []
  deedPend := []
  regions := List.replicate 64 Region.reset
  gpioKeeper := 0
  cardKeeper := 15
  pinMoving := []
  pinDeferred := []
  dma := (List.replicate 8 DmaCh.keeperReset) ++ (List.replicate 24 DmaCh.reset)
  gates := []
  violTotal := 0
  dbgRefused := 0
  deferrals := 0
  first := none
  log := List.replicate 16 Viol.reset
  logNext := 0
  logWrapped := false
  violSeq := 0
  sram := []
  hidden := false

/-- A two-phase commit transaction. -/
structure Txn where
  /-- Transaction number (10 R464; 64 bits). -/
  num : Nat
  /-- Order on this part (10 R467). -/
  order : Nat
  /-- This part coordinates it (10 R467; 1 bit). -/
  lead : Bool
  /-- Phase reached (R464 codes) (10 R464; 3 bits). -/
  phase : Nat
  /-- Staged items (10 R466). -/
  items : List Item
  /-- Kind-7 item (10 R466). -/
  result : Result
  /-- Effects that this part makes of its own (10 R467). -/
  own : List Item
  /-- Order digest of the PREPARE (10 R464; 48 bytes). -/
  odigest : Bytes
  /-- Lead's Vigil time of the PREPARE (10 R464; 32 bits). -/
  vigil : Nat
  /-- Stall, ring and header count of the order (10 R464). -/
  place : Nat × Nat × Nat
deriving DecidableEq, Repr

/-- Pair record view, Courier Link and mirror state. -/
structure Pair where
  /-- MODE (10 R485; 2 bits). -/
  mode : Nat
  /-- BOUND (10 R485; 1 bit). -/
  bound : Bool
  /-- SIDE (10 R485; 1 bit). -/
  side : Nat
  /-- ROLE (10 R485; 1 bit). -/
  role : Nat
  /-- STATE (10 R485; 3 bits). -/
  state : Nat
  /-- LANES (10 R485; 8 bits). -/
  lanes : BitVec 8
  /-- SPLIT_LOG2 (10 R485; 4 bits). -/
  splitLog2 : Nat
  /-- SETTLE_US (10 R485; 5 bits). -/
  settleUs : Nat
  /-- ARB_ADDR (10 R485; 64 bits). -/
  arbAddr : Nat
  /-- ARB_VALUE (10 R485; 64 bits). -/
  arbValue : Nat
  /-- SESSION_EPOCH (10 R485; 32 bits). -/
  sessionEpoch : Nat
  /-- FAILOVERS (10 R485; 32 bits). -/
  failovers : Nat
  /-- HB_MISSES (10 R485; 16 bits). -/
  hbMisses : Nat
  /-- TAG_FAILS (10 R485; 16 bits). -/
  tagFails : Nat
  /-- RETRANSMITS (10 R485; 32 bits). -/
  retransmits : Nat
  /-- DIVERGENCES (10 R485; 16 bits). -/
  divergences : Nat
  /-- RESYNC_RECORDS (10 R485; 32 bits). -/
  resyncRecords : Nat
  /-- LAST_LOSS (10 R485; 4 bits). -/
  lastLoss : Nat
  /-- A session is formed: frame keys and PTK held (10 R442; 1 bit). -/
  session : Bool
  /-- Session secret SS from which frame keys and PTK are formed (10 R441; 256 bits). -/
  sessionKey : Option Bytes
  /-- Frame-key registers, of direction 0 and 1 (10 R445; 2 of 256 bits). -/
  frameKeys : Option (Bytes × Bytes)
  /-- Pair transfer key register (10 R445; 256 bits). -/
  ptk : Option Bytes
  /-- Pair secret PS (10 R441; 256 bits). -/
  pairSecret : Option Bytes
  /-- Handshake: next expected step, 0 none (10 R440; 3 bits). -/
  hsStep : Nat
  /-- Handshake purpose: 1 binding, 2 session (10 R440; 2 bits). -/
  hsPurpose : Nat
  /-- Handshake payloads so far (10 R440). -/
  hsTranscript : Bytes
  /-- Proposed epoch (10 R442; 32 bits). -/
  hsEpoch : Nat
  /-- PAIR_BIND order that waits for the ceremony (10 R439). -/
  hsOrder : Option Nat
  /-- Identity hash the twin presented (10 R440; 16 bytes). -/
  hsTwinId : Bytes
  /-- Own HELLO payload of the handshake (10 R440). -/
  hsMine : Bytes
  /-- The twin's HELLO payload (10 R440). -/
  hsPeer : Bytes
  /-- First DRBG byte of this side's ephemeral keys (10 R440). -/
  hsDraw : Nat
  /-- Pair secret or session secret formed and not confirmed (10 R441; 256 bits). -/
  hsSecret : Option Bytes
  /-- State field of the twin's last heartbeat (10 R449; 3 bits). -/
  twinState : Nat
  /-- The first heartbeat of the session has not been received (10 R478; 1 bit). -/
  decideDue : Bool
  /-- Consecutive misses (10 R450; 2 bits). -/
  missRun : Nat
  /-- Heartbeat number (10 R449; 32 bits). -/
  beat : Nat
  /-- Arbiter field of the twin's last heartbeat (10 R478; 64 bits). -/
  twinArbiter : Nat
  /-- Restarts field of the twin's last heartbeat (10 R449; 16 bits). -/
  twinRestarts : Nat
  /-- Arbitration requests issued and not resolved (10 R477; 2 bits). -/
  casPending : Nat
  /-- The first request failed and the retry is under way (10 R477; 1 bit). -/
  casFailed : Bool
  /-- Fabric settle time runs (10 R480; 1 bit). -/
  settling : Bool
  /-- Shared rings whose scan is outstanding (10 R480; rings). -/
  scanning : List Nat
  /-- Next sequence sent (10 R444; 2 channels). -/
  txSeq : List Nat
  /-- Next sequence expected (10 R444; 2 channels). -/
  rxSeq : List Nat
  /-- Replay buffer: channel, sequence, frame (10 R446; 256 KiB a channel). -/
  replay : List (Nat × Nat × Frame)
  /-- Times of tag failures (10 R446; ns). -/
  tagTimes : List Nat
  /-- Frames are not accepted until a new session forms (10 R446; 1 bit). -/
  closedRx : Bool
  /-- Open transactions (10 R465; 64 open). -/
  txns : List Txn
  /-- Next transaction number (10 R464; 64 bits). -/
  nextTxn : Nat
  /-- Unacknowledged evidence: kind, sequence, body (10 R474; 256 items). -/
  evidence : List (Nat × Nat × Bytes)
  /-- RCPT_UNACKED (10 R485; 16 bits). -/
  rcptUnacked : Nat
  /-- Receipt records not yet acknowledged (10 R459; ring, receipt count, frame sequence). -/
  pendRcpts : List (Nat × Nat × Nat)
  /-- Next reservation request number (10 R472; 32 bits). -/
  reserveNext : Nat
  /-- Reservations waiting for the twin (10 R471; request, handle, order). -/
  reserveWait : List (Nat × Nat × Nat)
  /-- Attempts of the join (10 R482; 2 bits). -/
  joinTries : Nat
  /-- PAIR_JOIN order (10 R482). -/
  joinOrder : Option Nat
  /-- The twin is declared failed (10 R451; 1 bit). -/
  twinDeclared : Bool
  /-- The arbitration under way is the one of start-up (10 R478; 1 bit). -/
  arbOnStart : Bool
deriving DecidableEq, Repr

/-- Pair at reset. -/
def Pair.reset : Pair where
  mode := 0
  bound := false
  side := 0
  role := 0
  state := 0
  lanes := 0
  splitLog2 := 0
  settleUs := 0
  arbAddr := 0
  arbValue := 0
  sessionEpoch := 0
  failovers := 0
  hbMisses := 0
  tagFails := 0
  retransmits := 0
  divergences := 0
  resyncRecords := 0
  lastLoss := 0
  session := false
  sessionKey := none
  frameKeys := none
  ptk := none
  pairSecret := none
  hsStep := 0
  hsPurpose := 0
  hsTranscript := []
  hsEpoch := 0
  hsOrder := none
  hsTwinId := []
  hsMine := []
  hsPeer := []
  hsDraw := 0
  hsSecret := none
  twinState := 0
  decideDue := false
  missRun := 0
  beat := 0
  twinArbiter := 0
  twinRestarts := 0
  casPending := 0
  casFailed := false
  settling := false
  scanning := []
  txSeq := [0, 0]
  rxSeq := [0, 0]
  replay := []
  tagTimes := []
  closedRx := false
  txns := []
  nextTxn := 0
  evidence := []
  rcptUnacked := 0
  pendRcpts := []
  reserveNext := 0
  reserveWait := []
  joinTries := 0
  joinOrder := none
  twinDeclared := false
  arbOnStart := false

/-- A resident Catalogue node. -/
structure CatNode where
  /-- Level 1 to 7 (08 R373; 3 bits). -/
  level : Nat
  /-- Node index (08 R373). -/
  idx : Nat
  /-- Counters (08 R373; 8 of 56 bits). -/
  ctrs : List Nat
  /-- Dirty (08 R384; 1 bit). -/
  dirty : Bool
deriving DecidableEq, Repr

/-- A request pending at the Bindery. -/
structure BReq where
  /-- Name of the request (08 R381). -/
  id : Nat
  /-- Bytes to write, none for a read (08 R381; 8 to 512 bytes). -/
  write : Option Bytes
  /-- SLA (08 R381; 36 bits). -/
  sla : Nat
  /-- Length (08 R381; 10 bits). -/
  len : Nat
  /-- Requesting master (08 R381). -/
  who : Master
  /-- Its DRAM reads are issued; it waits behind an earlier request for the sector otherwise (08 R385; 1 bit). -/
  issued : Bool
  /-- Reads issued, in order: (0, line), (1, 0) the tag line, (2, level) a Catalogue node (08 R382). -/
  plan : List (Nat × Nat)
  /-- Retried after a datapath difference (08 R391; 1 bit). -/
  retried : Bool
  /-- Times lost in an Engine-Stacks queue (08 R391; 2 bits). -/
  lost : Nat
  /-- Space and address to which a DMA copy writes what it reads (09 R415). -/
  dest : Option (Nat × Nat)
deriving DecidableEq, Repr

/-- Registers of a Stacks channel. -/
structure Chan where
  /-- CE_COUNT (08 R396; 32 bits). -/
  ceCount : Nat
  /-- CAPAR_RETRY (08 R396; 16 bits). -/
  caparRetry : Nat
  /-- WCRC_RETRY (08 R396; 16 bits). -/
  wcrcRetry : Nat
  /-- REMAP_USED (08 R396; 17 bits). -/
  remapUsed : Nat
  /-- SCRUB_PASSES (08 R396; 32 bits). -/
  scrubPasses : Nat
  /-- TEMP_CODE (08 R396; 3 bits). -/
  tempCode : Nat
  /-- LAST_CE_ADDR (08 R396; 64 bits). -/
  lastCe : Nat
  /-- Start of the hour in which corrected errors are counted (08 R388; ns). -/
  hourStart : Nat
  /-- Corrected errors of that hour (08 R388; 32 bits). -/
  hourCount : Nat
  /-- Remap table: block and spare (held twice) (08 R390; 65,536 entries). -/
  remap : List (Nat × Nat)
  /-- Spares marked unusable (08 R391; 65,536 blocks). -/
  badSpares : List Nat
  /-- Corrected errors of the last 24 h (08 R390; block, ns). -/
  blockErrs : List (Nat × Nat)
  /-- Remap copies under way and due, first to be made first (08 R390; block, spare). -/
  remapping : List (Nat × Nat)
  /-- Next line of the patrol (08 R389; channel address). -/
  patrolAt : Nat
  /-- Since when every device reports 85 degrees or below (08 R391; ns). -/
  coolAt : Option Nat
deriving DecidableEq, Repr

/-- Chan at reset. -/
def Chan.reset : Chan where
  ceCount := 0
  caparRetry := 0
  wcrcRetry := 0
  remapUsed := 0
  scrubPasses := 0
  tempCode := 0
  lastCe := 0
  hourStart := 0
  hourCount := 0
  remap := []
  badSpares := []
  blockErrs := []
  remapping := []
  patrolAt := 0
  coolAt := none

/-- Bindery and Stacks controller. -/
structure Stacks where
  /-- POP_CODE (08 R396; 4 bits). -/
  popCode : Nat
  /-- TRAINED (08 R396; 1 bit). -/
  trained : Bool
  /-- CAT_READY (08 R396; 1 bit). -/
  catReady : Bool
  /-- K1, K2, Kt and Kh are held (08 R374; 4 of 256 bits). -/
  keysFormed : Bool
  /-- First DRBG byte of the four keys (08 R374). -/
  keysAt : Nat
  /-- CE_REMAP_TH (08 R396; 5 bits). -/
  ceRemapTh : Nat
  /-- CE_NOTE_TH (08 R396; 16 bits). -/
  ceNoteTh : Nat
  /-- SCRUB_HOURS (08 R396; 5 bits). -/
  scrubHours : Nat
  /-- CFG_ERR (08 R396; 1 bit). -/
  cfgErr : Bool
  /-- CTR_HIGH (08 R396; 56 bits). -/
  ctrHigh : Nat
  /-- Channel registers (08 R396; 2 channels). -/
  chans : List Chan
  /-- Root counters (held twice) (08 R373; 56 of 56 bits). -/
  roots : List Nat
  /-- Catalogue cache, least recently used first (08 R384; 32,768 nodes). -/
  nodes : List CatNode
  /-- Tag cache by sector, least recently used first (08 R384; 8,192 tag lines). -/
  tagLines : List (Nat × Bytes)
  /-- Requests pending, in the order in which they reached the Bindery (08 R381). -/
  reqs : List BReq
  /-- Errors of the commands of pending and recent requests (08 R391; request, address, count). -/
  cmdErrs : List (Nat × Nat × Nat)
  /-- Recent writes: request and master identity (08 R684; 64 entries). -/
  recent : List (Nat × Nat)
  /-- IF_VALID (08 R396; 1 bit). -/
  ifValid : Bool
  /-- IF_KIND (08 R396; 4 bits). -/
  ifKind : Nat
  /-- IF_CHANNEL (08 R396; 1 bit). -/
  ifChannel : Nat
  /-- IF_LEVEL (08 R396; 3 bits). -/
  ifLevel : Nat
  /-- IF_MASTER (08 R396; 16 bits). -/
  ifMaster : Nat
  /-- IF_ADDR (08 R396; 64 bits). -/
  ifAddr : Nat
  /-- IF_INDEX (08 R396; 64 bits). -/
  ifIndex : Nat
  /-- Kind 4 and 5 failures to enter in the Tamper Roll at the next start (13 R567; kind, channel, level, index, address). -/
  owed : List (Nat × Nat × Nat × Nat × Nat)
deriving DecidableEq, Repr

/-- Stacks at reset. -/
def Stacks.reset : Stacks where
  popCode := 0
  trained := false
  catReady := false
  keysFormed := false
  keysAt := 0
  ceRemapTh := 4
  ceNoteTh := 256
  scrubHours := 24
  cfgErr := false
  ctrHigh := 0
  chans := [Chan.reset, Chan.reset]
  roots := []
  nodes := []
  tagLines := []
  reqs := []
  cmdErrs := []
  recent := []
  ifValid := false
  ifKind := 0
  ifChannel := 0
  ifLevel := 0
  ifMaster := 0
  ifAddr := 0
  ifIndex := 0
  owed := []

/-- A card port. -/
structure Port where
  /-- PRESENT (15 R657; 1 bit). -/
  present : Bool
  /-- POWERED (15 R657; 1 bit). -/
  powered : Bool
  /-- SESSION: order whose session is open (15 R651). -/
  session : Option Nat
  /-- Step of the session (15 R652). -/
  cstep : CardStep
  /-- First DRBG byte of the nonce and ephemeral key of OPEN_SESSION (15 R652). -/
  opener : Nat
  /-- Message counter of share records (15 R652). -/
  msgs : Nat
  /-- Session key with the card, held by the Muniment (15 R652; 256 bits). -/
  skey : Option Bytes
  /-- CLASS (15 R657; 2 bits). -/
  cls : Nat
  /-- SESSIONS (15 R657; 16 bits). -/
  sessions : Nat
  /-- FAULTS (15 R657; 16 bits). -/
  faults : Nat
  /-- CARD_ID (15 R657; 16 bytes). -/
  cardId : Bytes
  /-- Orders waiting for the port's session to end (15 R651). -/
  queue : List Nat
deriving DecidableEq, Repr

/-- Port at reset. -/
def Port.reset : Port where
  present := false
  powered := false
  session := none
  cstep := .idle
  opener := 0
  msgs := 0
  skey := none
  cls := 0
  sessions := 0
  faults := 0
  cardId := []
  queue := []

/-- I3C target, Hopper, card ports, GPIO. -/
structure Sideband where
  /-- DYN_ADDR (15 R657; 7 bits). -/
  dynAddr : Nat
  /-- DYN_VALID (15 R657; 1 bit). -/
  dynValid : Bool
  /-- SMBUS_MODE (15 R657; 1 bit). -/
  smbus : Bool
  /-- MCTP_EID (15 R657; 8 bits). -/
  eid : Nat
  /-- EID_VALID (15 R657; 1 bit). -/
  eidValid : Bool
  /-- HOP_DROPS (15 R657; 16 bits). -/
  hopDrops : Nat
  /-- PEC_ERRS (15 R657; 16 bits). -/
  pecErrs : Nat
  /-- The Hopper (15 R647; 64 words with tags). -/
  hopper : List (BitVec 64 × BitVec 8)
  /-- Maximum write length (15 R642; 9 bits). -/
  mwl : Nat
  /-- Maximum read length (15 R642; 9 bits). -/
  mrl : Nat
  /-- IBI enabled by ENEC (15 R642; 1 bit). -/
  ibiEn : Bool
  /-- BMC_PENDING has read zero since the last event IBI (15 R646; 1 bit). -/
  ibiArmed : Bool
  /-- FLASH_BUSY (15 R657; 1 bit). -/
  flashBusy : Bool
  /-- RUN_BANK (15 R657; 1 bit). -/
  runBank : Nat
  /-- Card ports (15 R657; 4 ports). -/
  ports : List Port
  /-- Pin levels at the balls (15 R657; 16 bits). -/
  gpioIn : Nat
  /-- GPIO_OUT (15 R657; 16 bits). -/
  gpioOut : Nat
  /-- GPIO_OE (15 R657; 16 bits). -/
  gpioOe : Nat
  /-- GPIO_OD (15 R657; 16 bits). -/
  gpioOd : Nat
  /-- GPIO_RISE (15 R657; 16 bits). -/
  gpioRise : Nat
  /-- GPIO_FALL (15 R657; 16 bits). -/
  gpioFall : Nat
deriving DecidableEq, Repr

/-- Sideband at reset. -/
def Sideband.reset : Sideband where
  dynAddr := 0
  dynValid := false
  smbus := false
  eid := 0
  eidValid := false
  hopDrops := 0
  pecErrs := 0
  hopper := []
  mwl := 256
  mrl := 256
  ibiEn := false
  ibiArmed := true
  flashBusy := false
  runBank := 0
  ports := List.replicate 4 Port.reset
  gpioIn := 0
  gpioOut := 0
  gpioOe := 0
  gpioOd := 0
  gpioRise := 0
  gpioFall := 0

/-- JTAG TAP and debug unlock. -/
structure Debug where
  /-- Instruction register: IDCODE after reset (15 R654; 8 bits). -/
  ir : BitVec 8
  /-- Data register last captured (15 R654). -/
  dr : Bytes
  /-- What the boundary cells drive (15 R654). -/
  pins : JPins
  /-- Challenge last issued (15 R659; 64 bytes, ns). -/
  challenge : Option (Bytes × Nat)
  /-- TOKEN_RESULT (15 R657; 3 bits). -/
  tokenResult : Nat
  /-- TOKENS_REFUSED (15 R657; 16 bits). -/
  tokensRefused : Nat
deriving DecidableEq, Repr

/-- Debug at reset. -/
def Debug.reset : Debug where
  ir := 2
  dr := []
  pins := .functional
  challenge := none
  tokenResult := 0
  tokensRefused := 0

/-- The SPDM responder (R590). -/
structure Spdm where
  /-- Version negotiated (13 R590; 8 bits). -/
  version : Option Nat
  /-- GET_CAPABILITIES answered (13 R590; 1 bit). -/
  caps : Bool
  /-- Algorithms negotiated (13 R591; 1 bit). -/
  algs : Bool
  /-- KEY_EXCHANGE done, FINISH not yet (13 R590; session, secret, transcript). -/
  handshake : Option (Nat × Bytes × Bytes)
  /-- Secure sessions established (13 R590; session, secret, key generation). -/
  sessions : List (Nat × Bytes × Nat)
  /-- Next responder session identifier (13 R590; 16 bits). -/
  nextSession : Nat
  /-- Version, capability and algorithm messages of the connection (13 R590). -/
  transcript : Bytes
  /-- Digest and certificate messages since the negotiation (13 R590). -/
  certLog : Bytes
  /-- Measurement messages since the last signed ones (13 R592). -/
  measLog : Bytes
  /-- IDE streams whose keys are programmed (15 R631; 9 streams). -/
  ideKeys : List Nat
  /-- IDE streams in their secure state (15 R631; 9 streams). -/
  ideSecure : List Nat
deriving DecidableEq, Repr

/-- Spdm at reset. -/
def Spdm.reset : Spdm where
  version := none
  caps := false
  algs := false
  handshake := none
  sessions := []
  nextSession := 1
  transcript := []
  certLog := []
  measLog := []
  ideKeys := []
  ideSecure := []

/-- EVENT block (R638). -/
structure Events where
  /-- EVENT_EN (15 R638; 1 bit). -/
  en : Bool
  /-- STATUS (15 R638; 48 of 32 bits). -/
  status : Tbl (BitVec 32)
  /-- ENABLE (15 R638; 48 of 32 bits). -/
  enable : Tbl (BitVec 32)
  /-- BMC_ENABLE (15 R638; 48 of 32 bits). -/
  bmc : Tbl (BitVec 32)
  /-- ROUTE (15 R638; 1,536 of 4 bits). -/
  route : Tbl Nat
deriving DecidableEq, Repr

/-- Events at reset. -/
def Events.reset : Events where
  en := false
  status := []
  enable := []
  bmc := []
  route := []

/-- An ATS invalidation that waits for requests under a translation it removed. -/
structure Inval where
  /-- PASID of the request (03 R131; 20 bits). -/
  pasid : Option Nat
  /-- Stall it applies to (03 R131; 12 bits). -/
  stall : Nat
  /-- Pages whose translations it removed (03 R131). -/
  pages : List Nat
deriving DecidableEq, Repr

/-- What the PCIe function holds. -/
structure Pcie where
  /-- Requester ID captured from the last configuration write (03 R129; 16 bits). -/
  rid : Nat
  /-- AtomicOp Requester Enable (15 R629; 1 bit). -/
  atomicEn : Bool
  /-- ATS enable of the function (02 R112; 1 bit). -/
  atsEn : Bool
  /-- Fatal error status in AER (11 R495; 1 bit). -/
  aerFatal : Bool
  /-- MSI-X vectors whose mask bit is clear (15 R626; 4,096 vectors). -/
  unmasked : List Nat
  /-- MSI-X table: message address and message data (15 R626; 4,096 of 64 and 32 bits). -/
  msixTable : Tbl (Nat × Nat)
  /-- Pending bits (02 R120; 4,096 bits). -/
  pba : List Nat
  /-- Notices and event messages withheld by a part Hold (02 R121). -/
  heldMsgs : List Nat
  /-- ATS translations held (02 R112). -/
  trans : List Trans
  /-- Invalidations not completed yet (03 R131). -/
  invs : List Inval
deriving DecidableEq, Repr

/-- Pcie at reset. -/
def Pcie.reset : Pcie where
  rid := 0
  atomicEn := false
  atsEn := false
  aerFatal := false
  unmasked := []
  msixTable := []
  pba := []
  heldMsgs := []
  trans := []
  invs := []

/-- The Mill's DRBG and entropy source. -/
structure Drbg where
  /-- DRBG available (07 R362; 1 bit). -/
  up : Bool
  /-- Bytes drawn so far: the model's index into the free values (07 R360). -/
  next : Nat
  /-- Requests since the last reseed (07 R360; 21 bits). -/
  requests : Nat
  /-- Time of the last reseed (07 R360; ns). -/
  reseedAt : Nat
  /-- Sources excluded until the next cold start (07 R362; 4 sources). -/
  bad : List Nat
  /-- RANDOM orders that wait for the DRBG (07 R362). -/
  waiting : List Nat
  /-- Being reinstantiated after a mismatch (07 R362; 1 bit). -/
  reinst : Bool
  /-- Dispatches of RANDOM orders with PRED_RES within 1 s (07 R361; ns). -/
  predAt : List Nat
deriving DecidableEq, Repr

/-- Drbg at reset. -/
def Drbg.reset : Drbg where
  up := false
  next := 0
  requests := 0
  reseedAt := 0
  bad := []
  waiting := []
  reinst := false
  predAt := []

/-- PERF counters (R641). -/
structure Perf where
  /-- Internal counts (15 R641; 18 of 64 bits). -/
  ctrs : List Nat
  /-- Values the host sees while they hold still (09 R427; 18 of 64 bits). -/
  held : Option (List Nat)
deriving DecidableEq, Repr

/-- Perf at reset. -/
def Perf.reset : Perf where
  ctrs := List.replicate 18 0
  held := none

namespace Machine

/-- The whole part. -/
structure State where
  /-- Commands that are waiting, first in, first out (the model's own field) (block form). -/
  pending : List Instr
  /-- Time of the last command that carried one (the model's own field) (00 R15; ns). -/
  clock : Nat
  /-- Index of the next free value (the model's own field) (13 R562). -/
  free : Nat
  /-- Next name of an order or request (the model's own field) (02 R88). -/
  nextId : Nat
  /-- What the part has put on its balls, oldest first (the model's own record of its outputs) (01 R45). -/
  out : List Out
  /-- Rings by 4 times Stall plus position; one not listed is at reset (02 R58; 16,384 rings). -/
  rings : Tbl Ring
  /-- Stalls; one not listed is at reset (03 R127; 4,096 Stalls). -/
  stalls : Tbl Stall
  /-- Orders between commit and receipt, oldest first (01 R45). -/
  orders : List Order
  /-- Egress queue and transmit buffer (01 R45). -/
  egress : List Tlp
  /-- Scheduler position per engine kind (03 R147; 4 kinds). -/
  cursors : List Nat
  /-- Looms, Forges, Kilns and Mill hash pairs (01 R31; 18, 52, 18, 4). -/
  insts : List (List Inst)
  /-- Muniment (04 R165). -/
  munim : Muniment
  /-- Record store, OTP fuses and flash (13 R549). -/
  mram : Mram
  /-- Keeper world (09 R401). -/
  keeper : Keeper
  /-- Daybook (13 R556). -/
  day : Daybook
  /-- Vigil domain (12 R517). -/
  vigil : Vigil
  /-- Environment monitors (12 R541). -/
  mon : Monitors
  /-- Response ladder, start and lifecycle (11 R487). -/
  faults : Faults
  /-- Worlds and access checks (09 R398). -/
  worlds : Worlds
  /-- Twin Pair (10 R435). -/
  pair : Pair
  /-- Stacks (08 R366). -/
  stk : Stacks
  /-- Sideband and ports (15 R642). -/
  side : Sideband
  /-- JTAG and debug (15 R654). -/
  dbg : Debug
  /-- SPDM and IDE (13 R590). -/
  spdm : Spdm
  /-- EVENT block (15 R638). -/
  ev : Events
  /-- PCIe function (03 R129). -/
  pcie : Pcie
  /-- Random source (07 R360). -/
  drbg : Drbg
  /-- PERF counters (15 R641). -/
  perf : Perf
deriving DecidableEq, Repr

/-- State at reset. -/
def State.reset : State where
  pending := []
  clock := 0
  free := 0
  nextId := 0
  out := []
  rings := []
  stalls := [(0, Stall.zero)]
  orders := []
  egress := []
  cursors := [0, 0, 0, 0]
  insts := [List.replicate 18 Inst.reset, List.replicate 52 Inst.reset, List.replicate 18 Inst.reset, List.replicate 4 Inst.reset]
  munim := Muniment.reset
  mram := Mram.reset
  keeper := Keeper.reset
  day := Daybook.reset
  vigil := Vigil.reset
  mon := Monitors.reset
  faults := Faults.reset
  worlds := Worlds.reset
  pair := Pair.reset
  stk := Stacks.reset
  side := Sideband.reset
  dbg := Debug.reset
  spdm := Spdm.reset
  ev := Events.reset
  pcie := Pcie.reset
  drbg := Drbg.reset
  perf := Perf.reset

/-- Why a step could stop with a fault. The part has no command that stops it for good without the spec saying what
the stop does: every detected fault of the spec ends in Note, Throttle, Hold, Silence or Zeroize (00 R15), which are
states. -/
inductive Fault
  | unreachable   -- raised by no command; safe
deriving DecidableEq, Repr

/-- Why a command could be refused by the model. -/
inductive Refusal
  | notModelled (mnemonic : String)   -- a command without a meaning in Dispatch.lean; safe
deriving DecidableEq, Repr

end Machine

end Sys2Proof
end

