-- ==== Sys2Proof/Machine/Ops.lean ====
section
/-!
DEFINITION. The named operations over the state: rings, Stalls, orders, engine instances, time, outputs and the
egress gate that every command ends with.
-/
namespace Sys2Proof
namespace Machine

/-- What a step of the part answers. -/
abbrev Res := Host.Outcome State Fault Refusal

/-- Number of a ring position in `State.rings` (02 R58). -/
def rix (stall ring : Nat) : Nat := 4 * stall + ring

/-- A ring position; one that is not listed is at reset. -/
def ring (s : State) (st q : Nat) : Ring := Tbl.getD s.rings (rix st q) Ring.reset

/-- The state with a ring position replaced. -/
def setRing (s : State) (st q : Nat) (r : Ring) : State :=
  { s with rings := Tbl.put Ring.reset s.rings (rix st q) r }

/-- The state with a ring position changed. -/
def modRing (s : State) (st q : Nat) (f : Ring → Ring) : State := setRing s st q (f (ring s st q))

/-- A Stall; one that is not listed is at reset, Free. -/
def stall (s : State) (n : Nat) : Stall := Tbl.getD s.stalls n Stall.reset

/-- The state with a Stall replaced. -/
def setStall (s : State) (n : Nat) (x : Stall) : State := { s with stalls := Tbl.put Stall.reset s.stalls n x }

/-- The state with a Stall changed. -/
def modStall (s : State) (n : Nat) (f : Stall → Stall) : State := setStall s n (f (stall s n))

/-- An order by the model's name of it. -/
def order? (s : State) (id : Nat) : Option Order := s.orders.find? (fun o => o.id == id)

/-- The state with an order changed. -/
def modOrder (s : State) (id : Nat) (f : Order → Order) : State :=
  { s with orders := s.orders.map (fun o => if o.id = id then f o else o) }

/-- The state without an order: a fill buffer it held is free (03 R151). -/
def dropOrder (s : State) (id : Nat) : State :=
  { s with orders := s.orders.filter (fun o => o.id != id)
           munim := { s.munim with fillBufs := s.munim.fillBufs.filter (fun i => i != id) } }

/-- Index of an engine kind in the tables of the manual: 0 Looms, 1 Forges, 2 Kilns, 3 Mill (15 R633). -/
def kindIx : EngKind → Nat
  | .loom => 0 | .forge => 1 | .kiln => 2 | .mill => 3

/-- The instances of a kind. -/
def instsOf (s : State) (k : EngKind) : List Inst := s.insts.getD (kindIx k) []

/-- One engine instance. -/
def inst (s : State) (k : EngKind) (i : Nat) : Inst := (instsOf s k).getD i Inst.reset

/-- The state with one engine instance changed. -/
def modInst (s : State) (k : EngKind) (i : Nat) (f : Inst → Inst) : State :=
  { s with insts := modAt (fun l => modAt f l i) s.insts (kindIx k) }

/-- The state with every engine instance changed. -/
def modInsts (s : State) (f : Inst → Inst) : State := { s with insts := s.insts.map (·.map f) }

/-- Edges of the 32.768 kHz oscillator up to a time in ns (12 R526). -/
def oscEdges (t : Nat) : Nat := t * 32768 / 1000000000

/-- The Vigil time after `k` oscillator edges; nothing runs in Dead (12 R517, R526). -/
def vigilRun (k : Nat) (v : Vigil) : Vigil :=
  if v.power = 3 then v
  else { v with seconds := v.seconds + BitVec.ofNat 32 ((v.fraction + k) / 32768), fraction := (v.fraction + k) % 32768 }

/-- Time moves to the time a command brings (log entry 2: it never moves back), and the Vigil time with it. -/
def tick (t : Nat) (s : State) : State :=
  { s with clock := max s.clock t, vigil := vigilRun (oscEdges (max s.clock t) - oscEdges s.clock) s.vigil }

/-- The next free value (a value the manual leaves open). -/
def freeVal (s : State) : Nat × State := (Config.freeValue s.free, { s with free := s.free + 1 })

/-- One output of the part. -/
def emit (o : Out) (s : State) : State := { s with out := s.out ++ [o] }

/-- Several outputs of the part, in order. -/
def emits (os : List Out) (s : State) : State := { s with out := s.out ++ os }

/-- Whether a part Hold is in force (11 R488). -/
def inHold (s : State) : Bool := s.faults.holdCovered

/-- Whether the part is in Silence (11 R495). -/
def inSilence (s : State) : Bool := s.faults.silent

/-- The egress gate with which every command ends: while the part is in Silence before and after the command, the
egress checker passes nothing of the PCIe core (11 R495, 00 R16); and the queue of waiting commands is what it was. -/
def gate (s t : State) : State :=
  { t with
    pending := s.pending
    out := s.out ++ (if s.faults.silent && t.faults.silent then (t.out.drop s.out.length).filter (fun o => !o.pcie)
                     else t.out.drop s.out.length) }

/-- A command that makes `f` of the state. -/
def act (f : State → State) (s : State) : Res := .next (gate s (f s))

/-- The next sequence expected on a channel. -/
def expected (s : State) (ch : Nat) : Nat := s.pair.rxSeq.getD ch 0

/-- The last sequence received in order on a channel. -/
def lastReceived (s : State) (ch : Nat) : Option Nat := if expected s ch = 0 then none else some (expected s ch - 1)

/-- A frame is sent on a channel of the Courier Link: it takes the next sequence number and stays in the replay buffer
until it is acknowledged (10 R444, R446), so no frame key serves two frames of one channel and sequence (10 R445). Without a
session nothing is sent. -/
def sendFrame (ch : Nat) (b : FrameBody) (s : State) : State :=
  if s.pair.session then
    let n := s.pair.txSeq.getD ch 0
    let f : Frame := { ch := ch, epoch := s.pair.sessionEpoch, seq := n, ack := lastReceived s ch, body := b }
    emit (.frame f) { s with pair := { s.pair with txSeq := modAt (· + 1) s.pair.txSeq ch,
                                                   replay := s.pair.replay ++ [(ch, n, f)] } }
  else s

/-- Size of a ring position's order ring in slots (02 R58). -/
def ordSize (r : Ring) : Nat := 2 ^ r.ordLog2

/-- Size of a ring position's receipt ring in slots. -/
def rcpSize (r : Ring) : Nat := 2 ^ r.rcpLog2

/-- Orders of one ring position that are not intake receipts, oldest first. -/
def ringOrders (s : State) (st q : Nat) : List Order := s.orders.filter (fun o => o.stall == st && o.ring == q)

/-- Orders of one Stall. -/
def stallOrders (s : State) (st : Nat) : List Order := s.orders.filter (fun o => o.stall == st)

/-- Whether an order has been dispatched and has no receipt yet. -/
def isDispatched (o : Order) : Bool := o.stage != .committed && !o.intakeErr

/-- INFLIGHT of a Stall: orders dispatched and not receipted, at the Stall's generation (03 R141, R142). -/
def inflight (s : State) (st : Nat) : Nat :=
  ((stallOrders s st).filter (fun o => isDispatched o && o.gen == (stall s st).gen)).length

/-- Whether an order occupies Forge or Kiln slots. -/
def isPk (o : Order) : Bool := o.insts.any (fun p => p.1 == .forge || p.1 == .kiln)

/-- PK_NOW of a Stall: Forge and Kiln operations in progress at its generation (03 R141, R161). -/
def pkNow (s : State) (st : Nat) : Nat :=
  ((stallOrders s st).filter (fun o => isPk o && o.gen == (stall s st).gen)).length

/-- CACHE_NOW of a Stall: cache entries it last used (03 R141). -/
def cacheNow (s : State) (st : Nat) : Nat := (s.munim.cache.filter (fun e => e.stall == st)).length

/-- Stalls that are Bound, by number (03 R127). -/
def boundStalls (s : State) : List (Nat × Stall) := s.stalls.filter (fun p => p.2.state != .free)

/-- Bound Stalls of an Owner. -/
def stallsOf (s : State) (owner : Nat) : List (Nat × Stall) := (boundStalls s).filter (fun p => p.2.owner == owner)

/-- Sum of WEIGHT over the Stalls of an Owner (03 R125). -/
def weightOf (s : State) (owner : Nat) : Nat := ((stallsOf s owner).map (fun p => p.2.weight)).sum

/-- Add to a PERF counter (15 R641). -/
def perfAdd (i n : Nat) (s : State) : State :=
  { s with perf := { s.perf with ctrs := modAt (· + n) s.perf.ctrs i } }

end Machine
end Sys2Proof
end

