-- ==== Sys2Proof/Machine/Evidence.lean ====
section
/-!
DEFINITION. Events and MSI-X messages (15 R638 to R640, 02 R120), the Tallies (13 R579 to R583), the Daybook (13 R552 to
R562) and the heads of the two Rolls (13 R564, R573).
-/
namespace Sys2Proof
namespace Machine

/-- SHA-384 (hash code 2 of 06 R294). -/
def sha384 (b : Bytes) : Bytes := take 48 (Config.hash 2 b)

/-- The serial number of the part, 16 bytes (15 R633). -/
def serial : Bytes := take 16 Config.serialByte

-- Messages -----------------------------------------------------------------------------------------------------------

/-- An MSI-X message to a vector: held while masked (pending bit, 02 R120), withheld during a part Hold (02 R121,
15 R640), none in Silence. -/
def sendMsix (v : Nat) (s : State) : State :=
  if s.faults.silent then s
  else if !(s.pcie.unmasked.contains v) then
    { s with pcie := { s.pcie with pba := if s.pcie.pba.contains v then s.pcie.pba else s.pcie.pba ++ [v] } }
  else if inHold s then { s with pcie := { s.pcie with heldMsgs := s.pcie.heldMsgs ++ [v] } }
  else perfAdd 14 1 (emit (.msix v) s)

/-- STATUS of a group of 32 event sources (15 R638). -/
def evStatus (s : State) (g : Nat) : BitVec 32 := Tbl.getD s.ev.status g 0
/-- ENABLE of a group. -/
def evEnable (s : State) (g : Nat) : BitVec 32 := Tbl.getD s.ev.enable g 0
/-- BMC_ENABLE of a group. -/
def evBmc (s : State) (g : Nat) : BitVec 32 := Tbl.getD s.ev.bmc g 0
/-- ROUTE of a source. -/
def evRoute (s : State) (src : Nat) : Nat := Tbl.getD s.ev.route src 0

/-- BMC_PENDING (15 R638): bit g is set when STATUS[g] AND BMC_ENABLE[g] is non-zero. -/
def bmcPending (s : State) : Nat :=
  ((List.range 48).filter (fun g => (evStatus s g &&& evBmc s g) != 0)).foldl (fun n g => n + 2 ^ g) 0

/-- PENDING (15 R638). -/
def evPending (s : State) : Nat :=
  ((List.range 48).filter (fun g => (evStatus s g &&& evEnable s g) != 0)).foldl (fun n g => n + 2 ^ g) 0

/-- The event IBI (15 R646): raised when BMC_PENDING has become non-zero, the BMC has enabled IBI, and BMC_PENDING has
read zero since the last one. -/
def ibiCheck (s : State) : State :=
  match (List.range 48).find? (fun g => (evStatus s g &&& evBmc s g) != 0) with
  | none => { s with side := { s.side with ibiArmed := true } }
  | some g =>
    if s.side.ibiEn && s.side.ibiArmed then
      emit (.ibi [0xA0, BitVec.ofNat 8 g]) { s with side := { s.side with ibiArmed := false } }
    else s

/-- An event source occurs (15 R640): a message goes to its routed vector when its status bit goes from 0 to 1 while
its enable and EVENT_EN are 1. -/
def event (src : Nat) (s : State) : State :=
  let g := src / 32
  let m : BitVec 32 := 1 <<< (src % 32)
  if (evStatus s g &&& m) != 0 then s
  else
    let s1 := { s with ev := { s.ev with status := Tbl.put 0 s.ev.status g (evStatus s g ||| m) } }
    let s2 := if (evEnable s g &&& m) != 0 && s.ev.en then sendMsix (4080 + evRoute s src) s1 else s1
    ibiCheck s2

-- Tallies ------------------------------------------------------------------------------------------------------------

/-- A Tally (13 R579). -/
def tally (s : State) (n : Nat) : Tally := Tbl.getD s.mram.tallies n Tally.reset

/-- Largest value of a Tally (13 R583). -/
def tallyMax : Nat := 2 ^ 48 - 1

/-- The Owner whose loaded record allots a Tally (04 R185). -/
def tallyOwner (s : State) (n : Nat) : Option Nat :=
  (s.keeper.loaded.find? (fun p => decide (p.2.tallyFirst ≤ n) && decide (n < p.2.tallyFirst + p.2.tallyCount))).map
    (fun p => p.1)

-- The Daybook --------------------------------------------------------------------------------------------------------

/-- Severity values of a record (13 R553). -/
def sevInfo : Nat := 0
def sevNote : Nat := 1
def sevThrottle : Nat := 2
def sevHold : Nat := 3
def sevSilence : Nat := 4
def sevZeroize : Nat := 5

/-- Source class of an event code (13 R552, R554). -/
def srcClass (code : Nat) : Nat := code / 256

/-- Whether a class is protected: Tamper, Quorum or Lifecycle (13 R554). -/
def isProt (r : DbRec) : Bool := decide (1 ≤ srcClass r.code) && decide (srcClass r.code ≤ 3)

/-- The 32 bytes of a Daybook record (13 R552). -/
def dbBytes (r : DbRec) : Bytes :=
  let b := leBytes 2 r.code ++
    [BitVec.ofNat 8 (r.sev + (if r.subsumed then 8 else 0) + (if r.twin then 16 else 0) + (if r.repeatFull then 32 else 0)),
     BitVec.ofNat 8 (srcClass r.code)] ++
    leBytes 4 r.hours ++ leBytes 3 r.pcycles ++ [0] ++ leBytes 2 r.seq ++ leBytes 2 r.repeats ++
    leBytes 4 r.p0 ++ leBytes 4 r.p1 ++ leBytes 4 r.p2
  b ++ leBytes 4 (crc32 b).toNat

/-- The `pcycles` field: low 24 bits of Tally 1, all ones once it is Exhausted (13 R552, R582); 0 in a start that forms no
anchor MAC key (14 R682). -/
def pcyclesNow (s : State) : Nat :=
  if s.faults.skipStep4 then 0 else if (tally s 1).exhausted then 0xFFFFFF else (tally s 1).value % 2 ^ 24

/-- The `hours` field: low 32 bits of Tally 2 (13 R552, R582); 0 in a start that forms no anchor MAC key (14 R682). -/
def hoursNow (s : State) : Nat := if s.faults.skipStep4 then 0 else (tally s 2).value % 2 ^ 32

/-- A record as it is made now, with the next sequence value. -/
def newRec (s : State) (code sev : Nat) (sub : Bool) (p0 p1 p2 : Nat) : DbRec :=
  { code := code, sev := sev, subsumed := sub, twin := false, repeatFull := false, hours := hoursNow s,
    pcycles := pcyclesNow s, seq := s.mram.nextSeq, repeats := 0, p0 := p0 % 2 ^ 32, p1 := p1 % 2 ^ 32,
    p2 := p2 % 2 ^ 32 }

/-- Age of a record: pcycles, then hours, then sequence (13 R594). -/
def dbAge (r : DbRec) : Nat := r.pcycles * 2 ^ 48 + r.hours * 2 ^ 16 + r.seq

/-- The slot of the oldest record of the lowest severity held in the general area (13 R559). -/
def generalVictim : Tbl DbRec → Option (Nat × DbRec)
  | [] => none
  | p :: r =>
    match generalVictim r with
    | none => some p
    | some q =>
      if p.2.sev < q.2.sev || (p.2.sev == q.2.sev && decide (dbAge p.2 ≤ dbAge q.2)) then some p else some q

/-- Index of a protected class: 0 Tamper, 1 Quorum, 2 Lifecycle (13 R594). -/
def protIx (r : DbRec) : Nat := srcClass r.code - 1

/-- One record placed in MRAM: the protected areas by R560, the general area by R559 (a record whose severity lies below
every severity held is dropped and counted, R558). -/
def placeRec (s : State) (r : DbRec) : State :=
  if isProt r then
    let c := protIx r
    let n := s.mram.protCount.getD c 0
    let slot := 512 * c + (if n < 256 then n else 256 + (n - 256) % 256)
    { s with mram := { s.mram with protect := Tbl.ins s.mram.protect slot r,
                                   protCount := modAt (· + 1) s.mram.protCount c } }
  else if s.mram.general.length < 4096 then
    { s with mram := { s.mram with general := Tbl.ins s.mram.general s.mram.general.length r } }
  else
    match generalVictim s.mram.general with
    | none => s
    | some (slot, v) =>
      if v.sev ≤ r.sev then { s with mram := { s.mram with general := Tbl.ins s.mram.general slot r } }
      else { s with day := { s.day with dropped := s.day.dropped + 1, droppedReg := satAdd 16 s.day.droppedReg 1 } }

/-- The record 0x0C01 with the counts of R558, when there are any. -/
def dropRec (s : State) : List DbRec :=
  if s.day.dropped + s.day.replaced = 0 then []
  else [newRec s 0x0C01 sevNote false s.day.dropped s.day.replaced 0]

/-- The buffered records reach MRAM in sequence order (13 R556, R561), with the record of the counts of R558. -/
def flushAll (s : State) : State :=
  let extra := dropRec s
  let s1 := { s with mram := { s.mram with nextSeq := (s.mram.nextSeq + extra.length) % 2 ^ 16 } }
  let s2 := (s.day.buf ++ extra).foldl placeRec
    { s1 with day := { s.day with buf := [], dropped := if extra.isEmpty then s.day.dropped else 0,
                                  replaced := if extra.isEmpty then s.day.replaced else 0 } }
  s2

/-- A flush begins; one that is due while another runs follows it (13 R556). -/
def beginFlush (s : State) : State :=
  if s.day.flushing then { s with day := { s.day with flushAgain := true } }
  else { s with day := { s.day with flushing := true } }

/-- Whether a buffered record takes a further occurrence of an event (13 R555). Records of a protected class are written
through one by one and never merged (13 R557, log entry 20). -/
def merges (code sev p0 : Nat) (r : DbRec) : Bool :=
  r.code == code && r.sev == sev && r.p0 == p0 % 2 ^ 32 && !r.twin && !r.repeatFull && !isProt r

/-- Replace the most recent buffered record that `p` accepts by a new one at the end (13 R558). -/
def replaceLast (p : DbRec → Bool) (r : DbRec) (buf : List DbRec) : Option (List DbRec) :=
  if buf.any p then some ((buf.reverse.eraseP p).reverse ++ [r])
  else none

/-- A new record enters the buffer, or is handled as R558 sets out when the buffer is full. -/
def enterRec (r : DbRec) (s : State) : State :=
  let s := { s with mram := { s.mram with nextSeq := (s.mram.nextSeq + 1) % 2 ^ 16 } }
  if s.day.buf.length < 128 then
    let s1 := { s with day := { s.day with buf := s.day.buf ++ [r] } }
    if isProt r || decide (3 ≤ r.sev) || decide (96 ≤ s1.day.buf.length) then beginFlush s1 else s1
  else
    let p : DbRec → Bool := if isProt r then fun x => decide (x.sev ≤ 1) && !isProt x
                            else fun x => decide (x.sev < r.sev) && !isProt x
    let lost : State → State := fun s =>
      event 9 { s with day := { s.day with droppedReg := satAdd 16 s.day.droppedReg 1 } }
    if isProt r || decide (3 ≤ r.sev) then
      match replaceLast p r s.day.buf with
      | some b => beginFlush (lost { s with day := { s.day with buf := b, replaced := s.day.replaced + 1 } })
      | none =>
        if isProt r then
          let s1 := flushAll s
          beginFlush { s1 with day := { s1.day with buf := s1.day.buf ++ [r] } }
        else lost { s with day := { s.day with dropped := s.day.dropped + 1 } }
    else lost { s with day := { s.day with dropped := s.day.dropped + 1 } }

/-- An event of the Daybook (13 R555): a repeat of a buffered record, or a new record. `enter` places a new record. -/
def recordWith (enter : DbRec → State → State) (sub : Bool) (code sev p0 p1 p2 : Nat) (s : State) : State :=
  match s.day.buf.find? (merges code sev p0) with
  | some r =>
    if r.repeats < 0xFFFF then
      { s with day := { s.day with
          buf := modFirst (merges code sev p0)
            (fun x => { x with repeats := x.repeats + 1, p1 := p1 % 2 ^ 32, p2 := p2 % 2 ^ 32 }) s.day.buf } }
    else
      enter (newRec s code sev sub p0 p1 p2)
        { s with day := { s.day with
            buf := modFirst (merges code sev p0) (fun x => { x with repeatFull := true }) s.day.buf } }
  | none => enter (newRec s code sev sub p0 p1 p2) s

/-- A Note of a source class for which R563 lists no code: its low byte and parameters are open (log entry 44). -/
def note (cls which : Nat) (s : State) : State :=
  recordWith enterRec false (cls * 256 + Config.noteLow which % 256) sevNote (Config.noteParam which 0)
    (Config.noteParam which 1) (Config.noteParam which 2) s

/-- An evidence item for the twin (10 R474): up to 256 unacknowledged items are kept; when the queue is full the oldest is
dropped and a Note recorded. -/
def queueEvidence (kind seq : Nat) (body : Bytes) (s : State) : State :=
  if s.pair.bound then
    let full := decide (256 ≤ s.pair.evidence.length)
    let q := if full then s.pair.evidence.drop 1 else s.pair.evidence
    let s1 := { s with pair := { s.pair with evidence := q ++ [(kind, seq, body)] } }
    sendFrame 0 (.evidence kind seq body) (if full then note 0x0A 1 s1 else s1)
  else s

/-- A new record enters the buffer; the twin gets those of a protected class (10 R474). -/
def enterOwn (r : DbRec) (s : State) : State :=
  let s1 := enterRec r s
  if isProt r then queueEvidence 2 r.seq (dbBytes r) s1 else s1

/-- An event of the Daybook, with its SUBSUMED mark given. -/
def recordSub (sub : Bool) (code sev p0 p1 p2 : Nat) (s : State) : State :=
  recordWith enterOwn sub code sev p0 p1 p2 s

/-- Severity of the response in force: what a record of a milder response is subsumed by (11 R494). -/
def levelInForce (s : State) : Nat :=
  if s.faults.silent then (if s.faults.lastLevel = 2 then sevZeroize else sevSilence)
  else if s.faults.holdCovered then sevHold
  else if s.mon.throttle || s.mon.stacksThrottle then sevThrottle else sevInfo

/-- An event of the Daybook with the SUBSUMED mark of R494: set when a more severe response was already in force. A
record of severity Info or Note had no response that another could replace (log entry 21). -/
def record (code sev p0 p1 p2 : Nat) (s : State) : State :=
  recordSub (decide (2 ≤ sev) && decide (sev < levelInForce s)) code sev p0 p1 p2 s

/-- A record of a protected class, written through: its effect follows only after the flush that carries it (13 R557),
so the flush is made within the step. -/
def recordThrough (code sev p0 p1 p2 : Nat) (s : State) : State := flushAll (record code sev p0 p1 p2 s)

/-- The boot number of records: Tally 0, which a start that forms no anchor MAC key does not read (14 R682). -/
def startNumber (s : State) : Nat := if s.faults.skipStep4 then 0 else (tally s 0).value

/-- Advance a Tally by `k` (13 R583): it saturates and becomes Exhausted, or wears out when its writes reach
8,000,000,000, and an Exhausted Tally is never advanced again. -/
def tallyAdd (n k : Nat) (s : State) : State :=
  let t := tally s n
  let put (t' : Tally) (s : State) : State := { s with mram := { s.mram with tallies := Tbl.put Tally.reset s.mram.tallies n t' } }
  let exh (why : Nat) (v : Nat) (s : State) : State :=
    let s1 := event 12 (record 0x0C02 sevNote n why v s)
    match tallyOwner s n with
    | some o => if 32 ≤ n then event (512 + o) s1 else s1
    | none => s1
  if s.faults.skipStep4 || t.exhausted then s
  else if 8000000000 ≤ t.writes then
    exh 2 t.value (put { t with exhausted := true, worn := true, writes := t.writes + 1 } s)
  else if tallyMax < t.value + k then
    exh 1 tallyMax (put { t with value := tallyMax, exhausted := true, writes := t.writes + 1 } s)
  else put { t with value := t.value + k, writes := t.writes + 1 } s

-- The Rolls ----------------------------------------------------------------------------------------------------------

/-- The 64 bytes of a Tamper Roll entry (13 R564). -/
def rollBytes (e : RollEntry) : Bytes :=
  leBytes 4 e.number ++ [BitVec.ofNat 8 e.kind] ++ zeros 3 ++ leBytes 3 e.pcycles ++ [0] ++ leBytes 4 e.hours ++
    fit 16 e.body ++ fit 32 e.link

/-- The 16-byte tag of an item of the record store (13 R565, R573): KMAC256 under the anchor MAC key over the item's index and
the item. A start that forms no anchor MAC key writes none (14 R682). -/
def storeTag (s : State) (custom : String) (index item : Bytes) : Bytes :=
  match s.munim.anchorKey with
  | some k => take 16 (Config.kmac256 k (index ++ item) 32 (ascii custom))
  | none => []

/-- The tag of a Tamper Roll entry (13 R565). -/
def rollTag (s : State) (e : RollEntry) : Bytes := storeTag s "UT-TROLL" (leBytes 4 e.number) (rollBytes e)

/-- Whether a Tamper Roll entry that is read has its tag (13 R565). -/
def rollTagOk (s : State) (e : RollEntry) : Bool := e.tag == rollTag s e

/-- The Tamper Roll head (13 R564). -/
def rollHead (s : State) : Bytes :=
  match s.mram.troll.getLast? with
  | some e => sha384 (rollBytes e)
  | none => sha384 (ascii "UT-TROLL" ++ serial)

/-- Append an entry to the Tamper Roll (13 R566 to R569): Tally 3 is advanced first; a full Roll, or one whose Tally is
Exhausted, keeps its entries. The answer is the entry number, none when not entered. -/
def rollAppend (kind : Nat) (body : Bytes) (s : State) : Option Nat × State :=
  let full := decide (8192 ≤ s.mram.troll.length) || (tally s 3).exhausted
  let s1 := tallyAdd 3 1 s
  if full then (none, s1)
  else
    let n := s1.mram.troll.length
    let e : RollEntry := { number := n, kind := kind, pcycles := pcyclesNow s1, hours := hoursNow s1, body := fit 16 body,
                           link := (rollHead s1).take 32, tag := [] }
    let s2 := queueEvidence 1 n (rollBytes e)
      (event 10 { s1 with mram := { s1.mram with troll := s1.mram.troll ++ [{ e with tag := rollTag s1 e }] } })
    (some n, if n + 1 = 8192 then event 11 s2 else s2)

/-- The header block of a Boot Roll entry (13 R570). -/
def bootHeader (e : BootEntry) : Bytes :=
  [0x55, 0x54, 0x42, 0x52, 1, BitVec.ofNat 8 e.start] ++ zeros 2 ++ leBytes 6 e.boot ++ zeros 2 ++ fit 48 e.previous

/-- Any other block of a Boot Roll entry (13 R571). -/
def bootBlock (b : BootBlk) : Bytes :=
  [BitVec.ofNat 8 b.kind, BitVec.ofNat 8 b.index] ++ leBytes 2 b.source ++ leBytes 4 b.seconds ++ leBytes 4 b.detail ++
    zeros 4 ++ fit 48 b.value

/-- The value M of an entry after its last block (13 R573). -/
def bootM (e : BootEntry) : Bytes := e.blocks.foldl (fun m b => sha384 (m ++ bootBlock b)) (sha384 (bootHeader e))

/-- The tag of block `i` of a Boot Roll entry, the header being block 0 (13 R573; log entry 143). -/
def bootTag (s : State) (boot i : Nat) (block : Bytes) : Bytes := storeTag s "UT-BROLL" (leBytes 6 boot ++ leBytes 1 i) block

/-- The blocks of a Boot Roll entry as bytes, the header first. -/
def bootBlocksOf (e : BootEntry) : List Bytes := bootHeader e :: e.blocks.map bootBlock

/-- The entry with the tags of all its blocks. -/
def bootTagged (s : State) (e : BootEntry) : BootEntry :=
  { e with tags := (bootBlocksOf e).zipIdx.map (fun p => bootTag s e.boot p.2 p.1) }

/-- Whether every block of a Boot Roll entry that is read has its tag (13 R573). -/
def bootTagsOk (s : State) (e : BootEntry) : Bool := e.tags == (bootTagged s e).tags

/-- The entry of the current start, when one is open or final in this start (13 R575). -/
def bootEntry (s : State) : Option BootEntry :=
  s.day.bootCur.bind (fun b => (Tbl.find? s.mram.broll (b % 1024)).bind (fun e => if e.boot = b then some e else none))

/-- BOOT_HEAD (13 R573). -/
def bootHead (s : State) : Bytes :=
  match bootEntry s with
  | some e => bootM e
  | none => zeros 48

/-- The Vigil seconds as Boot Roll blocks carry them: all ones while the time is not valid (13 R571). -/
def vigilSeconds (s : State) : Nat := if s.vigil.timeValid then s.vigil.seconds.toNat else 0xFFFFFFFF

/-- A block appended to the entry of the current start (13 R573). -/
def bootAppend (kind index source detail : Nat) (value : Bytes) (s : State) : State :=
  match s.day.bootCur with
  | none => s
  | some b =>
    match Tbl.find? s.mram.broll (b % 1024) with
    | none => s
    | some e =>
      let blk : BootBlk := { kind := kind, index := index, source := source, seconds := vigilSeconds s,
                             detail := detail % 2 ^ 32, value := fit 48 value }
      { s with mram := { s.mram with broll := Tbl.ins s.mram.broll (b % 1024) { e with
        blocks := e.blocks ++ [blk], tags := e.tags ++ [bootTag s e.boot (e.blocks.length + 1) (bootBlock blk)] } } }

end Machine
end Sys2Proof
end

