-- ==== Sys2Proof/Machine/Ladder.lean ====
section
/-!
DEFINITION. The response ladder: re-execution and completion of orders, part Holds, Silence, Zeroize, and the
retirement and promotion of engine instances (Fault Containment and the Response Ladder, 01 R31 to R37).
-/
namespace Sys2Proof
namespace Machine

/-- Engine kind of an opcode class (02 R78). -/
def classKind (opcode : Nat) : Option EngKind :=
  match opcode / 256 with
  | 1 => some .loom | 2 => some .loom | 3 => some .forge | 4 => some .kiln | 5 => some .mill | _ => none

/-- Whether an opcode is of a class that the Shop world parses: 0x06, 0x07 or 0x0F (02 R78). -/
def isFirmware (opcode : Nat) : Bool := opcode / 256 == 6 || opcode / 256 == 7 || opcode / 256 == 15

/-- Groups of a kind: instances are numbered group by group, and the last of a group is its spare at the start (01 R31;
log entry 22). -/
def groupSize : EngKind → Nat
  | .loom => 9 | .forge => 13 | .kiln => 9 | .mill => 4

/-- Floorplan group of an instance (01 R31). -/
def groupOf (k : EngKind) (i : Nat) : Nat := i / groupSize k

/-- Instances of a kind by status. -/
def withStatus (s : State) (k : EngKind) (st : InstStatus) : List Nat :=
  (List.range (instsOf s k).length).filter (fun i => (inst s k i).status == st)

/-- The engine code of Daybook parameters (13 R563, 09 R404): the instance in [7:0], the engine code in [11:8]. -/
def engCode (k : EngKind) (i : Nat) : Nat := (kindIx k + 2) * 256 + i

/-- The slots of a Forge or Kiln operation that runs to completion although its result will be discarded (03 R161,
06 R323). -/
def leaveRunning (o : Order) (s : State) : State :=
  (o.insts.filter (fun p => p.1 == .forge || p.1 == .kiln)).foldl
    (fun s p => modInst s p.1 p.2 (fun x => { x with discard := x.discard ++ [o.id] })) s

/-- The key slots an order locks are unlocked (04 R207). -/
def unlockKeys (id : Nat) (s : State) : State :=
  { s with munim := { s.munim with
      keys := (s.munim.keys.map (fun t => (t.1, if t.2.lock = some id then { t.2 with lock := none } else t.2))).filter
        (fun t => t.2 != KeySlot.reset) } }

/-- An order's result is settled: its receipt is due (02 R100, 01 R50). -/
def settle (id : Nat) (r : Result) (s : State) : State :=
  unlockKeys id (modOrder s id (fun o => { o with stage := .done, result := some r, copyA := none, copyB := none,
                                                  insts := [], compareAt := s.clock }))

/-- An order completes with a status and a result word and no output. -/
def complete (id status word : Nat) (s : State) : State :=
  settle id { status := status, word := word, out := [], aux := [] } s

/-- TLPs of an order leave the egress queue, and those its Loom has not handed over are dropped (01 R47, 03 R157). -/
def dropTlps (id : Nat) (s : State) : State :=
  modOrder { s with egress := s.egress.filter (fun x => x.order != id) } id (fun o => { o with outWait := [] })

/-- An order is to be run again from its start (11 R491 to R493). A fifth run completes with 0x0512. A stateful order
whose commit-point write has been made keeps its result, and only its receipt is made again (09 R431). -/
def reexec (id : Nat) (s : State) : State :=
  match order? s id with
  | none => s
  | some o =>
    let s := dropTlps id s
    if o.intakeErr || o.commit != .none || (isFirmware o.opcode && o.stage == .done) then
      modOrder s id (fun o => { o with rcptQueued := false, outSent := false })
    else if o.stage == .committed || o.stage == .redo then s
    else if 4 ≤ o.runs then
      complete id 0x0512 0 (leaveRunning o (modOrder s id (fun o => { o with reexec := true, rcptQueued := false })))
    else
      perfAdd 10 1 (modOrder (leaveRunning o s) id (fun o =>
        { o with stage := .redo, reexec := true, insts := [], copyA := none, copyB := none, result := none,
                 rcptQueued := false, outSent := false, staged := false, fwLost := false, quorumAt := none, items := [] }))

/-- The working-key registers are cleared (04 R192). -/
def clearWorking (s : State) : State := modInsts s (fun x => { x with wregs := [] })

/-- What a staged order has fetched from the host is discarded (05 R282): it is read again after the Hold. -/
def dropStaged (o : Order) : Order :=
  if o.staged && (o.stage == .waitInput || o.stage == .ready || o.stage == .waitSeed) then
    { o with stage := .waitInput, input := if o.flags.getLsbD 0 || o.inLen = 0 then o.input else none,
             aux := if o.flags.getLsbD 2 || o.auxLen = 0 then o.aux else none }
  else o

/-- A cause of a part Hold arises (11 R488, R491, R494): dispatch and the egress checker stop, event 2 at entry; the
working-key registers and the fetched input of staged orders are cleared (04 R192, 05 R282). -/
def holdEnter (c : HoldCause) (tainting : Bool) (s : State) : State :=
  if s.faults.silent then s
  else
    let f := s.faults
    let f1 := { f with holds := if f.holds.contains c then f.holds else f.holds ++ [c] }
    if f.holdCovered then { s with faults := { f1 with holdTaint := f.holdTaint || tainting } }
    else
      perfAdd 12 1 (event 2 { clearWorking { s with orders := s.orders.map dropStaged } with faults :=
        { f1 with holdCovered := true, holdTaint := tainting, holdAt := s.clock } })

/-- A cause of a part Hold clears; the Hold itself ends with HOLD_END once no cause is left (11 R494). -/
def holdClear (c : HoldCause) (s : State) : State :=
  { s with faults := { s.faults with holds := s.faults.holds.filter (fun x => x != c) } }

/-- The frame that tells the twin of the Silence (10 R452): sent while a session is formed. -/
def silenceFrame (level cause : Nat) (s : State) : State :=
  if s.pair.session then emit (.frame { ch := 0, epoch := s.pair.sessionEpoch, seq := s.pair.txSeq.getD 0 0, ack := lastReceived s 0, body := .silence level cause s.mram.nextSeq })
    { s with pair := { s.pair with session := false, sessionKey := none, frameKeys := none, ptk := none } } else s

/-- Engine registers on entry to Silence (11 R495): working keys, buffers, mask registers and the Bindery keys are cleared, no
engine runs, no discarded run goes on. -/
def stopEngines (s : State) : State :=
  let s1 := modInsts s (fun x => { x with wregs := [], loomBufs := [], heldBy := none, checks := [], masks := [], dirty := 0,
                                          discard := [] })
  { s1 with stk := { s1.stk with keysFormed := false } }

/-- Silence (11 R495, R497, R512), level 1, or 2 when Zeroize leads to it. A cause that arises in Silence is recorded;
a Zeroize cause then still raises the level shown. -/
def silenceAt (level cause : Nat) (s : State) : State :=
  let sev := if level = 2 then sevZeroize else sevSilence
  if s.faults.silent then
    let s1 := record 0x0D01 sev cause level (startNumber s) s
    if s.faults.lastLevel < level then
      tallyAdd 7 1 { s1 with faults := { s1.faults with lastCause := cause, lastLevel := level } }
    else s1
  else
    let s1 := record 0x0D01 sev cause level (startNumber s) s
    let s2 := tallyAdd 6 1 s1
    let s3 := if level = 2 then tallyAdd 7 1 s2 else s2
    let day := within (24 * 3600 * 1000000000) s.faults.silences s.clock
    let s4 := beginFlush (stopEngines (silenceFrame level cause s3))
    let s5 := emit .errFatal s4
    { s5 with
      egress := []
      orders := s5.orders.map dropStaged
      faults := { s5.faults with
        silent := true, phase := .silent, silentAt := s.clock, ready := false, lastCause := cause, lastLevel := level,
        silences := day,
        silenceLatched := s.faults.silenceLatched || decide (4 ≤ day.length) || s.faults.phase != .running,
        holds := [], holdCovered := false, holdTaint := false }
      pcie := { s5.pcie with aerFatal := true, heldMsgs := [] } }

/-- Silence with a cause of R496. -/
def silence (cause : Nat) (s : State) : State := silenceAt 1 cause s

/-- Source codes of tamper-buffer entries (12 R539). -/
def tbMainZeroize : Nat := 0x20
def tbSealWritten : Nat := 0x30
def tbSealCleared : Nat := 0x31
def tbTimeInvalid : Nat := 0x32

/-- A tamper-buffer entry (12 R539, R540): with 64 untransferred entries the oldest of entries 32 to 63 gives way; two
moves of one kind within 1 s are entered once. -/
def tbufAdd (source detail param : Nat) (s : State) : State :=
  let v := s.vigil
  let move := source == 0x42 || source == 0x43
  let again := move && v.lastMove.any (fun p => p.2 == source && decide (s.clock < p.1 + 1000000000))
  let moves := if move then v.lastMove.filter (fun p => p.2 != source) ++ [(s.clock, source)] else v.lastMove
  if v.power = 3 then s
  else if again then { s with vigil := { v with lastMove := moves } }
  else
    let e : TEntry := { seconds := v.seconds.toNat, fraction := v.fraction, valid := v.timeValid, source := source,
                        detail := detail, param := param % 2 ^ 16, power := v.power }
    let full := decide (64 ≤ v.tbuf.length)
    { s with vigil := { v with lastMove := moves,
                               tbuf := (if full then v.tbuf.take 32 ++ v.tbuf.drop 33 else v.tbuf) ++ [e],
                               tbufOver := if full then satAdd 16 v.tbufOver 1 else v.tbufOver } }

/-- The Seal latch is cleared (12 R528, R531): seed and complement read as zero, and an entry is made. -/
def clearSeal (s : State) : State :=
  tbufAdd tbSealCleared 0 0 { s with vigil := { s.vigil with seed := 0, seedInv := 0 } }

/-- Every volatile key is cleared (11 R498 step 3): the Muniment's and the Stacks' keys, those that orders, card sessions and
the pair session hold (04 R204). -/
def clearKeys (s : State) : State :=
  let s1 := stopEngines s
  { s1 with
    munim := { s1.munim with watermark := none, deviceRoot := none, anchorKey := none, storeKey := none, ids := false,
                             keys := [], cache := [], backup := none, restore := [] }
    orders := s1.orders.map (fun o => { o with recA := none, recB := none })
    side := { s1.side with ports := s1.side.ports.map (fun p => { p with skey := none }) }
    pair := { s1.pair with sessionKey := none, frameKeys := none, ptk := none, session := false, pairSecret := none }
    drbg := { s1.drbg with up := false } }

/-- Zeroize (11 R498; 12 R539): the zeroize line, the Seal latch, every volatile key, and Silence; the main-domain fault
logic enters the cause in the tamper buffer. The SILENCE frame to the twin leaves under the session's keys (10 R452), so they
are the last to go. -/
def zeroize (cause : Nat) (s : State) : State :=
  let s1 := { s with faults := { s.faults with zeroizeLine := true } }
  clearKeys (silenceAt 2 cause (tbufAdd tbMainZeroize 0 cause (clearSeal s1)))

/-- Instances of a kind that the part needs at least (11 R504). -/
def minActive : EngKind → Nat
  | .loom => 1 | .forge => 2 | .kiln => 2 | .mill => 2

/-- Instances that count as active: the active set and the suspects that may return to it (01 R35, 11 R502). -/
def activeCount (s : State) (k : EngKind) : Nat := (withStatus s k .active).length + (withStatus s k .suspect).length

/-- The spare that may replace a retired instance: of the same group (01 R34). -/
def spareFor (s : State) (k : EngKind) (i : Nat) : Option Nat :=
  (withStatus s k .spare).find? (fun j => groupOf k j == groupOf k i)

/-- An instance is retired (11 R504, R505; 01 R35 to R37): its orders are re-executed, the retirement is recorded, and a
kind below its minimum ends in Silence 0x0005. `why` is parameter 2 of record 0x0601. -/
def retire (k : EngKind) (i why : Nat) (s : State) : State :=
  if (inst s k i).status == .retired then s
  else
    let wasSpare := (inst s k i).status == .spare
    let s1 := modInst s k i (fun x => { x with status := .retired, strikes := [], heldFor := none, discard := [],
                                               wregs := [], loomBufs := [], heldBy := none, checks := [], masks := [] })
    let s2 := event 5 (record 0x0601 sevNote (engCode k i) 1 why s1)
    let hit := (s.orders.filter (fun o => o.insts.contains (k, i))).map (fun o => o.id)
    let s3 := hit.foldl (fun s id => reexec id s) s2
    let s4 := if (withStatus s3 k .spare).isEmpty && !(withStatus s k .spare).isEmpty && wasSpare then event 7 s3 else s3
    if activeCount s4 k < minActive k then silence 0x0005 s4 else s4

/-- A spare is ungated and enters the active set (01 R35): it replaces the lowest retired instance of its group that no other spare
replaced. -/
def promote (k : EngKind) (j : Nat) (s : State) : State :=
  match (withStatus s k .retired).find? (fun i => groupOf k i == groupOf k j && !((instsOf s k).any (fun x => x.replaces == some i))) with
  | none => s
  | some i =>
    let s1 := modInst s k j (fun x => { x with status := .active, gated := false, replaces := some i })
    let s2 := event 6 (record 0x0601 sevInfo (engCode k j) 2 i s1)
    if (withStatus s2 k .spare).isEmpty then event 7 s2 else s2

/-- A strike on an instance (11 R502): it becomes suspect, or is retired at the second within 24 h. -/
def strike (p : EngKind × Nat) (s : State) : State :=
  let x := inst s p.1 p.2
  let ts := within (24 * 3600 * 1000000000) x.strikes s.clock
  if x.status != .active && x.status != .suspect then s
  else if 2 ≤ ts.length then retire p.1 p.2 2 (modInst s p.1 p.2 (fun x => { x with strikes := ts }))
  else modInst s p.1 p.2 (fun x => { x with strikes := ts, status := .suspect, heldFor := none })

end Machine
end Sys2Proof
end

