-- ==== Sys2Proof/Machine/Pins.lean ====
section
/-!
DEFINITION. World attributes of pins, card ports and internal DMA channels (09 R420 to R422).
-/
namespace Sys2Proof
namespace Machine

/-- A bit of a mask set or cleared. -/
def setBit (m i : Nat) (b : Bool) : Nat := if b then m ||| 2 ^ i else m - (if bitOf m i then 2 ^ i else 0)

/-- Number of a pin in the lists of moving pins: GPIO 0 to 15, then card ports at 16 to 19. -/
def pinIx : PinId → Nat
  | .gpio i => i
  | .card p => 16 + p

/-- Whether a pin exists. -/
def pinExists : PinId → Bool
  | .gpio i => decide (i < 16)
  | .card p => decide (p < 4)

/-- World of a pin: true for Keeper. -/
def pinKeeper (s : State) : PinId → Bool
  | .gpio i => bitOf s.worlds.gpioKeeper i
  | .card p => bitOf s.worlds.cardKeeper p

/-- A card port. -/
def port (s : State) (p : Nat) : Port := s.side.ports.getD p Port.reset

/-- The state with a card port changed. -/
def modPort (p : Nat) (f : Port → Port) (s : State) : State :=
  { s with side := { s.side with ports := modAt f s.side.ports p } }

/-- What a world change clears at the pin (09 R421): its driver goes off, its data, FIFO and interrupt state are cleared. -/
def clearPin (x : PinId) (s : State) : State :=
  match x with
  | .gpio i =>
    { s with side := { s.side with gpioOut := setBit s.side.gpioOut i false, gpioOe := setBit s.side.gpioOe i false,
                                   gpioOd := setBit s.side.gpioOd i false, gpioRise := setBit s.side.gpioRise i false,
                                   gpioFall := setBit s.side.gpioFall i false } }
  | .card p => modPort p (fun y => { y with powered := false, cstep := .idle }) s

/-- A pin's world begins to change (09 R421): the new world takes the pin over 10 us later. -/
def movePin (x : PinId) (keeper : Bool) (s : State) : State :=
  let s1 := clearPin x s
  { s1 with worlds := { s1.worlds with
      pinMoving := s1.worlds.pinMoving.filter (fun y => y.1 != pinIx x) ++ [(pinIx x, keeper)] } }

/-- A change of a card port's world that waits for the end of a session, and its Note (09 R421). -/
def deferPin (p : Nat) (keeper : Bool) (s : State) : State :=
  note 0x09 3 { s with worlds := { s.worlds with
    pinDeferred := s.worlds.pinDeferred.filter (fun y => y.1 != p) ++ [(p, keeper)] } }

/-- A world is set for a pin (09 R420, R421). `cards` tells whether card ports carry custodian cards: then every card
port stays with the Keeper world. -/
def setPinWorld (cards : Bool) (x : PinId) (keeper : Bool) (s : State) : State :=
  if !pinExists x then s
  else
    match x with
    | .gpio _ => if pinKeeper s x = keeper then s else movePin x keeper s
    | .card p =>
      if cards && !keeper then s
      else if pinKeeper s x = keeper then s
      else if (port s p).session.isSome then deferPin p keeper s
      else movePin x keeper s

/-- The session of a card port has closed: a deferred change of its world begins (09 R421). -/
def portClosed (p : Nat) (s : State) : State :=
  match s.worlds.pinDeferred.find? (fun y => y.1 == p) with
  | none => s
  | some y => movePin (.card p) y.2 { s with worlds := { s.worlds with pinDeferred := s.worlds.pinDeferred.filter (fun z => z.1 != p) } }

/-- The new world takes a pin over (09 R421). -/
def takePin (x : PinId) (s : State) : State :=
  match s.worlds.pinMoving.find? (fun y => y.1 == pinIx x) with
  | none => s
  | some y =>
    let w := { s.worlds with pinMoving := s.worlds.pinMoving.filter (fun z => z.1 != pinIx x) }
    match x with
    | .gpio i => { s with worlds := { w with gpioKeeper := setBit w.gpioKeeper i y.2 } }
    | .card p => { s with worlds := { w with cardKeeper := setBit w.cardKeeper p y.2 } }

/-- An internal DMA channel. -/
def dmaCh (s : State) (c : Nat) : DmaCh := s.worlds.dma.getD c DmaCh.reset

/-- World and Owner binding of a DMA channel are set (09 R422): only while it is idle; a busy channel refuses with a Note. -/
def bindDma (c : Nat) (keeper : Bool) (owner : Option Nat) (s : State) : State :=
  if 32 ≤ c then s
  else if (dmaCh s c).busy then note 0x09 4 s
  else { s with worlds := { s.worlds with
           dma := modAt (fun d => { d with keeper := keeper, owner := owner.map (· % 1024), desc := [], halted := false }) s.worlds.dma c } }

end Machine
end Sys2Proof
end

