-- ==== Sys2Proof/Machine/Modes.lean ====
section
/-!
DEFINITION. The modes of operation that the Looms run over a block cipher, by the standards the manual names (SP 800-38A to
38F, IEEE 1619): ECB, CBC, CTR, XTS, GCM, CMAC, key wrap. The block ciphers themselves are those of Config (log entry 6).
-/
namespace Sys2Proof
namespace Machine

/-- AES of one block. -/
def aesE (k b : Bytes) : Bytes := take 16 (Config.aesEnc k b)
/-- AES inverse of one block. -/
def aesD (k b : Bytes) : Bytes := take 16 (Config.aesDec k b)
/-- TDEA of one block. -/
def tdeaE (k b : Bytes) : Bytes := take 8 (Config.tdeaEnc k b)
/-- TDEA inverse of one block. -/
def tdeaD (k b : Bytes) : Bytes := take 8 (Config.tdeaDec k b)

/-- ECB over blocks of `n` bytes. -/
def ecb (n : Nat) (e : Bytes → Bytes) (b : Bytes) : Bytes := ((chunks n b).map e).flatten

/-- CBC encryption. -/
def cbcEnc (e : Bytes → Bytes) : Bytes → List Bytes → Bytes
  | _, [] => []
  | iv, b :: bs => let c := e (xorBytes iv b); c ++ cbcEnc e c bs

/-- CBC decryption. -/
def cbcDec (d : Bytes → Bytes) : Bytes → List Bytes → Bytes
  | _, [] => []
  | iv, c :: cs => xorBytes iv (d c) ++ cbcDec d c cs

/-- A 16-byte counter block plus `i`, big-endian, modulo 2^128 (05 R250). -/
def ctrBlock (c : Bytes) (i : Nat) : Bytes := beBytes 16 ((ofBe c + i) % 2 ^ 128)

/-- CTR: the message under the key stream from a first counter block. -/
def ctr (e : Bytes → Bytes) (block : Nat → Bytes) (b : Bytes) : Bytes :=
  let bs := chunks 16 b
  ((List.range bs.length).map (fun i =>
    let p := bs.getD i []
    (xorBytes p ((e (block i)).take p.length)).take p.length)).flatten

/-- Doubling in GF(2^128) as CMAC uses it, big-endian. -/
def dblBe (b : Bytes) : Bytes :=
  let n := ofBe b
  beBytes 16 (if 2 ^ 127 ≤ n then (2 * n % 2 ^ 128) ^^^ 0x87 else 2 * n)

/-- CMAC (SP 800-38B) over 16-byte blocks. -/
def cmac (e : Bytes → Bytes) (m : Bytes) : Bytes :=
  let l := e (zeros 16)
  let k1 := dblBe l
  let full := !m.isEmpty && m.length % 16 == 0
  let padded := if full then m else fit (roundUp (m.length + 1) 16) (m ++ [0x80])
  let bs := chunks 16 padded
  let lastKey := if full then k1 else dblBe k1
  let body := (bs.dropLast).foldl (fun x b => e (xorBytes x b)) (zeros 16)
  e (xorBytes body (xorBytes (bs.getLast?.getD []) lastKey))

/-- Doubling in GF(2^128) as XTS uses it, little-endian. -/
def dblLe (b : Bytes) : Bytes :=
  let n := ofLe b
  leBytes 16 (if 2 ^ 127 ≤ n then (2 * n % 2 ^ 128) ^^^ 0x87 else 2 * n)

/-- The XTS tweak of block `j`. -/
def xtsTweak : Nat → Bytes → Bytes
  | 0, t => t
  | j + 1, t => xtsTweak j (dblLe t)

/-- One XTS data unit with ciphertext stealing (IEEE 1619); `enc` tells the direction. -/
def xtsUnit (enc : Bool) (f : Bytes → Bytes) (t0 : Bytes) (b : Bytes) : Bytes :=
  let one (j : Nat) (x : Bytes) : Bytes := let t := xtsTweak j t0; xorBytes t (f (xorBytes x t))
  let bs := chunks 16 b
  let m := b.length / 16
  let r := b.length % 16
  if r = 0 then ((List.range m).map (fun j => one j (bs.getD j []))).flatten
  else
    let head := ((List.range (m - 1)).map (fun j => one j (bs.getD j []))).flatten
    let x := bs.getD (m - 1) []
    let y := bs.getD m []
    let jx := if enc then m - 1 else m
    let jy := if enc then m else m - 1
    let c := one jx x
    head ++ one jy (y ++ c.drop r) ++ c.take r

/-- Product in GF(2^128) with the bit order of GCM: `x` and `y` as big-endian numbers, bit 127 the coefficient of 1. -/
def gmulAux : Nat → Nat → Nat → Nat → Nat
  | 0, _, _, z => z
  | i + 1, x, v, z =>
    let z' := if bitOf x i then z ^^^ v else z
    let v' := if v % 2 = 1 then (v / 2) ^^^ (0xE1 * 2 ^ 120) else v / 2
    gmulAux i x v' z'

/-- Product in GF(2^128) of two blocks. -/
def gmul (x y : Nat) : Nat := gmulAux 128 x y 0

/-- GHASH of SP 800-38D. -/
def ghash (h : Nat) (b : Bytes) : Nat := (chunks 16 b).foldl (fun y x => gmul (y ^^^ ofBe (fit 16 x)) h) 0

/-- Zero padding to a multiple of 16 bytes. -/
def pad16 (b : Bytes) : Bytes := fit (roundUp b.length 16) b

/-- The GCM tag of a ciphertext (SP 800-38D) for a 12-byte nonce. -/
def gcmTag (e : Bytes → Bytes) (nonce aad ct : Bytes) : Bytes :=
  let h := ofBe (e (zeros 16))
  let s := ghash h (pad16 aad ++ pad16 ct ++ beBytes 8 (8 * aad.length) ++ beBytes 8 (8 * ct.length))
  xorBytes (beBytes 16 s) (e (nonce ++ beBytes 4 1))

/-- The GCM key stream applied to a text, for a 12-byte nonce. -/
def gcmCrypt (e : Bytes → Bytes) (nonce b : Bytes) : Bytes := ctr e (fun i => nonce ++ beBytes 4 ((i + 2) % 2 ^ 32)) b

/-- GCM seal: ciphertext and tag. -/
def gcmSeal (k nonce aad pt : Bytes) : Bytes × Bytes :=
  let ct := gcmCrypt (aesE k) nonce pt
  (ct, gcmTag (aesE k) nonce aad ct)

/-- GCM open: none when the tag does not verify. -/
def gcmOpen (k nonce aad ct tag : Bytes) : Option Bytes :=
  if gcmTag (aesE k) nonce aad ct = tag then some (gcmCrypt (aesE k) nonce ct) else none

/-- ChaCha20-Poly1305 seal. -/
def chachaSeal (k nonce aad pt : Bytes) : Bytes × Bytes :=
  let ct := xorBytes pt (take pt.length (Config.chachaByte k nonce))
  (ct, take 16 (Config.chachaTag k nonce aad ct))

/-- ChaCha20-Poly1305 open. -/
def chachaOpen (k nonce aad ct tag : Bytes) : Option Bytes :=
  if take 16 (Config.chachaTag k nonce aad ct) = tag then some (xorBytes ct (take ct.length (Config.chachaByte k nonce)))
  else none

/-- The wrapping function W of SP 800-38F over half-blocks of 8 bytes: `a` and the rest, step `t` rising. -/
def kwW (e : Bytes → Bytes) : Nat → Nat → Bytes → List Bytes → Bytes × List Bytes
  | 0, _, a, r => (a, r)
  | fuel + 1, t, a, r =>
    match r with
    | [] => (a, r)
    | x :: rest =>
      let b := e (a ++ x)
      kwW e fuel (t + 1) (xorBytes (b.take 8) (beBytes 8 t)) (rest ++ [b.drop 8])

/-- Its inverse. -/
def kwU (d : Bytes → Bytes) : Nat → Bytes → List Bytes → Bytes × List Bytes
  | 0, a, r => (a, r)
  | t + 1, a, r =>
    match r.getLast? with
    | none => (a, r)
    | some x =>
      let b := d (xorBytes a (beBytes 8 (t + 1)) ++ x)
      kwU d t (b.take 8) (b.drop 8 :: r.dropLast)

/-- The integrity value of AES-KW. -/
def kwIv : Bytes := List.replicate 8 0xA6

/-- AES-KW of a text whose length is a multiple of 8 and at least 16. -/
def kwWrap (k b : Bytes) : Bytes :=
  let r := chunks 8 b
  let (a, c) := kwW (aesE k) (6 * r.length) 1 kwIv r
  a ++ c.flatten

/-- AES-KW unwrapped: none when the integrity check fails. -/
def kwUnwrap (k c : Bytes) : Option Bytes :=
  let r := chunks 8 (c.drop 8)
  let (a, p) := kwU (aesD k) (6 * r.length) (c.take 8) r
  if a = kwIv then some p.flatten else none

/-- AES-KWP of a text of at least one byte. -/
def kwpWrap (k b : Bytes) : Bytes :=
  let a0 := [0xA6, 0x59, 0x59, 0xA6] ++ beBytes 4 b.length
  let p := fit (roundUp b.length 8) b
  if p.length = 8 then aesE k (a0 ++ p)
  else
    let r := chunks 8 p
    let (a, c) := kwW (aesE k) (6 * r.length) 1 a0 r
    a ++ c.flatten

/-- AES-KWP unwrapped: none when the integrity check fails. -/
def kwpUnwrap (k c : Bytes) : Option Bytes :=
  let (a, p) :=
    if c.length = 16 then let b := aesD k c; (b.take 8, b.drop 8)
    else
      let r := chunks 8 (c.drop 8)
      let (a, p) := kwU (aesD k) (6 * r.length) (c.take 8) r
      (a, p.flatten)
  let n := ofBe (a.drop 4)
  if a.take 4 = [0xA6, 0x59, 0x59, 0xA6] && decide (n ≤ p.length) && decide (p.length < n + 8) && allZero (p.drop n)
  then some (p.take n) else none

end Machine
end Sys2Proof
end

