-- ==== Sys2Proof/Machine/Cache.lean ====
section
/-!
DEFINITION. Key handles, the slots of the key store, and the Muniment cache with its provisional fills (04 R179 to R181;
03 R151; 02 R114, R116).
-/
namespace Sys2Proof
namespace Machine

-- Handles and slots --------------------------------------------------------------------------------------------------

/-- Fields of a key handle (04 R179). -/
def hOwner (h : Nat) : Nat := bits h 54 10
def hSlot (h : Nat) : Nat := bits h 24 28
def hGen (h : Nat) : Nat := bits h 0 24

/-- A key handle (04 R179). -/
def mkHandle (owner slot gen : Nat) : Nat := owner * 2 ^ 54 + slot * 2 ^ 24 + gen

/-- Index of a key slot in `Muniment.keys`. -/
def kix (owner slot : Nat) : Nat := owner * 2 ^ 28 + slot

/-- A slot of an Owner's namespace (04 R181). -/
def keySlot (s : State) (owner slot : Nat) : KeySlot := Tbl.getD s.munim.keys (kix owner slot) KeySlot.reset

/-- The state with a key slot replaced. -/
def setKeySlot (owner slot : Nat) (k : KeySlot) (s : State) : State :=
  { s with munim := { s.munim with keys := Tbl.put KeySlot.reset s.munim.keys (kix owner slot) k } }

-- The Muniment cache -------------------------------------------------------------------------------------------------

/-- Whether a cache entry is referenced by a dispatched order (04 R180). -/
def pinned (s : State) (h : Nat) : Bool := s.orders.any (fun o => isDispatched o && (o.keyA == h || o.keyB == h))

/-- Where a miss of a Stall goes (03 R151): a free entry, in place of an entry, or no entry (a fill buffer). -/
inductive CacheTake | free | replace (handle : Nat) | buffer
deriving DecidableEq, Repr

/-- The steps of R151 for a miss of a Stall; the cache is least recently used first. -/
def cacheTake (s : State) (st : Nat) : CacheTake :=
  let x := stall s st
  let now := cacheNow s st
  let below := decide (now < x.maxCache)
  if (below || x.maxCache == 0) && decide (s.munim.cache.length < 65536) then .free
  else
    match (if below then s.munim.cache.find? (fun e => !pinned s e.handle) else none) with
    | some e => .replace e.handle
    | none =>
      match s.munim.cache.find? (fun e => e.stall == st && !pinned s e.handle) with
      | some e => .replace e.handle
      | none => .buffer

/-- A cache entry of a key for a Stall: the two shares are made anew, under a masking value of their own (04 R180). -/
def cacheEnt (s : State) (h st : Nat) (prov : Option (Nat × Nat)) : CacheEnt :=
  let m := match (keySlot s (hOwner h) (hSlot h)).key with | some k => k.material | none => []
  let a := (List.range m.length).map (Config.maskByte s.free)
  { handle := h, stall := st, shareA := a, shareB := xorBytes m a, prov := prov }

/-- The cache with entries taken out by a test and one entry put in as the most recently used. -/
def putCache (out : CacheEnt → Bool) (e : CacheEnt) (s : State) : State :=
  { s with free := s.free + 1, munim := { s.munim with cache := s.munim.cache.filter (fun x => !out x) ++ [e] } }

/-- A cache hit: the entry becomes the most recently used, last used by the Stall, its shares made anew for the load. -/
def cacheHit (st h : Nat) (s : State) : State :=
  perfAdd 8 1 (putCache (fun e => e.handle == h) (cacheEnt s h st none) s)

/-- A cache miss takes its place (03 R151); a fill buffer is held by the order instead of an entry in step 4. -/
def cacheMiss (id st h : Nat) (s : State) : State :=
  let s1 := perfAdd 9 1 s
  match cacheTake s st with
  | .free => putCache (fun e => e.handle == h) (cacheEnt s h st none) s1
  | .replace v => putCache (fun e => e.handle == h || e.handle == v) (cacheEnt s h st none) s1
  | .buffer => { s1 with munim := { s1.munim with fillBufs := s1.munim.fillBufs ++ [id] } }

/-- Whether a handle has an ordinary entry in the cache: a provisional one serves no order before its own commits (02 R116). -/
def inCache (s : State) (h : Nat) : Bool := s.munim.cache.any (fun e => e.handle == h && e.prov.isNone)

/-- Whether a miss of the Stall would need a fill buffer and none of the 16 is free (03 R151 step 4). -/
def noBuffer (s : State) (st : Nat) : Bool :=
  (match cacheTake s st with | .buffer => true | _ => false) && decide (16 ≤ s.munim.fillBufs.length)

-- Provisional fills (02 R114, R116) ------------------------------------------------------------------------------------

/-- Provisional fills that a Stall holds (02 R114). -/
def provHeld (s : State) (st : Nat) : Nat := (s.munim.cache.filter (fun e => e.stall == st && e.prov.isSome)).length

/-- A provisional fill of one handle for the uncommitted order at a count of a ring (02 R114, R116; log entry 139): only of a
key of the Stall's own Owner, at most eight to a Stall, in a free entry or in place of an unpinned one the Stall last used. -/
def provFill (st q count h : Nat) (s : State) : State :=
  let e := cacheEnt s h st (some (q, count))
  if h == 0 || hOwner h != (stall s st).owner || (keySlot s (hOwner h) (hSlot h)).key.isNone
      || s.munim.cache.any (fun x => x.handle == h) || decide (8 ≤ provHeld s st) then s
  else if s.munim.cache.length < 65536 then putCache (fun _ => false) e s
  else match s.munim.cache.find? (fun x => x.stall == st && !pinned s x.handle) with
    | some v => putCache (fun x => x.handle == v.handle) e s
    | none => s

/-- The provisional fills that a header which has arrived and is not checked starts (02 R114). -/
def provHeader (st q : Nat) (count : BitVec 32) (hdr : Bytes) (s : State) : State :=
  provFill st q count.toNat (field hdr 16 8) (provFill st q count.toNat (field hdr 8 8) s)

/-- The fills of an order that commits become ordinary entries (02 R116). -/
def keepProv (st q : Nat) (count : BitVec 32) (s : State) : State :=
  { s with munim := { s.munim with cache := s.munim.cache.map (fun e =>
      if e.stall = st ∧ e.prov = some (q, count.toNat) then { e with prov := none } else e) } }

/-- The fills of a ring's uncommitted orders are invalidated: rewind, flush, reset (02 R116). -/
def dropProv (st q : Nat) (s : State) : State :=
  { s with munim := { s.munim with cache := s.munim.cache.filter (fun e =>
      !(e.stall == st && (match e.prov with | some p => p.1 == q | none => false))) } }

end Machine
end Sys2Proof
end

