-- ==== Sys2Proof/Machine/SlotReads.lean ====
section
/-!
DEFINITION. The slots of an order ring: which counts are read from host memory, how far ahead, and where H stands
(Orders, Receipts, Doorbells and the Counter Window, 02 R66, R67, R82, R97, R111, R112, R114).
-/
namespace Sys2Proof
namespace Machine

/-- The PASID that requests of a Stall carry (02 R111; 03 R130): none for Stall 0. -/
def pasidOf (s : State) (st : Nat) : Option Nat := if (stall s st).noPasid then none else some (stall s st).pasid

/-- A translation the part has been given for a page of a Stall (02 R112, R680). -/
def trans? (s : State) (st page : Nat) : Option Trans := s.pcie.trans.find? (fun x => x.stall == st && x.page == page)

/-- Pages that a range of bytes touches. -/
def pagesOf (a n : Nat) : List Nat := if n = 0 then [] else (List.range ((a + n - 1) / 4096 - a / 4096 + 1)).map (· + a / 4096)

/-- What becomes of the write of a receipt under ATS (02 R680): it goes, waits for a translation, or meets a fault. -/
inductive RcptPath | go | wait (page : Nat) | fault (status : Nat)
deriving DecidableEq, Repr

/-- The part of a range that lies in one page. -/
def inPage (a n p : Nat) : Nat × Nat :=
  let lo := max a (4096 * p)
  let hi := min (a + n) (4096 * (p + 1))
  (lo, hi - lo)

/-- What the part's translation of a page says of a read, as `RcptPath` does of a write (02 R112). -/
def readPath (s : State) (st page : Nat) : RcptPath :=
  if !(stall s st).ats then .go
  else match trans? s st page with
    | none => .wait page
    | some x => if !x.valid then .fault 0x0401 else if !x.rd then .fault 0x0402 else .go

/-- Whether a count lies in a Counter-window range (02 R85). -/
def inCw (r : Ring) (c : BitVec 32) : Bool := r.cwRanges.any (fun p => (c - BitVec.ofNat 32 p.1).toNat < p.2)

/-- The first count at or after `c` that lies in no Counter-window range; `fuel` bounds the ranges skipped. -/
def skipCwAux (r : Ring) : Nat → BitVec 32 → BitVec 32
  | 0, c => c
  | fuel + 1, c =>
    match r.cwRanges.find? (fun p => (c - BitVec.ofNat 32 p.1).toNat < p.2) with
    | some p => skipCwAux r fuel (BitVec.ofNat 32 (p.1 + p.2))
    | none => c

/-- The first count at or after `c` that lies in no Counter-window range (02 R82). -/
def skipCw (r : Ring) (c : BitVec 32) : BitVec 32 := skipCwAux r (r.cwRanges.length + 1) c

/-- Whether an order of a ring is committed and not dispatched. -/
def undispatched (o : Order) : Bool := o.stage == .committed && !o.intakeErr

/-- An order is put among orders of its ring by its count, counted from `h` on. -/
def insCount (h : BitVec 32) (o : Order) : List Order → List Order
  | [] => [o]
  | x :: l => if (x.count - h).toNat < (o.count - h).toNat then x :: insCount h o l else o :: x :: l

/-- Orders of a ring in ring order: by their counts from `h` on (02 R97). -/
def byCount (h : BitVec 32) (l : List Order) : List Order := l.foldr (insCount h) []

/-- The undispatched orders of a ring, in ring order. -/
def waitingOrders (s : State) (st q : Nat) : List Order :=
  byCount (ring s st q).h ((ringOrders s st q).filter undispatched)

/-- The count of the oldest slot of a ring that has not left intake by the dispatch rule of R97: that of the first order
not dispatched, or of the first slot of which no order is committed yet, whichever comes first. -/
def dispatchHead (s : State) (st q : Nat) : BitVec 32 :=
  let r := ring s st q
  let c := skipCw r r.asm
  match (waitingOrders s st q).head? with
  | some o => if (o.count - r.h).toNat < (c - r.h).toNat then o.count else c
  | none => c

/-- H of a ring moves on to a count: intake keeps nothing below it (02 R66, R67, R85). -/
def ringTo (h : BitVec 32) (r : Ring) : Ring :=
  let on (c : BitVec 32) : BitVec 32 := if (c - r.h).toNat < (h - r.h).toNat then h else c
  { r with h := h, asm := on r.asm, rd := on r.rd,
           cwRanges := r.cwRanges.filter (fun p => decide ((BitVec.ofNat 32 p.1 - h).toNat < 2 ^ 31)) }

/-- The ring enters the Stopped state with a code (02 R81, R90, R112). -/
def stopRing (st q code : Nat) (s : State) : State := modRing s st q (fun r => { r with stopped := true, stopCode := code })

/-- IOVA of the order-ring slot at a count (02 R58). -/
def slotIova (r : Ring) (c : BitVec 32) : Nat := r.ordBase.toNat + 64 * (c.toNat % ordSize r)

/-- Slots of one memory read request from a count on: at most four, within 256 aligned bytes, below P and outside
Counter-window ranges (01 R54, 02 R82). -/
def readRun (r : Ring) (c : BitVec 32) : Nat :=
  let left := 4 - c.toNat % 4
  let ok := (List.range left).takeWhile (fun i =>
    decide (BitVec.ofNat 32 i < r.p - c) && !inCw r (c + BitVec.ofNat 32 i))
  ok.length

/-- Slot reads up to 32 slots beyond the oldest undispatched order (02 R82, R112, R114): under ATS a page without a
translation is asked for and waited for, and one that forbids the read stops the ring. -/
def fetchAux (st q : Nat) : Nat → State → State
  | 0, s => s
  | fuel + 1, s =>
    let r := ring s st q
    let c := skipCw r r.rd
    let ahead := (c - dispatchHead s st q).toNat
    let n := min (readRun r c) (32 - ahead)
    if decide ((r.p - c).toNat ≥ 2 ^ 31) || n == 0 || r.stopped || !r.enabled then s
    else
      match readPath s st (slotIova r c / 4096) with
      | .wait p => emit (.atsReq st (pasidOf s st) p) s
      | .fault code => stopRing st q code (dropProv st q (modRing s st q (fun r => { r with fetched := [], rd := r.asm })))
      | .go =>
        fetchAux st q fuel
          (emit (.readReq st (pasidOf s st) (slotIova r c) (64 * n) ((stall s st).tdi == .run))
            (modRing s st q (fun r => { r with rd := c + BitVec.ofNat 32 n })))

/-- The part reads what it may of the slots between H and P (02 R82). -/
def fetchSlots (st q : Nat) (s : State) : State := fetchAux st q 16 s

/-- The host ranges an order still reads: input, auxiliary input, or the second reading of a two-pass open. -/
def openRanges (o : Order) : List (Nat × Nat) :=
  if o.stage != .waitInput then []
  else if o.input.isSome && o.aux.isSome then [(o.inIova, o.inLen)]
  else (if o.input.isNone then [(o.inIova, o.inLen)] else []) ++ (if o.aux.isNone then [(o.auxIova, o.auxLen)] else [])

-- Invalidations (03 R131) ------------------------------------------------------------------------------------------------

/-- Whether a slot read of a ring is outstanding in a page. -/
def slotReadIn (r : Ring) (page : Nat) : Bool :=
  (List.range (min 64 (r.rd - r.asm).toNat)).any (fun i =>
    let c := r.asm + BitVec.ofNat 32 i
    !inCw r c && (Tbl.find? r.fetched c.toNat).isNone && slotIova r c / 4096 == page)

/-- Whether a request of a Stall may still use a translation of a page that the part no longer holds (03 R131): a queued
receipt, a read of an order's input, or a slot read. -/
def usesPage (s : State) (st page : Nat) : Bool :=
  s.egress.any (fun x => x.stall == st && (x.kind == .rcptHead || x.kind == .rcptCont) &&
    (pagesOf x.addr x.data.length).contains page) ||
  (stallOrders s st).any (fun o => (openRanges o).any (fun p => (pagesOf p.1 p.2).contains page)) ||
  [0, 1, 2, 3].any (fun q => slotReadIn (ring s st q) page)

/-- The invalidations whose requests have ended complete (03 R131). -/
def finishInvs (s : State) : State :=
  s.pcie.invs.foldl (fun s v =>
    if v.pages.any (usesPage s v.stall) then s
    else emit (.atsInvDone v.pasid) { s with pcie := { s.pcie with invs := s.pcie.invs.filter (fun x => x != v) } }) s

end Machine
end Sys2Proof
end

