-- ==== Sys2Proof/Machine/Link.lean ====
section
/-!
DEFINITION. Frames of the Courier Link as the rest of the part sends them (10 R444 to R448, R458), and whether the part
shares its rings with a twin.
-/
namespace Sys2Proof
namespace Machine

/-- STATE codes of the PAIR block (10 R485). -/
def psUnpaired : Nat := 0
def psLinking : Nat := 1
def psPaired : Nat := 2
def psSole : Nat := 3
def psJoining : Nat := 4
def psWaiting : Nat := 5

/-- Whether the part runs in Mirror mode with its twin: Paired (10 R435, R485). -/
def mirrored (s : State) : Bool := s.pair.mode == 1 && s.pair.state == psPaired

/-- Whether this part is Lead: ROLE 0 (10 R435). -/
def isLead (s : State) : Bool := s.pair.role == 0

/-- A record of a CLAIM frame for a ring that both parts share (10 R458). -/
def claim (st q : Nat) (c : ClaimRec) (s : State) : State :=
  if mirrored s && (ring s st q).shared then sendFrame 0 (.claim [c]) s else s

/-- STATE of the pair changes: event 32 (15 R639). -/
def setPair (st : Nat) (s : State) : State :=
  if s.pair.state = st then s else event 32 { s with pair := { s.pair with state := st } }

/-- No ring is shared with a twin any more (10 R480, R484): H follows the dispatch rule again. -/
def unshare (s : State) : State :=
  { s with rings := (s.rings.map (fun p =>
      (p.1, if p.2.shared then
              { ringTo (dispatchHead s (p.1 / 4) (p.1 % 4)) p.2 with
                shared := false, commits := [], twinCommits := [], twinDone := [], privCopy := [] }
            else p.2))).filter (fun p => p.2 != Ring.reset) }

/-- H of a shared ring moves past every order that has a receipt of either part, and the slots that may now be read are
read (10 R457; 02 R82). -/
def advanceShared (st q : Nat) : Nat → State → State
  | 0, s => fetchSlots st q s
  | fuel + 1, s =>
    let r := ring s st q
    match r.commits.find? (fun c => c.1 == r.h.toNat) with
    | some c =>
      if r.twinDone.contains c.1 then
        advanceShared st q fuel (modRing s st q (fun r =>
          { ringTo (r.h + BitVec.ofNat 32 c.2.1) r with
                   commits := r.commits.filter (fun x => x.1 != c.1),
                   twinDone := r.twinDone.filter (fun x => x != c.1),
                   twinCommits := r.twinCommits.filter (fun x => x.1 != c.1),
                   privCopy := r.privCopy.filter (fun x => !decide ((BitVec.ofNat 32 x.1 - BitVec.ofNat 32 c.1).toNat < c.2.1)) }))
      else fetchSlots st q s
    | none => fetchSlots st q s

/-- Whether two commit records of a shared ring differ: at one count, or one inside the order of the other (10 R460). -/
def commitsDiffer (mine twin : Nat × Nat × Nat) : Bool :=
  (mine.1 == twin.1 && mine.2 != twin.2) ||
    (decide (0 < (BitVec.ofNat 32 twin.1 - BitVec.ofNat 32 mine.1).toNat) &&
     decide ((BitVec.ofNat 32 twin.1 - BitVec.ofNat 32 mine.1).toNat < mine.2.1))

/-- The header count at which a shared ring diverges (10 R460). -/
def divergence (r : Ring) : Option Nat :=
  (r.commits.find? (fun c => r.twinCommits.any (commitsDiffer c))).map (fun c => c.1)

/-- A shared ring whose commit records differ is stopped with 0x0140 (10 R460). -/
def checkDivergence (st q : Nat) (s : State) : State :=
  if (divergence (ring s st q)).isSome && (ring s st q).stopCode ≠ 0x0140 then
    event 34 { modRing s st q (fun r => { r with stopped := true, stopCode := 0x0140 }) with
      pair := { s.pair with divergences := satAdd 16 s.pair.divergences 1 } }
  else s

end Machine
end Sys2Proof
end

