-- ==== Sys2Proof/Machine/Intake.lean ====
section
/-!
DEFINITION. Intake: doorbells, Counter windows, fetched slots, and the control bits of a ring (Orders, Receipts, Doorbells
and the Counter Window, 02 R58 to R96, R110).
-/
namespace Sys2Proof
namespace Machine

/-- A write from the host: before step 10 of a start and in Silence it is discarded (11 R495, 14 R600). -/
def hostAct (f : State → State) (s : State) : Res :=
  act (fun s => if s.faults.phase == .running then f s else s) s

/-- Whether the page of a Stall takes a write (03 R145): without the T bit unless the TDI runs, with it while it runs,
and none in ERROR. -/
def pageTakes (x : Stall) (tbit : Bool) : Bool :=
  match x.tdi with
  | .run => tbit
  | .error => false
  | _ => !tbit

/-- Whether a command names one of the 16,384 ring positions (02 R58, 03 R127). -/
def ringExists (st q : Nat) : Bool := decide (st < 4096) && decide (q < 4)

/-- The page rule of R145 around a write to a ring: what a running TDI discards counts in CW_DROPS. -/
def pageWrite (st q : Nat) (tbit : Bool) (f : State → State) (s : State) : State :=
  if !ringExists st q then s
  else if pageTakes (stall s st) tbit then f s
  else if (stall s st).tdi == .run then modRing s st q (fun r => { r with cwDrops := satAdd 16 r.cwDrops 1 })
  else s

/-- Whether the ring refuses doorbells until a receipt for which there was no room is written (02 R94). The 0x0501 receipt of a
Counter-window order lost in intake (R96), which R94 does not list, counts like the others (DESIGN CHOICE, log entry 137). -/
def refusesDoorbell (s : State) (st q : Nat) : Bool :=
  (ringOrders s st q).any (fun o => o.rsv == 0 && o.stage == .done && !o.rcptQueued)

/-- An entry for the receipt of an intake error, of a flushed order or of a refused Counter-window order (02 R94). -/
def intakeRcpt (s : State) (st q : Nat) (tag status word : Nat) (win : Bool) : Order :=
  { id := s.nextId, stall := st, ring := q, gen := (stall s st).gen, count := 0, nslots := 1, intakeErr := true, rsv := 0,
    viaWindow := win, opcode := 0, flags := 0, tag := tag, keyA := 0, keyB := 0, inIova := 0, inLen := 0, outCap := 0,
    outIova := 0, auxIova := 0, auxLen := 0, inl := [], input := none, aux := none, pass2 := none, stage := .done,
    runs := 0, reexec := false, byTwin := false, recA := none, recB := none, invIndex := 0, charged := false,
    insts := [], avoid := [], staged := false, fwLost := false, draws := none, copyA := none, copyB := none, withheld := none,
    result := some { status := status, word := word, out := [], aux := [] }, commit := .none, sigs := [],
    cardData := none, commitAt := s.clock, dispatchAt := s.clock, compareAt := s.clock, outSent := true,
    rcptQueued := false, engTime := 0, wfault := [], abandoned := none, toCharge := [], firstGrant := 0, differs := 0, items := [], want := none,
    outWait := [], quorumAt := none, verifyRuns := 0 }

/-- The order that a header slot and its continuation slots spell (02 R70, R72). -/
def parseOrder (s : State) (st q : Nat) (count : BitVec 32) (win : Bool) (b : Bytes) : Order :=
  { intakeRcpt s st q (field b 4 4) 0 0 win with
    count := count, nslots := field b 3 1, intakeErr := false,
    opcode := field b 0 2, flags := BitVec.ofNat 8 (field b 2 1),
    keyA := field b 8 8, keyB := field b 16 8, inIova := field b 24 8, inLen := field b 32 4, outCap := field b 36 4,
    outIova := field b 40 8, auxIova := field b 48 8, auxLen := field b 56 4, inl := b.drop 64,
    stage := .committed, result := none, outSent := false }

/-- Whether the Res0 field of a key handle, bits [53:52], is zero (04 R179). -/
def handleOk (h : Nat) : Bool := bits h 52 2 == 0

/-- The intake checks of an order of `n` slots (02 R73, R88, R89): 0 when it may commit, else the intake status. -/
def intakeCheck (b : Bytes) : Nat :=
  if field b 60 4 ≠ (crc32c (b.take 60 ++ b.drop 64)).toNat then 0x0101
  else if bits (field b 2 1) 5 3 ≠ 0 || !handleOk (field b 8 8) || !handleOk (field b 16 8) then 0x0103
  else 0

/-- The receipt of an intake error or a refusal is due, and INTAKE_ERRS counts an error (02 R60, R89, R94). -/
def oweRcpt (st q tag status word : Nat) (win err : Bool) (s : State) : State :=
  let s1 := { s with orders := s.orders ++ [intakeRcpt s st q tag status word win], nextId := s.nextId + 1 }
  if err then modRing s1 st q (fun r => { r with intakeErrs := satAdd 16 r.intakeErrs 1 }) else s1

/-- An order commits: it becomes visible to the scheduler (02 R88), and on a shared ring the twin hears of it
(10 R458). An order of which the twin's receipt is already known is past (10 R457), and so is one read again that has been
dispatched here (02 R96). -/
def commitOrder (st q : Nat) (o : Order) (crc : Nat) (s : State) : State :=
  let here := (ringOrders s st q).any (fun x => !x.intakeErr && x.count == o.count)
  let past := mirrored s && (ring s st q).shared && ((ring s st q).twinDone.contains o.count.toNat || here)
  let s1 := perfAdd 0 1 { s with orders := if past then s.orders else s.orders ++ [o], nextId := s.nextId + 1 }
  if mirrored s && (ring s st q).shared then
    advanceShared st q 64 (checkDivergence st q (claim st q (.commit o.nslots st q o.gen o.count crc)
      (modRing s1 st q (fun r => { r with
        commits := r.commits.filter (fun c => c.1 != o.count.toNat) ++ [(o.count.toNat, o.nslots, crc)] }))))
  else s1

/-- Assemble what the packet queue holds (02 R82, R88 to R90): each whole order commits; a failed check rewinds the
order, stops the ring and owes a receipt. The slots of an order have consecutive counts: one that would reach into a
Counter-window range is never whole (DESIGN CHOICE, log entry 137). -/
def assembleAux (st q : Nat) : Nat → State → State
  | 0, s => s
  | fuel + 1, s =>
    let r := ring s st q
    let hc := skipCw r r.asm
    let got (c : BitVec 32) : Option Bytes := Tbl.find? r.fetched c.toNat
    let fail (code tag : Nat) (s : State) : State :=
      oweRcpt st q tag code hc.toNat false true
        (stopRing st q code (dropProv st q (modRing s st q (fun r => { r with fetched := [], asm := hc, rd := hc }))))
    if r.stopped || !r.enabled then s
    else
      match got hc with
      | none => s
      | some h =>
        let n := field h 3 1
        if n == 0 || decide (8 < n) then fail 0x0102 (field h 4 4) s
        else
          match (List.range n).mapM (fun i => got (hc + BitVec.ofNat 32 i)) with
          | none => provHeader st q hc h s
          | some slots =>
            let b := slots.flatten
            let code := intakeCheck b
            if code ≠ 0 then fail code (field h 4 4) s
            else
              let s1 := keepProv st q hc (commitOrder st q (parseOrder s st q hc false b) (field b 60 4) s)
              assembleAux st q fuel (modRing s1 st q (fun r =>
                { r with asm := hc + BitVec.ofNat 32 n,
                         fetched := r.fetched.filter (fun p => !decide ((BitVec.ofNat 32 p.1 - hc).toNat < n)) }))

/-- Assemble, then ask for the next slots. -/
def assemble (st q : Nat) (s : State) : State := fetchSlots st q (assembleAux st q 64 s)

/-- DOORBELL_WRITE (02 R80, R81). -/
def doorbell (st q : Nat) (v : BitVec 32) (gen : BitVec 16) (width : Nat) (s : State) : State :=
  let r := ring s st q
  let stale (s : State) : State := modRing s st q (fun r => { r with staleDbs := satAdd 16 r.staleDbs 1 })
  if !r.enabled || r.stopped || refusesDoorbell s st q || (stall s st).state != .bound then stale s
  else if width ≠ 8 || gen ≠ (stall s st).gen || v - r.p = 0 || decide (2 ^ 31 ≤ (v - r.p).toNat) then stale s
  else if ordSize r - (r.p - r.h).toNat < (v - r.p).toNat then
    modRing s st q (fun r => { r with overrun := true, stopped := true, stopCode := 0x0108 })
  else assemble st q (modRing s st q (fun r => { r with p := v }))

/-- DOORBELL_WRITE. -/
def execDoorbellWrite (st q : Nat) (v : BitVec 32) (gen : BitVec 16) (width : Nat) (tbit : Bool) (s : State) : Res :=
  hostAct (pageWrite st q tbit (doorbell st q v gen width)) s

/-- What a doorbell reads as: TAIL in [31:0], GEN in [47:32] (02 R80). -/
def doorbellValue (s : State) (st q : Nat) : BitVec 64 :=
  (ring s st q).p.zeroExtend 64 ||| ((stall s st).gen.zeroExtend 64 <<< 32)

/-- DOORBELL_CAS (15 R630): the completion returns the value read before; on a shared ring it is Unsupported Request. -/
def execDoorbellCas (st q : Nat) (cmp swap : BitVec 64) (tbit : Bool) (s : State) : Res :=
  hostAct (fun s =>
    if !ringExists st q then s
    else if mirrored s && (ring s st q).shared then emit .unsupported s
    else
      let v := doorbellValue s st q
      let s1 := if cmp = v then
        pageWrite st q tbit (doorbell st q (swap.truncate 32) ((swap >>> 32).truncate 16) 8) s else s
      emit (.casDone v) s1) s

/-- Bytes written to a Counter window from an offset on; a byte that is not enabled stays (02 R83). -/
def cwMerge : Tbl Byte → Nat → List (Option Byte) → Tbl Byte
  | m, _, [] => m
  | m, o, none :: bs => cwMerge m (o + 1) bs
  | m, o, some b :: bs => cwMerge (Tbl.ins m o b) (o + 1) bs

/-- The first `n` bytes of a Counter window, when all of them have been written. -/
def cwTake (m : Tbl Byte) (n : Nat) : Option Bytes := (List.range n).mapM (fun i => Tbl.find? m i)

/-- The name that provisional fills give the Counter window of a ring: its partial order has no count yet. -/
def cwName (q : Nat) : Nat := q + 4

/-- The window is empty again (02 R84): what was begun for a partial order in it is invalidated (R116). -/
def cwEmpty (st q : Nat) (s : State) : State := dropProv st (cwName q) (modRing s st q (fun r => { r with cwBytes := [] }))

/-- INTAKE_ERRS counts an intake error (02 R60). -/
def countIntakeErr (st q : Nat) (s : State) : State := modRing s st q (fun r => { r with intakeErrs := satAdd 16 r.intakeErrs 1 })

/-- A Counter-window order is turned away with a receipt, or without one when four are waiting (02 R92, R94); an intake
error counts in INTAKE_ERRS either way (R60). -/
def cwRefuse (st q tag code : Nat) (err : Bool) (s : State) : State :=
  let r := ring s st q
  let waiting := ((ringOrders s st q).filter (fun o => o.intakeErr && o.viaWindow && !o.rcptQueued)).length
  if 4 ≤ waiting then
    let s1 := modRing (cwEmpty st q s) st q (fun r => { r with cwDrops := satAdd 16 r.cwDrops 1 })
    if err then countIntakeErr st q s1 else s1
  else oweRcpt st q tag code (r.p.toNat + 0xFFFFFFFF * 2 ^ 32) true err (cwEmpty st q s)

/-- The order in a Counter window commits, fails intake or is refused once its bytes are there (02 R84, R85, R90, R92,
R110). An order that fails an intake check on a Stopped ring gets the intake status, not 0x0311 (DESIGN CHOICE, log entry
137). -/
def cwCommit (st q : Nat) (s : State) : State :=
  let r := ring s st q
  match cwTake r.cwBytes 64 with
  | none => s
  | some h =>
    let n := field h 3 1
    let tag := field h 4 4
    if n == 0 || decide (8 < n) then cwRefuse st q tag 0x0102 true s
    else
      match cwTake r.cwBytes (64 * n) with
      | none => provHeader st (cwName q) 0 h s
      | some b =>
        let code := intakeCheck b
        if code ≠ 0 then cwRefuse st q tag code true s
        else if r.stopped then cwRefuse st q tag 0x0311 false s
        else if ordSize r < (r.p - r.h).toNat + n then cwRefuse st q tag 0x0312 false s
        else
          let o := parseOrder s st q r.p true b
          let s1 := keepProv st (cwName q) 0 (commitOrder st q o (field b 60 4) s)
          cwEmpty st q (modRing s1 st q (fun r =>
            { r with p := r.p + BitVec.ofNat 32 n, cwRanges := r.cwRanges ++ [(r.p.toNat, n)],
                     privCopy := if mirrored s && r.shared then
                       r.privCopy ++ (List.range n).map (fun i => ((r.p + BitVec.ofNat 32 i).toNat, slice b (64 * i) 64))
                       else r.privCopy }))

/-- COUNTER_WINDOW_WRITE (02 R83 to R87, R110; 03 R145): a TLP to the window area of a Stall page. -/
def execCounterWindowWrite (st off : Nat) (bytes : List (Option Byte)) (tbit : Bool) (t : Nat) (s : State) : Res :=
  hostAct (fun s =>
    let s := tick t s
    let q := (off - 0x800) / 512
    let o := (off - 0x800) % 512
    let r := ring s st q
    let drop (s : State) : State := modRing s st q (fun r => { r with cwDrops := satAdd 16 r.cwDrops 1 })
    if off < 0x800 || 0x1000 ≤ off then s
    else pageWrite st q tbit (fun s =>
      if 512 < o + bytes.length || !r.enabled || !r.cwEn || (stall s st).state != .bound then drop s
      else cwCommit st q (modRing s st q (fun r => { r with cwBytes := cwMerge r.cwBytes o bytes }))) s) s

/-- Status of a failed host read (02 R109). -/
def readStatus : ReadRes → Option (Nat × Nat)
  | .data _ => none
  | .noTranslation a => some (0x0401, a)
  | .forbidden a => some (0x0402, a)
  | .error a => some (0x0403, a)

/-- SLOT_READ_COMPLETION (02 R82, R88 to R90, R112): slots from a count on reach the packet queue, or the failed read
stops the ring. What was not asked for any more is dropped. -/
def execSlotReadCompletion (st q : Nat) (count : BitVec 32) (rr : ReadRes) (t : Nat) (s : State) : Res :=
  hostAct (fun s =>
    let s := tick t s
    finishInvs (
      let r := ring s st q
      if !ringExists st q || !r.enabled || r.stopped || (stall s st).state != .bound
          || decide ((r.rd - r.asm).toNat ≤ (count - r.asm).toNat) then s
      else
        match rr with
        | .data b =>
          let slots := (chunks 64 b).map (fit 64)
          let ins := (List.range slots.length).foldl (fun m i =>
            let c := count + BitVec.ofNat 32 i
            if (c - r.asm).toNat < (r.rd - r.asm).toNat && !inCw r c then Tbl.ins m c.toNat (slots.getD i []) else m) r.fetched
          assemble st q (modRing s st q (fun r => { r with fetched := ins }))
        | _ =>
          stopRing st q ((readStatus rr).getD (0x0403, 0)).1
            (dropProv st q (modRing s st q (fun r => { r with fetched := [], rd := r.asm }))))) s

/-- Every committed order of a ring that has not been dispatched completes with 0x0310, in ring order (02 R63, R93). -/
def flushCommitted (st q : Nat) (s : State) : State :=
  (waitingOrders s st q).foldl (fun s o => complete o.id 0x0310 0 s) s

/-- A write to the registers of a ring through its Stall page (03 R145): time passes, and an existing ring whose page takes the
write does what the write asks. -/
def ringReg (st q : Nat) (w : PageWrite) (f : State → State) (s : State) : Res :=
  hostAct (fun s => pageWrite st q w.tbit f (tick w.t s)) s

/-- RING_ENABLE (02 R61; 10 R455; 03 R145): the sizes must lie in 6 to 16; the counts become 0, or on the second part of
a pair those of the first. -/
def execRingEnable (st q : Nat) (twin : Option (BitVec 32)) (w : PageWrite) (s : State) : Res :=
  ringReg st q w (fun s =>
    let r := ring s st q
    let x := stall s st
    let both := mirrored s && twin.isSome
    let bad := !(decide (6 ≤ r.ordLog2) && decide (r.ordLog2 ≤ 16) && decide (6 ≤ r.rcpLog2) && decide (r.rcpLog2 ≤ 16))
      || x.state != .bound || x.tdi == .locked || (both && r.cwEn && decide (12 < r.ordLog2))
      || (s.pair.state == psWaiting && (st != 0 || q != 0))
    if r.enabled then s
    else if bad then modRing s st q (fun r => { r with cfgErr := true })
    else
      let p0 := if both then twin.getD 0 else 0
      claim st q (.ring st q x.gen r.rcpLog2 r.rcpBase)
        (modRing s st q (fun r =>
          { r with enabled := true, p := p0, h := p0, asm := p0, rd := p0, w := 0, c := 0, fetched := [], cwBytes := [],
                   cwRanges := [], reserved := 0, noticeCount := 0, noticeDue := false, shared := both,
                   commits := [], twinCommits := [], twinDone := [], privCopy := [] }))) s

/-- What is held for the uncommitted orders of a ring is invalidated: provisional fills of its slots and of its Counter window
(02 R116). -/
def dropUncommitted (st q : Nat) (s : State) : State := dropProv st (cwName q) (dropProv st q s)

/-- RING_DISABLE (02 R63, R64): no more intake; committed orders complete with 0x0310, the buffer goes back to the
pool. -/
def execRingDisable (st q : Nat) (w : PageWrite) (s : State) : Res :=
  ringReg st q w (fun s =>
    if !(ring s st q).enabled then s
    else dropUncommitted st q (modRing (flushCommitted st q s) st q (fun r =>
      { r with enabled := false, cwEn := false, cwBytes := [], fetched := [], rd := r.asm, shared := false }))) s

/-- Counter-window buffers held by rings, of the pool of 2,048 (02 R64). -/
def cwHeld (s : State) : Nat := (s.rings.filter (fun p => p.2.cwEn)).length

/-- CW_ENABLE (02 R64; 10 R455). R64 speaks of an enabled ring alone: a ring that is not enabled, or whose Stall is Resetting
(03 R156), ignores the write (DESIGN CHOICE, log entry 137). -/
def execCwEnable (st q : Nat) (w : PageWrite) (s : State) : Res :=
  ringReg st q w (fun s =>
    let r := ring s st q
    if !r.enabled || r.cwEn || (stall s st).state != .bound then s
    else if 2048 ≤ cwHeld s || (r.shared && decide (12 < r.ordLog2)) then
      modRing s st q (fun r => { r with cfgErr := true })
    else modRing s st q (fun r => { r with cwEn := true, cwBytes := [] })) s

/-- CW_DISABLE (02 R64): the buffer goes back and a partial order is discarded. -/
def execCwDisable (st q : Nat) (w : PageWrite) (s : State) : Res :=
  ringReg st q w (fun s =>
    dropProv st (cwName q) (modRing s st q (fun r => { r with cwEn := false, cwBytes := [] }))) s

/-- RING_FLUSH (02 R93): four things at once. -/
def execRingFlush (st q : Nat) (w : PageWrite) (s : State) : Res :=
  ringReg st q w (fun s =>
    dropUncommitted st q (modRing (flushCommitted st q s) st q (fun r =>
      { r with h := r.p, asm := r.p, rd := r.p, fetched := [], cwBytes := [], cwRanges := [] }))) s

/-- RING_RESUME (02 R91): the Stopped state ends, and the part reads again from the first slot that is not committed: what it
had fetched before the stop is dropped (log entry 9). A Resetting Stall takes none (03 R156). -/
def execRingResume (st q : Nat) (w : PageWrite) (s : State) : Res :=
  ringReg st q w (fun s =>
    if !(ring s st q).stopped || (stall s st).state != .bound then s
    else fetchSlots st q (dropProv st q
      (modRing s st q (fun r => { r with stopped := false, stopCode := 0, fetched := [], rd := r.asm })))) s

/-- RCP_HEAD_WRITE (02 R68): a consumer count from C to W is taken, any other sets CFG_ERR. -/
def execRcpHeadWrite (st q : Nat) (c : BitVec 32) (w : PageWrite) (s : State) : Res :=
  ringReg st q w (fun s =>
    modRing s st q (fun r =>
      if (c - r.c).toNat ≤ (r.w - r.c).toNat then { r with c := c } else { r with cfgErr := true })) s

end Machine
end Sys2Proof
end

