-- ==== Sys2Proof/Machine/Receipts.lean ====
section
/-!
DEFINITION. Compare and release, the egress checker, receipts and completion notices (01 R45 to R51; 02 R98 to R121,
R680; 11 R500 to R503).
-/
namespace Sys2Proof
namespace Machine

/-- A step of the engines and their paths: none happens in Silence or before the part runs (11 R495). -/
def coreAct (f : State → State) (s : State) : Res :=
  act (fun s => if s.faults.phase == .running then f s else s) s

-- Notices ------------------------------------------------------------------------------------------------------------

/-- VEC_ERR (02 R118): VEC_OFF does not lie below the Stall's allotment. -/
def vecErr (s : State) (st q : Nat) : Bool := decide ((stall s st).vecCount ≤ (ring s st q).vecOff)

/-- A completion notice of a ring (02 R118 to R120): both the count and the time start again. -/
def notice (st q : Nat) (s : State) : State :=
  modRing (sendMsix ((stall s st).vecBase + (ring s st q).vecOff) s) st q
    (fun r => { r with noticeCount := 0, noticeDue := false })

/-- A receipt with this status has been written (02 R119). -/
def afterReceipt (st q status : Nat) (notify : Bool) (s : State) : State :=
  if (ring s st q).vecEn && !vecErr s st q then
    let s1 := modRing s st q (fun r => { r with
      noticeCount := r.noticeCount + 1, noticeDue := true, noticeAt := if r.noticeDue then r.noticeAt else s.clock })
    let r := ring s1 st q
    if status / 256 ≠ 0 || notify || decide (max 1 r.coalCount ≤ r.noticeCount) then notice st q s1 else s1
  else s

/-- COAL_TIME_EXPIRY (02 R119): the time condition of a receipt that no notice covers yet: COAL_TIME, in units of 100 ns and at
least one, since the first of them. -/
def execCoalTimeExpiry (st q t : Nat) (s : State) : Res :=
  coreAct (fun s =>
    let s := tick t s
    let r := ring s st q
    if ringExists st q && r.noticeDue && r.vecEn && !vecErr s st q && decide (r.noticeAt + 100 * max 1 r.coalTime ≤ s.clock) then
      notice st q s
    else s) s

/-- A vector's mask bit is cleared: a pending message is sent (02 R120). -/
def unmask (v : Nat) (s : State) : State :=
  if 4096 ≤ v then s
  else
    let p := s.pcie
    let s1 := { s with pcie := { p with unmasked := if p.unmasked.contains v then p.unmasked else p.unmasked ++ [v],
                                        pba := p.pba.filter (fun x => x != v) } }
    if p.pba.contains v then sendMsix v s1 else s1

/-- VECTOR_UNMASK (02 R120). -/
def execVectorUnmask (v : Nat) (s : State) : Res := hostAct (unmask v) s

-- Output -------------------------------------------------------------------------------------------------------------

/-- Whether a flag of the order header is set (02 R71). -/
def flag (o : Order) (i : Nat) : Bool := o.flags.getLsbD i
/-- INLINE_IN, INLINE_OUT, INLINE_AUX, NOTIFY and FENCE (02 R71). -/
def inlineIn (o : Order) : Bool := flag o 0
def inlineOut (o : Order) : Bool := flag o 1
def inlineAux (o : Order) : Bool := flag o 2
def notifyFlag (o : Order) : Bool := flag o 3
def fenceFlag (o : Order) : Bool := flag o 4

/-- The pieces in which output leaves (01 R54): at most 512 bytes, aligned to 512 bytes where the address permits. -/
def outPieces : Nat → Nat → Bytes → List (Nat × Bytes)
  | 0, _, _ => []
  | fuel + 1, a, b =>
    if b.isEmpty then []
    else
      let n := 512 - a % 512
      (a, b.take n) :: outPieces fuel (a + n) (b.drop n)

/-- The release CRCs of a write: one over each 64-byte egress word (01 R46). -/
def releaseCrcs (b : Bytes) : List (BitVec 32) := (chunks 64 b).map crc32c

/-- A queued write with its release CRCs (01 R46). -/
def mkTlp (s : State) (o : Order) (k : TlpKind) (rlx : Bool) (p : Nat × Bytes) : Tlp :=
  { kind := k, order := o.id, stall := o.stall, gen := (stall s o.stall).gen, addr := p.1, data := p.2, relaxed := rlx,
    crcs := releaseCrcs p.2, tbit := (stall s o.stall).tdi == .run }

/-- Compared output of one order that a Loom computes ahead of the release point, in bytes (05 R280). -/
def aheadMost : Nat := 16384

/-- Output of an order in the egress queue, in bytes. -/
def queuedAhead (s : State) (id : Nat) : Nat := ((s.egress.filter (fun x => x.order == id)).map (fun x => x.data.length)).sum

/-- How many writes of a list fit in `n` bytes. -/
def fitAhead : Nat → List Tlp → Nat
  | _, [] => 0
  | n, x :: r => if x.data.length ≤ n then 1 + fitAhead (n - x.data.length) r else 0

/-- A Loom hands over the output that may run ahead of the release point; it stalls with the rest (05 R280). -/
def handOver (id : Nat) (s : State) : State :=
  match order? s id with
  | none => s
  | some o =>
    let n := fitAhead (aheadMost - queuedAhead s id) o.outWait
    if n = 0 then s
    else modOrder { s with egress := s.egress ++ o.outWait.take n } id (fun o => { o with outWait := o.outWait.drop n })

/-- The output and auxiliary output of an order enter the egress queue (02 R76, R106), that of a Loom at most 16 KiB ahead of
the release point (05 R280). Inline output goes with the receipt. -/
def queueOutput (id : Nat) (s : State) : State :=
  match order? s id with
  | none => s
  | some o =>
    match o.result with
    | none => s
    | some r =>
      if o.outSent || inlineOut o then modOrder s id (fun o => { o with outSent := true })
      else
        let rlx := (ring s o.stall o.ring).outRlx
        let tl := (outPieces r.out.length.succ o.outIova r.out).map (mkTlp s o .output rlx) ++
                  (outPieces r.aux.length.succ o.auxIova r.aux).map (mkTlp s o .aux rlx)
        if classKind o.opcode = some .loom then handOver id (modOrder s id (fun o => { o with outSent := true, outWait := tl }))
        else modOrder { s with egress := s.egress ++ tl } id (fun o => { o with outSent := true })

/-- The ranges that an order writes with a result: main and auxiliary output (02 R76). -/
def writeRanges (o : Order) (r : Result) : List (Nat × Nat) :=
  if inlineOut o then [] else [(o.outIova, r.out.length), (o.auxIova, r.aux.length)]

/-- The faults of R680 that translations of pages the order writes have met: the order ends with that status, the first byte
of its output in the page as the faulting IOVA (R109), and no output. -/
def withWriteFault (o : Order) (r : Result) : Result :=
  match (writeRanges o r).findSome? (fun w => (pagesOf w.1 w.2).findSome? (fun p =>
      (o.wfault.find? (fun f => f.1 == p)).map (fun f => (f.2, (inPage w.1 w.2 p).1)))) with
  | some f => { status := f.1, word := f.2, out := [], aux := [] }
  | none => r

-- Compare ------------------------------------------------------------------------------------------------------------

/-- The two copies as they reach compare (01 R46, R51): equal but for the difference a command brings. -/
def disturb (d : Diff) (a b : Result) : Result × Result :=
  let flipAt (i : Nat) (m : Byte) (r : Result) : Result := { r with out := modAt (· ^^^ m) r.out i }
  match d with
  | .flip second i m => if second then (a, flipAt i m b) else (flipAt i m a, b)
  | .word second m => if second then (a, { b with word := b.word ^^^ m }) else ({ a with word := a.word ^^^ m }, b)
  | .status second c => if second then (a, { b with status := c }) else ({ a with status := c }, b)
  | _ => (a, b)

/-- Whether the compare fails (01 R46, R51; 05 R245, R246; 11 R499): the words, the verdicts or the release CRCs differ, or a
check before release fails. -/
def compareFails (d : Diff) (a b : Result) : Bool :=
  match d with
  | .crc _ => true
  | .selfCheck => true
  | _ => decide ((disturb d a b).1 ≠ (disturb d a b).2)

/-- An order ends with 0x0510; the third within 1 h is Silence 0x0006 (11 R503). -/
def end0510 (id : Nat) (s : State) : State :=
  let ts := within (3600 * 1000000000) s.keeper.codes0510 s.clock
  let s1 := complete id 0x0510 0 { s with keeper := { s.keeper with codes0510 := ts } }
  if 3 ≤ ts.length then silence 0x0006 s1 else s1

/-- Whether instances exist that an order's failed run did not use (11 R500, R503). -/
def disjointExists (s : State) (o : Order) : Bool :=
  match o.insts with
  | [] => true
  | p :: _ =>
    let others := (withStatus s p.1 .active).filter (fun i => !(o.insts.contains (p.1, i)))
    decide (o.insts.length ≤ others.length)

/-- A failed compare (11 R499 to R503): recorded; the first is retried on other instances, the second ends with 0x0510. -/
def compareFail (id : Nat) (o : Order) (a b : Result) (s : State) : State :=
  let code (i : Nat) : Nat := match o.insts[i]? with | some p => engCode p.1 p.2 | none => 0
  let s1 := perfAdd 11 1 (record 0x0603 sevHold (code 0) (code (o.insts.length - 1)) (o.stall + o.runs * 2 ^ 16) s)
  let whole := o.insts.all (fun p => p.1 == .loom || (p.1 == .mill && o.insts.length == 1))
  let s2 := if whole then o.insts.foldl (fun s p => strike p s) s1
            else o.insts.foldl (fun s p => modInst s p.1 p.2 (fun x => { x with heldFor := some id })) s1
  match o.withheld with
  | some _ =>
    let s3 := if whole then s2 else
      (o.avoid ++ o.insts).foldl (fun s p => modInst s p.1 p.2 (fun x => { x with heldFor := none }))
        (o.avoid.foldl (fun s p => strike p s) s2)
    end0510 id s3
  | none =>
    if disjointExists s2 o then
      reexec id (modOrder s2 id (fun o => { o with withheld := some (a, b), avoid := o.insts }))
    else end0510 id (o.insts.foldl (fun s p => modInst s p.1 p.2 (fun x => { x with heldFor := none })) s2)

/-- The strikes of a retry that compares well (11 R501): an instance whose first copy differs from the retry. -/
def retryStrikes (o : Order) (r : Result) (s : State) : State :=
  match o.withheld with
  | none => s
  | some (a, b) =>
    let free (s : State) : State := o.avoid.foldl (fun s p => modInst s p.1 p.2 (fun x => { x with heldFor := none })) s
    match o.avoid with
    | [p, q] =>
      let s1 := if a ≠ r then strike p s else s
      free (if b ≠ r then strike q s1 else s1)
    | _ => free s

/-- A discarded run ends: its slot pair returns to service once its operand memory is scrubbed (03 R161, 06 R325). -/
def endDiscard (id : Nat) (s : State) : State :=
  modInsts s (fun x => if x.discard.contains id then
    { x with discard := x.discard.filter (fun i => i != id), masks := x.masks.filter (fun m => m.1 != id), dirty := x.dirty + 1 } else x)

/-- The slots of a finished Forge or Kiln operation: mask registers are cleared, operand memory waits for its scrub (06 R325). -/
def freeSlots (o : Order) (s : State) : State :=
  (o.insts.filter (fun p => p.1 == .forge || p.1 == .kiln)).foldl
    (fun s p => modInst s p.1 p.2 (fun x => { x with masks := x.masks.filter (fun m => m.1 != o.id), dirty := x.dirty + 1 })) s

/-- COMPARE_AND_RELEASE (01 R51, R48; 11 R500 to R503; 03 R161): the copies are compared; equal ones are released, or
withheld and the order retried. -/
def execCompareAndRelease (id : Nat) (d : Diff) (t : Nat) (s : State) : Res :=
  coreAct (fun s =>
    let s := tick t s
    match order? s id with
    | none => endDiscard id s
    | some o =>
      match o.stage, o.copyA, o.copyB with
      | .computed, some a, some b =>
        let s := modOrder s id (fun o => { o with engTime := s.clock - o.dispatchAt })
        if compareFails d a b then compareFail id o (disturb d a b).1 (disturb d a b).2 (freeSlots o s)
        else
          let r := withWriteFault o a
          let s := match classKind o.opcode with
            | some k => perfAdd (4 + kindIx k) ((s.clock - o.dispatchAt) * 8 / 5) s
            | none => s
          queueOutput id (settle id r (retryStrikes o a (freeSlots o s)))
      | _, _, _ => endDiscard id s) s

-- Receipts -----------------------------------------------------------------------------------------------------------

/-- The bytes that an inline receipt carries: main output, then auxiliary output at a multiple of 8 (02 R76). -/
def inlineBytes (o : Order) (r : Result) : Bytes :=
  if !inlineOut o || o.intakeErr then []
  else if r.aux.isEmpty then r.out
  else fit (roundUp r.out.length 8) r.out ++ r.aux

/-- Engine time of a receipt: from dispatch to the end of compare in units of 10 ns, 0 if no engine ran (02 R101). -/
def engineTime (o : Order) : Nat :=
  if o.intakeErr || (classKind o.opcode).isNone then 0 else o.engTime / 10

/-- Phase bit of a slot at a receipt count (02 R103). -/
def phaseBit (r : Ring) (c : BitVec 32) : Nat := if c.toNat / rcpSize r % 2 = 0 then 1 else 0

/-- One continuation slot of a receipt (02 R104). -/
def contSlot (r : Ring) (c : BitVec 32) (b : Bytes) : Bytes :=
  let p := fit 31 b
  p.take 6 ++ [BitVec.ofNat 8 (phaseBit r c + 0x80)] ++ p.drop 6

/-- Slots of a receipt (02 R101, R104). -/
def rcptSlots (inl : Bytes) : Nat := 1 + (inl.length + 30) / 31

/-- A receipt: the continuation slots and the header slot, for a receipt count (02 R101 to R105). -/
def buildReceipt (r : Ring) (o : Order) (x : Result) : List Bytes × Bytes :=
  let inl := inlineBytes o x
  let n := rcptSlots inl
  let conts := (List.range (n - 1)).map (fun i => contSlot r (r.w + BitVec.ofNat 32 (i + 1)) (slice inl (31 * i) (min 31 (inl.length - 31 * i))))
  let outLen := if o.abandoned.isSome then 0 else if inlineOut o then inl.length else x.out.length
  let fl := phaseBit r r.w + (if inl.isEmpty then 0 else 2) + (if o.reexec then 4 else 0) + (if o.byTwin then 8 else 0)
  let h := leBytes 4 o.tag ++ leBytes 2 x.status ++ [BitVec.ofNat 8 fl, BitVec.ofNat 8 n] ++ leBytes 4 outLen ++
    leBytes 4 r.h.toNat ++ leBytes 8 x.word ++ leBytes 4 (engineTime o)
  (conts, h ++ leBytes 4 (crc32c (h ++ conts.flatten)).toNat)

/-- IOVA of a receipt-ring slot (02 R58). -/
def rcptIova (r : Ring) (c : BitVec 32) : Nat := r.rcpBase.toNat + 32 * (c.toNat % rcpSize r)

/-- The writes of a receipt (02 R106): continuation slots first, split at the ring wrap, then the header. -/
def receiptTlps (s : State) (o : Order) (x : Result) : List Tlp :=
  let r := ring s o.stall o.ring
  let (conts, h) := buildReceipt r o x
  let first := r.w + 1
  let room := rcpSize r - first.toNat % rcpSize r
  let a := (conts.take room).flatten
  let b := (conts.drop room).flatten
  (if a.isEmpty then [] else [mkTlp s o .rcptCont false (rcptIova r first, a)]) ++
  (if b.isEmpty then [] else [mkTlp s o .rcptCont false (r.rcpBase.toNat, b)]) ++
  [mkTlp s o .rcptHead false (rcptIova r r.w, h)]

/-- Free slots of a receipt ring that no order has reserved (02 R98). -/
def rcptRoom (r : Ring) : Nat := rcpSize r - (r.w - r.c).toNat - r.reserved

/-- Whether a receipt of the ring is in the egress queue: the next one is built when that one has left (log entry 24). -/
def rcptBusy (s : State) (st q : Nat) : Bool :=
  s.egress.any (fun x => (x.kind == .rcptHead || x.kind == .rcptCont) &&
    (match order? s x.order with | some o => o.stall == st && o.ring == q | none => false))

/-- The path of a receipt's writes (02 R680). -/
def rcptPath (s : State) (st : Nat) (tl : List Tlp) : RcptPath :=
  if !(stall s st).ats then .go
  else
    let pages := (tl.map (fun x => pagesOf x.addr x.data.length)).flatten
    match pages.find? (fun p => (trans? s st p).isNone) with
    | some p => .wait p
    | none =>
      match pages.findSome? (fun p => (trans? s st p).bind (fun x =>
        if !x.valid then some 0x0401 else if !x.wr then some 0x0402 else none)) with
      | some code => .fault code
      | none => .go

/-- Receipts of the twin that hold a receipt back in Mirror mode (10 R459). -/
def twinHoldsReceipt (s : State) (st q : Nat) : Bool :=
  mirrored s && (ring s st q).shared && decide (4096 ≤ s.pair.pendRcpts.length)

/-- The receipt header of an order has crossed the release point (02 R98, R119; 03 R141; 10 R457, R458). -/
def receiptWritten (o : Order) (x : Result) (s : State) : State :=
  let st := o.stall
  let q := o.ring
  let n := rcptSlots (inlineBytes o x)
  let w0 := (ring s st q).w
  let s1 := modRing s st q (fun r => { r with w := r.w + BitVec.ofNat 32 n, reserved := r.reserved - o.rsv })
  let s2 := modStall s1 st (fun y => { y with
    orders := if x.status / 256 = 0 && !o.intakeErr then y.orders + 1 else y.orders
    bytesOut := y.bytesOut + (inlineBytes o x).length
    engineTime := y.engineTime + engineTime o })
  let s3 := perfAdd 1 1 (dropOrder s2 o.id)
  let s4 := afterReceipt st q x.status (notifyFlag o) s3
  if mirrored s4 && (ring s4 st q).shared && !o.intakeErr then
    let s5 := claim st q (.receipt n st q (stall s4 st).gen x.status o.count w0) s4
    let s6 := { s5 with pair := { s5.pair with pendRcpts := s5.pair.pendRcpts ++ [(rix st q, w0.toNat, s4.pair.txSeq.getD 0 0)],
                                               rcptUnacked := satAdd 16 s5.pair.rcptUnacked 1 } }
    advanceShared st q 64 (modRing s6 st q (fun r => { r with twinDone := r.twinDone ++ [o.count.toNat] }))
  else s4

/-- Whether an order is one that a flush or a disable completed before its dispatch, its receipt not built yet (02 R63, R93). -/
def flushedWaiting (o : Order) : Bool :=
  !o.intakeErr && o.rsv == 0 && !o.rcptQueued && o.stage == .done &&
    (match o.result with | some r => r.status == 0x0310 | none => false)

/-- Whether the receipt of a flushed order waits for that of an earlier one: they are written in ring order (02 R93). -/
def flushedBehind (s : State) (o : Order) : Bool :=
  flushedWaiting o && (ringOrders s o.stall o.ring).any (fun x => flushedWaiting x && x.count != o.count &&
    decide ((o.count - x.count).toNat < 2 ^ 31))

/-- RECEIPT_RELEASE (01 R50; 02 R93, R94, R98, R106, R680): once the result is settled, the output has crossed the release
point and the commit-point write is done, the receipt is built and queued. One for which no slot was reserved takes its slot
here. -/
def execReceiptRelease (id t : Nat) (s : State) : Res :=
  coreAct (fun s =>
    let s := tick t s
    match order? s id with
    | none => s
    | some o =>
      match o.stage, o.result with
      | .done, some x =>
        let r := ring s o.stall o.ring
        if o.rcptQueued || o.commit == .pending || s.egress.any (fun y => y.order == id) || rcptBusy s o.stall o.ring
            || twinHoldsReceipt s o.stall o.ring || (o.rsv == 0 && rcptRoom r == 0) || flushedBehind s o then s
        else if !o.outSent then queueOutput id s
        else
          let tl := receiptTlps s o x
          match rcptPath s o.stall tl with
          | .wait p => emit (.atsReq o.stall (pasidOf s o.stall) p) s
          | .fault code =>
            let s1 := dropOrder (modRing s o.stall o.ring (fun r => { r with reserved := r.reserved - o.rsv })) id
            if o.abandoned.isSome then modStall s1 o.stall (fun y => { y with lostRcpts := satAdd 16 y.lostRcpts 1 })
            else stopRing o.stall o.ring code
              (modRing s1 o.stall o.ring (fun r => { r with rcpDrops := satAdd 16 r.rcpDrops 1 }))
          | .go =>
            let n := if o.rsv = 0 then 1 else 0
            modOrder (modRing { s with egress := s.egress ++ tl } o.stall o.ring (fun r => { r with reserved := r.reserved + n })) id
              (fun o => { o with rcptQueued := true, rsv := o.rsv + n })
      | _, _ => s) s

-- The egress checker -------------------------------------------------------------------------------------------------

/-- Whether an address range lies where the part may write for a TLP (01 R29): the output range bounded by the output
cap, the auxiliary range, or the receipt ring. -/
def permitted (s : State) (x : Tlp) (a n : Nat) : Bool :=
  match order? s x.order with
  | none => false
  | some o =>
    let r := ring s o.stall o.ring
    match x.kind with
    | .output => decide (o.outIova ≤ a) && decide (a + n ≤ o.outIova + o.outCap)
    | .aux => decide (o.auxIova ≤ a) && decide (a + n ≤ o.auxIova + o.auxLen)
    | _ => decide (r.rcpBase.toNat ≤ a) && decide (a + n ≤ r.rcpBase.toNat + 32 * rcpSize r)

end Machine
end Sys2Proof
end

