-- ==== Sys2Proof/Machine/StallOps.lean ====
section
/-!
DEFINITION. Stall reset, binding and the requests of the host that act on Stalls as a whole (Owners, Stalls and Sharing the
Engines, 03 R127 to R164; 14 R597).
-/
namespace Sys2Proof
namespace Machine

/-- Reset causes of LAST_CAUSE (03 R155). -/
def causeSelf : Nat := 1
def causeHard : Nat := 2
def causeUnbind : Nat := 3
def causeTdi : Nat := 4
def causeBind : Nat := 5
def causeFunction : Nat := 6

/-- Whether a stateful order's outcome has been decided (03 R157): its commit-point write has been made, or its
completion with 0x0001 or 0x0002 has been settled. -/
def decided (o : Order) : Bool :=
  isFirmware o.opcode && (o.commit != .none ||
    (match o.result with | some r => o.stage == .done && (r.status == 1 || r.status == 2) | none => false))

/-- The report entry of a decided stateful order: its tag and the status its receipt would have carried (03 R157). -/
def reportOf (o : Order) : Nat × Nat := (o.tag, match o.result with | some r => r.status | none => 0)

/-- What a reset makes of one order of the Stall (03 R157, R160): reported, abandoned with a receipt (self reset), or
removed. -/
def resetOrderOne (hard : Bool) (st : Nat) (s : State) (o : Order) : State :=
  let s1 := unlockKeys o.id (leaveRunning o (dropTlps o.id s))
  if o.intakeErr then dropOrder s1 o.id
  else if decided o then
    dropOrder (modStall s1 st (fun x => { x with newReports := (x.newReports ++ [reportOf o]).take 8 })) o.id
  else
    let status := if o.stage == .committed then 0x0601 else 0x0602
    let s2 := modStall s1 st (fun x => { x with newAbandoned := satAdd 16 x.newAbandoned 1 })
    if hard then dropOrder s2 o.id
    else
      modOrder s2 o.id (fun o => { o with
        stage := .done, insts := [], copyA := none, copyB := none, commit := .none, abandoned := some status,
        input := none, aux := none, pass2 := none, outWait := [],
        result := some { status := status, word := 0, out := [], aux := [] }, outSent := true, rcptQueued := false })

/-- A reset of a Bound Stall is accepted (03 R155 to R160): the generation advances at once, and everything the Stall has
in progress is discarded, abandoned or reported. -/
def beginReset (st : Nat) (hard : Bool) (cause : Nat) (s : State) : State :=
  let s1 := modStall s st (fun x => { x with
    state := .resetting, gen := x.gen + 1, lastCause := cause, hardReset := hard, newAbandoned := 0, newReports := [],
    lostRcpts := 0, freeAfter := false, resetOrder := [], quotaWait := false })
  let s2 := (stallOrders s1 st).foldl (resetOrderOne hard st) s1
  let s3 := (List.range 4).foldl (fun s q => dropUncommitted st q (modRing s st q (fun r => { r with
    fetched := [], cwBytes := [], rd := r.asm }))) s2
  let s4 := modInsts s3 (fun x => { x with wregs := x.wregs.filter (fun w => w.stall != st),
                                           loomBufs := x.loomBufs.filter (fun b => b.stall != st) })
  { s4 with pair := { s4.pair with txns := s4.pair.txns.filter (fun y => y.place.1 != st || (order? s4 y.order).isSome) } }

/-- Orders of a self reset whose abandonment receipt is still due (03 R160). -/
def owedReceipts (s : State) (st : Nat) : List Order := (stallOrders s st).filter (fun o => o.abandoned.isSome)

/-- A second request while the Stall is Resetting (03 R163): a hard one during a self reset drops the receipts that are
left. During a hard reset nothing changes: LAST_CAUSE keeps the cause of the first hard request (DESIGN CHOICE, log entry
137). -/
def mergeReset (st : Nat) (hard : Bool) (cause : Nat) (s : State) : State :=
  if hard && !(stall s st).hardReset then
    let owed := owedReceipts s st
    let s1 := owed.foldl (fun s o => dropOrder (dropTlps o.id s) o.id) s
    modStall s1 st (fun x => { x with hardReset := true, lastCause := cause,
                                      lostRcpts := satAdd 16 x.lostRcpts owed.length })
  else s

/-- In Mirror mode the twin is told of a reset under its new generation (10 R461). -/
def tellReset (st cause : Nat) (s : State) : State :=
  if mirrored s then sendFrame 0 (.stallReset st (stall s st).gen cause) s else s

/-- A reset request (03 R155, R163, R164): the twin is told of a fresh reset and of one that has become hard (10 R461). -/
def requestReset (st : Nat) (hard : Bool) (cause : Nat) (s : State) : State :=
  match (stall s st).state with
  | .bound => tellReset st cause (beginReset st hard cause s)
  | .resetting => if hard && !(stall s st).hardReset then tellReset st cause (mergeReset st hard cause s) else mergeReset st hard cause s
  | .free => s

/-- TDI state after a hard reset by order or register while locked or running (03 R145). -/
def tdiToError (st : Nat) (s : State) : State :=
  modStall s st (fun x => if x.tdi == .locked || x.tdi == .run then { x with tdi := .error } else x)

/-- Whether an abandonment receipt of the Stall can still be written (03 R160). -/
def canWriteOwed (s : State) (st : Nat) : Bool :=
  (owedReceipts s st).any (fun o => decide (0 < o.rsv) || decide (0 < rcptRoom (ring s st o.ring)))

/-- A Stall that has become Free keeps only what outlives it: generation, counts and reports of resets (03 R136, R142). Its
STALLCFG fields show their reset values (DESIGN CHOICE, log entry 137). -/
def freedStall (x : Stall) : Stall :=
  { Stall.reset with gen := x.gen, resets := x.resets, lastCause := x.lastCause, abandoned := x.abandoned,
                     lostRcpts := x.lostRcpts, reports := x.reports, resetDone := x.resetDone }

/-- The Stall and its rings at the completion of a reset (03 R142, R162): the cache entries that the Stall last used count for no
Stall from then on, so CACHE_NOW is cleared with the other view fields (log entry 138). -/
def settleStall (st : Nat) (s : State) : State :=
  let lost := owedReceipts s st
  let s1 := lost.foldl (fun s o => dropOrder s o.id) s
  let s2 := (List.range 4).foldl (fun s q => setRing s st q Ring.reset) s1
  let s3 := modStall s2 st (fun x => { x with
    state := .bound, resetDone := true, abandoned := x.newAbandoned, reports := x.newReports, newAbandoned := 0,
    newReports := [], lostRcpts := satAdd 16 x.lostRcpts lost.length, resets := satAdd 16 x.resets 1, orders := 0,
    bytesIn := 0, bytesOut := 0, engineTime := 0, waitTime := 0, quotaWait := false, held := none,
    deficits := [0, 0, 0, 0], nextRing := 0 })
  let s4 := { s3 with
    pcie := { s3.pcie with trans := s3.pcie.trans.filter (fun y => y.stall != st) }
    munim := { s3.munim with cache := s3.munim.cache.map (fun e => if e.stall = st then { e with stall := 4096 } else e) } }
  let x := stall s4 st
  let s5 := record 0x0501 sevInfo (st + x.lastCause * 4096) x.gen.toNat x.abandoned s4
  if x.freeAfter then modStall s5 st freedStall else s5

/-- The receipts of the orders that asked for a hard reset (03 R133, R162). -/
def answerReset (st : Nat) (x : Stall) (s : State) : State :=
  x.resetOrder.foldl (fun s id =>
    match order? s id with
    | none => s
    | some o =>
      let word := if o.opcode = 0x0F11 then (stall s st).abandoned * 2 ^ 16
                  else x.gen.toNat + (stall s st).abandoned * 2 ^ 16
      modOrder (complete id 0 word s) id (fun o => { o with commit := .done })) s

/-- STALL_RESET_COMPLETE (03 R161, R162; 10 R461): no request of the old generation is left, and every abandonment
receipt for which there is a slot has been written. -/
def execStallResetComplete (st : Nat) (twinDone : Bool) (t : Nat) (s : State) : Res :=
  coreAct (fun s =>
    let s := tick t s
    let x := stall s st
    if x.state != .resetting || canWriteOwed s st || s.egress.any (fun y => y.stall == st) || (mirrored s && !twinDone)
    then s
    else answerReset st x (settleStall st s)) s

/-- STALL_SELF_RESET (03 R141, R145, R155): RESET in the Stall page. The page of a Free Stall takes no reset, and Stall 0 is
reset only by a function reset (R681). What a running TDI discards counts in CW_DROPS of ring 0 (log entry 138). -/
def execStallSelfReset (st : Nat) (w : PageWrite) (s : State) : Res :=
  ringReg st 0 w (fun s => if st = 0 then s else requestReset st false causeSelf s) s

/-- STALLCFG_HARD_RESET (03 R140, R145): ignored for Stall 0 and for a Free Stall. -/
def execStallcfgHardReset (st t : Nat) (s : State) : Res :=
  hostAct (fun s =>
    let s := tick t s
    if st = 0 || 4096 ≤ st then s else requestReset st true causeHard (tdiToError st s)) s

/-- What a quota field of 8, 13, 9 or 17 bits takes of a write (03 R138). -/
def quotaBits (f : QuotaField) (v : Nat) : Nat :=
  match f with | .weight => v % 2 ^ 8 | .maxInflight => v % 2 ^ 13 | .maxPk => v % 2 ^ 9 | .maxCache => v % 2 ^ 17

/-- The Stall with one quota field replaced (03 R138). -/
def withQuota (f : QuotaField) (v : Nat) (x : Stall) : Stall :=
  match f with
  | .weight => { x with weight := quotaBits f v }
  | .maxInflight => { x with maxInflight := quotaBits f v }
  | .maxPk => { x with maxPk := quotaBits f v }
  | .maxCache => { x with maxCache := quotaBits f v }

/-- Whether a value may be written to a quota field: R139 refuses a WEIGHT of 0 and no other value. -/
def quotaInRange (f : QuotaField) (v : Nat) : Bool :=
  match f with
  | .weight => quotaBits f v != 0
  | _ => true

/-- Whether a new weight would take the Owner's weight sum above WEIGHT_SUM (03 R139); judged while the Owner's record is
loaded. -/
def weightTooHigh (s : State) (st : Nat) (f : QuotaField) (v : Nat) : Bool :=
  match f, Tbl.find? s.keeper.loaded (stall s st).owner with
  | .weight, some r => decide (r.weightSum < weightOf s (stall s st).owner - (stall s st).weight + quotaBits f v)
  | _, _ => false

/-- STALLCFG_QUOTA_WRITE (03 R139, R140). -/
def execStallcfgQuotaWrite (st : Nat) (f : QuotaField) (v : Nat) (s : State) : Res :=
  hostAct (fun s =>
    if 4096 ≤ st then s
    else if (stall s st).state == .free || !quotaInRange f v || weightTooHigh s st f v then
      modStall s st (fun x => { x with cfgErr := true })
    else modStall s st (withQuota f v)) s

/-- CONFIG_WRITE (03 R129; 15 R628, R629): the function captures the Requester ID of every configuration write, and every
Bound Stall takes it. Configuration requests are answered in Silence too (11 R495). -/
def execConfigWrite (rid : Nat) (reg : CfgReg) (t : Nat) (s : State) : Res :=
  act (fun s =>
    let s := tick t s
    let p := { s.pcie with rid := rid % 2 ^ 16 }
    let p1 := match reg with
      | .other => p
      | .atsEnable on => { p with atsEn := on }
      | .atomicRequester on => { p with atomicEn := on }
      | .clearFatal => { p with aerFatal := false }
    (boundStalls s).foldl (fun s b => modStall s b.1 (fun x => { x with rid := rid % 2 ^ 16 })) { s with pcie := p1 }) s

/-- The Stall that an invalidation names: the one bound to its PASID, or Stall 0 without one (03 R131). -/
def invTarget (s : State) (pasid : Option Nat) : Option Nat :=
  match pasid with
  | none => some 0
  | some p => ((boundStalls s).find? (fun b => !b.2.noPasid && b.2.pasid == p)).map (fun b => b.1)

/-- ATS_INVALIDATION (03 R131): the translations of the Stall in the range are removed; the invalidation completes once no
request that may use one of them is left, at once when there is none. -/
def execAtsInvalidation (pasid : Option Nat) (page count : Nat) (s : State) : Res :=
  coreAct (fun s =>
    let hit (y : Trans) : Bool := invTarget s pasid == some y.stall && decide (page ≤ y.page) && decide (y.page < page + count)
    let v : Inval := { pasid := pasid, stall := (invTarget s pasid).getD 0, pages := (s.pcie.trans.filter hit).map (fun y => y.page) }
    finishInvs { s with pcie := { s.pcie with trans := s.pcie.trans.filter (fun y => !hit y), invs := s.pcie.invs ++ [v] } }) s

end Machine
end Sys2Proof
end

