-- ==== Sys2Proof/Machine/Keys.lean ====
section
/-!
DEFINITION. Keys: handles, types, attribute blocks, the key hierarchy, the Owner master entries, blobs, resolution, usage
ledgers and the Muniment cache (04 R165 to R197; 05 R260 to R262; 03 R151).
-/
namespace Sys2Proof
namespace Machine

-- Handles and types --------------------------------------------------------------------------------------------------

/-- Usage bits (04 R183). -/
def uEncrypt : Nat := 0
def uDecrypt : Nat := 1
def uSign : Nat := 2
def uVerify : Nat := 3
def uWrap : Nat := 4
def uUnwrap : Nat := 5
def uDerive : Nat := 6
def uTranslate : Nat := 7
def uWrapOut : Nat := 8

/-- A set of usage bits. -/
def usages (l : List Nat) : BitVec 16 := l.foldl (fun m i => m ||| (1#16 <<< i)) 0

/-- Whether a key's usage has a bit. -/
def hasUsage (a : Attrs) (i : Nat) : Bool := a.usage.getLsbD i

/-- QUORUM, DEVICE_NONCE and LEDGER (04 R183). -/
def kQuorum (a : Attrs) : Bool := a.kflags.getLsbD 0
def kDeviceNonce (a : Attrs) : Bool := a.kflags.getLsbD 1
def kLedger (a : Attrs) : Bool := a.kflags.getLsbD 2

/-- Modulus bytes, field bytes and key_bits of the EC types in the order of R182. -/
def ecBytes : Nat → Nat
  | 1 => 32 | 2 => 48 | 3 => 66 | 4 => 32 | 5 => 48 | 6 => 32 | 7 => 32 | 8 => 57 | 9 => 32 | 10 => 56 | _ => 0
/-- key_bits of the EC types (04 R685). -/
def ecBits : Nat → Nat
  | 1 => 256 | 2 => 384 | 3 => 521 | 4 => 256 | 5 => 384 | 6 => 256 | 7 => 255 | 8 => 448 | 9 => 255 | 10 => 448 | _ => 0
/-- Encoded point of a curve: uncompressed SEC 1 for the Weierstrass curves, the standard's encoding otherwise (06 R293). -/
def ecPoint (c : Nat) : Nat := if c ≤ 6 then 2 * ecBytes c + 1 else ecBytes c
/-- n of an SLH-DSA parameter set (07 R336). -/
def slhN (c : Nat) : Nat := if c ≤ 4 then 16 else if c ≤ 8 then 24 else 32
/-- Public key bytes of an ML-KEM set (07 R336). -/
def mlkemPk : Nat → Nat | 1 => 800 | 2 => 1184 | 3 => 1568 | _ => 0
/-- Public key bytes of an ML-DSA set (07 R336). -/
def mldsaPk : Nat → Nat | 1 => 1312 | 2 => 1952 | 3 => 2592 | _ => 0

/-- Families of key types (04 R182). -/
inductive KeyFam
  | aes | chacha | tdea | secret | ecPriv | ecPub | rsaPriv | rsaPub | kemPriv | kemPub | dsaPriv | dsaPub | slhPriv | slhPub
deriving DecidableEq, Repr

/-- Family of a key type code, with the low part that names the variant (04 R182). -/
def keyFam (t : Nat) : Option KeyFam :=
  let lo := t % 16
  if t = 0x0101 || t = 0x0102 || t = 0x0103 then some .aes
  else if t = 0x0104 then some .chacha
  else if t = 0x0105 || t = 0x0106 then some .tdea
  else if t = 0x0107 then some .secret
  else if t / 16 = 0x20 && 1 ≤ lo && lo ≤ 10 then some .ecPriv
  else if t / 16 = 0x28 && 1 ≤ lo && lo ≤ 10 then some .ecPub
  else if t = 0x0301 then some .rsaPriv
  else if t = 0x0381 then some .rsaPub
  else if t / 16 = 0x40 && 1 ≤ lo && lo ≤ 3 then some .kemPriv
  else if t / 16 = 0x48 && 1 ≤ lo && lo ≤ 3 then some .kemPub
  else if t / 16 = 0x41 && 1 ≤ lo && lo ≤ 3 then some .dsaPriv
  else if t / 16 = 0x49 && 1 ≤ lo && lo ≤ 3 then some .dsaPub
  else if t / 16 = 0x42 && 1 ≤ lo && lo ≤ 12 then some .slhPriv
  else if t / 16 = 0x4A && 1 ≤ lo && lo ≤ 12 then some .slhPub
  else none

/-- Key material length of a type and nominal size (04 R182). -/
def materialLen (t kbits : Nat) : Nat :=
  let lo := t % 16
  match keyFam t with
  | some .aes => 8 + 8 * lo
  | some .chacha => 32
  | some .tdea => if t = 0x0105 then 16 else 24
  | some .secret => kbits / 8
  | some .ecPriv => ecBytes lo
  | some .ecPub => ecPoint lo
  | some .rsaPriv => 7 * (kbits / 8) / 2 + 8
  | some .rsaPub => (kbits + 7) / 8 + 8
  | some .kemPriv => 64
  | some .kemPub => mlkemPk lo
  | some .dsaPriv => 32
  | some .dsaPub => mldsaPk lo
  | some .slhPriv => 4 * slhN lo
  | some .slhPub => 2 * slhN lo
  | none => 0

/-- Whether key_bits is a value that R685 gives for the type. -/
def keyBitsOk (t kbits : Nat) : Bool :=
  let lo := t % 16
  match keyFam t with
  | some .aes => kbits == 64 + 64 * lo
  | some .chacha => kbits == 256
  | some .tdea => kbits == (if t = 0x0105 then 128 else 192)
  | some .secret => decide (128 ≤ kbits) && decide (kbits ≤ 1024) && kbits % 8 == 0
  | some .ecPriv => kbits == ecBits lo
  | some .ecPub => kbits == ecBits lo
  | some .rsaPriv => decide (2048 ≤ kbits) && decide (kbits ≤ 8192) && kbits % 256 == 0
  | some .rsaPub => decide (1024 ≤ kbits) && decide (kbits ≤ 8192) && kbits % 8 == 0
  | some _ => kbits == 8 * materialLen t kbits
  | none => false

/-- Usage bits a type permits (04 R182). -/
def permitted? (t : Nat) : BitVec 16 :=
  let lo := t % 16
  match keyFam t with
  | some .aes => usages [0, 1, 2, 3, 4, 5, 6, 7, 8]
  | some .chacha => usages [0, 1, 8]
  | some .tdea => usages [0, 1, 7, 4, 5, 8]
  | some .secret => usages [2, 3, 6, 8]
  | some .ecPriv =>
    usages ((if lo = 9 || lo = 10 then [] else [2]) ++ (if lo = 7 || lo = 8 then [] else [6]) ++ [8])
  | some .ecPub => usages [3, 6]
  | some .rsaPriv => usages [2, 1, 5, 8]
  | some .rsaPub => usages [3, 0, 4]
  | some .kemPriv => usages [6, 8]
  | some .kemPub => usages [6]
  | some .dsaPriv => usages [2, 8]
  | some .dsaPub => usages [3]
  | some .slhPriv => usages [2, 8]
  | some .slhPub => usages [3]
  | none => 0

/-- Whether a type is a private key of a pair (04 R182, R206). -/
def isPair (t : Nat) : Bool :=
  match keyFam t with
  | some .ecPriv => true | some .rsaPriv => true | some .kemPriv => true | some .dsaPriv => true | some .slhPriv => true
  | _ => false

/-- Length of the public key of a private key type (06 R315, 07 R345). -/
def publicLen (t kbits : Nat) : Nat :=
  let lo := t % 16
  match keyFam t with
  | some .ecPriv => ecPoint lo
  | some .rsaPriv => kbits / 8 + 8
  | some .kemPriv => mlkemPk lo
  | some .dsaPriv => mldsaPk lo
  | some .slhPriv => 2 * slhN lo
  | _ => 0

-- Attribute blocks ---------------------------------------------------------------------------------------------------

/-- The attribute block that 64 bytes spell (04 R183). -/
def parseAttrs (b : Bytes) : Attrs :=
  { keyType := field b 0 2, keyBits := field b 2 2, usage := BitVec.ofNat 16 (field b 4 2),
    kflags := BitVec.ofNat 16 (field b 6 2), lcMask := BitVec.ofNat 8 (field b 8 1), worldMask := BitVec.ofNat 8 (field b 9 1),
    kstate := field b 10 1, stallLo := field b 12 2, stallHi := field b 14 2, invLimit := field b 16 8,
    byteLimit := field b 24 8, ledgerTally := field b 32 2, invQ := field b 34 1, byteQ := field b 35 1,
    ledgerBase := field b 40 8, predecessor := field b 48 8 }

/-- The 64 bytes of an attribute block (04 R183). -/
def attrBytes (a : Attrs) : Bytes :=
  leBytes 2 a.keyType ++ leBytes 2 a.keyBits ++ leBytes 2 a.usage.toNat ++ leBytes 2 a.kflags.toNat ++
    leBytes 1 a.lcMask.toNat ++ leBytes 1 a.worldMask.toNat ++ leBytes 1 a.kstate ++ [0] ++ leBytes 2 a.stallLo ++
    leBytes 2 a.stallHi ++ leBytes 8 a.invLimit ++ leBytes 8 a.byteLimit ++ leBytes 2 a.ledgerTally ++
    leBytes 1 a.invQ ++ leBytes 1 a.byteQ ++ zeros 4 ++ leBytes 8 a.ledgerBase ++ leBytes 8 a.predecessor ++ zeros 8

/-- Whether a Res0 field of an attribute block is non-zero (04 R183, 00 R24). -/
def attrRes0 (b : Bytes) : Bool :=
  field b 4 2 / 512 != 0 || field b 6 2 / 8 != 0 || field b 8 1 % 4 != 0 || field b 8 1 / 32 != 0 || field b 9 1 / 4 != 0 ||
    field b 11 1 != 0 || !allZero (slice b 36 4) || !allZero (slice b 56 8)

/-- Offset of the first field that refuses an attribute block (04 R184). -/
def attrBad (a : Attrs) : Option Nat :=
  if (keyFam a.keyType).isNone then some 0
  else if !keyBitsOk a.keyType a.keyBits then some 2
  else if (a.usage &&& ~~~(permitted? a.keyType)) ≠ 0 then some 4
  else if kDeviceNonce a && keyFam a.keyType != some .aes then some 6
  else if !kLedger a && (a.invLimit != 0 || a.byteLimit != 0) then some 6
  else if kLedger a && a.invLimit == 0 && a.byteLimit == 0 then some 6
  else if a.lcMask = 0 then some 8
  else if a.worldMask = 0 then some 9
  else if a.stallHi < a.stallLo then some 12
  else if kLedger a && decide (32 < a.invQ) then some 34
  else if kLedger a && (decide (a.byteQ < 12) || decide (40 < a.byteQ)) then some 35
  else none

/-- Offset of the first field "set by the part" that an order does not leave at 0 (04 R183; log entry 30). -/
def attrPartSet (a : Attrs) : Option Nat :=
  if a.kstate ≠ 0 then some 10 else if a.ledgerBase ≠ 0 then some 40 else if a.predecessor ≠ 0 then some 48 else none

-- Key hierarchy ------------------------------------------------------------------------------------------------------

/-- KDF of the key hierarchy: SP 800-108r1 in KMAC mode with KMAC256 (04, The key hierarchy). -/
def kdf (key : Bytes) (label : String) (ctx : Bytes) (n : Nat) : Bytes := take n (Config.kmac256 key ctx n (ascii label))

/-- The OTP salt (04 R165). -/
def otpSalt : Bytes := take 32 Config.otpSaltByte

/-- Key check value (04 R194). -/
def kcvOf (material : Bytes) : Bytes := take 8 (Config.kmac256 material [] 8 (ascii "UT-KCV"))

/-- Bytes drawn from the DRBG: fresh ones at each draw (07 R360). -/
def draw (n : Nat) (s : State) : Bytes × State :=
  (take n (fun i => Config.drbg (s.drbg.next + i)), perfAdd 15 n { s with drbg := { s.drbg with next := s.drbg.next + n, requests := s.drbg.requests + 1 } })

/-- Master wrap key of an entry (04 R165). -/
def masterWrapKey (s : State) (entry : Nat) : Option Bytes :=
  s.munim.deviceRoot.map (fun r => kdf r "UT-MWK" (leBytes 2 entry) 32)

/-- A P-384 private key from 512 bits by the extra-bits method of FIPS 186-5: reduced modulo n - 1, plus 1 (04 R165). -/
def extraBits (okm : Bytes) : Bytes := beBytes 48 (ofBe okm % (Config.curveN 2 - 1) + 1)

/-- The classical identity key that a Watermark key gives (04 R165). -/
def classicalKey (w : Bytes) : Bytes := extraBits (kdf w "UT-ID-EC" otpSalt 64)

/-- The classical identity key and the seed of the post-quantum one (04 R165, R172). -/
def idClassical (s : State) : Option Bytes :=
  if s.munim.ids then s.munim.watermark.map classicalKey else none
def idPostQuantum (s : State) : Option Bytes :=
  if s.munim.ids then s.munim.watermark.map (fun w => kdf w "UT-ID-PQ" otpSalt 32) else none

/-- Public key of the classical identity key, 97 bytes: it depends on the Watermark key and the OTP salt alone. -/
def idPublic : Bytes := take 97 (Config.publicKey 0x0202 (classicalKey (take 32 Config.watermarkByte)))

/-- The recognition secret, 384 bits (04 R165, R239). -/
def recognition (s : State) : Option Bytes :=
  if s.munim.ids then s.munim.watermark.map (fun w => kdf w "UT-GENUINE" otpSalt 48) else none

-- Owner master entries -----------------------------------------------------------------------------------------------

/-- The two slots of a master entry (04 R173). -/
def entrySlots (s : State) (e : Nat) : Option MSlot × Option MSlot := Tbl.getD s.mram.master e (none, none)

/-- The first 96 bytes of a slot (04 R174). -/
def slotBody (m : MSlot) : Bytes :=
  leBytes 1 m.kind ++ leBytes 1 m.state ++ leBytes 2 m.owner ++ leBytes 4 m.epoch ++ leBytes 8 m.seq ++ leBytes 2 m.approver ++
    leBytes 4 m.wcount ++ zeros 2 ++ fit 16 m.pdigest ++ fit 56 m.payload

/-- The MAC that the part writes last into a slot (04 R174, R175). -/
def slotMac (s : State) (m : MSlot) : Bytes :=
  match s.munim.anchorKey with
  | some k => take 32 (Config.kmac256 k (slotBody m) 32 [])
  | none => zeros 32

/-- A slot is valid only when its state is 1 and its MAC checks (04 R175); `macOk` is false where a write was torn. -/
def slotValid (m : MSlot) : Bool := m.state == 1 && m.macOk

/-- A slot of an entry with its number, while it is valid. -/
def slotIf (i : Nat) : Option MSlot → List (Nat × MSlot)
  | some m => if slotValid m then [(i, m)] else []
  | none => []

/-- The valid slots of an entry with their slot numbers. -/
def validSlots (s : State) (e : Nat) : List (Nat × MSlot) := slotIf 0 (entrySlots s e).1 ++ slotIf 1 (entrySlots s e).2

/-- The slot of an entry with the greater value of a measure. -/
def bestSlot (f : MSlot → Nat) (l : List (Nat × MSlot)) : Option (Nat × MSlot) :=
  l.foldl (fun b p => match b with | none => some p | some q => if f q.2 < f p.2 then some p else b) none

/-- The current slot of an entry of kinds 2 to 4: the valid one with the higher write count (04 R175). -/
def currentSlot (s : State) (e : Nat) : Option (Nat × MSlot) := bestSlot (fun m => m.wcount) (validSlots s e)

/-- The current master slot of an Owner: the valid one with the higher epoch (04 R209). -/
def masterSlot (s : State) (owner : Nat) : Option (Nat × MSlot) := bestSlot (fun m => m.epoch) (validSlots s (4 * owner))

/-- The previous master slot, while it is valid. -/
def prevSlot (s : State) (owner : Nat) : Option (Nat × MSlot) :=
  match masterSlot s owner with
  | none => none
  | some c => (validSlots s (4 * owner)).find? (fun p => p.1 != c.1)

/-- The slot to which the next write of an entry of kinds 2 to 4 goes (04 R175). -/
def nextSlot (s : State) (e : Nat) : Nat :=
  match currentSlot s e with
  | some (0, _) => 1
  | _ => 0

/-- The write count of the next write of an entry (04 R174). -/
def nextWcount (s : State) (e : Nat) : Nat := ((validSlots s e).map (fun p => p.2.wcount)).foldl max 0 + 1

/-- The state with one slot of a master entry written or erased (04 R175). -/
def writeSlot (e slot : Nat) (img : Option MSlot) (s : State) : State :=
  let p := entrySlots s e
  let p' := if slot = 0 then (img, p.2) else (p.1, img)
  { s with mram := { s.mram with master := Tbl.put (none, none) s.mram.master e p' } }

/-- An Owner Master Key unwrapped from a master slot (04 R173). -/
def unwrapOmk (s : State) (owner : Nat) (m : MSlot) : Option Bytes :=
  (masterWrapKey s (4 * owner)).bind (fun k => kwUnwrap k (m.payload.take 40))

/-- The OMK of an epoch that blobs of the Owner may name: the current one, or the previous one while its slot is valid
(04 R195). -/
def omkOf (s : State) (owner epoch : Nat) : Option Bytes :=
  ((validSlots s (4 * owner)).find? (fun p => p.2.epoch == epoch)).bind (fun p => unwrapOmk s owner p.2)

/-- The current master epoch of an Owner, 0 without one. -/
def curEpoch (s : State) (owner : Nat) : Nat := match masterSlot s owner with | some p => p.2.epoch | none => 0

/-- All valid slots of the store (04 R176). -/
def allSlots (s : State) : List MSlot := ((s.mram.master.map (fun p => p.2.1.toList ++ p.2.2.toList)).flatten).filter slotValid

/-- Lx with the digest of the slot that holds it (04 R176): the greatest seq over all valid slots whose approver is x. -/
def lastSeq (s : State) (x : Nat) : Option MSlot :=
  (allSlots s).foldl (fun b m => if m.approver = x then
    (match b with | none => some m | some c => if c.seq < m.seq then some m else b) else b) none

/-- Lx (04 R176). -/
def lx (s : State) (x : Nat) : Nat := match lastSeq s x with | some m => m.seq | none => 0

/-- The Retiring marker in a record anchor (04 R236): its last payload byte is set (log entry 31). -/
def retiringMark (m : MSlot) : Bool := m.payload.getD 55 0 != 0

/-- State of an Owner: 0 Absent, 1 Active with record not loaded, 2 Active with record loaded, 3 Retiring (03 R124,
15 R637). -/
def ownerState (s : State) (n : Nat) : Nat :=
  match currentSlot s (4 * n + 1) with
  | none => 0
  | some p =>
    if retiringMark p.2 then 3
    else if (Tbl.find? s.keeper.loaded n).isSome then 2 else 1

/-- Whether an Owner is Active (03 R124). -/
def ownerActive (s : State) (n : Nat) : Bool := ownerState s n == 1 || ownerState s n == 2

/-- An Owner's record, once it is loaded (04 R237). -/
def ownerRec (s : State) (n : Nat) : Option OwnerRec := Tbl.find? s.keeper.loaded n

-- Blobs --------------------------------------------------------------------------------------------------------------

/-- Blob key-encryption key (04 R165). -/
def blobKey (omk : Bytes) (owner slot gen cls : Nat) : Bytes :=
  kdf omk "UT-BLOB" (leBytes 2 owner ++ leBytes 4 slot ++ leBytes 4 gen ++ leBytes 1 cls) 32

/-- The first 112 bytes of a blob (04 R193). -/
def blobHead (cls handle : Nat) (attrs kcv : Bytes) (epoch len : Nat) (nonce : Bytes) : Bytes :=
  [0x55, 0x54, 0x42, 0x4C] ++ leBytes 2 1 ++ leBytes 1 cls ++ [0] ++ leBytes 8 handle ++ fit 64 attrs ++ fit 8 kcv ++
    leBytes 4 epoch ++ leBytes 4 len ++ fit 12 nonce ++ zeros 4

/-- A blob under an OMK (04 R193). -/
def sealBlob (omk : Bytes) (cls handle : Nat) (attrs kcv : Bytes) (epoch : Nat) (body nonce : Bytes) : Bytes :=
  let h := blobHead cls handle attrs kcv epoch body.length nonce
  let key := if cls = 1 then blobKey omk (hOwner handle) (hSlot handle) (hGen handle) 1
             else blobKey omk (hOwner handle) 0 (bits handle 0 24) 2
  let (ct, tag) := gcmSeal key nonce h body
  h ++ ct ++ tag

/-- The blob of a key record (04 R193); none when the Owner's OMK cannot be formed. -/
def keyBlob (s : State) (handle : Nat) (k : KeyRec) (nonce : Bytes) : Option Bytes :=
  (omkOf s (hOwner handle) (curEpoch s (hOwner handle))).map (fun omk =>
    sealBlob omk 1 handle (attrBytes k.attrs) k.kcv (curEpoch s (hOwner handle)) k.material nonce)

/-- What a blob holds once it is open. -/
structure Opened where
  handle : Nat
  attrs : Bytes
  kcv : Bytes
  epoch : Nat
  body : Bytes
deriving DecidableEq, Repr

/-- The checks of R195 on a blob of class `cls`, in order, and its body; `owner` is the Owner whose epochs count. -/
def openBlob (s : State) (cls : Nat) (b : Bytes) : Except (Nat × Nat) Opened :=
  let len := field b 92 4
  let h := field b 8 8
  let at' := slice b 16 64
  let bodyOk := if cls = 1 then len == materialLen (field at' 0 2) (field at' 2 2) && (keyFam (field at' 0 2)).isSome
                else decide (40 + 2 * 1984 ≤ len) && (len - 40) % 1984 == 0 && decide (len ≤ 40 + 16 * 1984)
  let resOk := field b 7 1 == 0 && allZero (slice b 108 4) && bits h 52 2 == 0 &&
    (if cls = 1 then !attrRes0 at' else bits h 24 30 == 0 && allZero at' && allZero (slice b 80 8))
  let epoch := field b 88 4
  if b.length != 112 + len + 16 || b.take 4 != [0x55, 0x54, 0x42, 0x4C] || field b 4 2 != 1 || field b 6 1 != cls ||
      !bodyOk || !resOk then .error (0x0212, 0)
  else
    match omkOf s (hOwner h) epoch with
    | none => .error (0x0211, curEpoch s (hOwner h))
    | some omk =>
      let key := if cls = 1 then blobKey omk (hOwner h) (hSlot h) (hGen h) 1 else blobKey omk (hOwner h) 0 (bits h 0 24) 2
      match gcmOpen key (slice b 96 12) (b.take 112) (slice b 112 len) (slice b (112 + len) 16) with
      | none => .error (0x0210, 0)
      | some body => .ok { handle := h, attrs := at', kcv := slice b 80 8, epoch := epoch, body := body }

-- The key store ------------------------------------------------------------------------------------------------------

/-- Keys of an Owner held in Stacks (03 R125). -/
def storedCount (s : State) (owner : Nat) : Nat :=
  (s.munim.keys.filter (fun p => p.1 / 2 ^ 28 == owner && p.2.key.isSome)).length

/-- Lines of 64 bytes that a key record takes (04 R181). -/
def recLines (k : KeyRec) : Nat := 2 + (k.material.length + 63) / 64

/-- Lines that the stored keys take; a slot that holds only a tombstone takes none (DESIGN CHOICE, log entry 140: R181 counts
the records of keys and its first two lines hold the tombstone generation). -/
def usedLines (s : State) : Nat := (s.munim.keys.map (fun p => match p.2.key with | some k => recLines k | none => 0)).sum

/-- Cache entries and working-key registers of a key are cleared (04 R192). -/
def dropCached (handle : Nat) (s : State) : State :=
  let s1 := modInsts s (fun x => { x with wregs := x.wregs.filter (fun w => w.keyA != handle && w.keyB != handle) })
  { s1 with munim := { s1.munim with cache := s1.munim.cache.filter (fun e => e.handle != handle) } }

/-- The Daybook record of a key's new state (13 R563). -/
def keyRecord (handle new : Nat) (s : State) : State := record 0x0401 sevInfo (handle % 2 ^ 32) (handle / 2 ^ 32) new s

/-- A key becomes Spent (04 R187, 05 R261): recorded, and the Owner's event is set (15 R639). -/
def makeSpent (owner slot : Nat) (s : State) : State :=
  let ks := keySlot s owner slot
  match ks.key with
  | none => s
  | some k =>
    if k.attrs.kstate ≠ 0 then s
    else
      let s1 := setKeySlot owner slot { ks with key := some { k with attrs := { k.attrs with kstate := 1 }, res := none } } s
      event (512 + owner) (keyRecord (mkHandle owner slot k.gen) 1 s1)

-- Resolution ---------------------------------------------------------------------------------------------------------

/-- Whether a Stall is a TDI in RUN (04 R183). -/
def inRun (s : State) (st : Nat) : Bool := (stall s st).tdi == .run

/-- Steps 1 to 5 of R190: the key a handle names. -/
def findKey (s : State) (st h : Nat) : Except (Nat × Nat) KeyRec :=
  let ks := keySlot s (hOwner h) (hSlot h)
  if hOwner h ≠ (stall s st).owner then .error (0x0203, 0)
  else if (ownerRec s (hOwner h)).isNone then .error (0x0215, 0)
  else if hGen h = 0 || (ks.key.isNone && ks.tomb.isNone) then .error (0x0201, 0)
  else if ks.tomb = some (hGen h) then .error (0x0209, ks.tombNext)
  else
    match ks.key with
    | none => .error (0x0201, 0)
    | some k => if k.gen = hGen h then .ok k else .error (0x0202, k.gen)

/-- Keys bound to a Tally that has become Exhausted are Spent (04 R189). -/
def spendBound (n : Nat) (s : State) : State :=
  if (tally s n).exhausted then
    (s.munim.keys.filter (fun p => match p.2.key with
      | some k => kLedger k.attrs && k.attrs.ledgerTally == n
      | none => false)).foldl (fun s p => makeSpent (p.1 / 2 ^ 28) (p.1 % 2 ^ 28) s) s
  else s

/-- Steps 1 to 10 of R190. `suits` and `need` are those of the opcode. -/
def resolve (s : State) (st h : Nat) (suits : Nat → Bool) (need : List Nat) : Except (Nat × Nat) KeyRec :=
  match findKey s st h with
  | .error e => .error e
  | .ok k =>
    let a := k.attrs
    if st < a.stallLo || a.stallHi < st then .error (0x0204, 0)
    else if !(a.worldMask.getLsbD (if inRun s st then 1 else 0)) then .error (0x0205, 0)
    else if !(a.lcMask.getLsbD s.faults.lifecycle) then .error (0x0206, 0)
    else if !suits a.keyType then .error (0x020A, 0)
    else if need.any (fun u => !hasUsage a u) then .error (0x0207, 0)
    else .ok k

-- Usage ledgers ------------------------------------------------------------------------------------------------------

/-- What a charge against a key's ledger needs and gives (05 R260, R261). -/
structure Charge where
  /-- Whether it is covered. -/
  ok : Bool
  /-- New reservations it takes. -/
  taken : Nat
  /-- Invocation index charged. -/
  index : Nat
  /-- The key's current reservation afterwards. -/
  res : Option Reservation
deriving DecidableEq, Repr

/-- End of a grant: the lesser of the reservation's end and the limit; a limit of 0 is not counted (04 R186). -/
def grantEnd (k q limit : Nat) : Nat := if limit = 0 then (k + 1) * 2 ^ q else min ((k + 1) * 2 ^ q) limit

/-- Whether a reservation would begin at or beyond a non-zero limit (04 R187). -/
def beyond (a : Attrs) (k : Nat) : Bool :=
  (a.invLimit != 0 && decide (a.invLimit ≤ k * 2 ^ a.invQ)) || (a.byteLimit != 0 && decide (a.byteLimit ≤ k * 2 ^ a.byteQ))

/-- The charge of one invocation and `n` bytes (04 R186, 05 R260, R261), for a Tally value. -/
def chargeOf (a : Attrs) (cur : Option Reservation) (tallyValue n : Nat) : Charge :=
  let fits : Bool := match cur with
    | none => false
    | some r => (a.invLimit == 0 || decide (r.invNext < r.invEnd)) && (a.byteLimit == 0 || decide (r.byteNext + n ≤ r.byteEnd))
  match cur, fits with
  | some r, true => { ok := true, taken := 0, index := r.invNext,
                      res := some { r with invNext := r.invNext + 1, byteNext := r.byteNext + n } }
  | _, _ =>
    let k0 := tallyValue - a.ledgerBase
    let m := if a.byteLimit = 0 then 1 else max 1 ((n + 2 ^ a.byteQ - 1) / 2 ^ a.byteQ)
    let good := ((List.range m).takeWhile (fun i => !beyond a (k0 + i))).length
    let covered := a.byteLimit == 0 || decide (k0 * 2 ^ a.byteQ + n ≤ grantEnd (k0 + m - 1) a.byteQ a.byteLimit)
    if good = m && covered then
      let kl := k0 + m - 1
      { ok := true, taken := m, index := k0 * 2 ^ a.invQ,
        res := some { k := kl, invNext := if m = 1 then k0 * 2 ^ a.invQ + 1 else kl * 2 ^ a.invQ,
                      invEnd := grantEnd kl a.invQ a.invLimit, byteNext := k0 * 2 ^ a.byteQ + n,
                      byteEnd := grantEnd kl a.byteQ a.byteLimit } }
    else { ok := false, taken := good, index := 0, res := none }

/-- Several writes of a Tally, one for each reservation (13 R581, R583). -/
def tallyAddN (n m : Nat) (s : State) : State :=
  let t := tally s n
  if m = 0 || t.exhausted then s
  else if t.writes + m < 8000000000 && t.value + m ≤ tallyMax then
    { s with mram := { s.mram with tallies := Tbl.put Tally.reset s.mram.tallies n { t with value := t.value + m, writes := t.writes + m } } }
  else
    let k := min (m - 1) (min (8000000000 - t.writes) (tallyMax - t.value))
    tallyAdd n 1 { s with mram := { s.mram with tallies := Tbl.put Tally.reset s.mram.tallies n { t with value := t.value + k, writes := t.writes + k } } }

/-- Bytes that an order charges: input length plus auxiliary length (05 R260). -/
def chargeBytes (o : Order) : Nat := o.inLen + o.auxLen

/-- One invocation and `n` bytes are charged against a key's ledger: the index charged, or none. A reservation that could not
increment its Tally grants nothing (04 R186), and a Tally that becomes Exhausted makes every key bound to it Spent (R189). -/
def chargeKey (owner slot n : Nat) (s : State) : Option Nat × State :=
  match (keySlot s owner slot).key with
  | none => (none, s)
  | some k =>
    let t := tally s k.attrs.ledgerTally
    if t.exhausted then (none, makeSpent owner slot s)
    else
      let c := chargeOf k.attrs k.res t.value n
      let s1 := tallyAddN k.attrs.ledgerTally c.taken s
      if c.ok && (tally s1 k.attrs.ledgerTally).value == t.value + c.taken then
        let ks := keySlot s1 owner slot
        (some c.index, spendBound k.attrs.ledgerTally (setKeySlot owner slot { ks with key := some { k with res := c.res } } s1))
      else (none, spendBound k.attrs.ledgerTally (makeSpent owner slot s1))

end Machine
end Sys2Proof
end

