-- ==== Sys2Proof/Machine/Vigil.lean ====
section
/-!
DEFINITION. The Vigil domain, the tamper inputs and the environment monitors (Vigil Domain, Tamper Monitors and Energy
Limits, 12 R517 to R548; 11 R499, R506 to R509; 16 R673).
-/
namespace Sys2Proof
namespace Machine

/-- A step that only main power allows (12 R541): the monitors run from the first start-up instruction, in Silence too. -/
def powered (f : State → State) (s : State) : Res := act (fun s => if s.faults.railsUp then f s else s) s

-- Monitor entries ------------------------------------------------------------------------------------------------------

/-- Factory warning level of a main rail in mV (12 R542). -/
def railWarning : Nat → Nat | 0 => 700 | 1 => 800 | 2 => 850 | 3 => 1140 | 4 => 1700 | 5 => 1045 | _ => 0
/-- Highest user warning level of a main rail in mV. -/
def railUserMax : Nat → Nat | 0 => 740 | 1 => 840 | 2 => 890 | 3 => 1190 | 4 => 1790 | 5 => 1090 | _ => 0
/-- Reset level of a main rail in mV. -/
def railReset : Nat → Nat | 0 => 660 | 1 => 760 | 2 => 810 | 3 => 1080 | 4 => 1620 | 5 => 1000 | _ => 0
/-- Upper edge of a main rail in mV. -/
def railUpper : Nat → Nat | 0 => 850 | 1 => 950 | 2 => 1000 | 3 => 1320 | 4 => 1980 | 5 => 1210 | _ => 0
/-- Factory hysteresis of a main rail in mV. -/
def railHyst (r : Nat) : Nat := if r = 3 || r = 5 then 15 else if r = 4 then 20 else if r < 3 then 10 else 0

/-- Factory and reset user window half-width of clock index 32 + c, in 0.01 % (12 R544). -/
def clockFactory (c : Nat) : Nat := if c = 6 then 2000 else 1000
def clockUser (c : Nat) : Nat := if c = 6 then 500 else 300

/-- A MON entry as it is before any measurement or user value (12 R542 to R545, R548). -/
def MonEnt.at (m : Nat) : MonEnt :=
  let e := MonEnt.reset
  if m < 6 then { e with userLimit := railWarning m, factoryLimit := railWarning m, userFilter := 8, factoryFilter := 8,
                         hyst := railHyst m }
  else if 24 ≤ m && m < 32 then { e with userLimit := 420, factoryLimit := 420, userFilter := 4, factoryFilter := 4 }
  else if 32 ≤ m && m < 39 then { e with userLimit := clockUser (m - 32), factoryLimit := clockFactory (m - 32),
                                         userFilter := 2, factoryFilter := 2 }
  else if 48 ≤ m && m < 64 then { e with userFilter := 1, factoryFilter := 1 }
  else if 64 ≤ m && m < 76 then { e with factoryFilter := 2 }
  else e

/-- A MON entry (12 R548). -/
def mon (s : State) (m : Nat) : MonEnt := Tbl.getD s.mon.ents m (MonEnt.at m)

/-- The state with a MON entry replaced. -/
def setMon (m : Nat) (e : MonEnt) (s : State) : State :=
  { s with mon := { s.mon with ents := Tbl.put (MonEnt.at m) s.mon.ents m e } }

/-- The state with a MON entry changed. -/
def modMon (m : Nat) (f : MonEnt → MonEnt) (s : State) : State := setMon m (f (mon s m)) s

/-- Two's complement of 16 bits. -/
def i16 (v : Int) : BitVec 16 := BitVec.ofInt 16 v

/-- A measurement: VALUE takes it, and EXTREME when `worse new old`, or when it is the first (12 R548). -/
def measure (m : Nat) (v : Int) (worse : Int → Int → Bool) (s : State) : State :=
  modMon m (fun e => { e with value := i16 v, measured := true, present := true,
                              extreme := if !e.measured || worse v e.extreme.toInt then i16 v else e.extreme }) s

/-- Lowest voltage, highest temperature, deviation of largest magnitude (12 R548). -/
def lower (a b : Int) : Bool := decide (a < b)
def higher (a b : Int) : Bool := decide (b < a)
def larger (a b : Int) : Bool := decide (b.natAbs < a.natAbs)

/-- An alarm of a monitor: ALARM, LATCHED with its event source 64 + m, ALARMS (12 R548, 15 R639). -/
def alarmOn (m : Nat) (s : State) : State :=
  let was := (mon s m).latched
  let s1 := modMon m (fun e => { e with alarm := true, latched := true, alarms := satAdd 32 e.alarms 1 }) s
  if was then s1 else event (64 + m) s1

/-- The alarm condition of a monitor ends. -/
def alarmOff (m : Nat) (s : State) : State := modMon m (fun e => { e with alarm := false }) s

/-- The Daybook record of a limit crossed (13 R563). -/
def crossed (m sev limit : Nat) (s : State) : State := record 0x0702 sev m (mon s m).value.toNat limit s

-- Work held back (11 R491) ---------------------------------------------------------------------------------------------

/-- Whether a tainted Hold discards an order: every one in progress whose compare had not completed 50 ns before the Hold
was entered. Orders that wait for the twin or for a reset hold no work of the part's engines (log entry 45). -/
def tainted (s : State) (o : Order) : Bool :=
  isDispatched o && o.stage != .waitTwin && o.stage != .waitReset && o.stage != .waitPair &&
    (o.stage != .done || decide (s.faults.holdAt < o.compareAt + 50))

/-- Orders that the end of a tainted Hold re-executes. -/
def taintedIds (s : State) : List Nat := (s.orders.filter (tainted s)).map (fun o => o.id)

-- Supplies -------------------------------------------------------------------------------------------------------------

/-- SUPPLY_WARNING (11 R506, R508, R509; 12 R542): a main rail below its warning level. -/
def execSupplyWarning (rail mv t : Nat) (s : State) : Res :=
  powered (fun s =>
    let s := tick t s
    if 6 ≤ rail || (mon s rail).userLimit ≤ mv then s
    else
      let s1 := measure rail mv lower s
      match (mon s1 rail).dipAt with
      | some _ => modMon rail (fun e => { e with dipMin := min e.dipMin mv }) s1
      | none =>
        let dips := within 1000000000 s.mon.dipTimes s.clock
        let s2 := alarmOn rail (modMon rail (fun e => { e with dipAt := some s.clock, dipMin := mv }) s1)
        let s3 := beginFlush (holdEnter .supply true { s2 with mon := { s2.mon with dipTimes := dips } })
        if 16 ≤ dips.length then silence 0x000E s3 else s3) s

/-- The Note of a dip that ends now, 10 us after the rail rose above its warning level plus hysteresis (11 R507, R508). -/
def dipNote (n : Nat) (s : State) (rail : Nat) : State :=
  let e := mon s rail
  match e.dipAt with
  | none => s
  | some t0 =>
    record 0x0701 sevNote (rail + min n 0xFFFF * 2 ^ 16) e.dipMin ((s.clock - 10000 - t0) / 100)
      (alarmOff rail (modMon rail (fun e => { e with dipAt := none }) s))

/-- SUPPLY_RECOVERED (11 R507, R508): the brownout cause of the Hold clears, and each dip is noted. -/
def execSupplyRecovered (t : Nat) (s : State) : Res :=
  powered (fun s =>
    let s := tick t s
    let n := if s.faults.holdTaint then (taintedIds s).length else 0
    holdClear .supply ((List.range 6).foldl (dipNote n) s)) s

/-- DIP_TIMEOUT (11 R509): a dip that has lasted longer than 1 ms. -/
def execDipTimeout (t : Nat) (s : State) : Res :=
  powered (fun s =>
    let s := tick t s
    if (List.range 6).any (fun r => match (mon s r).dipAt with | some t0 => decide (t0 + 1000000 < s.clock) | none => false)
    then silence 0x000E s else s) s

/-- SUPPLY_BELOW_RESET (11 R509; 12 R517, R525, R530): loss of main power. Keys are cleared, the flush completes on the
hold-up energy, and the part is off until its rails return. -/
def execSupplyBelowReset (rail mv t : Nat) (s : State) : Res :=
  powered (fun s =>
    let s := tick t s
    if 6 ≤ rail || railReset rail ≤ mv then s
    else
      let s1 := silence 0x000E (clearKeys (measure rail mv lower s))
      let s2 := flushAll s1
      { s2 with
        faults := { s2.faults with phase := .off, railsUp := false }
        vigil := { s2.vigil with power := if s2.vigil.src = 0 then 1 else 2, sealRead := false }
        day := { s2.day with flushing := false, flushAgain := false } }) s

/-- SUPPLY_OVERVOLTAGE (11 R496, R498; 12 R542): a rail above its upper edge. -/
def execSupplyOvervoltage (rail mv t : Nat) (s : State) : Res :=
  powered (fun s =>
    let s := tick t s
    if 6 ≤ rail || mv ≤ railUpper rail then s
    else zeroize 0x0203 (crossed rail sevZeroize (railUpper rail) (alarmOn rail (measure rail mv lower s)))) s

-- Glitch, light, temperature, clocks -----------------------------------------------------------------------------------

/-- GLITCH_ALARM (11 R499; 12 R545): a tainting Hold, or Zeroize at the fourth within 1 s. `idx` is 0 to 7, MON index 40
to 47. -/
def execGlitchAlarm (idx t : Nat) (s : State) : Res :=
  powered (fun s =>
    let s := tick t s
    if 8 ≤ idx then s
    else
      let ts := within 1000000000 s.mon.glitchTimes s.clock
      let s1 := alarmOn (40 + idx) { s with mon := { s.mon with glitchTimes := ts, glitches := satAdd 32 s.mon.glitches 1 } }
      if 4 ≤ ts.length then zeroize 0x0205 (crossed (40 + idx) sevZeroize 0 s1)
      else holdEnter (.glitch idx) true (crossed (40 + idx) sevHold 0 s1)) s

/-- GLITCH_HOLD_END (11 R499): 10 us after the last alarm its Hold cause clears. -/
def execGlitchHoldEnd (t : Nat) (s : State) : Res :=
  powered (fun s =>
    let s := tick t s
    if s.mon.glitchTimes.any (fun x => decide (s.clock < x + 10000)) then s
    else (List.range 8).foldl (fun s i => alarmOff (40 + i) (holdClear (.glitch i) s)) s) s

/-- LIGHT_ALARM (12 R545): Zeroize 0x0202. `idx` is 0 to 15, MON index 48 to 63. -/
def execLightAlarm (idx t : Nat) (s : State) : Res :=
  powered (fun s =>
    let s := tick t s
    if 16 ≤ idx then s
    else zeroize 0x0202 (crossed (48 + idx) sevZeroize 0 (alarmOn (48 + idx) s))) s

/-- Whether the temperature Throttle may end: every sensor has stayed 5 degrees below the level for 100 ms (12 R543). -/
def cooled (s : State) : Bool :=
  (List.range 8).all (fun i => match (mon s (24 + i)).coolAt with | some t0 => decide (t0 + 100000000 ≤ s.clock) | none => false)

/-- THERM_ALERT# driven low or released (16 R673). -/
def thermAlert (low : Bool) (s : State) : State :=
  if s.mon.thermAlert = low then s else emit (.thermAlert low) { s with mon := { s.mon with thermAlert := low } }

/-- TEMP_SAMPLE (12 R543; 16 R673): a sample of a junction sensor in units of 0.25 degrees, judged against the lower limit,
the throttle level and the upper limit. -/
def execTempSample (sensor : Nat) (v : Int) (t : Nat) (s : State) : Res :=
  powered (fun s =>
    let s := tick t s
    let m := 24 + sensor
    if 8 ≤ sensor then s
    else
      let s1 := measure m v higher s
      let lim : Int := ((mon s1 m).userLimit : Int)
      let s2 := modMon m (fun e => { e with
        runLow := if v < -100 then min 255 (e.runLow + 1) else 0
        runUser := if lim < v then min 255 (e.runUser + 1) else 0
        runFactory := if 460 < v then min 255 (e.runFactory + 1) else 0
        coolAt := if v ≤ lim - 20 then some (e.coolAt.getD s.clock) else none }) s1
      let e := mon s2 m
      if e.runLow = 4 then zeroize 0x0204 (crossed m sevZeroize (i16 (-100)).toNat (alarmOn m s2))
      else if e.runFactory = 4 then silence 0x000D (thermAlert true (crossed m sevSilence 460 (alarmOn m s2)))
      else if e.runUser = e.userFilter && !e.alarm then
        let s3 := crossed m sevThrottle e.userLimit (alarmOn m s2)
        if s3.mon.throttle then s3
        else thermAlert true (event 3 { s3 with mon := { s3.mon with throttle := true } })
      else
        let s3 := if v ≤ lim then alarmOff m s2 else s2
        if s3.mon.throttle && cooled s3 then
          thermAlert (s3.faults.silent && s3.faults.lastCause == 0x000D) { s3 with mon := { s3.mon with throttle := false } }
        else s3) s

/-- Whether a deviation lies outside a window; the I3C clock has an upper edge only (12 R544). -/
def outside (clk : Nat) (dev : Int) (half : Nat) : Bool :=
  if clk = 5 then decide ((half : Int) < dev) else decide (half < dev.natAbs)

/-- CLOCK_WINDOW (11 R499; 12 R544): one window of clock index 32 + `clk`, its deviation in 0.01 %. -/
def execClockWindow (clk : Nat) (dev : Int) (t : Nat) (s : State) : Res :=
  powered (fun s =>
    let s := tick t s
    let m := 32 + clk
    if 7 ≤ clk then s
    else
      let s1 := measure m dev larger s
      let s2 := modMon m (fun e => { e with
        runUser := if outside clk dev e.userLimit then min 255 (e.runUser + 1) else 0
        runFactory := if outside clk dev e.factoryLimit then min 255 (e.runFactory + 1) else 0 }) s1
      let e := mon s2 m
      if e.runFactory = e.factoryFilter then silence 0x000C (crossed m sevSilence e.factoryLimit (alarmOn m s2))
      else if e.runUser = e.userFilter then holdEnter (.clock clk) true (crossed m sevHold e.userLimit (alarmOn m s2))
      else if e.runUser = 0 then holdClear (.clock clk) (alarmOff m s2)
      else s2) s

/-- PLL_LOCK_LOSS (11 R496): a PLL out of lock for 10 us. -/
def execPllLockLoss (_pll t : Nat) (s : State) : Res :=
  powered (fun s => silence 0x000C (tick t s)) s

-- Tamper inputs --------------------------------------------------------------------------------------------------------

/-- A tamper input: switches 0 to 7, then meshes 0 to 3 (12 R533). -/
def tamperIn (s : State) (i : Nat) : TamperIn := s.vigil.inputs.getD i TamperIn.reset

/-- The state with a tamper input changed. -/
def modTamper (i : Nat) (f : TamperIn → TamperIn) (s : State) : State :=
  { s with vigil := { s.vigil with inputs := modAt f s.vigil.inputs i } }

/-- ARMED (12 R548): switches in [7:0], meshes in [11:8]. -/
def armedMask (s : State) : Nat := (((List.range 12).filter (fun i => (tamperIn s i).armed)).map (fun i => 2 ^ i)).sum

/-- Whether an armed input is in its alarm state (12 R529, R548). -/
def tamperActive (s : State) : Bool := s.vigil.inputs.any (fun x => x.armed && x.alarm)

/-- Tamper-buffer source of an input (12 R539). -/
def tamperSource (i : Nat) : Nat := if i < 8 then 1 + i else 0x11 + (i - 8)

/-- Count and period of a filter code (12 R535). -/
def filterCount (code : Nat) : Nat := 2 * 2 ^ bits code 2 2
def filterPeriod (code : Nat) : Nat := 8 * 4 ^ bits code 0 2

/-- An input raises its alarm (12 R538): the Seal latch is cleared, entries are made, and under main power the zeroize line
is asserted. -/
def tamperAlarm (i detail : Nat) (s : State) : State :=
  let s1 := modTamper i (fun x => { x with alarm := true, alarmRun := 0, cleanRun := 0 }) s
  let s2 := tbufAdd (tamperSource i) detail 0 (alarmOn (64 + i) (modMon (64 + i) (fun e => { e with value := 1 }) s1))
  if s2.faults.railsUp then zeroize 0x0201 s2 else clearSeal s2

/-- Whether a sample is an alarm sample, and its detail (12 R533, R534). -/
def sampleOf (x : TamperIn) : TamperSmp → Bool × Nat
  | .switch high => (high == x.nc, if high then 1 else 0)
  | .mesh d => (d != 0, d)

/-- TAMPER_SAMPLE (12 R533 to R535, R538). -/
def execTamperSample (i : Nat) (v : TamperSmp) (t : Nat) (s : State) : Res :=
  act (fun s =>
    let s := tick t s
    let x := tamperIn s i
    if 12 ≤ i || !x.armed || x.driverOff || s.vigil.power = 3 then s
    else
      let (bad, detail) := sampleOf x v
      let s1 := if i < 8 then s else modTamper i (fun x => { x with lfsr := Config.meshLfsr x.lfsr % 2 ^ 32 }) s
      if x.alarm then
        if bad then modTamper i (fun x => { x with cleanRun := 0 }) s1
        else if filterCount x.filter ≤ x.cleanRun + 1 then
          alarmOff (64 + i) (modMon (64 + i) (fun e => { e with value := 0 })
            (modTamper i (fun x => { x with alarm := false, cleanRun := 0, alarmRun := 0 }) s1))
        else modTamper i (fun x => { x with cleanRun := x.cleanRun + 1 }) s1
      else if !bad then modTamper i (fun x => { x with alarmRun := 0 }) s1
      else if filterCount x.filter ≤ x.alarmRun + 1 then tamperAlarm i detail s1
      else modTamper i (fun x => { x with alarmRun := x.alarmRun + 1 }) s1) s

/-- MESH_EXCURSION_TIMEOUT (12 R523, R534): the loop raises a mesh alarm of detail 4, and its driver stays off until the
inputs are next armed. -/
def execMeshExcursionTimeout (mesh t : Nat) (s : State) : Res :=
  act (fun s =>
    let s := tick t s
    let i := 8 + mesh
    let x := tamperIn s i
    if 4 ≤ mesh || !x.armed || s.vigil.power = 3 then s
    else
      let s1 := modTamper i (fun x => { x with driverOff := true }) s
      if x.alarm then s1 else tamperAlarm i 4 s1) s

/-- The inputs are disarmed and armed as a Platform Description Block names them (12 R534, R537, R538; log entry 46: an
input keeps an alarm state it is in). Mesh LFSRs are seeded from the DRBG. -/
def armInputs (sw nc mesh filters : Nat) (s : State) : State :=
  let was := armedMask s
  let fitted := bits sw 0 8 + 256 * bits mesh 0 4
  let (seeds, s1) := draw 16 s
  let s2 := if was = 0 then s1 else tbufAdd 0x60 0 0 s1
  let s3 := (List.range 12).foldl (fun s i =>
    let on := bitOf fitted i
    let s := modTamper i (fun x =>
      { x with armed := on, nc := decide (i < 8) && bitOf nc i, filter := bits filters (4 * i) 4, alarmRun := 0, cleanRun := 0,
               alarm := on && x.armed && x.alarm, driverOff := false,
               lfsr := if 8 ≤ i then field seeds (4 * (i - 8)) 4 else 0 }) s
    modMon (64 + i) (fun e => { e with userFilter := bits filters (4 * i) 4, present := on }) s) s2
  if fitted = 0 then s3 else tbufAdd 0x60 1 fitted s3

-- Power of the Vigil ---------------------------------------------------------------------------------------------------

/-- Measurements of VDD_VIGIL and the cells (12 R542, R548). -/
def measureCells (vdd a b : Nat) (s : State) : State :=
  let s1 := measure 8 b lower (measure 7 a lower (measure 6 vdd lower s))
  { s1 with vigil := { s1.vigil with vddVigilMv := vdd, cellA := { s1.vigil.cellA with mv := a }, cellB := { s1.vigil.cellB with mv := b } } }

/-- The cell a move selects (12 R518): of those not depleted the one with the higher voltage, cell A at equal readings. -/
def pickCell (a b : Nat) : Option Nat :=
  if a < 2500 && b < 2500 then none
  else if a < 2500 then some 2 else if b < 2500 then some 1 else if b ≤ a then some 1 else some 2

/-- The source of the Vigil changes: make before break, with its entry (12 R518, R539). Without any source it is Dead. -/
def moveSource (src : Option Nat) (s : State) : State :=
  match src with
  | none => { s with vigil := { s.vigil with power := 3 } }
  | some k =>
    let p := if s.vigil.power = 0 then 0 else if k = 0 then 1 else 2
    tbufAdd (if k = 0 then 0x43 else 0x42) 0 0 { s with vigil := { s.vigil with src := k, power := p } }

/-- VIGIL_SOURCE_CHANGE (12 R518). -/
def execVigilSourceChange (vdd a b t : Nat) (s : State) : Res :=
  act (fun s =>
    let s := measureCells vdd a b (tick t s)
    if s.vigil.power = 3 then s
    else if s.vigil.src = 0 then (if vdd < 1620 then moveSource (pickCell a b) s else s)
    else
      let own := if s.vigil.src = 1 then a else b
      let other := if s.vigil.src = 1 then b else a
      if own + 50 ≤ other && 2500 ≤ other then moveSource (some (3 - s.vigil.src)) s
      else if own < 2200 then moveSource none s
      else s) s

/-- VIGIL_SOURCE_RETURN (12 R518): VDD_VIGIL has stayed above 1.68 V for 1 s. -/
def execVigilSourceReturn (vdd t : Nat) (s : State) : Res :=
  act (fun s =>
    let s := tick t s
    if s.vigil.power = 3 || s.vigil.src = 0 || vdd ≤ 1680 then s else moveSource (some 0) s) s

/-- CELL_MEASURE (12 R518, R542): every 1 s; a cell that becomes low makes an entry. -/
def execCellMeasure (vdd a b t : Nat) (s : State) : Res :=
  act (fun s =>
    let s := tick t s
    if s.vigil.power = 3 then s
    else
      let lowA := s.vigil.cellA.low
      let lowB := s.vigil.cellB.low
      let s1 := measureCells vdd a b s
      let s2 := { s1 with vigil := { s1.vigil with
        cellA := { s1.vigil.cellA with low := decide (a < 2600), depleted := decide (a < 2500) }
        cellB := { s1.vigil.cellB with low := decide (b < 2600), depleted := decide (b < 2500) } } }
      let s3 := if a < 2600 && !lowA then tbufAdd 0x40 0 0 s2 else s2
      if b < 2600 && !lowB then tbufAdd 0x41 0 0 s3 else s3) s

/-- VIGIL_POWER_ON (12 R519): the Vigil leaves Dead. The seconds count that stands then is open (a free value). -/
def execVigilPowerOn (t : Nat) (s : State) : Res :=
  act (fun s =>
    let s := tick t s
    if s.vigil.power ≠ 3 then s
    else
      let (n, s1) := freeVal s
      let v := s1.vigil
      tbufAdd 0x50 0 0 { s1 with vigil := { v with
        power := if s1.faults.railsUp then 0 else if v.src = 0 then 1 else 2
        seed := 0, seedInv := 0, timeValid := false, seconds := BitVec.ofNat 32 n, fraction := 0, tbuf := [], tbufOver := 0,
        lastMove := [], inputs := List.replicate 12 TamperIn.reset } }) s

/-- OSC_STOP (12 R526): no oscillator edge for 4 ms. -/
def execOscStop (t : Nat) (s : State) : Res :=
  act (fun s =>
    let s := tick t s
    if s.vigil.power = 3 || !s.vigil.timeValid then s
    else tbufAdd tbTimeInvalid 0 0 { s with vigil := { s.vigil with timeValid := false } }) s

-- The Seal latch -------------------------------------------------------------------------------------------------------

/-- Whether the Seal latch reports a valid seed (12 R528). -/
def sealValid (s : State) : Bool := s.vigil.seedInv == ~~~s.vigil.seed

/-- The reason for which a write of the latch is refused, 0 when it is accepted (12 R529, 13 R563). -/
def sealRefusal (level : Nat) (s : State) : Nat :=
  if s.vigil.seed ≠ 0 || s.vigil.seedInv ≠ 0 then 1
  else if tamperActive s then 2
  else if s.vigil.clearing then 3
  else if level ≠ 0 then 4 else 0

/-- A write of the Seal latch (12 R528, R529). -/
def sealWrite (level : Nat) (seed inv : BitVec 256) (s : State) : State :=
  let r := sealRefusal level s
  if s.vigil.power = 3 then s
  else if r = 0 then tbufAdd tbSealWritten 0 0 { s with vigil := { s.vigil with seed := seed, seedInv := inv } }
  else recordThrough 0x0105 sevNote r (armedMask s) 0 s

/-- SEAL_WRITE (12 R529). -/
def execSealWrite (level : Nat) (seed inv : BitVec 256) (t : Nat) (s : State) : Res :=
  powered (fun s => sealWrite level seed inv (tick t s)) s

-- Transfer to the Tamper Roll ------------------------------------------------------------------------------------------

/-- The 16 bytes of a tamper-buffer entry (12 R539). -/
def tbBytes (e : TEntry) : Bytes :=
  let b := leBytes 4 e.seconds ++ leBytes 2 (e.fraction + if e.valid then 2 ^ 15 else 0) ++
    [BitVec.ofNat 8 e.source, BitVec.ofNat 8 e.detail] ++ leBytes 2 e.param ++ [BitVec.ofNat 8 e.power, 0]
  b ++ leBytes 4 (crc32 b).toNat

/-- Severity of the record of a transferred entry (13 R553). -/
def tbSeverity (source : Nat) : Nat :=
  if (1 ≤ source && source ≤ 8) || (0x11 ≤ source && source ≤ 0x14) || source = 0x20 || source = 0x31 then sevZeroize
  else if source = 0x40 || source = 0x41 || source = 0x32 then sevNote else sevInfo

/-- One entry reaches the Tamper Roll, unless one of the last 64 entries has its body already (13 R566 to R569). -/
def transferOne (s : State) (e : TEntry) : State :=
  let b := tbBytes e
  let p1 := e.source + e.detail * 2 ^ 8 + e.power * 2 ^ 16
  if (s.mram.troll.reverse.take 64).any (fun x => x.kind == 1 && x.body == b && rollTagOk s x) then s
  else
    match rollAppend 1 b s with
    | (some n, s1) => recordThrough 0x0101 (tbSeverity e.source) e.seconds p1 n s1
    | (none, s1) => recordThrough 0x0103 (tbSeverity e.source) e.seconds p1 e.param s1

/-- The transfer of R540: every untransferred entry, then the overflow count. A start that forms no anchor MAC key transfers
nothing (14 R682). -/
def transferAll (s : State) : State :=
  if s.faults.skipStep4 then s else
  let s1 := (s.vigil.tbuf).foldl transferOne s
  let s2 :=
    if s.vigil.tbufOver = 0 then s1
    else
      match rollAppend 2 (leBytes 2 s.vigil.tbufOver) s1 with
      | (some n, s2) => recordThrough 0x0101 sevNote (Config.noteParam 2 0) (Config.noteParam 2 1) n s2
      | (none, s2) => recordThrough 0x0103 sevNote (Config.noteParam 2 0) (Config.noteParam 2 1) (Config.noteParam 2 2) s2
  { s2 with vigil := { s2.vigil with tbuf := [], tbufOver := 0 } }

/-- TAMPER_TRANSFER (12 R540): the Keeper world transfers new entries, within 1 ms. -/
def execTamperTransfer (t : Nat) (s : State) : Res :=
  act (fun s => if s.faults.phase == .running then transferAll (tick t s) else s) s

end Machine
end Sys2Proof
end

