-- ==== Sys2Proof/Machine/Platform.lean ====
section
/-!
DEFINITION. The Platform Description Block and the user calibration record: their forms, the checks the part makes, and
how their fields take effect (14 R609 to R613, R683; 12 R536, R537, R541); and the world commands of pins and channels.
-/
namespace Sys2Proof
namespace Machine

/-- The identity hash of this part: the first 16 bytes of SHA-384 of its classical identity key (10 R436). -/
def ownId : Bytes := (sha384 idPublic).take 16

-- The block ------------------------------------------------------------------------------------------------------------

/-- The block that 96 bytes spell (14 R609). -/
def parsePdb (b : Bytes) : Pdb :=
  { version := field b 8 4, config := field b 12 1, splitLog2 := field b 13 1, settleUs := field b 14 1,
    popCode := field b 15 1, policy := field b 16 1, cards := field b 17 1, throttleC := field b 18 1,
    swFitted := field b 20 1, swNc := field b 21 1, meshFitted := field b 22 1, filters := field b 24 6,
    closeS := field b 30 2, gpioWorld := field b 32 2, cardWorld := field b 34 1, dmaWorld := field b 36 4,
    srcExpected := field b 40 4, srcOrder := field b 44 4, srcMctp := field b 48 4, arbiter := field b 56 8,
    idA := slice b 64 16, idB := slice b 80 16, raw := fit 96 b }

/-- Whether a block is one of this form: magic, format and length (log entry 47). -/
def pdbForm (b : Bytes) : Bool := b.length == 96 && b.take 4 == [0x55, 0x54, 0x50, 0x44] && field b 4 2 == 1

/-- Offsets of fields that fail R610, in offset order. -/
def pdbBad (b : Bytes) : List Nat :=
  let p := parsePdb b
  let pair := p.config == 2 || p.config == 3
  let mine := p.idA != p.idB && (p.idA == ownId || p.idB == ownId)
  (if field b 6 2 ≠ 0 then [6] else []) ++
  (if p.config = 1 || pair then [] else [12]) ++
  (if (p.config = 2 && p.splitLog2 ≤ 8) || p.splitLog2 = 0 then [] else [13]) ++
  (if (p.config = 2 && 1 ≤ p.settleUs && p.settleUs ≤ 20) || (p.config ≠ 2 && p.settleUs = 0) then [] else [14]) ++
  (if p.popCode = 1 || p.popCode = 2 then [] else [15]) ++
  (if p.policy ≤ 1 then [] else [16]) ++
  (if p.cards ≤ 15 then [] else [17]) ++
  (if 70 ≤ p.throttleC && p.throttleC ≤ 105 then [] else [18]) ++
  (if field b 19 1 ≠ 0 then [19] else []) ++
  (if p.meshFitted ≤ 15 then [] else [22]) ++
  (if field b 23 1 ≠ 0 then [23] else []) ++
  (if 1 ≤ p.closeS && p.closeS ≤ 3600 then [] else [30]) ++
  (if p.cardWorld ≤ 15 && (p.cards = 0 || p.cardWorld = 15) then [] else [34]) ++
  (if field b 35 1 ≠ 0 then [35] else []) ++
  (if p.srcOrder &&& p.srcExpected = p.srcOrder then [] else [44]) ++
  (if p.srcMctp &&& p.srcExpected = p.srcMctp then [] else [48]) ++
  (if field b 52 4 ≠ 0 then [52] else []) ++
  (if (p.config = 2 && p.arbiter ≠ 0 && p.arbiter % 8 = 0) || (p.config ≠ 2 && p.arbiter = 0) then [] else [56]) ++
  (if (p.config = 1 && allZero p.idA) || (pair && mine) || (p.config ≠ 1 && !pair) then [] else [64]) ++
  (if p.config = 1 && !allZero p.idB then [80] else [])

/-- Whether an input is fitted in a block: switches 0 to 7, meshes 8 to 11 (14 R609). -/
def fittedIn (p : Pdb) (i : Nat) : Bool := if i < 8 then bitOf p.swFitted i else bitOf p.meshFitted (i - 8)

/-- Sampling load in pA over the armed inputs (12 R536): charge per sample in pC times samples per second. -/
def samplingLoad (p : Pdb) : Nat :=
  (((List.range 12).filter (fittedIn p)).map (fun i =>
    (if i < 8 then 305 else 610) * 32768 / filterPeriod (bits p.filters (4 * i) 4))).sum

/-- The MON index of the input that fails a tamper check (12 R536, R537; 14 R610): a filter time below the factory
minimum, or the first armed input of an excess load. -/
def pdbTamper (s : State) (p : Pdb) : Option Nat :=
  match (List.range 12).find? (fun i => fittedIn p i &&
    decide (filterCount (bits p.filters (4 * i) 4) * filterPeriod (bits p.filters (4 * i) 4) < 8 * (mon s (64 + i)).factoryFilter)) with
  | some i => some (64 + i)
  | none => if 1300000 < samplingLoad p then ((List.range 12).find? (fittedIn p)).map (64 + ·) else none

/-- pdb_version in force, 0 without a block. -/
def pdbVersion (s : State) : Nat := match s.mram.pdb with | some p => p.version | none => 0

/-- The check of a block for PDB_APPLY and LC_COMMISSION (14 R610, R611; log entry 47): status and result word of the
refusal, or the block. -/
def checkPdb (s : State) (b : Bytes) : Except (Nat × Nat) Pdb :=
  let p := parsePdb b
  let held := s.mram.pairRec.isSome
  let cur := s.mram.pdb
  if !pdbForm b then .error (0x0352, 0)
  else if p.version ≤ pdbVersion s then .error (0x0352, 0)
  else
    match pdbBad b with
    | off :: _ => .error (0x0350, off)
    | [] =>
      match pdbTamper s p with
      | some m => .error (0x0351, m)
      | none =>
        let newConfig := match cur with | some c => c.config != p.config | none => true
        let newIds := match cur with | some c => c.idA != p.idA || c.idB != p.idB | none => true
        if held && (newConfig || (newIds && s.pair.state != psSole)) then .error (0x0358, 0) else .ok p

/-- The user throttle level is set (14 R611, 12 R543). -/
def setThrottle (c : Nat) (s : State) : State :=
  (List.range 8).foldl (fun s i => modMon (24 + i) (fun e => { e with userLimit := 4 * c }) s) s

/-- The fields of a block that take effect at once (14 R611). -/
def applyPdb (p : Pdb) (s : State) : State :=
  let s1 := setThrottle p.throttleC (armInputs p.swFitted p.swNc p.meshFitted p.filters s)
  let s2 := (List.range 16).foldl (fun s i => setPinWorld (p.cards != 0) (.gpio i) (bitOf p.gpioWorld i) s) s1
  let s3 := (List.range 4).foldl (fun s i => setPinWorld (p.cards != 0) (.card i) (bitOf p.cardWorld i) s) s2
  (List.range 32).foldl (fun s c =>
    if (dmaCh s c).keeper = bitOf p.dmaWorld c then s else bindDma c (bitOf p.dmaWorld c) (dmaCh s c).owner s) s3

/-- Card ports in use (14 R609, R683). -/
def cardsInUse (s : State) : Nat := match s.mram.pdb with | some p => p.cards | none => 0
/-- The TDEA policy flag (05 R267, 14 R683). -/
def tdeaPolicy (s : State) : Bool := match s.mram.pdb with | some p => bitOf p.policy 0 | none => false

-- Calibration ----------------------------------------------------------------------------------------------------------

/-- Whether a calibration record is well formed (14 R613). -/
def calibForm (b : Bytes) : Bool :=
  b.length == 96 && b.take 4 == [0x55, 0x54, 0x43, 0x4C] && field b 4 2 == 1 && field b 6 2 == 0 && field b 12 4 == 0 &&
    (List.range 6).all (fun r => field b (16 + 6 * r + 4) 2 == 0) && (List.range 7).all (fun c => field b (52 + 4 * c + 3) 1 == 0) &&
    allZero (slice b 82 14)

/-- cal_version in force, 0 without a record. -/
def calibVersion (s : State) : Nat := match s.mram.calib with | some b => field b 8 4 | none => 0

/-- One user value (12 R541): 0 selects the factory value; a value in range is applied; any other is refused, the field
keeps its value, and a Note is recorded. The count of refused fields goes with the state. -/
def userValue (v lo hi : Nat) (factory : Nat) (put : Nat → State → State) (a : Nat × State) : Nat × State :=
  if v = 0 then (a.1, put factory a.2)
  else if lo ≤ v && v ≤ hi then (a.1, put v a.2)
  else (a.1 + 1, note 0x07 5 a.2)

/-- Every field of a calibration record applied or refused (12 R541 to R545, 14 R613): the number refused. -/
def applyCalib (b : Bytes) (s : State) : Nat × State :=
  let rails (a : Nat × State) (r : Nat) : Nat × State :=
    let o := 16 + 6 * r
    let a := userValue (field b o 2) (railWarning r) (railUserMax r) (railWarning r) (fun v => modMon r (fun e => { e with userLimit := v })) a
    let a := userValue (field b (o + 2) 1) (railHyst r) 50 (railHyst r) (fun v => modMon r (fun e => { e with hyst := v })) a
    userValue (field b (o + 3) 1) 8 12 8 (fun v => modMon r (fun e => { e with userFilter := v })) a
  let clocks (a : Nat × State) (c : Nat) : Nat × State :=
    let o := 52 + 4 * c
    let a := userValue (field b o 2) 100 (clockUser c) (clockUser c) (fun v => modMon (32 + c) (fun e => { e with userLimit := v })) a
    userValue (field b (o + 2) 1) 2 16 2 (fun v => modMon (32 + c) (fun e => { e with userFilter := v })) a
  let a := (List.range 7).foldl clocks ((List.range 6).foldl rails (0, s))
  let a := userValue (field b 80 1) 4 64 4 (fun v s => (List.range 8).foldl (fun s i => modMon (24 + i) (fun e => { e with userFilter := v }) s) s) a
  let a := userValue (field b 81 1) 1 8 1 (fun v s => (List.range 16).foldl (fun s i => modMon (48 + i) (fun e => { e with userFilter := v }) s) s) a
  (a.1, { a.2 with mon := { a.2.mon with userApplied := true } })

-- World commands -------------------------------------------------------------------------------------------------------

/-- PIN_WORLD_SET (09 R420, R421): a Keeper-privileged Clerk sets the world of a pin. -/
def execPinWorldSet (x : PinId) (keeper : Bool) (t : Nat) (s : State) : Res :=
  coreAct (fun s => setPinWorld (cardsInUse s != 0) x keeper (tick t s)) s

/-- PIN_WORLD_TAKEOVER (09 R421): 10 us after the change the new world has the pin. -/
def execPinWorldTakeover (x : PinId) (s : State) : Res := coreAct (takePin x) s

/-- DMA_CHANNEL_BIND (09 R420, R422): only a Keeper-privileged Clerk, level 0, sets world and binding. -/
def execDmaChannelBind (level c : Nat) (keeper : Bool) (owner : Option Nat) (t : Nat) (s : State) : Res :=
  coreAct (fun s => if level = 0 then bindDma c keeper owner (tick t s) else emit .refused s) s

end Machine
end Sys2Proof
end

