-- ==== Sys2Proof/Machine/Bindery.lean ====
section
/-!
DEFINITION. The Bindery and the Stacks: layout, the Catalogue and its cache, encryption and tags, reads and writes, corrected
and uncorrectable errors (Stacks Memory and the Bindery, 08 R366 to R392, R684). DRAM itself lies outside the part: the
Bindery puts its commands on the Stacks balls, and what comes back is a command of the model (log entry 70).
-/
namespace Sys2Proof
namespace Machine

-- Layout -------------------------------------------------------------------------------------------------------------------

/-- Populated channels of the population code in use (08 R366). -/
def channels (s : State) : Nat := if s.stk.popCode = 1 then 1 else if s.stk.popCode = 2 then 2 else 0

/-- Raw capacity in bytes (08 R370). -/
def rawBytes (c : Nat) : Nat := c * 2 ^ 35
/-- Protected space D (08 R370). -/
def protBytes (c : Nat) : Nat := rawBytes c / 512 * 441
/-- End of the key store: the general region begins here (08 R370). -/
def keyStoreEnd (c : Nat) : Nat := rawBytes c / 4 * 3
/-- Sectors N (08 R370). -/
def sectors (c : Nat) : Nat := protBytes c / 512

/-- Channel of a sector, and its channel address (08 R372). -/
def sectorPlace (c n : Nat) : Nat × Nat := (n / 8 % c, 4096 * (n / 8 / c) + 512 * (n % 8))
/-- Channel address of a line of a sector. -/
def lineAddr (c n l : Nat) : Nat × Nat := ((sectorPlace c n).1, (sectorPlace c n).2 + 64 * l)
/-- Start of the tag region and of the Catalogue region (08 R369). -/
def tagBase : Nat := 0x6E4000000
def catBase : Nat := 0x7C0800000
/-- Start and end of the reserve (08 R369). -/
def reserveBase : Nat := 0x7E0000000
def channelEnd : Nat := 0x800000000
/-- Channel address of the tag line of a sector (08 R372). -/
def tagAddr (c n : Nat) : Nat × Nat := (n / 8 % c, tagBase + 64 * (8 * (n / 8 / c) + n % 8))

/-- Nodes of a Catalogue level (08 R373). -/
def levelNodes (c k : Nat) : Nat := (sectors c + 8 ^ k - 1) / 8 ^ k
/-- Nodes of a level on one channel: those with index congruent to the channel. -/
def levelOn (c k ch : Nat) : Nat := (levelNodes c k + c - 1 - ch) / c
/-- Where a level begins on a channel (08 R373). -/
def levelBase (c ch : Nat) : Nat → Nat
  | 0 => catBase
  | 1 => catBase
  | k + 1 => levelBase c ch k + 64 * levelOn c k ch
/-- Channel address of a Catalogue node (08 R373). -/
def nodeAddr (c k j : Nat) : Nat × Nat := (j % c, levelBase c (j % c) k + 64 * (j / c))

/-- What lies at a channel address. -/
inductive StkItem
  | line (sector l : Nat)
  | tagLine (sector : Nat)
  | node (level idx : Nat)
  | unused
deriving DecidableEq, Repr

/-- The item at a channel address (08 R369, R372, R373). -/
def itemAt (c ch a : Nat) : StkItem :=
  if a < tagBase then .line (8 * (a / 4096 * c + ch) + a % 4096 / 512) (a % 512 / 64)
  else if a < catBase then
    let i := (a - tagBase) / 64
    .tagLine (8 * (i / 8 * c + ch) + i % 8)
  else
    match (List.range 7).find? (fun k => decide (a < levelBase c ch (k + 2))) with
    | some k => .node (k + 1) ((a - levelBase c ch (k + 1)) / 64 * c + ch)
    | none => .unused

-- Channels and remapping ---------------------------------------------------------------------------------------------------

/-- A channel's registers. -/
def chan (s : State) (ch : Nat) : Chan := s.stk.chans.getD ch Chan.reset
/-- The state with a channel changed. -/
def modChan (ch : Nat) (f : Chan → Chan) (s : State) : State := { s with stk := { s.stk with chans := modAt f s.stk.chans ch } }
/-- Where a channel address lies physically, by the remap table (08 R390). -/
def physical (s : State) (ch a : Nat) : Nat :=
  match (chan s ch).remap.find? (fun p => p.1 == a / 8192) with
  | some p => reserveBase + 8192 * p.2 + a % 8192
  | none => a
/-- Whether the copy of the block that holds a channel address is under way or due: accesses wait (08 R390). -/
def remapBusy (s : State) (ch a : Nat) : Bool := (chan s ch).remapping.any (fun p => p.1 == a / 8192)
/-- A DRAM write of one line at a channel address. -/
def writeLine (p : Nat × Nat) (b : Bytes) (s : State) : State := emit (.dramWrite p.1 (physical s p.1 p.2) (fit 64 b)) s

-- Failures -----------------------------------------------------------------------------------------------------------------

/-- A master's identity (09 R404), with the level that a Clerk has now. -/
def masterId (s : State) : Master → Nat
  | .clerk core user =>
    let world := (s.worlds.clerks.getD core Clerk.reset).level / 2
    0x1000 + (2 * world + (if user then 1 else 0)) * 16 + core % 8
  | .debug => 0x2000 + s.faults.debugLevel % 4
  | .dma ch => 0x3000 + ch % 32 + (if (dmaCh s ch).keeper then 0 else 32)
  | .engine code i _ => 0x4000 + code % 16 * 256 + i % 256
  | .rom => 0x5000
  | .none => 0xFFFF

/-- IF_LEVEL, IF_INDEX and IF_ADDR of a failure (08 R684): the item of the kind. -/
structure Failing where
  kind : Nat
  channel : Nat
  level : Nat
  addr : Nat
  index : Nat
  master : Nat
deriving DecidableEq, Repr

/-- A Stacks error that ends in Silence (08 R391, R392, R684, R397): the failure report takes it, the Daybook records it,
kinds 4 and 5 are owed to the Tamper Roll (13 R567), and every access pending at the Bindery ends with no data. -/
def stacksFail (f : Failing) (s : State) : State :=
  let x := s.stk
  let latch := !x.ifValid && f.kind != 12
  let y := if latch then { x with ifValid := true, ifKind := f.kind, ifChannel := f.channel, ifLevel := f.level,
                                  ifMaster := f.master, ifAddr := f.addr, ifIndex := f.index } else x
  let z := if f.kind = 4 || f.kind = 5 then { y with owed := y.owed ++ [(f.kind, f.channel, f.level, f.index, f.addr)] } else y
  let s1 := record 0x0801 sevSilence (f.kind + f.channel * 2 ^ 8 + f.level * 2 ^ 12) f.index f.addr
    { s with stk := { z with reqs := [] } }
  silence (0x0100 + f.kind) s1

/-- A failure at an item of the Stacks. -/
def failItem (kind ch a master : Nat) (s : State) : State :=
  match itemAt (channels s) ch a with
  | .node k j => stacksFail ⟨kind, ch, k, a, j, master⟩ s
  | .line n _ => stacksFail ⟨kind, ch, 0, a, n, master⟩ s
  | .tagLine n => stacksFail ⟨kind, ch, 0, a, n, master⟩ s
  | .unused => stacksFail ⟨kind, ch, 0, a, 0, master⟩ s

/-- A failure of a kind that names no item (08 R684: kinds 7 and 11, and 12). -/
def failPlain (kind ch master : Nat) (s : State) : State := stacksFail ⟨kind, ch, 0, 0, 0, master⟩ s

-- Corrected errors and remapping -------------------------------------------------------------------------------------------

/-- A spare block that is free and usable (08 R390, R391). -/
def freeSpare (x : Chan) : Option Nat :=
  (List.range 65536).find? (fun i => !x.remap.any (fun p => p.2 == i) && !x.remapping.any (fun p => p.2 == i) && !x.badSpares.contains i)

/-- A block is to be remapped (08 R390), or stays in service with a Note when no spare is left (08 R391). -/
def startRemap (ch block a : Nat) (s : State) : State :=
  if remapBusy s ch (8192 * block) then s
  else
    match freeSpare (chan s ch) with
    | some i => modChan ch (fun x => { x with remapping := x.remapping ++ [(block, i)] }) s
    | none => record 0x0806 sevNote ch 3 a s

/-- One corrected codeword at a channel address (08 R388, R390): counted; a Note from CE_NOTE_TH in an hour on, whose
repeats count the further ones; the block is remapped at CE_REMAP_TH within 24 h. The hour runs from its first corrected
error (log entry 71). -/
def correctedOne (ch a : Nat) (s : State) : State :=
  let x := chan s ch
  let fresh := x.hourCount == 0 || decide (x.hourStart + 3600000000000 ≤ s.clock)
  let count := if fresh then 1 else x.hourCount + 1
  let day := x.blockErrs.filter (fun p => decide (s.clock < p.2 + 86400000000000)) ++ [(a / 8192, s.clock)]
  let s1 := modChan ch (fun x => { x with ceCount := satAdd 32 x.ceCount 1, lastCe := a, hourStart := if fresh then s.clock else x.hourStart,
                                          hourCount := count, blockErrs := day }) s
  let th := s.stk.ceNoteTh
  let s2 := if th ≠ 0 && th ≤ count then
      let s2 := record 0x0802 sevNote ch (chan s1 ch).ceCount a s1
      if count = th then event (164 + ch) s2 else s2
    else s1
  let hits := (day.filter (fun p => p.1 == a / 8192)).length
  if s.stk.ceRemapTh ≤ hits && a < reserveBase && !(chan s2 ch).remap.any (fun p => p.1 == a / 8192) then startRemap ch (a / 8192) a s2
  else s2

/-- Corrected codewords of one line, at most eight (08 R368); the corrected line is written back (08 R388). -/
def corrected (ch a n : Nat) (b : Bytes) (s : State) : State :=
  writeLine (ch, a) b ((List.range (min n 8)).foldl (fun s _ => correctedOne ch a s) s)

/-- An uncorrectable codeword in a line that holds nothing (08 R391): the line is discarded and its block remapped; a spare
that holds it is marked unusable. -/
def discardLine (ch a : Nat) (s : State) : State :=
  match (chan s ch).remap.find? (fun p => p.1 == a / 8192) with
  | some p =>
    startRemap ch (a / 8192) a (record 0x0806 sevNote ch 2 a
      (modChan ch (fun x => { x with badSpares := x.badSpares ++ [p.2] }) s))
  | none => startRemap ch (a / 8192) a (record 0x0806 sevNote ch 1 a s)

-- The Catalogue ------------------------------------------------------------------------------------------------------------

/-- A resident node (08 R384). -/
def node? (s : State) (k j : Nat) : Option CatNode := s.stk.nodes.find? (fun x => x.level == k && x.idx == j)

/-- Version of item `j` of level `k` (level 0: sector) as the trusted nodes have it (08 R373); none while its node is not
resident. -/
def versionOf (s : State) (k j : Nat) : Option Nat :=
  if 7 ≤ k then some (s.stk.roots.getD j 0) else (node? s (k + 1) (j / 8)).map (fun x => x.ctrs.getD (j % 8) 0)

/-- The four Bindery keys (08 R374). -/
def binderyKey (s : State) (i : Nat) : Bytes := take 32 (fun b => Config.drbg (s.stk.keysAt + 32 * i + b))

/-- The tag of an item (08 R376). The hash subkey of Kh is the AES encryption of the zero block, as in GCM (log entry 72). -/
def stkTag (s : State) (version index dom : Nat) (x : Bytes) : Bytes :=
  let p := beBytes 7 version ++ beBytes 5 index ++ [BitVec.ofNat 8 dom] ++ zeros 3
  let h := ofBe (aesE (binderyKey s 3) (zeros 16))
  (xorBytes (aesE (binderyKey s 2) p) (beBytes 16 (ghash h (fit 64 x)))).take 8

/-- The counter bytes of a node (08 R373). -/
def ctrBytes (cs : List Nat) : Bytes := ((List.range 8).map (fun i => beBytes 7 (cs.getD i 0))).flatten
/-- The counters of a node line. -/
def nodeCtrs (b : Bytes) : List Nat := (List.range 8).map (fun i => ofBe (slice b (7 * i) 7))
/-- MAC of a node under a version (08 R376). -/
def nodeMac (s : State) (k j version : Nat) (ctrs : Bytes) : Bytes := stkTag s version j (0x10 + k) (fit 56 ctrs ++ zeros 8)

/-- The node list with one node moved to its most recent end. -/
def touch (k j : Nat) (l : List CatNode) : List CatNode :=
  l.filter (fun x => !(x.level == k && x.idx == j)) ++ l.filter (fun x => x.level == k && x.idx == j)

/-- The path of a sector is used: parents more recently than children, so that the least recent node has no resident
child. -/
def touchPath (n : Nat) (s : State) : State :=
  { s with stk := { s.stk with nodes := (List.range 7).foldl (fun l k => touch (k + 1) (n / 8 ^ (k + 1)) l) s.stk.nodes } }

/-- A counter reaches 2^55 (08 R380). -/
def counterHigh (v : Nat) (s : State) : State :=
  if s.stk.ctrHigh = 0 then event 17 (note 0x08 8 { s with stk := { s.stk with ctrHigh := v } }) else note 0x08 8 s

/-- The version of an item is raised by 1 (08 R373, R380, R383, R384): in its node, which becomes dirty, or in the root
counter. A value of 2^56 - 1 is not made: kind 6. -/
def raise (k j master : Nat) (s : State) : State :=
  let c := channels s
  let v := (versionOf s k j).getD 0 + 1
  if 2 ^ 56 - 1 ≤ v then
    let p := if 7 ≤ k then (0, 0) else nodeAddr c (k + 1) (j / 8)
    stacksFail ⟨6, p.1, k, p.2, j, master⟩ s
  else
    let s1 := if 7 ≤ k then { s with stk := { s.stk with roots := modAt (fun _ => v) s.stk.roots j } }
      else { s with stk := { s.stk with nodes := s.stk.nodes.map (fun x =>
        if x.level = k + 1 ∧ x.idx = j / 8 then { x with ctrs := modAt (fun _ => v) x.ctrs (j % 8), dirty := true } else x) } }
    if v = 2 ^ 55 then counterHigh v s1 else s1

/-- Whether a node lies on the path of a request whose reads are issued, or in a block that is being copied: it is not
evicted (log entry 73). -/
def pinnedNode (s : State) (x : CatNode) : Bool :=
  s.stk.reqs.any (fun r => r.issued && r.sla / 512 / 8 ^ x.level == x.idx) ||
    remapBusy s (nodeAddr (channels s) x.level x.idx).1 (nodeAddr (channels s) x.level x.idx).2

/-- The least recently used node leaves the cache; a dirty one is written under a raised version (08 R384). -/
def evictOne (s : State) : State :=
  match s.stk.nodes.find? (fun x => !pinnedNode s x) with
  | none => s
  | some x =>
    let drop (s : State) : State := { s with stk := { s.stk with nodes := s.stk.nodes.filter (fun y => !(y.level == x.level && y.idx == x.idx)) } }
    if x.dirty then
      let s1 := raise x.level x.idx 0xFFFF (drop s)
      if s1.faults.silent then s1
      else
        let cs := ctrBytes x.ctrs
        writeLine (nodeAddr (channels s) x.level x.idx)
          (cs ++ nodeMac s1 x.level x.idx ((versionOf s1 x.level x.idx).getD 0) cs) s1
    else drop s

/-- The cache holds 32,768 nodes (08 R384); at most seven enter at a time. -/
def evict : Nat → State → State
  | 0, s => s
  | fuel + 1, s => if s.stk.nodes.length ≤ 32768 then s else evict fuel (evictOne s)

/-- The tag cache takes a tag line (08 R384). -/
def cacheTags (n : Nat) (b : Bytes) (s : State) : State :=
  let l := s.stk.tagLines.filter (fun p => p.1 != n) ++ [(n, b)]
  { s with stk := { s.stk with tagLines := if 8192 < l.length then l.drop 1 else l } }

/-- The tag line of a sector in the cache. -/
def tagsOf (s : State) (n : Nat) : Option Bytes := (s.stk.tagLines.find? (fun p => p.1 == n)).map (fun p => p.2)

-- Requests -----------------------------------------------------------------------------------------------------------------

/-- Sector of a request. -/
def reqSector (r : BReq) : Nat := r.sla / 512
/-- Lines that a request touches. -/
def linesTouched (r : BReq) : List Nat :=
  (List.range 8).filter (fun l => decide (r.sla % 512 < 64 * l + 64) && decide (64 * l < r.sla % 512 + r.len))
/-- Lines that a request covers whole. -/
def linesCovered (r : BReq) : List Nat :=
  (List.range 8).filter (fun l => decide (r.sla % 512 ≤ 64 * l) && decide (64 * l + 64 ≤ r.sla % 512 + r.len))
/-- Lines to be read for a request (08 R382, R383). -/
def linesRead (r : BReq) : List Nat :=
  match r.write with
  | none => linesTouched r
  | some _ => (List.range 8).filter (fun l => !(linesCovered r).contains l)

/-- Levels of the Catalogue nodes to fetch, from the top: those below the lowest resident one (08 R382). -/
def levelsRead (s : State) (n : Nat) : List Nat :=
  let have? (k : Nat) : Bool := (node? s k (n / 8 ^ k)).isSome
  let low := (((List.range 7).map (· + 1)).find? have?).getD 8
  ((List.range 7).map (fun i => 7 - i)).filter (fun k => decide (k < low))

/-- What is read for a request (08 R379, R382, R383). -/
def planOf (s : State) (r : BReq) : List (Nat × Nat) :=
  let n := reqSector r
  let ls := if versionOf s 0 n = some 0 then [] else linesRead r
  ls.map (fun l => (0, l)) ++ (if ls.isEmpty || (tagsOf s n).isSome then [] else [(1, 0)]) ++
    (levelsRead s n).map (fun k => (2, k))

/-- Place of an item of a plan. -/
def planAddr (c n : Nat) (p : Nat × Nat) : Nat × Nat :=
  if p.1 = 0 then lineAddr c n p.2 else if p.1 = 1 then tagAddr c n else nodeAddr c p.2 (n / 8 ^ p.2)

/-- Whether a request must wait: behind an earlier one of its sector (08 R385), or for a block that is being copied
(08 R390). -/
def mustWait (s : State) (r : BReq) : Bool :=
  let c := channels s
  let n := reqSector r
  (s.stk.reqs.takeWhile (fun x => x.id != r.id)).any (fun x => reqSector x == n) ||
    ((planOf s r).map (planAddr c n) ++ ((List.range 8).map (fun l => lineAddr c n l)) ++ [tagAddr c n]).any
      (fun p => remapBusy s p.1 p.2)

/-- The sector's plaintext from the lines read (08 R375). -/
def decryptSector (s : State) (n : Nat) (ct : Bytes) : Bytes :=
  xtsUnit false (aesD (binderyKey s 0)) (aesE (binderyKey s 1) (leBytes 16 n)) ct
/-- The sector's ciphertext (08 R375). -/
def encryptSector (s : State) (n : Nat) (pt : Bytes) : Bytes :=
  xtsUnit true (aesE (binderyKey s 0)) (aesE (binderyKey s 1) (leBytes 16 n)) pt

/-- Tag of a data line of a sector (08 R376). -/
def lineTag (s : State) (n l version : Nat) (ct : Bytes) : Bytes := stkTag s version (8 * n + l) 0x01 ct

/-- A request is over: it leaves the Bindery. -/
def dropReq (id : Nat) (s : State) : State :=
  { s with stk := { s.stk with reqs := s.stk.reqs.filter (fun r => r.id != id),
                               cmdErrs := s.stk.cmdErrs.filter (fun p => p.1 != id) } }

/-- A request reaches the Bindery after its access check (08 R381). -/
def addReq (who : Master) (sla len : Nat) (write : Option Bytes) (dest : Option (Nat × Nat)) (s : State) : State :=
  let r : BReq := { id := s.nextId, write := write, sla := sla, len := len, who := who, issued := false, plan := [],
                    retried := false, lost := 0, dest := dest }
  { s with nextId := s.nextId + 1, stk := { s.stk with reqs := s.stk.reqs ++ [r] } }

/-- The pieces of an access to Stacks, one per sector (08 R381). -/
def sectorPieces : Nat → Nat → Nat → List (Nat × Nat)
  | 0, _, _ => []
  | fuel + 1, a, n =>
    if n = 0 then []
    else
      let k := min n (512 - a % 512)
      (a, k) :: sectorPieces fuel (a + k) (n - k)

/-- Requests for a longer access. -/
def addWrites (who : Master) (a : Nat) (b : Bytes) (s : State) : State :=
  (sectorPieces (b.length / 512 + 2) a b.length).foldl
    (fun s p => addReq who p.1 p.2 (some (slice b (p.1 - a) p.2)) none s) s

/-- Requests for a longer read, each copied on when the access is a DMA transfer. -/
def addReads (who : Master) (a len : Nat) (dest : Option (Nat × Nat)) (s : State) : State :=
  (sectorPieces (len / 512 + 2) a len).foldl
    (fun s p => addReq who p.1 p.2 none (dest.map (fun d => (d.1, d.2 + (p.1 - a)))) s) s

/-- The bytes a read returns: to its master, or to the destination of a DMA transfer (08 R382, 09 R415). -/
def deliver (r : BReq) (b : Bytes) (s : State) : State :=
  match r.dest with
  | none => if r.who = .none then s else emit (.clerkData b) s
  | some (0, a) => { s with worlds := { s.worlds with sram := memWrite 0 s.worlds.sram a b } }
  | some (1, a) => addWrites r.who a b s
  | some _ => s

/-- A request ends: the plaintext of the sector as read is given, and the ciphertext of the lines read (08 R382, R383). -/
def finishReq (r : BReq) (lines : List (Nat × Bytes)) (s : State) : State :=
  let n := reqSector r
  let c := channels s
  let v := (versionOf s 0 n).getD 0
  let old (l : Nat) : Bytes := ((lines.find? (fun p => p.1 == l)).map (fun p => fit 64 p.2)).getD (zeros 64)
  let ct := ((List.range 8).map old).flatten
  let pt := if v = 0 then zeros 512 else decryptSector s n ct
  let s1 := touchPath n (dropReq r.id s)
  match r.write with
  | none => deliver r (slice pt (r.sla % 512) r.len) (perfAdd 16 r.len s1)
  | some b =>
    let s2 := raise 0 n (masterId s r.who) s1
    if s2.faults.silent then s2
    else
      let o := r.sla % 512
      let new := pt.take o ++ fit r.len b ++ pt.drop (o + r.len)
      let ct' := encryptSector s2 n new
      let changed := if v = 0 then List.range 8 else linesTouched r
      let line (l : Nat) : Bytes := if changed.contains l then slice ct' (64 * l) 64 else old l
      let tags := ((List.range 8).map (fun l => lineTag s2 n l (v + 1) (line l))).flatten
      let s3 := changed.foldl (fun s l => writeLine (lineAddr c n l) (line l) s) s2
      let s4 := { s3 with stk := { s3.stk with recent := (s3.stk.recent ++ [(r.id, masterId s r.who)]).drop (s3.stk.recent.length + 1 - 64) } }
      perfAdd 17 r.len (cacheTags n tags (writeLine (tagAddr c n) tags s4))

/-- One Catalogue node comes back (08 R382): verified under its version from the level above, then trusted. One that has
become resident meanwhile is not looked at. -/
def takeNode (r : BReq) (k : Nat) (b : Bytes) (s : State) : State :=
  let j := reqSector r / 8 ^ k
  let p := nodeAddr (channels s) k j
  if s.faults.silent || (node? s k j).isSome then s
  else if b.drop 56 == nodeMac s k j ((versionOf s k j).getD 0) (b.take 56) then
    { s with stk := { s.stk with nodes := s.stk.nodes ++ [{ level := k, idx := j, ctrs := nodeCtrs b, dirty := false }] } }
  else stacksFail ⟨5, p.1, k, p.2, j, masterId s r.who⟩ s

/-- What SECDED finds in a line that was read for a request (08 R368, R388, R391): nodes end in kind 3; lines and tag lines
are judged once the sector's version is known. -/
def eccOf (r : BReq) (p : Nat × Nat) (e : LineEcc × Bytes) (s : State) : State :=
  let a := planAddr (channels s) (reqSector r) p
  if s.faults.silent then s
  else match e.1 with
    | .clean => s
    | .corrected n => corrected a.1 a.2 n e.2 s
    | .bad => if p.1 = 2 then stacksFail ⟨3, a.1, p.2, a.2, reqSector r / 8 ^ p.2, masterId s r.who⟩ s else s

/-- An uncorrectable line or tag line of the sector (08 R391): kinds 1 and 2 when it has been written, else discarded. -/
def badOf (r : BReq) (v : Nat) (p : Nat × Nat) (e : LineEcc × Bytes) (s : State) : State :=
  let a := planAddr (channels s) (reqSector r) p
  if s.faults.silent || p.1 = 2 || e.1 ≠ .bad then s
  else if v = 0 then discardLine a.1 a.2 s
  else stacksFail ⟨p.1 + 1, a.1, 0, a.2, reqSector r, masterId s r.who⟩ s

/-- The tags of the lines read are verified (08 R382): a mismatch is kind 4. -/
def checkTags (r : BReq) (v : Nat) (tags : Bytes) (lines : List (Nat × Bytes)) (s : State) : State :=
  let n := reqSector r
  match lines.find? (fun p => slice tags (8 * p.1) 8 != lineTag s n p.1 v (fit 64 p.2)) with
  | none => s
  | some p =>
    let a := lineAddr (channels s) n p.1
    stacksFail ⟨4, a.1, 0, a.2, n, masterId s r.who⟩ s

/-- Everything that a request waited for is there (08 R382, R388, R391). -/
def answerReq (r : BReq) (d : List (LineEcc × Bytes)) (s : State) : State :=
  let n := reqSector r
  let items := r.plan.zip d
  let s1 := items.foldl (fun s x => eccOf r x.1 x.2 s) s
  let s2 := evict 8 (items.foldl (fun s x => if x.1.1 = 2 then takeNode r x.1.2 (fit 64 x.2.2) s else s) s1)
  if s2.faults.silent then s2
  else
    let v := (versionOf s2 0 n).getD 0
    let s3 := items.foldl (fun s x => badOf r v x.1 x.2 s) s2
    if s3.faults.silent then s3
    else
      let lines := (items.filter (fun x => x.1.1 == 0)).map (fun x => (x.1.2, x.2.2))
      let s4 := match items.find? (fun x => x.1.1 == 1) with
        | some x => if v = 0 then s3 else cacheTags n (fit 64 x.2.2) s3
        | none => s3
      let s5 := if v = 0 then s4 else checkTags r v ((tagsOf s4 n).getD (zeros 64)) lines s4
      if s5.faults.silent then s5 else finishReq r lines s5

/-- The DRAM reads of a request are issued (08 R382); a request that needs none ends at once. -/
def issueReq (r : BReq) (s : State) : State :=
  let c := channels s
  let plan := planOf s r
  let s1 := { s with stk := { s.stk with reqs := s.stk.reqs.map (fun x => if x.id = r.id then { x with issued := true, plan := plan } else x) } }
  if plan.isEmpty then finishReq r [] s1
  else plan.foldl (fun s p =>
    let a := planAddr c (reqSector r) p
    emit (.dramRead r.id a.1 (physical s a.1 a.2)) s) s1

/-- Requests that need not wait go on, in the order in which they reached the Bindery (08 R385). -/
def pump : Nat → State → State
  | 0, s => s
  | fuel + 1, s =>
    if s.faults.silent || !s.stk.catReady then s
    else
      match s.stk.reqs.find? (fun r => !r.issued && !mustWait s r) with
      | none => s
      | some r => pump fuel (issueReq r s)

/-- The Bindery goes on with what waits. -/
def runBindery (s : State) : State := pump (2 * s.stk.reqs.length + 16) s

-- The Deed table -----------------------------------------------------------------------------------------------------------

/-- Key of a page in the Deed table: SRAM pages, then pages of the general region (09 R405); none for a page whose entry is
fixed or that does not exist. -/
def deedKey (s : State) (space page : Nat) : Option Nat :=
  let c := channels s
  if space = 0 then (if page < 4096 then some page else none)
  else if space = 1 && keyStoreEnd c / 4096 ≤ page && page < (protBytes c - 2 ^ 23) / 4096 && 0 < c then
    some (2 ^ 24 + (page - keyStoreEnd c / 4096))
  else none

/-- The Deed entry of a page (09 R406, R407): fixed entries carry LOCK, bit 3; a page that does not exist is Free. -/
def deedOf (s : State) (space page : Nat) : Nat :=
  let c := channels s
  match deedKey s space page with
  | some k => Tbl.getD s.worlds.deeds k 0
  | none =>
    if space = 1 then
      if page < keyStoreEnd c / 4096 then 3 + 8 + 2 ^ 8 else if page < protBytes c / 4096 then 1 + 8 else 0
    else 0

/-- The state with a Deed entry written. -/
def setDeed (key entry : Nat) (s : State) : State := { s with worlds := { s.worlds with deeds := Tbl.put 0 s.worlds.deeds key entry } }

/-- A page is overwritten with zeros (09 R408 step 3). -/
def scrubPage (space page : Nat) (s : State) : State :=
  if space = 0 then { s with worlds := { s.worlds with sram := s.worlds.sram.filter (fun p => p.1 / 4096 != page) } }
  else runBindery (addWrites .none (4096 * page) (zeros 4096) s)

/-- A page returns to Free (09 R408, R409): SCRUB_PEND, bit 4, stands until DEED_SET_DONE. -/
def freePage (space page : Nat) (s : State) : State :=
  match deedKey s space page with
  | none => s
  | some k =>
    scrubPage space page (setDeed k (Tbl.getD s.worlds.deeds k 0 / 32 * 32 + Tbl.getD s.worlds.deeds k 0 % 16 + 16)
      { s with worlds := { s.worlds with deedPend := s.worlds.deedPend ++ [⟨space, page, 0⟩] } })

/-- Every page of an Owner that has become Absent returns to Free (09 R409). -/
def freeOwnerPages (owner : Nat) (s : State) : State :=
  let c := channels s
  (s.worlds.deeds.filter (fun p => p.2 % 8 == 4 && bits p.2 8 10 == owner)).foldl (fun s p =>
    if p.1 < 2 ^ 24 then freePage 0 p.1 s else freePage 1 (keyStoreEnd c / 4096 + (p.1 - 2 ^ 24)) s) s

end Machine
end Sys2Proof
end

