-- ==== Sys2Proof/Machine/Opcodes.lean ====
section
/-!
DEFINITION. The opcodes: parameter block lengths, which orders are stateful, and the parts of an order that its handlers
read (02 R72, R78; 10 R463; the opcode tables of chapters 05, 06, 07, 04, 13, 03, 10, 12, 14, 15).
-/
namespace Sys2Proof
namespace Machine

/-- Length Q of an opcode's parameter block (02 R72); none for an unknown opcode (0x0104). -/
def paramLen : Nat → Option Nat
  | 0x0000 => some 0
  | 0x0101 => some 0 | 0x0102 => some 0 | 0x0111 => some 16 | 0x0112 => some 16 | 0x0121 => some 24 | 0x0122 => some 24
  | 0x0131 => some 16 | 0x0132 => some 16 | 0x0140 => some 0 | 0x0141 => some 16 | 0x0142 => some 16 | 0x0150 => some 8
  | 0x0151 => some 24 | 0x0160 => some 0 | 0x0161 => some 0 | 0x0162 => some 0 | 0x0163 => some 0 | 0x0170 => some 16
  | 0x0171 => some 16 | 0x0180 => some 0 | 0x0181 => some 0 | 0x0182 => some 8 | 0x0183 => some 8
  | 0x0201 => some 32 | 0x0202 => some 8 | 0x0203 => some 48
  | 0x0301 => some 8 | 0x0302 => some 8 | 0x0311 => some 8 | 0x0312 => some 8 | 0x0321 => some 72 | 0x0331 => some 8
  | 0x0332 => some 8 | 0x0341 => some 8 | 0x0342 => some 8 | 0x0343 => some 72
  | 0x0401 => some 72 | 0x0402 => some 72 | 0x0411 => some 8 | 0x0412 => some 8 | 0x0421 => some 8 | 0x0422 => some 8
  | 0x0501 => some 8 | 0x0511 => some 8 | 0x0512 => some 72 | 0x0521 => some 8 | 0x0522 => some 72 | 0x0531 => some 72
  | 0x0541 => some 8 | 0x0551 => some 8
  | 0x0601 => some 64 | 0x0602 => some 0 | 0x0603 => some 0 | 0x0604 => some 72 | 0x0605 => some 8 | 0x0606 => some 0
  | 0x0607 => some 0 | 0x0608 => some 64 | 0x0609 => some 0 | 0x0610 => some 0 | 0x0620 => some 0 | 0x0621 => some 0
  | 0x0622 => some 8 | 0x0623 => some 8 | 0x0630 => some 0 | 0x0631 => some 8 | 0x0632 => some 8 | 0x0633 => some 0
  | 0x0701 => some 64 | 0x0702 => some 0 | 0x0710 => some 48 | 0x0720 => some 32 | 0x0730 => some 8 | 0x0731 => some 16
  | 0x0F01 => some 32 | 0x0F02 => some 8 | 0x0F03 => some 0 | 0x0F04 => some 32 | 0x0F10 => some 32 | 0x0F11 => some 8
  | 0x0F12 => some 8 | 0x0F20 => some 8 | 0x0F21 => some 0 | 0x0F22 => some 0 | 0x0F30 => some 8 | 0x0F40 => some 0
  | 0x0F41 => some 0 | 0x0F50 => some 40 | 0x0F51 => some 0 | 0x0F52 => some 0 | 0x0F53 => some 0 | 0x0F54 => some 8
  | 0x0F55 => some 8 | 0x0F56 => some 0 | 0x0F60 => some 8 | 0x0F61 => some 8 | 0x0F62 => some 0 | 0x0F70 => some 8
  | _ => none

/-- The parameter block of an order (02 R72). -/
def params (o : Order) : Bytes := slice o.inl 0 ((paramLen o.opcode).getD 0)

/-- A field of the parameter block. -/
def par (o : Order) (off n : Nat) : Nat := field o.inl off n

/-- The input of an order, once it is present. -/
def inputOf (o : Order) : Bytes := o.input.getD []

/-- The auxiliary input of an order, once it is present. -/
def auxOf (o : Order) : Bytes := o.aux.getD []

/-- Whether an opcode is stateful (10 R463, 13 R585). -/
def isStateful (opcode : Nat) : Bool :=
  opcode / 256 == 0x0F ||
  (opcode / 256 == 6 && opcode != 0x0609 && opcode != 0x0610 && opcode != 0x0633) ||
  opcode == 0x0701 || opcode == 0x0702 || opcode == 0x0731

/-- The Owner of the Stall that issues an order. -/
def ownerOf (s : State) (o : Order) : Nat := (stall s o.stall).owner

/-- The check of R75: with an output of `out` bytes and auxiliary output of `aux` bytes, the bytes required when they do
not fit. Auxiliary output returned inline counts as output, at a multiple of 8 (R76). -/
def capWord (o : Order) (out aux : Nat) : Option Nat :=
  if inlineOut o then
    let need := if aux = 0 then out else roundUp out 8 + aux
    if o.outCap < need then some need else none
  else if o.outCap < out || o.auxLen < aux then some (out + aux * 2 ^ 32)
  else none

end Machine
end Sys2Proof
end

