-- ==== Sys2Proof/Machine/Quorum.lean ====
section
/-!
DEFINITION. The Quorum Gate: approval lists, the proposal and its digest, the decision of R225, and the restart of the
Keeper world that differing decisions can lead to (04 R218 to R231; 09 R428 to R433).
-/
namespace Sys2Proof
namespace Machine

-- The restart of the Keeper world --------------------------------------------------------------------------------------

/-- A gateable block with its claim released: the pending request is applied (09 R425). -/
def releasedGate (g : Gate) : Gate :=
  match g.pendingReq with
  | some b => { g with claimed := false, gatedReq := b, pendingReq := none, deferred := false }
  | none => { g with claimed := false, deferred := false }

/-- A Clerk that has left the Keeper world: its Shop registers come back, the Keeper registers read 0 (09 R400). -/
def leaveKeeper (c : Clerk) : Clerk :=
  match c.saved with
  | some l => { c with level := l, saved := none, shopRegs := c.savedRegs, keeperRegs := [], savedRegs := [],
                       halted := c.halted || c.haltReq, haltReq := false }
  | none => c

/-- Orders of classes 0x06, 0x07 and 0x0F that are with the Keeper world and have not passed their commit point
(09 R429 step 2). -/
def keeperRequests (s : State) : List Nat :=
  (s.orders.filter (fun o => isFirmware o.opcode && isDispatched o && o.stage != .done && o.stage != .waitReset &&
    o.commit == .none)).map (fun o => o.id)

/-- Steps 1 to 3 of a Keeper restart (09 R429, R432), for a trigger of R428: 1 exception, 2 refused access, 3 watchdog,
4 quorum decisions (log entry 40). A trigger beyond the limits of R433 is Silence 0x0007. -/
def triggerRestart (why : Nat) (s : State) : State :=
  let recent := s.keeper.restartAt.any (fun x => decide (s.clock < x + 1000000000))
  let day := within (24 * 3600 * 1000000000) s.keeper.restartAt s.clock
  let s1 := event 4 (tallyAdd 4 1 s)
  let s2 := record 0x0B02 sevNote why ((tally s1 4).value % 2 ^ 32) 0 s1
  if recent || decide (4 ≤ day.length) then silence 0x0007 s2
  else
    let left (id : Nat) : Bool := match order? s2 id with
      | some o => mirrored s2 && !isLead s2 && (ring s2 o.stall o.ring).shared && isStateful o.opcode
      | none => false
    let ids := (keeperRequests s2).filter (fun id => !left id)
    let s3 : State := { s2 with
      worlds := { s2.worlds with clerks := s2.worlds.clerks.map leaveKeeper,
                                 gates := s2.worlds.gates.map (fun p => (p.1, releasedGate p.2)) }
      keeper := { s2.keeper with restarting := true, trigger := why, restartFrom := s2.clock, restartAt := day, restarts := satAdd 16 s2.keeper.restarts 1,
                                 results := [], waitGate := [] }
      munim := { s2.munim with policyStale := true, restore := [], backup := none,
                               backupLost := s2.munim.backupLost ++ (match s2.munim.backup with | some b => [b.owner] | none => []) }
      side := { s2.side with ports := s2.side.ports.map (fun p =>
        { p with session := none, cstep := .idle, skey := none, powered := false, queue := [] }) } }
    let s3 : State := (List.range 4).foldl (fun s p => portClosed p s) s3
    let s4 : State := (s3.pair.txns.filter (fun (x : Txn) => x.lead && decide (x.phase < 4))).foldl (fun (s : State) (x : Txn) =>
      match order? s x.order with
      | some o => sendFrame 0 (.delta { txn := x.num, phase := 6, apply := false, stall := o.stall, ring := o.ring,
                                        gen := o.gen, count := o.count, vigil := vigilSeconds s, odigest := [], items := [] }) s
      | none => s) s3
    let s5 := { s4 with pair := { s4.pair with txns := s4.pair.txns.filter (fun x => !decide (x.phase < 4)) } }
    let s6 := { s5 with orders := s5.orders.map (fun o =>
      if left o.id && o.stage == .waitTwin && o.commit == .none then { o with stage := .ready, result := none } else o) }
    ids.foldl (fun s id => complete id 0x0502 0 (modOrder s id (fun o => { o with items := [] }))) s6

-- Approval lists -------------------------------------------------------------------------------------------------------

/-- An entry of an approval list (04 R223). -/
structure Entry where
  kind : Nat
  index : Nat
  port : Nat
  roster : Nat
  sig : Bytes
deriving DecidableEq, Repr

/-- An approval list (04 R222). -/
structure Approvals where
  seq : Nat
  notBefore : Nat
  notAfter : Nat
  entries : List Entry
  length : Nat
deriving DecidableEq, Repr

/-- What an auxiliary input holds at its offset 0 (04 R222 to R225). -/
inductive ListForm | absent | bad | good (a : Approvals)
deriving DecidableEq, Repr

/-- The entries of a list from an offset on, with the end of the last; none when the list is inconsistent (04 R224). A
roster above 1, a port above 3 and a port in a token entry are inconsistent too (log entry 41). -/
def parseEntries (b : Bytes) : Nat → Nat → Option (List Entry × Nat)
  | 0, pos => some ([], pos)
  | n + 1, pos =>
    let kind := field b pos 1
    let len := field b (pos + 4) 2
    let fin := pos + 8 + roundUp len 8
    let ok := decide (pos + 8 ≤ b.length) && decide (fin ≤ b.length) && decide (field b (pos + 3) 1 ≤ 1) &&
      field b (pos + 6) 2 == 0 && allZero (slice b (pos + 8 + len) (roundUp len 8 - len)) &&
      (if kind = 1 then field b (pos + 2) 1 == 0 && (len == 96 || len == 3309)
       else kind == 2 && decide (field b (pos + 2) 1 ≤ 3) && len == 0)
    if ok then
      (parseEntries b n fin).map (fun r =>
        ({ kind := kind, index := field b (pos + 1) 1, port := field b (pos + 2) 1, roster := field b (pos + 3) 1,
           sig := slice b (pos + 8) len } :: r.1, r.2))
    else none

/-- The approval list at the start of an auxiliary input. A count above 32 makes the list inconsistent: R222 gives the range
and no status (DESIGN CHOICE, log entry 140). -/
def parseApprovals (b : Bytes) : ListForm :=
  if b.isEmpty || (decide (24 ≤ b.length) && field b 16 1 == 0) then .absent
  else if b.length < 24 || 32 < field b 16 1 || !allZero (slice b 17 7) then .bad
  else
    match parseEntries b (field b 16 1) 24 with
    | none => .bad
    | some (es, fin) => .good { seq := field b 0 8, notBefore := field b 8 4, notAfter := field b 12 4, entries := es,
                                length := fin }

/-- Whether an opcode has auxiliary data of its own behind the list (04 R219, R234; 14 R611, R613, R620 to R622). -/
def takesAux (opcode : Nat) : Bool := [0x0630, 0x0F01, 0x0F40, 0x0F41, 0x0F50, 0x0F54, 0x0F55].contains opcode

/-- The approval list of an order: bytes behind the list of an opcode that has no data of its own make it inconsistent, since
the length does not agree with count and entries (04 R222, R224). -/
def approvalsOf (o : Order) : ListForm :=
  match parseApprovals (auxOf o) with
  | .good a => if takesAux o.opcode || (auxOf o).length == a.length then .good a else .bad
  | f => f

/-- Opcode auxiliary data: what follows the list (04 R222). -/
def opAux (o : Order) : Bytes :=
  match parseApprovals (auxOf o) with
  | .good a => (auxOf o).drop (roundUp a.length 8)
  | _ => []

-- The proposal ---------------------------------------------------------------------------------------------------------

/-- Order digest (04 R221). -/
def orderDigest (o : Order) : Bytes :=
  sha384 (leBytes 2 o.opcode ++ leBytes 8 o.keyA ++ leBytes 8 o.keyB ++ params o ++ leBytes 4 (inputOf o).length ++ inputOf o ++
    leBytes 4 (opAux o).length ++ opAux o)

/-- Domain of proposals (04 R220): the pair identity in Mirror mode, else the hash of the classical identity key. -/
def domain (s : State) : Bytes :=
  match s.mram.pairRec with
  | some p => if s.pair.mode = 1 then fit 16 p.pairId else (sha384 idPublic).take 16
  | none => (sha384 idPublic).take 16

/-- The 96-byte proposal (04 R220). -/
def proposal (s : State) (o : Order) (owner : Nat) (a : Approvals) : Bytes :=
  [0x55, 0x54, 0x51, 0x50] ++ leBytes 2 1 ++ leBytes 2 o.opcode ++ domain s ++ leBytes 2 owner ++ zeros 6 ++
    leBytes 8 a.seq ++ leBytes 4 a.notBefore ++ leBytes 4 a.notAfter ++ orderDigest o

/-- Lx and the proposal digest of the slot that holds it (04 R176); both slots of the lifecycle
record count for Owner 0 (14 R614). -/
def lastDone (s : State) (x : Nat) : Nat × Bytes :=
  let with' (r : Option (Nat × Nat × Bytes)) (a : Nat × Bytes) : Nat × Bytes :=
    match r with
    | some (_, q, d) => if x = 0 && a.1 < q then (q, d) else a
    | none => a
  with' s.mram.lifePrev (with' s.mram.lifecycle (match lastSeq s x with | some m => (m.seq, m.pdigest) | none => (0, [])))

-- The decision ---------------------------------------------------------------------------------------------------------

/-- What the Quorum Gate decides (04 R225). -/
inductive Decision
  | pass (masks : List (Nat × Nat))              -- by required roster: its Owner and the mask of custodians counted
  | applied                                      -- already applied
  | fail (status word : Nat)
  | ask (entry port owner index : Nat)           -- a card's signature is needed
deriving DecidableEq, Repr

/-- A roster required or named: its Owner and that Owner's record. -/
abbrev Roster := Nat × Option OwnerRec

/-- Whether a custodian's signature over a proposal digest verifies (04 R224). -/
def sigOk (c : Custodian) (digest sig : Bytes) : Bool :=
  if c.ktype = 1 then sig.length == 96 && Config.ecdsaP384Verify c.pk digest sig
  else sig.length == 3309 && Config.mldsa65Verify c.pk digest (ascii "UT-QUORUM") sig

/-- The loop of R225 over the entries; `cnt` lists (Owner, index) counted so far. `cards` holds card signatures by
entry, `trust` counts card entries that the Lead has asked (10 R468, log entry 42). -/
def countEntries (pick : Nat → Roster) (digest : Bytes) (cards : List (Nat × Bytes)) (trust : Bool) :
    Nat → List (Nat × Nat) → List Entry → Decision ⊕ List (Nat × Nat)
  | _, cnt, [] => .inr cnt
  | i, cnt, e :: es =>
    let (own, rec?) := pick e.roster
    match rec?.bind (fun r => r.custodians.find? (fun c => c.index == e.index)) with
    | none => .inl (.fail 0x0706 (e.index + 256 * e.roster))
    | some c =>
      if cnt.contains (own, e.index) then .inl (.fail 0x0707 0)
      else
        let sig : Option Bytes := if e.kind = 1 then some e.sig else (cards.find? (fun p => p.1 == i)).map (fun p => p.2)
        if trust && e.kind == 2 then countEntries pick digest cards trust (i + 1) (cnt ++ [(own, e.index)]) es
        else
          match sig with
          | none => .inl (.ask i e.port own e.index)
          | some g =>
            if sigOk c digest g then countEntries pick digest cards trust (i + 1) (cnt ++ [(own, e.index)]) es
            else .inl (.fail 0x0705 (e.index + 256 * e.roster))

/-- Custodians of an Owner's roster that were counted. -/
def counted (cnt : List (Nat × Nat)) (own : Nat) : List Nat := (cnt.filter (fun p => p.1 == own)).map (fun p => p.2)

/-- The mask of a list of custodian indices. -/
def maskOf (l : List Nat) : Nat := (l.map (fun i => 2 ^ i)).sum

/-- How a decision is made: the required rosters in order, the proposal's Owner, the Vigil time, whether the time and
window tests apply (R231), and whether the twin's card entries are trusted. -/
structure GateArgs where
  owner : Nat
  required : List Roster
  owner0 : Option OwnerRec
  now : Nat
  timeOk : Bool
  window : Bool
  trust : Bool
deriving DecidableEq, Repr

/-- The decision of R225. -/
def decideQuorum (s : State) (o : Order) (g : GateArgs) : Decision :=
  if g.required.any (fun r => r.2.isNone) then .fail 0x0215 0
  else if g.window && !g.timeOk then .fail 0x070B 0
  else
    match approvalsOf o with
    | .absent => .fail 0x0701 0
    | .bad => .fail 0x070A 0
    | .good a =>
      let digest := sha384 (proposal s o g.owner a)
      let (l, pd) := lastDone s g.owner
      if g.window && (a.notAfter < a.notBefore || 86400 < a.notAfter - a.notBefore) then .fail 0x0704 0
      else if g.window && (g.now < a.notBefore || a.notAfter < g.now) then .fail 0x0703 0
      else if a.seq ≤ l then
        if a.seq = l && digest.take 16 = pd then .applied else .fail 0x0702 0
      else
        let pick (b : Nat) : Roster := if b = 0 then g.required.headD (g.owner, none) else (0, g.owner0)
        match countEntries pick digest o.sigs g.trust 0 [] a.entries with
        | .inl d => d
        | .inr cnt =>
          match (List.range g.required.length).find? (fun i =>
            match g.required[i]? with
            | some (own, some r) => decide ((counted cnt own).length < r.m)
            | _ => true) with
          | some i => .fail 0x0708 ((counted cnt (g.required.getD i (0, none)).1).length + 256 * i)
          | none => .pass (g.required.map (fun r => (r.1, maskOf (counted cnt r.1))))

/-- The decision arguments for a proposal of an Owner, from the Vigil as it stands. -/
def gateArgs (s : State) (owner : Nat) : GateArgs :=
  { owner := owner, required := [(owner, ownerRec s owner)], owner0 := ownerRec s 0, now := s.vigil.seconds.toNat,
    timeOk := s.vigil.timeValid, window := true, trust := false }

/-- The result word of an order that is already applied (04 R226): derived from the committed slot for master and record
orders (the MASTER_BACKUP that opens a ceremony gives the first share: word 1, R213), kept in Keeper memory for others; none when
it cannot be recovered. -/
def appliedWord (s : State) (o : Order) (owner : Nat) : Option Nat :=
  let m := lastSeq s owner
  if o.opcode = 0x0620 || o.opcode = 0x0630 || o.opcode = 0x0631 || o.opcode = 0x0632 then m.map (fun x => x.epoch)
  else if o.opcode = 0x0622 then m.map (fun _ => 1)
  else if o.opcode = 0x0F01 then some (par o 0 2)
  else if o.opcode = 0x0F02 || o.opcode = 0x0F04 || (0x0F50 ≤ o.opcode && o.opcode ≤ 0x0F55) then some 0
  else (s.keeper.results.find? (fun r => r.1 == owner && r.2.1 == (lastDone s owner).1)).map (fun r => r.2.2)

/-- What a passed decision gives to the slot that the order writes (04 R174). -/
structure Approval where
  owner : Nat
  seq : Nat
  pdigest : Bytes
deriving DecidableEq, Repr

/-- The approval of a list that passed. -/
def approvalOf (s : State) (o : Order) (owner : Nat) : Approval :=
  match parseApprovals (auxOf o) with
  | .good a => { owner := owner, seq := a.seq, pdigest := (sha384 (proposal s o owner a)).take 16 }
  | _ => { owner := owner, seq := 0, pdigest := zeros 16 }

/-- The records of a passed decision, one for each roster (04 R230). -/
def recordPass (s : State) (a : Approval) (masks : List (Nat × Nat)) : State :=
  masks.foldl (fun s m => recordThrough 0x0201 sevInfo (m.1 + m.2 * 2 ^ 16) (a.seq % 2 ^ 32) (field a.pdigest 0 4) s) s

/-- The record of a refusal (04 R230). A refusal for a record that is not loaded stands before the Gate and makes none
(log entry 43). -/
def recordFail (s : State) (o : Order) (owner status word : Nat) : State :=
  if status = 0x0215 then s
  else
    let seq := match parseApprovals (auxOf o) with | .good a => a.seq | _ => 0
    recordThrough 0x0202 (if status = 0x0705 then sevNote else sevInfo) (owner + status * 2 ^ 16) (seq % 2 ^ 32) (word % 2 ^ 32) s

end Machine
end Sys2Proof
end

