-- ==== Sys2Proof/Machine/Commit.lean ====
section
/-!
DEFINITION. How an order of classes 0x06, 0x07 and 0x0F takes effect: what its handler answers, the items of its change
and their effect, the Quorum Gate around a handler, the commit point and the two-phase commit with the twin (09 R431;
10 R463 to R470; 04 R225 to R230).
-/
namespace Sys2Proof
namespace Machine

-- What a handler answers -----------------------------------------------------------------------------------------------

/-- What an order ends with and the change it makes at its commit point. -/
structure Plan where
  status : Nat := 0
  word : Nat := 0
  out : Bytes := []
  aux : Bytes := []
  items : List Item := []
deriving DecidableEq, Repr

/-- What a handler answers: the plan, a question to a custodian card, a wait, differing quorum decisions, a verification whose
copies differ, or that the state it gives already says what becomes of the order. -/
inductive FwOut
  | done (p : Plan)
  | ask (w : CardWant)
  | wait (st : Stage)
  | differ
  | verify
  | settled
deriving DecidableEq, Repr

/-- An order that ends with a status and a result word and changes nothing. -/
def FwOut.fail (status word : Nat) : FwOut := .done { status := status, word := word }

/-- A handler: it reads the order and the state; what it does to the state before the commit point (draws, records) goes
with its answer. -/
abbrev Handler := Order → FwEnv → State → FwOut × State

-- Items ----------------------------------------------------------------------------------------------------------------

/-- The Owner record that a body of R233 spells. -/
def parseCustodian (b : Bytes) : Custodian :=
  { index := field b 0 1, ktype := field b 1 1, cflags := field b 2 1, cardId := slice b 8 16,
    pk := slice b 24 (if field b 1 1 = 1 then 97 else 1952) }

/-- The Owner record that a body spells (04 R232, R233). -/
def parseOwner (b : Bytes) : OwnerRec :=
  { owner := field b 0 2 % 1024, bindRule := field b 2 1, tdiOnly := bitOf (field b 3 1) 0, maxStalls := field b 4 2,
    weightSum := field b 6 2, maxStored := field b 8 4, pasidLo := field b 12 4 % 2 ^ 20, pasidHi := field b 16 4 % 2 ^ 20,
    m := field b 20 1, n := field b 21 1, tallyFirst := field b 22 2, tallyCount := field b 24 2,
    version := field b 32 4 % 2 ^ 24,
    custodians := (List.range (field b 21 1)).map (fun i => parseCustodian (slice b (40 + 1984 * i) 1984)) }

/-- The 1,984 bytes of a custodian record (04 R218). -/
def custodianBytes (c : Custodian) : Bytes :=
  fit 1984 (leBytes 1 c.index ++ leBytes 1 c.ktype ++ leBytes 1 c.cflags ++ [0] ++ leBytes 2 c.pk.length ++ zeros 2 ++
    fit 16 c.cardId ++ c.pk)

/-- The body of an Owner record (04 R233). -/
def ownerBody (r : OwnerRec) : Bytes :=
  leBytes 2 r.owner ++ leBytes 1 r.bindRule ++ [if r.tdiOnly then 1 else 0] ++ leBytes 2 r.maxStalls ++
    leBytes 2 r.weightSum ++ leBytes 4 r.maxStored ++ leBytes 4 r.pasidLo ++ leBytes 4 r.pasidHi ++ leBytes 1 r.m ++
    leBytes 1 r.n ++ leBytes 2 r.tallyFirst ++ leBytes 2 r.tallyCount ++ zeros 6 ++ leBytes 4 r.version ++ zeros 4 ++
    (r.custodians.map custodianBytes).flatten

/-- An Owner record is loaded; its Tally allotment is known from then on, also while the record is not loaded (04 R234; log
entry 144). -/
def loadOwner (r : OwnerRec) (s : State) : State :=
  { s with keeper := { s.keeper with loaded := Tbl.ins s.keeper.loaded r.owner r }
           mram := { s.mram with allots := Tbl.ins s.mram.allots r.owner (r.tallyFirst, r.tallyCount) } }

/-- The blob of an Owner record under the Owner's OMK of an epoch (04 R193). -/
def ownerBlob (omk : Bytes) (epoch : Nat) (r : OwnerRec) (nonce : Bytes) : Bytes :=
  sealBlob omk 2 (mkHandle r.owner 0 r.version) (zeros 64) (zeros 8) epoch (ownerBody r) nonce

/-- State of a key that enters a slot (04 R204, R189): 1, Spent, when its Tally is Exhausted, or when a new key's ledger is
already used up; else 0, Active. The successor of a key, or the narrowed key, is Active. -/
def enterState (s : State) (fresh : Bool) (a : Attrs) : Nat :=
  let t := tally s a.ledgerTally
  if kLedger a && (t.exhausted || (fresh && beyond a (t.value - a.ledgerBase))) then 1 else 0

/-- A key enters its slot (04 R204): an earlier key of the slot leaves cache and working registers (R192), and no tombstone
stays. -/
def storeKey (owner slot : Nat) (k : KeyRec) (s : State) : State :=
  let ks := keySlot s owner slot
  let s1 := match ks.key with | some o => dropCached (mkHandle owner slot o.gen) s | none => s
  setKeySlot owner slot { ks with key := some { k with attrs := { k.attrs with kstate := enterState s1 ks.key.isNone k.attrs }, res := none },
                                  tomb := none, tombNext := 0 } s1

/-- A key leaves its slot (04 R204): the slot is empty, or holds a tombstone. -/
def removeKey (owner slot : Nat) (tomb : Option Nat) (next : Nat) (s : State) : State :=
  let ks := keySlot s owner slot
  match tomb with
  | none =>
    let s1 := match ks.key with | some o => dropCached (mkHandle owner slot o.gen) s | none => s
    setKeySlot owner slot KeySlot.reset s1
  | some g =>
    let gone := match ks.key with | some k => k.gen == g | none => true
    setKeySlot owner slot { ks with key := if gone then none else ks.key, tomb := some g, tombNext := next }
      (dropCached (mkHandle owner slot g) s)

/-- A Stall is bound (03 R136): generation, fields of the block, every ring register at its reset value; a reset of cause 5 with
no work to abandon (R155, R162). -/
def bindStall (b : StallBlk) (gen : BitVec 16) (s : State) : State :=
  let old := stall s b.stall
  let x : Stall := { freedStall old with
    state := .bound, owner := b.owner, gen := gen, tdi := if bitOf b.bflags 1 then .unlocked else .none,
    noPasid := bitOf b.bflags 0, ats := bitOf b.bflags 2, rid := s.pcie.rid, pasid := b.pasid, vecBase := b.vecBase,
    vecCount := b.vecCount, weight := b.weight, maxInflight := b.maxInflight, maxPk := b.maxPk, maxCache := b.maxCache,
    lastCause := causeBind, resetDone := true, resets := satAdd 16 old.resets 1, abandoned := 0, lostRcpts := 0, reports := [] }
  let s1 := (List.range 4).foldl (fun s q => setRing s b.stall q Ring.reset) (setStall s b.stall x)
  record 0x0501 sevInfo (b.stall + causeBind * 4096) gen.toNat 0 s1

/-- The Vigil time is set (12 R527). -/
def setVigilTime (v : Nat) (s : State) : State :=
  { s with vigil := { s.vigil with seconds := BitVec.ofNat 32 v, fraction := 0, timeValid := true } }

/-- The root check of a Device Root (04 R171). -/
def rootCheckOf (root : Bytes) : Bytes := kdf root "UT-ROOTCHECK" [] 16

/-- The root check as MRAM holds it: the value and its MAC under the anchor MAC key (04 R171). -/
def rootCheckWith (s : State) (root : Bytes) : Bytes × Bytes :=
  (rootCheckOf root, match s.munim.anchorKey with
    | some k => take 32 (Config.kmac256 k (rootCheckOf root) 32 [])
    | none => [])

/-- The Device Root that the Seal seed gives (04 R165, R170). -/
def rootFrom (s : State) : Option Bytes :=
  s.munim.watermark.map (fun w => kdf w "UT-DEVROOT" (leBytes 32 s.vigil.seed.toNat) 32)

/-- Mask of expected sources that pushed nothing in an entry (13 R572). -/
def missingMask (s : State) : Nat :=
  let seen := match bootEntry s with | some e => (e.blocks.filter (fun (b : BootBlk) => b.kind == 0x10)).map (fun (b : BootBlk) => b.source) | none => []
  let expected := match s.faults.pdbStart with | some p => p.srcExpected | none => 0
  (((List.range 32).filter (fun n => bitOf expected n && !seen.contains n)).map (fun n => 2 ^ n)).sum

/-- Host intake of the Boot Roll closes (13 R577): the close block, record 0x0302, event 13. -/
def closeBoot (reason : Nat) (s : State) : State :=
  if s.day.bootOpen then
    let mask := missingMask s
    let s1 := bootAppend 0x30 0 reason mask [] s
    let s2 := recordThrough 0x0302 sevInfo ((tally s 0).value % 2 ^ 32) reason mask s1
    event 13 { s2 with day := { s2.day with bootOpen := false } }
  else s

/-- A lifecycle state comes into force at its commit point (14 R614, R617; 15 R658): the record goes into the other slot (04
R175), event 14, and no staged debug level is left. -/
def setLifecycle (st seq : Nat) (digest : Bytes) (s : State) : State :=
  event 14 { s with mram := { s.mram with lifecycle := some (st, seq, digest), lifePrev := s.mram.lifecycle, lifeTorn := false,
                                          dbgStaged := none }
                    faults := { s.faults with lifecycle := st } }

/-- A Resetting Stall is freed at once, whatever it still has in the egress queue (03 R146). -/
def freeAtOnce (st : Nat) (s : State) : State :=
  let s1 := modStall s st (fun x => { x with freeAfter := true })
  answerReset st (stall s1 st) (settleStall st { s1 with egress := s1.egress.filter (fun y => y.stall != st) })

/-- A hard reset asked for by an order begins (03 R137, R155): its receipt comes when the reset completes. The unbind of a Stall
in ERROR frees it at once (R146). -/
def orderReset (id st : Nat) (free : Bool) (s : State) : State :=
  let s1 := match (stall s st).state with
    | .resetting => mergeReset st true (if free then causeUnbind else causeHard) s
    | _ => beginReset st true (if free then causeUnbind else causeHard) (tdiToError st s)
  let s2 := modStall s1 st (fun x => { x with freeAfter := x.freeAfter || free, resetOrder := x.resetOrder ++ [id] })
  if free && (stall s st).tdi == .error then freeAtOnce st s2 else s2

/-- A reset that the twin accepted or that a PREPARE carries, under its new generation (10 R461, R466): a fresh one begins, one
in progress merges (03 R163). -/
def wireReset (st : Nat) (gen : BitVec 16) (hard free : Bool) (cause : Nat) (s : State) : State :=
  let x := stall s st
  let s1 := if x.state == .bound && x.gen + 1 == gen then beginReset st hard cause s
            else if x.state == .resetting && x.gen == gen then mergeReset st hard cause s else s
  if !free || (stall s1 st).state != .resetting || (stall s1 st).gen != gen then s1
  else if x.tdi == .error then freeAtOnce st s1
  else modStall s1 st (fun x => { x with freeAfter := true })

/-- Whether a reset under a generation applies to a Stall as it stands (10 R468). -/
def resetApplies (x : Stall) (gen : BitVec 16) : Bool :=
  (x.state == .bound && x.gen + 1 == gen) || (x.state == .resetting && x.gen == gen)

/-- The generation that a reset asked for now leaves the Stall with (03 R156, R163). -/
def resetGen (x : Stall) : BitVec 16 := if x.state == .resetting then x.gen else x.gen + 1

/-- No twin takes part in an order any more: one whose commit-point write has been made is to be receipted, any other is run
by this part alone (10 R479). -/
def releaseTwin (s : State) : State :=
  { s with orders := s.orders.map (fun o =>
      if o.stage != .waitTwin then o
      else match o.commit with
        | .none => { o with stage := .ready, result := none, items := [] }
        | .pending => { o with stage := .waitCommit }
        | .done => { o with stage := .done }) }

/-- What a slot of a master entry holds. -/
def slotOf (s : State) (e slot : Nat) : Option MSlot := if slot = 0 then (entrySlots s e).1 else (entrySlots s e).2

/-- The restore shares of an Owner are replaced (04 R216). -/
def setRestore (owner : Nat) (r : Option Restore) (s : State) : State :=
  { s with munim := { s.munim with restore := s.munim.restore.filter (fun x => x.owner != owner) ++ r.toList } }

/-- The effect of one item on this part (10 R466, R467). -/
def applyItem (id : Nat) (it : Item) (s : State) : State :=
  match it with
  | .mram e sl img =>
    -- a share anchor commits the ceremony, whose registers are cleared on this part too (04 R213)
    let s1 := writeSlot e sl img { s with mram := { s.mram with writing := s.mram.writing ++ [(id, e, sl, slotOf s e sl)] } }
    if e % 4 = 2 && img.isSome then { s1 with munim := { s1.munim with backup := none } } else s1
  | .key owner slot k => storeKey owner slot k s
  | .keyGone owner slot tomb next => removeKey owner slot tomb next s
  | .bind b gen => bindStall b gen s
  | .unbind st gen => wireReset st gen true true causeUnbind s
  | .ownerBlob b =>
    match openBlob s 2 b with
    | .ok x => loadOwner (parseOwner x.body) s
    | .error _ => s
  | .stallReset st gen cause =>
    wireReset st gen (cause != causeSelf) false cause s
  | .receipt _ => s
  | .tally n v =>
    let t := tally s n
    if t.value < v then spendBound n { s with mram := { s.mram with tallies := Tbl.put Tally.reset s.mram.tallies n { t with value := v, writes := t.writes + 1 } } }
    else s
  | .badOp => s
  | .ownerRec r => loadOwner r s
  | .ownerGone n => freeOwnerPages n { s with keeper := { s.keeper with loaded := Tbl.del s.keeper.loaded n } }
  | .keep owner seq word =>
    { s with keeper := { s.keeper with results := s.keeper.results.filter (fun r => r.1 != owner) ++ [(owner, seq, word)] } }
  | .keyRecord h n => keyRecord h n s
  | .backup b => { s with munim := { s.munim with backup := b } }
  | .restore owner r => setRestore owner r s
  | .tallyUp n v => tallyAdd n v s
  | .bootBlk kind index source detail value => bootAppend kind index source detail value s
  | .bootClose reason => closeBoot reason s
  | .vigilTime v => setVigilTime v s
  | .pdb p => applyPdb p { s with mram := { s.mram with pdb := some p } }
  | .calib b => (applyCalib b { s with mram := { s.mram with calib := some b } }).2
  | .rootCheck => { s with mram := { s.mram with rootCheck := (rootFrom s).map (rootCheckWith s) },
                           munim := { s.munim with deviceRoot := rootFrom s } }
  | .lifecycle st seq d => setLifecycle st seq d s
  | .fuseR => event 14 { s with mram := { s.mram with fuseR := true, dbgStaged := none }, faults := { s.faults with lifecycle := 6 } }
  | .zeroize cause => zeroize cause s
  | .bootRec bank trial => { s with mram := { s.mram with bootBank := bank, bootTrial := trial } }
  | .flash a d => { s with mram := { s.mram with flash := memWrite Config.erasedByte s.mram.flash a d }, side := { s.side with flashBusy := false } }
  | .floor svn => if (tally s 5).value < svn then tallyAdd 5 (svn - (tally s 5).value) s else s
  | .debugStage level => event 15 { s with mram := { s.mram with dbgStaged := some level } }
  | .pairGone =>
    setPair psUnpaired (unshare { releaseTwin s with
      mram := { s.mram with pairRec := none }
      pair := { s.pair with bound := false, mode := 0, role := 0, session := false, sessionKey := none, frameKeys := none, ptk := none, pairSecret := none,
                            replay := [], txns := [], hsStep := 0, hsPurpose := 0 } })
  | .pairMade r =>
    -- side 0 of a Mirror pair goes on alone until its twin is joined (10 R439)
    setPair (if r.mode = 2 then psLinking else if r.side = 0 then psSole else psWaiting) { s with
      mram := { s.mram with pairRec := some r }
      pair := { s.pair with bound := true, mode := r.mode, side := r.side, role := r.side } }
  | .hardReset st free => orderReset id st free s

/-- Every item of a change, in order. -/
def applyItems (id : Nat) (its : List Item) (s : State) : State := its.foldl (fun s it => applyItem id it s) s

/-- Whether an item is a hard reset, whose order waits for it. -/
def isHardReset : Item → Bool
  | .hardReset .. => true
  | _ => false

-- The commit point -----------------------------------------------------------------------------------------------------

/-- The commit point of an order (09 R431): its change is made, and the completion signal of the write is awaited; an
order that asked for a hard reset waits for it. -/
def commitOwn (id : Nat) (its : List Item) (s : State) : State :=
  let s1 := modOrder s id (fun o => { o with commit := .pending, items := [] })
  let s2 := applyItems id its s1
  if its.any isHardReset then modOrder s2 id (fun o => { o with stage := .waitReset, commit := .done }) else s2

/-- The items of a change as the link carries them (10 R466). An Owner record goes as its blob, which is the order's
output; a hard reset as an unbind or a generation. -/
def wireItem (s : State) (r : Result) : Item → Option Item
  | .ownerRec _ => if r.out.isEmpty then none else some (.ownerBlob r.out)
  | .ownerBlob b => some (.ownerBlob b)
  | .hardReset st free => some (if free then .unbind st (resetGen (stall s st)) else .stallReset st (resetGen (stall s st)) causeHard)
  | .mram e sl img => some (.mram e sl img)
  | .key o sl k => some (.key o sl k)
  | .keyGone o sl t n => some (.keyGone o sl t n)
  | .bind b g => some (.bind b g)
  | .tallyUp n v => some (.tally n ((tally s n).value + v))
  | .floor svn => some (.tally 5 svn)
  | _ => none

/-- The wire items of a change, with the kind-7 item (10 R467 step 1). -/
def wireItems (s : State) (r : Result) (its : List Item) : List Item := its.filterMap (wireItem s r) ++ [.receipt r]

/-- An item as it crosses the link: key material wrapped with AES-KWP under the PTK (10 R466 kind 2; 01 R28). -/
def sealItem (s : State) : Item → Item
  | .key o sl k => .key o sl { k with material := match s.pair.ptk with | some p => kwpWrap p k.material | none => [] }
  | it => it

/-- An item as it is received (10 R466 kind 2): the material is unwrapped under the PTK and its key check value compared
(04 R196); one that fails either is malformed. -/
def openItem (s : State) : Item → Item
  | .key o sl k =>
    match s.pair.ptk.bind (fun p => kwpUnwrap p k.material) with
    | some m => if kcvOf m = k.kcv then .key o sl { k with material := m } else .badOp
    | none => .badOp
  | it => it

/-- A DELTA frame of a transaction. -/
def deltaFrame (s : State) (x : Txn) (phase : Nat) (apply : Bool) : FrameBody :=
  .delta { txn := x.num, phase := phase, apply := apply, stall := x.place.1, ring := x.place.2.1,
           gen := (stall s x.place.1).gen, count := BitVec.ofNat 32 x.place.2.2, vigil := x.vigil, odigest := x.odigest,
           items := if phase = 1 then x.items.map (sealItem s) else [] }

/-- A transaction for an order's change (10 R464). -/
def newTxn (s : State) (o : Order) (r : Result) (phase : Nat) : Txn :=
  { num := s.pair.nextTxn, order := o.id, lead := true, phase := phase, items := wireItems s r o.items, result := r, own := o.items,
    odigest := orderDigest o, vigil := vigilSeconds s, place := (o.stall, o.ring, o.count.toNat) }

/-- PREPARE is sent for a change (10 R467 step 1), or PREPARE with APPLY for one already made (10 R470, R482). -/
def sendPrepare (o : Order) (r : Result) (apply : Bool) (s : State) : State :=
  let x := newTxn s o r (if apply then 4 else 1)
  sendFrame 0 (deltaFrame s x 1 apply) { s with pair := { s.pair with nextTxn := s.pair.nextTxn + 1, txns := s.pair.txns ++ [x] } }

/-- Whether a join runs on this part as the Sole one (10 R482). -/
def joining (s : State) : Bool := s.pair.state == psSole && s.pair.joinOrder.isSome

/-- Whether a sequence at or above that of a change has been committed for its Owner since the Quorum Gate passed it: the
approvals are void (04 R228). -/
def overtaken (s : State) (its : List Item) : Bool :=
  its.any (fun it => match it with | .keep owner seq _ => decide (seq ≤ (lastDone s owner).1) | _ => false)

/-- Owner of the proposal behind a change. -/
def proposer (its : List Item) : Nat := (its.findSome? (fun it => match it with | .keep owner _ _ => some owner | _ => none)).getD 0

/-- An order whose output has crossed the release point goes on to its commit point (09 R431, 10 R467): on a ring that both
parts serve the Lead asks the twin first. Approvals that have become void meanwhile are refused (04 R228). -/
def afterOutput (id : Nat) (s : State) : State :=
  match order? s id with
  | none => s
  | some o =>
    match o.stage, o.commit, o.result with
    | .waitCommit, .none, some r =>
      if o.items.isEmpty || s.egress.any (fun x => x.order == id) then s
      else if overtaken s o.items then
        complete id 0x0702 0 (recordFail (modOrder s id (fun o => { o with items := [] })) o (proposer o.items) 0x0702 0)
      else if mirrored s && (ring s o.stall o.ring).shared then
        sendPrepare o r false (modOrder s id (fun o => { o with stage := .waitTwin }))
      else
        let s1 := if mirrored s || joining s then sendPrepare o r true s else s
        commitOwn id o.items s1
    | _, _, _ => s

-- Cards ----------------------------------------------------------------------------------------------------------------

/-- Port of a question. -/
def wantPort : CardWant → Nat
  | .sign _ p _ _ _ => p
  | .put p _ _ => p
  | .get p _ _ => p

/-- A session begins on a port for an order (15 R650, R651): cold activation, and the answer to reset is awaited. -/
def startSession (p id : Nat) (s : State) : State :=
  emit (.card p .atr []) (modPort p (fun x => { x with powered := true, session := some id, cstep := .atr, msgs := 0,
                                                       sessions := satAdd 16 x.sessions 1 }) s)

/-- An order asks a card: its session begins, or it waits for the session open on the port (15 R651). -/
def askCard (id : Nat) (w : CardWant) (s : State) : State :=
  let p := wantPort w
  let s1 := modOrder s id (fun o => { o with stage := .waitCard, want := some w, cardData := none })
  if (port s1 p).session.isSome then modPort p (fun x => { x with queue := x.queue ++ [id] }) s1 else startSession p id s1

-- Running a handler ----------------------------------------------------------------------------------------------------

/-- Two Clerk decisions differ (04 R229; 11 R499): a part Hold, and the order is decided again; a second difference on the
order ends it with 0x0510, a third within 1 s restarts the Keeper world. -/
def clerksDiffer (id : Nat) (o : Order) (s : State) : State :=
  let ts := within 1000000000 s.keeper.differAt s.clock
  let s1 := holdEnter .quorum false { s with keeper := { s.keeper with differAt := ts } }
  let s2 := modOrder s1 id (fun o => { o with differs := o.differs + 1 })
  let s3 := if 1 ≤ o.differs then holdClear .quorum (end0510 id s2) else s2
  if 3 ≤ ts.length then triggerRestart 4 (holdClear .quorum s3) else s3

/-- The two runs of a signature verification differ (04 R229; 11 R500, R503): recorded and counted like any copy mismatch; the
decision is made again with the verification on other clusters, and a second difference ends the order with 0x0510. The record
names no instance, as the verification is not bound to one in the model (log entry 145). -/
def verifyDiffers (id : Nat) (o : Order) (s : State) : State :=
  let s1 := perfAdd 11 1 (record 0x0603 sevHold (Config.noteParam 18 0) (Config.noteParam 18 1) (o.stall + o.runs * 2 ^ 16) s)
  if o.verifyRuns = 0 then modOrder s1 id (fun o => { o with verifyRuns := 1 }) else end0510 id s1

/-- An order's plan is known (09 R431): an order without a change is settled; one with a change sends its output first. -/
def planned (id : Nat) (o : Order) (r : FwOut × State) : State :=
  match r with
  | (.ask w, s) => askCard id w s
  | (.wait st, s) => modOrder s id (fun o => { o with stage := st })
  | (.differ, s) => clerksDiffer id o s
  | (.verify, s) => verifyDiffers id o s
  | (.settled, s) => s
  | (.done p, s) =>
    let res : Result := { status := p.status, word := p.word, out := p.out, aux := p.aux }
    if p.items.isEmpty then queueOutput id (settle id (withWriteFault o res) s)
    else if withWriteFault o res ≠ res then settle id (withWriteFault o res) s
    else
      afterOutput id (queueOutput id (modOrder s id (fun o =>
        { o with result := some res, items := p.items, stage := .waitCommit, compareAt := s.clock })))

/-- Whether this part leaves an order to its twin: the Follow of a pair, for a stateful order of a shared ring (10 R456,
R467). -/
def followOnly (s : State) (o : Order) : Bool :=
  mirrored s && !isLead s && (ring s o.stall o.ring).shared && isStateful o.opcode

/-- Whether an item applies to this part's state as it stands (10 R468). -/
def itemApplies (s : State) : Item → Bool
  | .key owner slot k =>
    match (keySlot s owner slot).key with
    | none => true
    | some old => old.gen + 1 == k.gen || old.gen == k.gen
  | .keyGone owner slot _ _ => (keySlot s owner slot).key.isSome || (keySlot s owner slot).tomb.isSome
  | .bind b g => (stall s b.stall).state == .free && (stall s b.stall).gen + 1 == g
  | .unbind st g => resetApplies (stall s st) g
  | .stallReset st g _ => resetApplies (stall s st) g
  | .badOp => false
  | _ => true

/-- The items of a plan that a part makes of its own: those the link does not carry. -/
def ownItems (s : State) (its : List Item) : List Item := its.filter (fun it => (wireItem s { status := 0, word := 0, out := [], aux := [] } it).isNone)

/-- The Follow judges a PREPARE against its own copy of the order and its own Keeper world's answer (10 R467 step 2,
R468): VOTE_YES with the items staged, or VOTE_NO, a Note and Silence 0x0010. -/
def followVote (o : Order) (x : Txn) (r : FwOut × State) : State :=
  let s := r.2
  let agrees := match r.1 with
    | .done p => p.status == x.result.status || (p.status / 256 == 0 && x.result.status / 256 == 0)
    | .ask _ => true
    | .wait _ => true
    | .differ => false
    | .verify => false
    | .settled => false
  let own := match r.1 with | .done p => ownItems s p.items | _ => []
  let y : Txn := { x with order := o.id, phase := 2, own := own }
  let put (s : State) : State := { s with pair := { s.pair with txns := s.pair.txns.map (fun z => if z.num = x.num then y else z) } }
  if agrees && x.odigest == orderDigest o && x.items.all (itemApplies s) then
    sendFrame 0 (deltaFrame s y 2 false) (put (modOrder s o.id (fun o => { o with stage := .waitTwin, result := some x.result, outSent := true })))
  else
    silence 0x0010 (note 0x0A 6 (sendFrame 0 (deltaFrame s y 3 false) s))

/-- The PREPARE that waits for an order of this Follow. -/
def prepareFor (s : State) (o : Order) : Option Txn :=
  s.pair.txns.find? (fun x => !x.lead && x.phase == 1 && x.place == (o.stall, o.ring, o.count.toNat))

/-- A handler runs on a Follow as its Keeper world decides, with the Lead's Vigil time as the current time (10 R468). -/
def followRun (f : Handler) (o : Order) (x : Txn) (s : State) : State :=
  let v := s.vigil
  let s1 := { s with vigil := { v with seconds := BitVec.ofNat 32 x.vigil, timeValid := v.timeValid || x.vigil != 0xFFFFFFFF } }
  let r := f { o with charged := true } { t := s.clock, testOk := true, agree := true, copies := true } s1
  followVote o x (r.1, { r.2 with vigil := { r.2.vigil with seconds := v.seconds, timeValid := v.timeValid } })

/-- A row of the firmware orders: it runs the handler of its opcode on an order that has everything it needs. -/
def runFw (op : Nat) (f : Handler) (id : Nat) (e : FwEnv) (s : State) : Res :=
  coreAct (fun s =>
    let s := tick e.t s
    match order? s id with
    | none => s
    | some o =>
      if o.opcode ≠ op || o.stage != .ready || s.keeper.restarting || o.fwLost then s
      else if followOnly s o then
        match prepareFor s o with
        | some x => followRun f o x s
        | none => s
      else planned id o (f o e s)) s

-- The Quorum Gate around a handler --------------------------------------------------------------------------------------

/-- The decision arguments of an order, for its required rosters; a Follow trusts the card entries its Lead asked
(10 R468; log entry 42). The time and the window are tested once, before a card is asked (04 R225). -/
def gateFor (s : State) (o : Order) (owner : Nat) : GateArgs :=
  let g := { gateArgs s owner with trust := followOnly s o }
  match o.quorumAt with
  | some t => { g with now := t, timeOk := true }
  | none => g

/-- The answer to an order that is already applied (04 R226). -/
def alreadyApplied (s : State) (o : Order) (owner : Nat) : FwOut :=
  match appliedWord s o owner with
  | some w => .fail 0x0001 w
  | none => .fail 0x0711 0

/-- The answer before any check of the order's content, when the same proposal has been executed (04 R226). -/
def ifApplied (s : State) (o : Order) (g : GateArgs) : Option FwOut :=
  match decideQuorum s o g with
  | .applied => some (alreadyApplied s o g.owner)
  | _ => none

/-- The proposal of an order as a card receives it. -/
def cardProposal (s : State) (o : Order) (owner : Nat) : Bytes :=
  match approvalsOf o with
  | .good a => proposal s o owner a
  | _ => []

/-- Whether a decision rests on a signature verification (04 R225, R229). -/
def restsOnVerify : Decision → Bool
  | .pass _ => true
  | .fail st _ => st == 0x0705 || st == 0x0708
  | _ => false

/-- A handler behind the Quorum Gate (04 R225 to R230): the two decisions agree or differ, a verification is run again, a card
is asked, the refusal is recorded, or the passed decision is recorded and the rest of the handler runs; the result is kept for a
re-issue. -/
def withQuorum (o : Order) (e : FwEnv) (g : GateArgs) (s : State) (k : Approval → State → FwOut × State) : FwOut × State :=
  if !e.agree then (.differ, s)
  else
    let s := holdClear .quorum s
    if !e.copies && restsOnVerify (decideQuorum s o g) then (.verify, s) else
    match decideQuorum s o g with
    | .applied => (alreadyApplied s o g.owner, s)
    | .fail st w => (.fail st w, recordFail s o g.owner st w)
    | .ask i p own ix =>
      if !bitOf (cardsInUse s) p then (.fail 0x0709 p, recordFail s o g.owner 0x0709 p)
      else (.ask (.sign i p own ix (cardProposal s o g.owner)), modOrder s o.id (fun o => { o with quorumAt := some g.now }))
    | .pass masks =>
      let a := approvalOf s o g.owner
      match k a (recordPass s a masks) with
      | (.done p, s1) =>
        if p.status / 256 = 0 && !p.items.isEmpty then (.done { p with items := p.items ++ [.keep a.owner a.seq p.word] }, s1)
        else (.done p, s1)
      | r => r

/-- An order whose auxiliary data lies behind its approval list needs a list that can be read: without one the Quorum Gate
refuses it before its data is looked at (04 R222, R224, R225). -/
def listFirst (o : Order) (e : FwEnv) (g : GateArgs) (s : State) (k : FwOut × State) : FwOut × State :=
  match approvalsOf o with
  | .good _ => k
  | _ => withQuorum o e g s (fun _ s => (.fail 0x0701 0, s))

/-- The next write of an entry of kinds 2 to 4, with the proposal that approves it (04 R174, R175). -/
def anchorItem (s : State) (entry kind owner epoch : Nat) (a : Option Approval) (payload : Bytes) : Item :=
  .mram entry (nextSlot s entry) (some
    { kind := kind, owner := owner, epoch := epoch, seq := match a with | some x => x.seq | none => 0,
      approver := match a with | some x => x.owner | none => 0xFFFF, wcount := nextWcount s entry,
      pdigest := match a with | some x => x.pdigest | none => zeros 16, payload := fit 56 payload, state := 1, macOk := true })

/-- The sequence anchor written for a proposal (04 R173, R176). -/
def seqItem (s : State) (a : Approval) : Item := anchorItem s (4 * a.owner + 3) 4 a.owner 0 (some a) []

/-- The record anchor of an Owner record (04 R173). -/
def recordItem (s : State) (r : OwnerRec) (a : Option Approval) : Item :=
  anchorItem s (4 * r.owner + 1) 2 r.owner r.version a (sha384 (ownerBody r))

/-- The check of the output cap that precedes a handler (02 R75), for the largest output of the order. -/
def withCap (o : Order) (out aux : Nat) (s : State) (k : FwOut × State) : FwOut × State :=
  match capWord o out aux with
  | some w => (.fail 0x0106 w, s)
  | none => k

end Machine
end Sys2Proof
end

