-- ==== Sys2Proof/Machine/Egress.lean ====
section
/-!
DEFINITION. The release point: the egress checker (01 R45 to R47, R29) and the signal of a commit-point write (09 R431).
-/
namespace Sys2Proof
namespace Machine

/-- COMMIT_WRITE_DONE (09 R431; 11 R499): the commit port signals that the commit-point write is in non-volatile store, so that
no power loss tears it any more (04 R175), and the locks of the order's key slot end (04 R207);
a write that is still wrong after one retry is Silence 0x000A. -/
def execCommitWriteDone (id : Nat) (ok : Bool) (t : Nat) (s : State) : Res :=
  coreAct (fun s =>
    let s := tick t s
    match order? s id with
    | none => s
    | some o =>
      if o.commit != .pending then s
      else if ok then
        unlockKeys id (modOrder { s with mram := { s.mram with writing := s.mram.writing.filter (fun w => w.1 != id) } } id (fun o =>
          { o with commit := .done, stage := if o.stage == .waitCommit then .done else o.stage }))
      else silence 0x000A s) s

/-- A TLP crosses the release point (01 R45); an order whose last output has crossed it goes on to its commit point. -/
def passTlp (x : Tlp) (s : State) : State :=
  let s1 := emit (.memWrite x.stall (pasidOf s x.stall) x.addr x.data x.relaxed x.tbit x.kind) s
  match x.kind with
  | .rcptHead =>
    match order? s1 x.order with
    | some o => match o.result with
      | some r => receiptWritten o r s1
      | none => s1
    | none => s1
  | .rcptCont => s1
  | _ => afterOutput x.order (handOver x.order
      (perfAdd 3 x.data.length (modStall s1 x.stall (fun y => { y with bytesOut := y.bytesOut + x.data.length }))))

/-- The status of a write to a page that the part holds a translation of (02 R680). -/
def writeFault (s : State) (st page : Nat) : Option Nat :=
  match trans? s st page with
  | some x => if !x.valid then some 0x0401 else if !x.wr then some 0x0402 else none
  | none => none

/-- Output TLPs of an order whose page forbids the write are not issued: the order ends with the status, the first byte of its
range in the page as the faulting IOVA, and no output (02 R109, R113, R680). -/
def endWrite (x : Tlp) (status page : Nat) (s : State) : State :=
  let id := x.order
  match order? s id with
  | none => s
  | some o =>
    let s1 := modOrder { s with egress := s.egress.filter (fun x => !(x.order == id && (x.kind == .output || x.kind == .aux))) } id
      (fun o => { o with outWait := [] })
    if o.commit != .none then s1
    else modOrder (complete id status (max (if x.kind == .aux then o.auxIova else o.outIova) (page * 4096)) s1) id
      (fun o => { o with items := [], outSent := true })

/-- The pages of a queued output write for which the part must hold a translation (02 R680). -/
def writePages (s : State) (x : Tlp) : List Nat :=
  if (stall s x.stall).ats && (x.kind == .output || x.kind == .aux) then pagesOf x.addr x.data.length else []

/-- EGRESS_CHECK (01 R45 to R47, R29; 03 R157; 11 R488, R499): the checker takes the head of the egress queue. A TLP of an
old generation is discarded; a release CRC mismatch or a stray address discards it, withholds the order's later TLPs,
raises a Hold and re-executes the order; otherwise it passes. Output under ATS waits for its translation, and a translation
that forbids it ends the order (02 R680). Nothing passes during a part Hold. -/
def execEgressCheck (f : TlpFault) (t : Nat) (s : State) : Res :=
  coreAct (fun s =>
    let s := tick t s
    finishInvs (
    match s.egress with
    | [] => s
    | x :: rest =>
      if inHold s then s
      else
        let s0 := { s with egress := rest }
        if x.gen ≠ (stall s x.stall).gen then s0
        else if (writePages s x).any (fun p => (trans? s x.stall p).isNone) then
          emits ((((writePages s x).filter (fun p => (trans? s x.stall p).isNone))).map (fun p => Out.atsReq x.stall (pasidOf s x.stall) p)) s
        else if (writePages s x).any (fun p => (writeFault s x.stall p).isSome) then
          match (writePages s x).findSome? (fun p => (writeFault s x.stall p).map (fun c => (c, p))) with
          | some f => endWrite x f.1 f.2 s
          | none => s
        else
          let data := match f with | .readBack b => b | _ => x.data
          let addr := match f with | .address a => a | _ => x.addr
          if releaseCrcs data ≠ x.crcs then
            let ts := within 1000000000 s.faults.crcTimes s.clock
            let s1 := record 0x0D02 sevHold 1 x.stall 0 (holdEnter .releaseCrc true
              { s0 with faults := { s0.faults with crcTimes := ts } })
            let s2 := reexec x.order s1
            if 2 ≤ ts.length then silence 0x0002 s2 else s2
          else if !permitted s x addr x.data.length then
            let ts := within 1000000000 s.faults.rangeTimes s.clock
            let s1 := record 0x0D02 sevHold 2 x.stall 0 (holdEnter .outOfRange true
              { s0 with faults := { s0.faults with rangeTimes := ts } })
            let s2 := holdClear .outOfRange (reexec x.order s1)
            if 2 ≤ ts.length then silence 0x0003 s2 else s2
          else passTlp x s0)) s

end Machine
end Sys2Proof
end

