-- ==== Sys2Proof/Machine/Engines.lean ====
section
/-!
DEFINITION. What the engine orders of classes 0x01 to 0x05 share: the run of an order that has everything it needs, its
shared draws, the blob of a derived key (06 R309, R310), and key derivation (06 R309, 07 R356).
-/
namespace Sys2Proof
namespace Machine

/-- A result with a status and a result word and no output. -/
def resFail (status word : Nat) : Result := { status := status, word := word, out := [], aux := [] }

/-- A result of status 0 with its output. -/
def resOk (word : Nat) (out : Bytes) : Result := { status := 0, word := word, out := out, aux := [] }

/-- What an engine computes for an order: from the order, the first byte of its shared draws, and the state. -/
abbrev Engine := Order → Nat → State → Result

/-- Bytes of the shared draws of an order (06 R288, 07 R334). -/
def drawn (d off n : Nat) : Bytes := take n (fun i => Config.drbg (d + off + i))

/-- The result of an order with the output cap checked first (02 R75). -/
def capped (o : Order) (out : Nat) (r : Result) : Result :=
  match capWord o out 0 with
  | some w => resFail 0x0106 w
  | none => r

/-- Both copies of an order's result are computed (01 R51): the copies of a sound part are equal. -/
def computed (id : Nat) (r : Result) (s : State) : State :=
  modOrder s id (fun o => { o with copyA := some r, copyB := some r, stage := .computed })

/-- The shared draws of an order: taken at its first run, and used again by a re-execution (11 R500); an order that draws
nothing asks the DRBG for nothing. -/
def sharedDraws (id n : Nat) (o : Order) (s : State) : Nat × State :=
  match o.draws with
  | some d => (d, s)
  | none => if n = 0 then (s.drbg.next, s) else (s.drbg.next, (draw n (modOrder s id (fun x => { x with draws := some s.drbg.next }))).2)

/-- Whether an order is staged behind an order that its Loom still executes (05 R279). -/
def staged? (s : State) (o : Order) : Bool :=
  o.staged && s.orders.any (fun x => x.id != o.id && !x.staged && x.insts.any (fun p => o.insts.contains p))

/-- Key material of an order's key A and B, as loaded into the working-key registers (04 R191). -/
def matA (o : Order) : Bytes := match o.recA with | some k => k.material | none => []
def matB (o : Order) : Bytes := match o.recB with | some k => k.material | none => []
/-- Type of an order's key A and B, 0 without one. -/
def typeA (o : Order) : Nat := match o.recA with | some k => k.attrs.keyType | none => 0
def typeB (o : Order) : Nat := match o.recB with | some k => k.attrs.keyType | none => 0

-- The start of an operation ------------------------------------------------------------------------------------------------

/-- Whether a working-key register serves an order that its instance still holds. -/
def wregBusy (s : State) (p : EngKind × Nat) (o : Order) (w : WReg) : Bool :=
  s.orders.any (fun x => x.id == w.order && x.id != o.id && x.insts.contains p)

/-- Whether a register keeps what an order's keys need: the same Stall, handles and generations (04 R192, 05 R242). -/
def wregSame (o : Order) (w : WReg) : Bool :=
  w.stall == o.stall && w.keyA == o.keyA && w.keyB == (if o.recB.isSome then o.keyB else 0)

/-- The registers that an order uses on an instance: both lanes of a Loom, the one of a Mill, one slot of a Forge or Kiln (04
R191), an idle one that holds its key, or the first that is free (log entry 147). -/
def wregPlaces (s : State) (p : EngKind × Nat) (o : Order) : List Nat :=
  let ws := (inst s p.1 p.2).wregs
  match p.1 with
  | .loom => [0, 1]
  | .mill => [0]
  | _ => match ws.find? (fun w => wregSame o w && !wregBusy s p o w) with
    | some w => [w.pos]
    | none => ((List.range 8).filter (fun i => !ws.any (fun w => w.pos == i && wregBusy s p o w))).take 1

/-- What a register holds for an order: key A, and key B in bits [511:256] of a Loom's (05 R242). -/
def keyWord (o : Order) (k : EngKind) : Bytes :=
  if o.recB.isSome && k == .loom then fit 32 (matA o) ++ fit 32 (matB o) else matA o ++ matB o

/-- A register takes an order's keys, in shares under the lane's own randomness; it keeps what it holds for the same keys, and
holds nothing for an order without a key (04 R191, R192). -/
def loadReg (o : Order) (p : EngKind × Nat) (s : State) (pos : Nat) : State :=
  let old := (inst s p.1 p.2).wregs.find? (fun w => w.pos == pos && wregSame o w)
  let rest (x : Inst) : List WReg := x.wregs.filter (fun w => w.pos != pos)
  if o.recA.isNone then modInst s p.1 p.2 (fun x => { x with wregs := rest x })
  else
    match old with
    | some w => modInst s p.1 p.2 (fun x => { x with wregs := rest x ++ [{ w with order := o.id }] })
    | none =>
      let m := keyWord o p.1
      let a := (List.range m.length).map (Config.maskByte s.free)
      let w : WReg := { pos := pos, order := o.id, stall := o.stall, keyA := o.keyA, keyB := if o.recB.isSome then o.keyB else 0,
                        share0 := a, share1 := xorBytes m a }
      { modInst s p.1 p.2 (fun x => { x with wregs := rest x ++ [w] }) with free := s.free + 1 }

/-- The working-key registers of an order's instances take its keys (04 R191, R192). -/
def loadWorking (o : Order) (s : State) : State :=
  o.insts.foldl (fun s p => (wregPlaces s p o).foldl (loadReg o p) s) s

/-- DRBG bytes that an order takes for the masks of one instance: 256 bits for the generator of each lane of a Loom, at the start
and after every 4 KiB of data (05 R243); 128 bits for a Forge slot (06 R324); 256 for a Kiln slot (07 R332). -/
def maskBytes (o : Order) : EngKind → Nat
  | .loom => 64 * (1 + o.inLen / 4096)
  | .forge => 16
  | .kiln => 32
  | .mill => 0

/-- Whether an order holds its output until its integrity check passes (05 R263). -/
def holdsOutput (opcode : Nat) : Bool := [0x0142, 0x0171, 0x0161, 0x0163, 0x0201, 0x0202, 0x0203].contains opcode

/-- What an instance does before the first wave of an order: a Loom that last served another Stall clears input buffer, hold
buffer, check table and register (05 R281); a Forge or Kiln slot keeps the place of its mask draw. -/
def prepared (o : Order) (p : EngKind × Nat) (s : State) (x : Inst) : Inst :=
  match p.1 with
  | .loom =>
    let y := if x.lastStall = some o.stall then x
             else { x with wregs := [], loomBufs := x.loomBufs.filter (fun b => b.order == o.id), heldBy := none, checks := [],
                           lastStall := some o.stall }
    if holdsOutput o.opcode then { y with heldBy := some o.id } else y
  | .mill => x
  | _ => { x with masks := x.masks ++ [(o.id, s.drbg.next)] }

/-- An operation starts on one instance: it is prepared, and its masks are drawn, separately for each copy (01 R52). -/
def startOn (o : Order) (s : State) (p : EngKind × Nat) : State :=
  let s1 := modInst s p.1 p.2 (prepared o p s)
  if maskBytes o p.1 = 0 then s1 else (draw (maskBytes o p.1) s1).2

/-- The computation of an order starts: its instances are prepared, its keys enter the working-key registers, and it is no longer
staged (04 R191; 05 R243, R279, R281; 06 R324; 07 R332). -/
def begun (o : Order) (s : State) : State :=
  if o.insts.isEmpty then s
  else loadWorking o (o.insts.foldl (startOn o) (modOrder s o.id (fun x => { x with staged := false })))

/-- Whether an order's instances can start: no Loom waits for a reseed (05 R244), and the masks can be drawn. -/
def canBegin (s : State) (o : Order) : Bool :=
  !o.insts.any (fun p => p.1 == .loom && (inst s .loom p.2).needReseed) && (s.drbg.up || o.insts.all (fun p => p.1 == .mill))

/-- An order of an opcode runs once it has everything it needs; `n` is what it draws, for which it waits while the DRBG is
unavailable (07 R362). -/
def runOrder (op : Nat) (n : Order → Nat) (f : Engine) (id : Nat) (s : State) : State :=
  match order? s id with
  | none => s
  | some o =>
    if o.opcode ≠ op || o.stage != .ready || staged? s o || !canBegin s o || (n o != 0 && !s.drbg.up) then s
    else
      let (d, s1) := sharedDraws id (n o) o s
      computed id (f o d s) (begun o s1)

/-- A row of the engine opcodes. -/
def runEngine (op : Nat) (n : Order → Nat) (f : Engine) (id : Nat) (s : State) : Res := coreAct (runOrder op n f id) s

/-- No shared draws. -/
def noDraw (_ : Order) : Nat := 0

-- Derived keys ---------------------------------------------------------------------------------------------------------

/-- HMAC under a hash of R294, with its digest length. -/
def hashLen : Nat → Nat | 1 => 32 | 2 => 48 | 3 => 64 | 4 => 32 | 5 => 48 | 6 => 64 | 7 => 32 | 8 => 64 | _ => 0
def hmacOf (h : Nat) (k m : Bytes) : Bytes := take (hashLen h) (Config.hmac h k m)
/-- A digest under a hash of R294 and R337, with an output length. -/
def digestLen (h n : Nat) (m : Bytes) : Bytes := take n (Config.hash h m)
def digest (h : Nat) (m : Bytes) : Bytes := digestLen h (hashLen h) m

/-- HKDF-Expand (RFC 5869). -/
def hkdfExpand (h : Nat) (prk info : Bytes) : Nat → Nat → Bytes → Bytes
  | 0, _, _ => []
  | fuel + 1, i, prev => let t := hmacOf h prk (prev ++ info ++ [BitVec.ofNat 8 i]); t ++ hkdfExpand h prk info fuel (i + 1) t

/-- HKDF with salt and info for `n` bytes. -/
def hkdf (h : Nat) (ikm salt info : Bytes) (n : Nat) : Bytes :=
  (hkdfExpand h (hmacOf h salt ikm) info ((n + hashLen h - 1) / hashLen h) 1 []).take n

/-- SP 800-108r1 counter mode over a PRF of `len` bytes (07 R356). -/
def counterKdf (prf : Bytes → Bytes) (len : Nat) (label ctx : Bytes) (n : Nat) : Bytes :=
  (((List.range ((n + len - 1) / len)).map (fun i =>
    prf (beBytes 4 (i + 1) ++ label ++ [0] ++ ctx ++ beBytes 4 (8 * n)))).flatten).take n

/-- Key material from a shared secret by the `kdf` codes 0 to 3 (06 R309), or 1 to 6 of the Mill (07 R355). `p1` is salt or
context, `p2` info or label. -/
def deriveBytes (k : Nat) (z p1 p2 : Bytes) (n : Nat) : Bytes :=
  match k with
  | 0 => fit n z
  | 1 => hkdf 1 z p1 p2 n
  | 2 => hkdf 2 z p1 p2 n
  | 3 => take n (Config.kmac256 z p1 n p2)
  | 4 => counterKdf (hmacOf 1 z) 32 p2 p1 n
  | 5 => counterKdf (hmacOf 2 z) 48 p2 p1 n
  | _ => counterKdf (cmac (aesE z)) 16 p2 p1 n

/-- The attribute block of a derived or recovered key (06 R310): the offset that refuses it. Part-set fields must be 0
(log entry 30). `zeroKdf` gives the further rule of kdf 0. -/
def derivedBad (a : Attrs) (zeroKdf : Option Nat) : Option Nat :=
  match attrBad a with
  | some off => some off
  | none =>
    let fam := keyFam a.keyType
    if fam != some .aes && fam != some .chacha && fam != some .secret then some 0
    else
      match zeroKdf with
      | some off => some off
      | none =>
        if hasUsage a uWrapOut then some 4
        else if a.kflags &&& 7 ≠ 0 then some 6
        else attrPartSet a

/-- Handle B as the target of a derived key (06 R310): steps 1 and 2 of R190 and a non-zero generation. -/
def targetBad (s : State) (o : Order) : Option Nat :=
  if hOwner o.keyB ≠ ownerOf s o then some 0x0203
  else if (ownerRec s (hOwner o.keyB)).isNone then some 0x0215
  else if hGen o.keyB = 0 then some 0x0201
  else none

/-- The blob of a key for a handle, under the Owner's current master epoch (06 R309 step 5), and its key check value as a
result word. An Owner without a usable master key has none: 0x0221 (log entry 48). -/
def derivedBlob (s : State) (o : Order) (a : Attrs) (material nonce : Bytes) (k : Nat → Bytes → Result) : Result :=
  let rec0 : KeyRec := { gen := hGen o.keyB, attrs := a, material := material, kcv := kcvOf material, res := none }
  match keyBlob s o.keyB rec0 nonce with
  | some b => k (ofLe rec0.kcv) b
  | none => resFail 0x0221 0

/-- Length of a key's blob (04 R193). -/
def blobLen (m : Nat) : Nat := 112 + m + 16

end Machine
end Sys2Proof
end

