-- ==== Sys2Proof/Machine/KeyBlocks.lean ====
section
/-!
DEFINITION. ASC X9.143 key blocks of version B (TDEA) and D (AES): form, reading and writing (05 R274 to R277). The
standard's layout is taken as known (log entry 49).
-/
namespace Sys2Proof
namespace Machine

/-- Decimal and hexadecimal digits in ASCII. -/
def decDigit (b : Byte) : Option Nat := if 48 ≤ b.toNat && b.toNat ≤ 57 then some (b.toNat - 48) else none
def hexDigit (b : Byte) : Option Nat :=
  if 48 ≤ b.toNat && b.toNat ≤ 57 then some (b.toNat - 48)
  else if 65 ≤ b.toNat && b.toNat ≤ 70 then some (b.toNat - 55) else none

/-- A number in ASCII digits of a base. -/
def asciiNat (base : Nat) (d : Byte → Option Nat) (b : Bytes) : Option Nat :=
  b.foldl (fun n x => n.bind (fun n => (d x).map (fun v => base * n + v))) (some 0)

/-- Bytes that a string of hexadecimal digits spells. -/
def unhex : Bytes → Option Bytes
  | [] => some []
  | [_] => none
  | a :: b :: r => (hexDigit a).bind (fun x => (hexDigit b).bind (fun y => (unhex r).map (fun t => BitVec.ofNat 8 (16 * x + y) :: t)))

/-- The hexadecimal digits of bytes. -/
def hexOf (b : Bytes) : Bytes :=
  let d (n : Nat) : Byte := BitVec.ofNat 8 (if n < 10 then 48 + n else 55 + n)
  (b.map (fun x => [d (x.toNat / 16), d (x.toNat % 16)])).flatten

/-- A number in `n` decimal ASCII digits. -/
def decOf : Nat → Nat → Bytes
  | 0, _ => []
  | n + 1, v => decOf n (v / 10) ++ [BitVec.ofNat 8 (48 + v % 10)]

/-- End of the optional blocks of a header (X9.143), each an identifier, a length and data. -/
def optEnd (b : Bytes) : Nat → Nat → Option Nat
  | 0, pos => some pos
  | n + 1, pos =>
    match asciiNat 16 hexDigit (slice b (pos + 2) 2) with
    | none => none
    | some 0 =>
      match asciiNat 16 hexDigit (slice b (pos + 4) 2) with
      | none => none
      | some k =>
        match asciiNat 16 hexDigit (slice b (pos + 6) k) with
        | none => none
        | some len => if len < 6 + k || b.length < pos + len then none else optEnd b n (pos + len)
    | some len => if len < 4 || b.length < pos + len then none else optEnd b n (pos + len)

/-- A key block taken apart. -/
structure KeyBlock where
  version : Byte
  usage : Bytes
  algorithm : Byte
  mode : Byte
  exportable : Byte
  header : Bytes
  field : Bytes
  mac : Bytes
deriving DecidableEq, Repr

/-- Block size and MAC length of a KBPK. -/
def kbBlock (aes : Bool) : Nat := if aes then 16 else 8

/-- A key block that is well formed and of the version of the input KBPK (05 R275 step 1). -/
def parseKeyBlock (aes : Bool) (b : Bytes) : Option KeyBlock :=
  let v := b.getD 0 0
  let bs := kbBlock aes
  if v != (if aes then 0x44 else 0x42) || b.any (fun x => decide (x.toNat < 32) || decide (126 < x.toNat)) then none
  else
    match asciiNat 10 decDigit (slice b 1 4), asciiNat 10 decDigit (slice b 12 2) with
    | some len, some opts =>
      match optEnd b opts 16 with
      | none => none
      | some hEnd =>
        if len ≠ b.length || hEnd % bs ≠ 0 || b.length < hEnd + 4 * bs || (b.length - hEnd) % (2 * bs) ≠ 0 then none
        else
          match unhex (slice b hEnd (b.length - hEnd - 2 * bs)), unhex (slice b (b.length - 2 * bs) (2 * bs)) with
          | some f, some m => some { version := v, usage := slice b 5 2, algorithm := b.getD 7 0, mode := b.getD 8 0,
                                     exportable := b.getD 11 0, header := b.take hEnd, field := f, mac := m }
          | _, _ => none
    | _, _ => none

/-- The clear key field of a block and its MAC check (05 R275 step 2). -/
def openKeyBlock (aes : Bool) (kbpk : Bytes) (k : KeyBlock) : Option Bytes :=
  let p := take k.field.length (Config.keyBlockDec aes kbpk k.mac k.field)
  if take (kbBlock aes) (Config.keyBlockMac aes kbpk (k.header ++ p)) = k.mac then
    let n := ofBe (p.take 2) / 8
    if ofBe (p.take 2) % 8 = 0 && n + 2 ≤ p.length then some (slice p 2 n) else none
  else none

/-- Bytes of the clear key field of a key of `n` bytes. -/
def kbField (aes : Bool) (n : Nat) : Nat := roundUp (n + 2) (kbBlock aes)

/-- Length of a key block with a header of `h` bytes for a key of `n` bytes. -/
def kbLen (aes : Bool) (h n : Nat) : Nat := h + 2 * kbField aes n + 2 * kbBlock aes

/-- A key block: the header with version and length set, the key field padded from `pad`, the MAC (05 R276). -/
def sealKeyBlock (aes : Bool) (kbpk header key pad : Bytes) : Bytes :=
  let h := [if aes then 0x44 else 0x42] ++ decOf 4 (kbLen aes header.length key.length) ++ header.drop 5
  let n := kbField aes key.length
  let p := (beBytes 2 (8 * key.length) ++ key ++ pad).take n
  let mac := take (kbBlock aes) (Config.keyBlockMac aes kbpk (h ++ p))
  h ++ hexOf (take n (Config.keyBlockEnc aes kbpk mac p)) ++ hexOf mac

/-- Whether an output KBPK is strong enough for a key of an algorithm and length (05 R275 step 4). -/
def kbStrong (outType : Nat) (algorithm : Byte) (n : Nat) : Bool :=
  match outType with
  | 0x0103 => true
  | 0x0102 => algorithm == 0x54 || (algorithm == 0x41 && decide (n ≤ 24))
  | 0x0101 => algorithm == 0x54 || (algorithm == 0x41 && decide (n ≤ 16))
  | _ => algorithm == 0x54

/-- Key usage, algorithm and mode of use of an attribute block (05 R277); none where no row applies. -/
def kbMapping (a : Attrs) : Option (Bytes × Byte × Byte) :=
  let u := a.usage &&& 0xFF#16
  let fam := keyFam a.keyType
  let alg : Byte := if fam == some .aes then 0x41 else if fam == some .tdea then 0x54 else 0x48
  let cipher := fam == some .aes || fam == some .tdea
  if cipher && u == usages [7] then some (ascii "P0", alg, 0x42)
  else if cipher && u == usages [4, 5] then some (ascii "K0", alg, 0x42)
  else if cipher && u == usages [4] then some (ascii "K0", alg, 0x45)
  else if cipher && u == usages [5] then some (ascii "K0", alg, 0x44)
  else if cipher && u == usages [0, 1] then some (ascii "D0", alg, 0x42)
  else if cipher && u == usages [0] then some (ascii "D0", alg, 0x45)
  else if cipher && u == usages [1] then some (ascii "D0", alg, 0x44)
  else if (fam == some .aes || fam == some .secret) && u == usages [2, 3] then some (ascii (if fam == some .aes then "M6" else "M7"), alg, 0x43)
  else if (fam == some .aes || fam == some .secret) && u == usages [2] then some (ascii (if fam == some .aes then "M6" else "M7"), alg, 0x47)
  else if (fam == some .aes || fam == some .secret) && u == usages [3] then some (ascii (if fam == some .aes then "M6" else "M7"), alg, 0x56)
  else none

/-- The header of an exported key (05 R277); version and length are set by `sealKeyBlock`. -/
def kbHeader (m : Bytes × Byte × Byte) : Bytes := ascii "D0000" ++ m.1 ++ [m.2.1, m.2.2] ++ ascii "00E0000"

end Machine
end Sys2Proof
end

