-- ==== Sys2Proof/Machine/Reads.lean ====
section
/-!
DEFINITION. The reads of an order's input and auxiliary input from host memory (01 R54; 02 R111, R112).
-/
namespace Sys2Proof
namespace Machine

/-- The read requests of a range: at most 256 bytes each, aligned to 256 bytes (01 R54). -/
def readReqs (s : State) (st a n : Nat) : List Out :=
  if n = 0 then []
  else (List.range ((a + n + 255) / 256 - a / 256)).map (fun i =>
    let lo := max a ((a / 256 + i) * 256)
    let hi := min (a + n) ((a / 256 + i + 1) * 256)
    .readReq st (pasidOf s st) lo (hi - lo) (inRun s st))

/-- The first page of a range whose translation is there and forbids a read: its status and the faulting IOVA
(02 R109, R112). -/
def readFault (s : State) (st a n : Nat) : Option (Nat × Nat) :=
  if !(stall s st).ats then none
  else
    (pagesOf a n).findSome? (fun p =>
      match trans? s st p with
      | some x => if !x.valid then some (0x0401, (inPage a n p).1) else if !x.rd then some (0x0402, (inPage a n p).1) else none
      | none => none)

/-- What the part issues for a range: reads, and under ATS translation requests for the pages it holds no translation of
(02 R112). -/
def rangeReqs (s : State) (st a n : Nat) : List Out :=
  if !(stall s st).ats then readReqs s st a n
  else ((pagesOf a n).map (fun p =>
    if (trans? s st p).isSome then readReqs s st (inPage a n p).1 (inPage a n p).2 else [.atsReq st (pasidOf s st) p])).flatten

end Machine
end Sys2Proof
end

