-- ==== Sys2Proof/Machine/Loom.lean ====
section
/-!
DEFINITION. The Loom opcodes, classes 0x01 and 0x02: their checks at classification, their keys, the key policies, and
what each computes (05 R247 to R278, R285).
-/
namespace Sys2Proof
namespace Machine

-- Checks ---------------------------------------------------------------------------------------------------------------

/-- A refusal: status and result word; none when a check passes. -/
abbrev Verdict := Option (Nat × Nat)

/-- A check that refuses. -/
def refuse (c : Bool) (status word : Nat) : Verdict := if c then some (status, word) else none

/-- The first check of a list that refuses. -/
def firstBad (l : List Verdict) : Verdict := l.findSome? id

/-- Whether a range of the parameter block that is Res0 is not zero (00 R24). -/
def resIn (o : Order) (off n : Nat) : Bool := !allZero (slice o.inl off n)

/-- A length against the range of R250: above the largest value 0x0116, otherwise outside 0x0110. -/
def lengthCheck (n lo hi mult : Nat) : Verdict :=
  if hi < n then some (0x0116, hi) else if n < lo || n % mult ≠ 0 then some (0x0110, 0) else none

/-- Auxiliary input given to an opcode, against the largest it takes (05 R250; 0 for one that takes none). -/
def auxCheck (o : Order) (hi : Nat) : Verdict := if hi < o.auxLen then some (0x0116, hi) else none

/-- A tag length against its range. -/
def tagCheck (t lo : Nat) : Verdict := refuse (decide (t < lo) || decide (16 < t)) 0x0111 0

/-- A counter of `w` bytes at the end of a block that would wrap within `n` bytes (05 R250). -/
def ctrWraps (block : Bytes) (w n : Nat) : Bool :=
  decide (2 ^ (8 * w) < ofBe (block.drop (16 - w)) % 2 ^ (8 * w) + (n + 15) / 16)

/-- Whether an ISO 9564-1 format has the given block length, and whether it binds the PAN (05 R250, R270, R271). -/
def pinBlock (fmt : Nat) : Nat := if fmt = 4 then 16 else 8
def pinFormat (fmt : Nat) : Bool := fmt == 0 || fmt == 1 || fmt == 3 || fmt == 4

/-- The PAN of a PIN_TRANSLATE (05 R271): the offset that refuses it. -/
def panBad (o : Order) : Option Nat :=
  let n := par o 2 1
  let none1 := par o 0 1 == 1 && par o 1 1 == 1
  if (if none1 then n != 0 else decide (n < 12) || decide (19 < n)) then some 2
  else if (slice o.inl 8 n).any (fun b => (decDigit b).isNone) then some 8 else none

/-- Plaintext length of a CIPHER_TRANSLATE (05 R250, R278). -/
def ctPlain (o : Order) : Nat := if par o 0 1 = 1 then o.inLen - par o 2 1 else o.inLen

/-- Checks of CIPHER_TRANSLATE at classification (05 R248, R250, R278). -/
def ctClassify (o : Order) : Verdict :=
  let im := par o 0 1
  let om := par o 1 1
  let it := par o 2 1
  let ot := par o 3 1
  let n := ctPlain o
  let most := 65536 + (if im = 1 then it else 0)
  firstBad
    [refuse (resIn o 4 4 || resIn o 40 8 || (im == 1 && resIn o 20 4) || (om == 1 && resIn o 36 4) || (om == 4 && resIn o 24 16)) 0x0103 0,
     refuse (im < 1 || 3 < im) 0x0118 0, refuse (om < 1 || 4 < om) 0x0118 1,
     refuse (if im = 1 then it < 12 || 16 < it else it ≠ 0) 0x0111 0,
     refuse (if om = 1 then ot < 12 || 16 < ot else if om = 4 then ot ≠ 16 else ot ≠ 0) 0x0111 0,
     refuse (most < o.inLen) 0x0116 most,
     refuse ((im == 1 && decide (o.inLen < it)) || (im == 2 && o.inLen % 16 != 0) || (om == 2 && n % 16 != 0)) 0x0110 0,
     auxCheck o (if im = 1 || om = 1 || om = 4 then 65536 else 0),
     refuse ((im == 3 && ctrWraps (slice o.inl 8 16) 4 n) || (om == 3 && ctrWraps (slice o.inl 24 16) 4 n)) 0x0117 0]

/-- The checks of a Loom order that depend on the header and the parameter block alone, at classification (05 R249). The
order of the checks of one opcode is log entry 50. -/
def loomClassify (o : Order) : Verdict :=
  let l := lengthCheck o.inLen
  match o.opcode with
  | 0x0101 => firstBad [l 16 0xFFFFFFF0 16, auxCheck o 0]
  | 0x0102 => firstBad [l 16 0xFFFFFFF0 16, auxCheck o 0]
  | 0x0111 => firstBad [l 16 0xFFFFFFF0 16, auxCheck o 0]
  | 0x0112 => firstBad [l 16 0xFFFFFFF0 16, auxCheck o 0]
  | 0x0121 => ctrCheck o
  | 0x0122 => ctrCheck o
  | 0x0131 => xtsCheck o
  | 0x0132 => xtsCheck o
  | 0x0140 => firstBad [l 0 0xFFFFFFEF 1, auxCheck o 65536]
  | 0x0141 => firstBad [refuse (resIn o 13 3) 0x0103 0, tagCheck (par o 12 1) 12, l 0 0xFFFFFFEF 1, auxCheck o 65536]
  | 0x0142 => firstBad [refuse (resIn o 13 3) 0x0103 0, tagCheck (par o 12 1) 12,
                        l (par o 12 1) (par o 12 1 + 134217728) 1, auxCheck o 65536]
  | 0x0150 => firstBad [refuse (resIn o 1 7) 0x0103 0, tagCheck (par o 0 1) 4, auxCheck o 0]
  | 0x0151 => firstBad [refuse (resIn o 1 7) 0x0103 0, tagCheck (par o 0 1) 4,
                        refuse (resIn o (8 + par o 0 1) (16 - par o 0 1)) 0x0103 0, auxCheck o 0]
  | 0x0160 => firstBad [l 16 65536 8, auxCheck o 0]
  | 0x0161 => firstBad [l 24 65544 8, auxCheck o 0]
  | 0x0162 => firstBad [l 1 65536 1, auxCheck o 0]
  | 0x0163 => firstBad [l 16 65544 8, auxCheck o 0]
  | 0x0170 => firstBad [refuse (resIn o 12 4) 0x0103 0, l 0 0xFFFFFFEF 1, auxCheck o 65536]
  | 0x0171 => firstBad [refuse (resIn o 12 4) 0x0103 0, l 16 134217744 1, auxCheck o 65536]
  | 0x0180 => firstBad [l 8 8388608 1, auxCheck o 0]
  | 0x0181 => firstBad [l 8 8388608 1, auxCheck o 0]
  | 0x0182 => firstBad [l 8 8388608 1, auxCheck o 0]
  | 0x0183 => firstBad [l 8 8388608 1, auxCheck o 0]
  | 0x0201 =>
    firstBad [refuse (resIn o 3 5 || resIn o (8 + min 24 (par o 2 1)) (24 - par o 2 1)) 0x0103 0,
              refuse (!pinFormat (par o 0 1)) 0x0118 0, refuse (!pinFormat (par o 1 1)) 0x0118 1,
              (panBad o).map (fun w => (0x0118, w)),
              refuse (par o 0 1 != 1 && par o 1 1 == 1) 0x0245 0,
              l (pinBlock (par o 0 1)) (pinBlock (par o 0 1)) 1, auxCheck o 0]
  | 0x0202 => firstBad [refuse (resIn o 1 7) 0x0103 0,
                        refuse (par o 0 1 != 0 && par o 0 1 != 0x42 && par o 0 1 != 0x44) 0x0118 0, l 16 4096 1, auxCheck o 0]
  | 0x0203 => ctClassify o
  | _ => none
where
  ctrCheck (o : Order) : Verdict :=
    firstBad [refuse (resIn o 17 7) 0x0103 0,
              refuse (par o 16 1 != 4 && par o 16 1 != 8 && par o 16 1 != 16) 0x0118 16,
              lengthCheck o.inLen 1 0xFFFFFFFF 1, auxCheck o 0,
              refuse (ctrWraps (slice o.inl 0 16) (par o 16 1) o.inLen) 0x0117 0]
  xtsCheck (o : Order) : Verdict :=
    firstBad [refuse (resIn o 12 4) 0x0103 0, refuse (par o 8 4 < 16 || 16777216 < par o 8 4) 0x0115 0,
              lengthCheck o.inLen (par o 8 4) 0xFFFFFFFF (par o 8 4), auxCheck o 0]

-- Keys -----------------------------------------------------------------------------------------------------------------

/-- What an opcode wants of a key: the types that suit and the usage it needs (steps 9 and 10 of 04 R190). -/
structure KeyUse where
  suits : Nat → Bool
  need : List Nat

/-- AES, ChaCha20 and TDEA types (05 R252). -/
def isAes (t : Nat) : Bool := keyFam t == some .aes
def isChacha (t : Nat) : Bool := keyFam t == some .chacha
def isTdea (t : Nat) : Bool := keyFam t == some .tdea

/-- The type a PIN format wants (05 R252). -/
def pinType (fmt t : Nat) : Bool := if fmt = 4 then isAes t else isTdea t

/-- Key A of a Loom opcode (05 R247, R252). -/
def loomKeyA (o : Order) : KeyUse :=
  match o.opcode with
  | 0x0102 => ⟨isAes, [uDecrypt]⟩ | 0x0112 => ⟨isAes, [uDecrypt]⟩ | 0x0122 => ⟨isAes, [uDecrypt]⟩
  | 0x0132 => ⟨isAes, [uDecrypt]⟩ | 0x0142 => ⟨isAes, [uDecrypt]⟩ | 0x0161 => ⟨isAes, [uDecrypt]⟩
  | 0x0163 => ⟨isAes, [uDecrypt]⟩
  | 0x0150 => ⟨isAes, [uSign]⟩ | 0x0151 => ⟨isAes, [uVerify]⟩
  | 0x0170 => ⟨isChacha, [uEncrypt]⟩ | 0x0171 => ⟨isChacha, [uDecrypt]⟩
  | 0x0180 => ⟨isTdea, [uEncrypt]⟩ | 0x0182 => ⟨isTdea, [uEncrypt]⟩
  | 0x0181 => ⟨isTdea, [uDecrypt]⟩ | 0x0183 => ⟨isTdea, [uDecrypt]⟩
  | 0x0201 => ⟨pinType (par o 0 1), [uTranslate]⟩
  | 0x0202 => ⟨fun t => isAes t || isTdea t, [uUnwrap]⟩
  | 0x0203 => ⟨isAes, [uDecrypt, uTranslate]⟩
  | _ => ⟨isAes, [uEncrypt]⟩

/-- Key B of a Loom opcode, for those that use one (05 R247, R252). -/
def loomKeyB (o : Order) : Option KeyUse :=
  match o.opcode with
  | 0x0131 => some ⟨isAes, [uEncrypt]⟩
  | 0x0132 => some ⟨isAes, [uEncrypt]⟩
  | 0x0201 => some ⟨pinType (par o 1 1), [uTranslate]⟩
  | 0x0202 => some ⟨fun t => isAes t || isTdea t, [uWrap]⟩
  | 0x0203 => some ⟨isAes, [uEncrypt, uTranslate]⟩
  | _ => none

/-- Whether an opcode returns plaintext to the host (05 R253). -/
def returnsPlain (op : Nat) : Bool :=
  [0x0102, 0x0112, 0x0122, 0x0132, 0x0142, 0x0161, 0x0163, 0x0171, 0x0181, 0x0183].contains op

/-- Whether in-place operation is permitted (05 R251). -/
def inPlace (op : Nat) : Bool :=
  [0x0101, 0x0102, 0x0111, 0x0112, 0x0121, 0x0122, 0x0131, 0x0132, 0x0180, 0x0181, 0x0182, 0x0183].contains op

/-- Whether the order makes its own nonce: from key A for AES_GCM_SEAL_DN, from key B for CIPHER_TRANSLATE with out_mode 4
(05 R255, R257). -/
def dnOnA (o : Order) : Bool := o.opcode == 0x0140
def dnOnB (o : Order) : Bool := o.opcode == 0x0203 && par o 1 1 == 4

/-- A key's DEVICE_NONCE flag against the use of it (05 R255, R256). -/
def dnCheck (a : Attrs) (makes takes : Bool) : Verdict :=
  if makes then
    if !kDeviceNonce a then some (0x0240, 0) else refuse (!kLedger a || a.invLimit == 0) 0x0241 0
  else refuse (kDeviceNonce a && !takes) 0x0240 0

/-- A three-key TDEA key that may encrypt (05 R269). -/
def tdeaMayEncrypt (a : Attrs) : Bool :=
  a.keyType == 0x0106 && kLedger a && decide (1 ≤ a.byteLimit) && decide (a.byteLimit ≤ 8388608)

/-- The key policies of a Loom order, once its keys are resolved and before the charge (05 R253 to R256, R267 to R270).
Step 5 of R275 stands with the other checks of KEYBLOCK_TRANSLATE. -/
def loomPolicy (s : State) (o : Order) : Verdict :=
  let op := o.opcode
  let a := (o.recA.map (fun k => k.attrs))
  let b := (o.recB.map (fun k => k.attrs))
  let onA (f : Attrs → Verdict) : Verdict := a.bind f
  let onB (f : Attrs → Verdict) : Verdict := b.bind f
  let pinKey (x : Attrs) : Verdict := refuse (op == 0x0201 && (hasUsage x uEncrypt || hasUsage x uDecrypt)) 0x0207 0
  firstBad
    [onA (fun x => onB (fun y => refuse ((op == 0x0131 || op == 0x0132) && x.keyType != y.keyType) 0x020A 0)),
     onA pinKey, onB pinKey,
     refuse (!tdeaPolicy s && (isTdea (typeA o) || isTdea (typeB o))) 0x0242 0,
     onA (fun x => refuse ((op == 0x0180 || op == 0x0182) && !tdeaMayEncrypt x) 0x0242 0),
     onB (fun y => refuse (op == 0x0201 && isTdea y.keyType && !tdeaMayEncrypt y) 0x0242 0),
     onA (fun x => dnCheck x (dnOnA o) (op == 0x0142 || (op == 0x0203 && par o 0 1 == 1))),
     onB (fun y => dnCheck y (dnOnB o) false),
     refuse ((op == 0x0131 || op == 0x0132) && o.recA.map (fun k => k.kcv) == o.recB.map (fun k => k.kcv)) 0x0243 0,
     onA (fun x => refuse (returnsPlain op && (hasUsage x uUnwrap || hasUsage x uTranslate)) 0x0244 0),
     onB (fun y => refuse (returnsPlain op && (hasUsage y uUnwrap || hasUsage y uTranslate)) 0x0244 0)]

-- What the opcodes compute -----------------------------------------------------------------------------------------------

/-- An engine that keeps the length, with its check of the output cap (02 R75). -/
def sameLength (f : Order → Bytes) : Engine := fun o _ _ => capped o o.inLen (resOk 0 (f o))

/-- An engine with an output of `n` bytes. -/
def withLength (n : Order → Nat) (f : Order → Result) : Engine := fun o _ _ => capped o (n o) (f o)

/-- A result that a verification decides: 0x0112 and no output when it fails (05 R263). -/
def verified (out : Option Bytes) : Result := match out with | some b => resOk 0 b | none => resFail 0x0112 0

def aesEcbEnc : Engine := sameLength (fun o => ecb 16 (aesE (matA o)) (inputOf o))
def aesEcbDec : Engine := sameLength (fun o => ecb 16 (aesD (matA o)) (inputOf o))
def aesCbcEnc : Engine := sameLength (fun o => cbcEnc (aesE (matA o)) (slice o.inl 0 16) (chunks 16 (inputOf o)))
def aesCbcDec : Engine := sameLength (fun o => cbcDec (aesD (matA o)) (slice o.inl 0 16) (chunks 16 (inputOf o)))
def aesCtr : Engine := sameLength (fun o => ctr (aesE (matA o)) (ctrBlock (slice o.inl 0 16)) (inputOf o))

/-- XTS over the data units of an order (05 R248). -/
def xts (enc : Bool) (f t : Bytes → Bytes) (unit size : Nat) (b : Bytes) : Bytes :=
  let us := chunks size b
  ((List.range us.length).map (fun j => xtsUnit enc f (t (leBytes 16 (unit + j))) (us.getD j []))).flatten

def aesXtsEnc : Engine :=
  sameLength (fun o => xts true (aesE (matA o)) (aesE (matB o)) (par o 0 8) (par o 8 4) (inputOf o))
def aesXtsDec : Engine :=
  sameLength (fun o => xts false (aesD (matA o)) (aesE (matB o)) (par o 0 8) (par o 8 4) (inputOf o))

/-- The device-made nonce (05 R257). -/
def dnNonce (k : Option KeyRec) (index : Nat) : Bytes :=
  (match k with | some r => fit 4 r.kcv | none => zeros 4) ++ beBytes 8 index

def gcmSealDn : Engine := fun o _ _ =>
  capped o (o.inLen + 16)
    (let r := gcmSeal (matA o) (dnNonce o.recA o.invIndex) (auxOf o) (inputOf o)
     resOk o.invIndex (r.1 ++ r.2))

def aesGcmSeal : Engine := fun o _ _ =>
  capped o (o.inLen + par o 12 1)
    (let r := gcmSeal (matA o) (slice o.inl 0 12) (auxOf o) (inputOf o)
     resOk 0 (r.1 ++ r.2.take (par o 12 1)))

/-- GCM open with a tag of `t` bytes at the end of the text. -/
def gcmOpenT (k nonce aad b : Bytes) (t : Nat) : Option Bytes :=
  let ct := b.take (b.length - t)
  if (gcmTag (aesE k) nonce aad ct).take t = b.drop (b.length - t) then some (gcmCrypt (aesE k) nonce ct) else none

def aesGcmOpen : Engine :=
  withLength (fun o => o.inLen - par o 12 1)
    (fun o => verified (gcmOpenT (matA o) (slice o.inl 0 12) (auxOf o) (inputOf o) (par o 12 1)))

def aesCmac : Engine :=
  withLength (fun o => par o 0 1) (fun o => resOk 0 ((cmac (aesE (matA o)) (inputOf o)).take (par o 0 1)))

def aesCmacVerify : Engine := fun o _ _ =>
  verified (if (cmac (aesE (matA o)) (inputOf o)).take (par o 0 1) = slice o.inl 8 (par o 0 1) then some [] else none)

def aesKwWrap : Engine := withLength (fun o => o.inLen + 8) (fun o => resOk 0 (kwWrap (matA o) (inputOf o)))
def aesKwUnwrap : Engine := withLength (fun o => o.inLen - 8) (fun o => verified (kwUnwrap (matA o) (inputOf o)))
def aesKwpWrap : Engine := withLength (fun o => roundUp o.inLen 8 + 8) (fun o => resOk 0 (kwpWrap (matA o) (inputOf o)))
def aesKwpUnwrap : Engine := withLength (fun o => o.inLen - 8) (fun o => verified (kwpUnwrap (matA o) (inputOf o)))

def chachaSealE : Engine := fun o _ _ =>
  capped o (o.inLen + 16)
    (let r := chachaSeal (matA o) (slice o.inl 0 12) (auxOf o) (inputOf o)
     resOk 0 (r.1 ++ r.2))

def chachaOpenE : Engine :=
  withLength (fun o => o.inLen - 16)
    (fun o => let b := inputOf o
              verified (chachaOpen (matA o) (slice o.inl 0 12) (auxOf o) (b.take (b.length - 16)) (b.drop (b.length - 16))))

/-- The block-multiple rule of TDEA, checked at validation (05 R249, R250). -/
def tdeaText (f : Order → Bytes) : Engine := fun o _ _ =>
  capped o o.inLen (if o.inLen % 8 ≠ 0 then resFail 0x0110 0 else resOk 0 (f o))

def tdeaEcbEnc : Engine := tdeaText (fun o => ecb 8 (tdeaE (matA o)) (inputOf o))
def tdeaEcbDec : Engine := tdeaText (fun o => ecb 8 (tdeaD (matA o)) (inputOf o))
def tdeaCbcEnc : Engine := tdeaText (fun o => cbcEnc (tdeaE (matA o)) (slice o.inl 0 8) (chunks 8 (inputOf o)))
def tdeaCbcDec : Engine := tdeaText (fun o => cbcDec (tdeaD (matA o)) (slice o.inl 0 8) (chunks 8 (inputOf o)))

-- Two-pass opens -----------------------------------------------------------------------------------------------------------

/-- Bytes of the tag of an open. -/
def openTag (o : Order) : Nat := if o.opcode = 0x0142 then par o 12 1 else 16

/-- Whether an open runs in two passes (05 R263, R264). -/
def twoPass (o : Order) : Bool := decide (65536 < o.inLen - openTag o)

/-- The check values of the 32 KiB chunks of a ciphertext, under masking value `m` of the lane's generator as key (05 R264). -/
def chunkChecks (m : Nat) (ct : Bytes) : List Bytes :=
  (chunks 32768 ct).map (fun c => take 16 (Config.polyHash (take 16 (Config.maskByte m)) c))

/-- Index of the first chunk of the second reading whose check value is not the one in the check table (05 R264, R265). -/
def changedChunk (table second : List Bytes) : Option Nat :=
  (List.range second.length).find? (fun k => table.getD k [] != second.getD k [])

/-- The Loom of an order. -/
def loomOf (s : State) (o : Order) : Inst := match o.insts.head? with | some p => inst s p.1 p.2 | none => Inst.reset

/-- The result of the second pass: the chunks before the first changed one stand, and 0x0119 reports it (05 R265). -/
def secondPass (s : State) (o : Order) (r : Result) : Result :=
  let n := o.inLen - openTag o
  match changedChunk (loomOf s o).checks (chunkChecks (loomOf s o).checkKey ((o.pass2.getD []).take n)) with
  | some k => { status := 0x0119, word := k, out := r.out.take (32768 * k), aux := [] }
  | none => r

/-- The first pass of an open fills the check table of its Loom, and the input is read again (05 R264). -/
def firstPass (id : Nat) (o : Order) (s : State) : State :=
  let ct := (inputOf o).take (o.inLen - openTag o)
  let s1 := o.insts.foldl (fun s p => modInst s p.1 p.2 (fun x => { x with checks := chunkChecks s.free ct, checkKey := s.free })) s
  emits (rangeReqs s o.stall o.inIova o.inLen) (modOrder { s1 with free := s.free + 1 } id (fun o => { o with stage := .waitInput }))

/-- A row of an open: one pass, or the first pass, which asks for the second reading, and the second one. -/
def runOpen (op : Nat) (f : Engine) (id : Nat) (s : State) : Res :=
  coreAct (fun s =>
    match order? s id with
    | none => s
    | some o =>
      if o.opcode ≠ op || o.stage != .ready || staged? s o || !canBegin s o then s
      else
        let r := f o 0 s
        if r.status ≠ 0 || !twoPass o then computed id r (begun o s)
        else if o.pass2.isSome then computed id (secondPass s o r) s
        else firstPass id o (begun o s)) s

-- PIN blocks -----------------------------------------------------------------------------------------------------------------

/-- The half-bytes of bytes, high one first, and back. -/
def nibbles (b : Bytes) : List Nat := (b.map (fun x => [x.toNat / 16, x.toNat % 16])).flatten
def ofNibbles : List Nat → Bytes
  | a :: b :: r => BitVec.ofNat 8 (16 * a + b) :: ofNibbles r
  | _ => []

/-- PAN digits of an order. -/
def panDigits (o : Order) : List Nat := (slice o.inl 8 (par o 2 1)).map (fun b => b.toNat - 48)

/-- PAN field of formats 0 and 3: four zeros and the rightmost twelve digits without the check digit. -/
def panField (d : List Nat) : Bytes := ofNibbles ([0, 0, 0, 0] ++ (d.dropLast).drop (d.length - 13))

/-- PAN block of format 4: the length less 12, the digits, zeros. -/
def panBlock4 (d : List Nat) : Bytes := ofNibbles (((d.length - 12) :: d) ++ List.replicate (31 - d.length) 0)

/-- The clear PIN field of an enciphered block (05 R270). -/
def pinField (fmt : Nat) (k : Bytes) (d : List Nat) (c : Bytes) : List Nat :=
  if fmt = 4 then nibbles (aesD k (xorBytes (aesD k c) (panBlock4 d)))
  else if fmt = 1 then nibbles (tdeaD k c) else nibbles (xorBytes (tdeaD k c) (panField d))

/-- The checks of R272 and the PIN digits. -/
def pinOf (fmt : Nat) (f : List Nat) : Option (List Nat) :=
  let n := f.getD 1 0
  let fill := (f.drop (2 + n)).take (14 - n)
  let fillOk := if fmt = 0 then fill.all (· == 15) else if fmt = 3 then fill.all (fun x => decide (10 ≤ x))
                else if fmt = 4 then fill.all (· == 10) else true
  let pin := (f.drop 2).take n
  if f.getD 0 0 == fmt && decide (4 ≤ n) && decide (n ≤ 12) && pin.all (fun x => decide (x ≤ 9)) && fillOk then some pin else none

/-- The PIN rebuilt in a format with fill drawn from the DRBG (05 R273), and enciphered. -/
def pinSeal (fmt : Nat) (k : Bytes) (d pin : List Nat) (fill : Bytes) : Bytes :=
  let head := fmt :: pin.length :: pin
  let rest := 14 - pin.length
  if fmt = 4 then
    let p := ofNibbles (head ++ List.replicate rest 10) ++ fill.take 8
    aesE k (xorBytes (aesE k p) (panBlock4 d))
  else
    let x (i : Nat) : Nat := (fill.getD i 0).toNat
    let f := (List.range rest).map (fun i => if fmt = 0 then 15 else if fmt = 3 then 10 + x i % 6 else x i % 16)
    let p := ofNibbles (head ++ f)
    tdeaE k (if fmt = 1 then p else xorBytes p (panField d))

def pinTranslate : Engine := fun o d _ =>
  let fin := par o 0 1
  let fout := par o 1 1
  capped o (pinBlock fout)
    (match pinOf fin (pinField fin (matA o) (panDigits o) (inputOf o)) with
     | none => resFail 0x0113 0
     | some pin => resOk 0 (pinSeal fout (matB o) (panDigits o) pin (drawn d 0 16)))

-- Key blocks -----------------------------------------------------------------------------------------------------------------

/-- KEYBLOCK_TRANSLATE (05 R274 to R276). Its output cap is checked against the longest key the input can hold (02 R75). -/
def keyblockTranslate : Engine := fun o d _ =>
  let inAes := isAes (typeA o)
  let outAes := isAes (typeB o)
  let v := par o 0 1
  if v != 0 && v != (if outAes then 0x44 else 0x42) then resFail 0x0118 0
  else
    match parseKeyBlock inAes (inputOf o) with
    | none => resFail 0x0114 0
    | some k =>
      capped o (kbLen outAes k.header.length (k.field.length - 2))
        (match openKeyBlock inAes (matA o) k with
         | none => resFail 0x0112 0
         | some key =>
           if k.exportable == 0x4E || !kbStrong (typeB o) k.algorithm key.length then resFail 0x0246 0
           else if !outAes && !(match o.recB with | some r => tdeaMayEncrypt r.attrs | none => false) then resFail 0x0242 0
           else resOk 0 (sealKeyBlock outAes (matB o) k.header key (drawn d 0 16)))

-- Ciphertext translation -----------------------------------------------------------------------------------------------------

/-- The plaintext of CIPHER_TRANSLATE in the hold buffer (05 R278). -/
def ctOpen (o : Order) : Option Bytes :=
  let b := inputOf o
  match par o 0 1 with
  | 1 => gcmOpenT (matA o) (slice o.inl 8 12) (auxOf o) b (par o 2 1)
  | 2 => some (cbcDec (aesD (matA o)) (slice o.inl 8 16) (chunks 16 b))
  | _ => some (ctr (aesE (matA o)) (ctrBlock (slice o.inl 8 16)) b)

/-- Its output. -/
def ctSeal (o : Order) (p : Bytes) : Bytes :=
  match par o 1 1 with
  | 1 => let r := gcmSeal (matB o) (slice o.inl 24 12) (auxOf o) p; r.1 ++ r.2.take (par o 3 1)
  | 2 => cbcEnc (aesE (matB o)) (slice o.inl 24 16) (chunks 16 p)
  | 3 => ctr (aesE (matB o)) (ctrBlock (slice o.inl 24 16)) p
  | _ => let r := gcmSeal (matB o) (dnNonce o.recB o.invIndex) (auxOf o) p; r.1 ++ r.2

def cipherTranslate : Engine := fun o _ _ =>
  capped o (ctPlain o + par o 3 1)
    (match ctOpen o with
     | none => resFail 0x0112 0
     | some p => resOk (if par o 1 1 = 4 then o.invIndex else 0) (ctSeal o p))

-- The rows -------------------------------------------------------------------------------------------------------------------

/-- 0x0101 AES_ECB_ENC (05 R247). -/
def execAesEcbEnc (id : Nat) : State → Res := runEngine 0x0101 noDraw aesEcbEnc id
/-- 0x0102 AES_ECB_DEC (05 R247). -/
def execAesEcbDec (id : Nat) : State → Res := runEngine 0x0102 noDraw aesEcbDec id
/-- 0x0111 AES_CBC_ENC (05 R247). -/
def execAesCbcEnc (id : Nat) : State → Res := runEngine 0x0111 noDraw aesCbcEnc id
/-- 0x0112 AES_CBC_DEC (05 R247). -/
def execAesCbcDec (id : Nat) : State → Res := runEngine 0x0112 noDraw aesCbcDec id
/-- 0x0121 AES_CTR_ENC (05 R247). -/
def execAesCtrEnc (id : Nat) : State → Res := runEngine 0x0121 noDraw aesCtr id
/-- 0x0122 AES_CTR_DEC (05 R247). -/
def execAesCtrDec (id : Nat) : State → Res := runEngine 0x0122 noDraw aesCtr id
/-- 0x0131 AES_XTS_ENC (05 R248). -/
def execAesXtsEnc (id : Nat) : State → Res := runEngine 0x0131 noDraw aesXtsEnc id
/-- 0x0132 AES_XTS_DEC (05 R248). -/
def execAesXtsDec (id : Nat) : State → Res := runEngine 0x0132 noDraw aesXtsDec id
/-- 0x0140 AES_GCM_SEAL_DN (05 R257, R258). -/
def execAesGcmSealDn (id : Nat) : State → Res := runEngine 0x0140 noDraw gcmSealDn id
/-- 0x0141 AES_GCM_SEAL (05 R247). -/
def execAesGcmSeal (id : Nat) : State → Res := runEngine 0x0141 noDraw aesGcmSeal id
/-- 0x0142 AES_GCM_OPEN (05 R263 to R265). -/
def execAesGcmOpen (id : Nat) : State → Res := runOpen 0x0142 aesGcmOpen id
/-- 0x0150 AES_CMAC (05 R247). -/
def execAesCmac (id : Nat) : State → Res := runEngine 0x0150 noDraw aesCmac id
/-- 0x0151 AES_CMAC_VERIFY (05 R247). -/
def execAesCmacVerify (id : Nat) : State → Res := runEngine 0x0151 noDraw aesCmacVerify id
/-- 0x0160 AES_KW_WRAP (05 R247). -/
def execAesKwWrap (id : Nat) : State → Res := runEngine 0x0160 noDraw aesKwWrap id
/-- 0x0161 AES_KW_UNWRAP (05 R263). -/
def execAesKwUnwrap (id : Nat) : State → Res := runEngine 0x0161 noDraw aesKwUnwrap id
/-- 0x0162 AES_KWP_WRAP (05 R247). -/
def execAesKwpWrap (id : Nat) : State → Res := runEngine 0x0162 noDraw aesKwpWrap id
/-- 0x0163 AES_KWP_UNWRAP (05 R263). -/
def execAesKwpUnwrap (id : Nat) : State → Res := runEngine 0x0163 noDraw aesKwpUnwrap id
/-- 0x0170 CHACHA_SEAL (05 R247). -/
def execChachaSeal (id : Nat) : State → Res := runEngine 0x0170 noDraw chachaSealE id
/-- 0x0171 CHACHA_OPEN (05 R263 to R265). -/
def execChachaOpen (id : Nat) : State → Res := runOpen 0x0171 chachaOpenE id
/-- 0x0180 TDEA_ECB_ENC (05 R268, R269). -/
def execTdeaEcbEnc (id : Nat) : State → Res := runEngine 0x0180 noDraw tdeaEcbEnc id
/-- 0x0181 TDEA_ECB_DEC (05 R268). -/
def execTdeaEcbDec (id : Nat) : State → Res := runEngine 0x0181 noDraw tdeaEcbDec id
/-- 0x0182 TDEA_CBC_ENC (05 R268, R269). -/
def execTdeaCbcEnc (id : Nat) : State → Res := runEngine 0x0182 noDraw tdeaCbcEnc id
/-- 0x0183 TDEA_CBC_DEC (05 R268). -/
def execTdeaCbcDec (id : Nat) : State → Res := runEngine 0x0183 noDraw tdeaCbcDec id
/-- 0x0201 PIN_TRANSLATE (05 R270 to R273). -/
def execPinTranslate (id : Nat) : State → Res := runEngine 0x0201 (fun _ => 16) pinTranslate id
/-- 0x0202 KEYBLOCK_TRANSLATE (05 R274 to R276). -/
def execKeyblockTranslate (id : Nat) : State → Res := runEngine 0x0202 (fun _ => 16) keyblockTranslate id
/-- 0x0203 CIPHER_TRANSLATE (05 R278). -/
def execCipherTranslate (id : Nat) : State → Res := runEngine 0x0203 noDraw cipherTranslate id

end Machine
end Sys2Proof
end

