-- ==== Sys2Proof/Machine/Forge.lean ====
section
/-!
DEFINITION. The Forge opcodes, class 0x03: their checks at classification, keys and policies, input validation, and what
each computes (06 R292 to R318).
-/
namespace Sys2Proof
namespace Machine

-- Arithmetic -------------------------------------------------------------------------------------------------------------

/-- Square and multiply. -/
def powModAux : Nat → Nat → Nat → Nat → Nat → Nat
  | 0, _, _, _, acc => acc
  | f + 1, b, e, m, acc => if e = 0 then acc else powModAux f (b * b % m) (e / 2) m (if e % 2 = 1 then acc * b % m else acc)

/-- `b` to the power `e` modulo `m`. -/
def powMod (b e m : Nat) : Nat := powModAux (Nat.log2 e + 1) (b % m) e m (1 % m)

/-- The RSA private operation with the CRT parts of a private key of `k` bytes (06 R292, R320). -/
def rsaPrivate (k : Nat) (m : Bytes) (c : Nat) : Nat :=
  let h := k / 2
  let part (i : Nat) : Nat := ofBe (slice m (k + 8 + i * h) h)
  let p := part 0
  let q := part 1
  let m1 := powMod c (part 2) p
  let m2 := powMod c (part 3) q
  m2 + (part 4 * (m1 + p - m2 % p)) % p * q

/-- Modulus and exponent of a public or private key of `k` bytes (06 R292). -/
def rsaN (k : Nat) (m : Bytes) : Nat := ofBe (m.take k)
def rsaE (k : Nat) (m : Bytes) : Nat := ofBe (slice m k 8)

-- Input validation ---------------------------------------------------------------------------------------------------------

/-- A failed check: status and field of R318. -/
abbrev Finding := Nat × Nat

/-- The order in which R318 selects among failed checks. -/
def priorities : List Nat := [0x0123, 0x0125, 0x0126, 0x0121, 0x0120, 0x0122, 0x0124, 0x0127]

/-- The check that R318 selects. -/
def selectFinding (l : List Finding) : Verdict := priorities.findSome? (fun p => l.find? (fun f => f.1 == p))

/-- A finding when a condition holds. -/
def finding (c : Bool) (status fld : Nat) : List Finding := if c then [(status, fld)] else []

/-- Whether a value is a square modulo an odd prime. -/
def isSquare (v p : Nat) : Bool := decide (powMod v ((p - 1) / 2) p ≤ 1)

/-- Checks of a Weierstrass point (06 R293, R317). -/
def weierFindings (c : Nat) (b : Bytes) (fld : Nat) : List Finding :=
  let n := ecBytes c
  let p := Config.curveP c
  let full := b.length == 2 * n + 1 && b.getD 0 0 == 4
  let short := b.length == n + 1 && (b.getD 0 0 == 2 || b.getD 0 0 == 3)
  if b = [0] then [(0x0123, fld)]
  else if !full && !short then [(0x0125, fld)]
  else
    let x := ofBe (slice b 1 n)
    let y := ofBe (slice b (1 + n) n)
    let rhs := (x * x * x + Config.curveA c * x + Config.curveB c) % p
    finding (decide (p ≤ x) || (full && decide (p ≤ y))) 0x0121 fld ++
      finding (if full then y * y % p != rhs else !isSquare rhs p) 0x0122 fld

/-- y-coordinate of an Edwards encoding (RFC 8032). -/
def edwardsY (c : Nat) (b : Bytes) : Nat := ofLe b % 2 ^ (8 * ecBytes c - 1)

/-- Checks of an Edwards point; `key` adds those of a public key (06 R317). -/
def edwardsFindings (c : Nat) (b : Bytes) (key : Bool) (fld : Nat) : List Finding :=
  if b.length ≠ ecBytes c then [(0x0125, fld)]
  else
    finding (key && ofLe b == 1) 0x0123 fld ++ finding (decide (Config.curveP c ≤ edwardsY c b)) 0x0121 fld ++
      finding (!Config.edwardsOn c b) 0x0122 fld ++ finding (key && Config.edwardsSmall c b) 0x0124 fld

/-- The u-coordinate of a Montgomery encoding (06 R293). -/
def montU (c : Nat) (b : Bytes) : Nat := if c = 9 then ofLe b % 2 ^ 255 else ofLe b

/-- The small-order list (06 R319). -/
def smallOrder (c : Nat) : List Nat :=
  [0, 1, Config.curveP c - 1] ++ (if c = 9 then [Config.order8 0, Config.order8 1] else [])

/-- Checks of an X25519 or X448 u-coordinate (06 R317, R319). -/
def montFindings (c : Nat) (b : Bytes) (fld : Nat) : List Finding :=
  if b.length ≠ ecBytes c then [(0x0125, fld)]
  else finding (decide (Config.curveP c ≤ montU c b)) 0x0121 fld ++ finding ((smallOrder c).contains (montU c b)) 0x0124 fld

/-- Checks of a public key on a curve. -/
def publicFindings (c : Nat) (b : Bytes) (fld : Nat) : List Finding :=
  if c ≤ 6 then weierFindings c b fld else if c ≤ 8 then edwardsFindings c b true fld else montFindings c b fld

/-- Checks of an integer below a bound. -/
def integerFindings (v bound fld : Nat) : List Finding := finding (v == 0) 0x0120 fld ++ finding (decide (bound ≤ v)) 0x0121 fld

/-- Checks of an RSA public key supplied inline (06 R317). -/
def rsaKeyFindings (k bits : Nat) (b : Bytes) : List Finding :=
  let n := rsaN k b
  let e := rsaE k b
  finding (n % 2 == 0 || Nat.log2 n + 1 != bits || e % 2 == 0 || decide (e < 65537)) 0x0125 2

-- Parameters -----------------------------------------------------------------------------------------------------------------

/-- Whether bit 0 of the flag byte at an offset, PREHASHED, is set. -/
def prehashed (o : Order) (off : Nat) : Bool := bitOf (par o off 1) 0

/-- A hash code of R294. -/
def hashBad (h : Nat) : Bool := decide (h < 1) || decide (6 < h)

/-- Whether a public key is supplied inline (06 R295). -/
def inlineKey (o : Order) : Bool := o.keyA == 0

/-- A field that is given when key A is 0 and zero otherwise (06 R296). -/
def whenInline (o : Order) (v : Nat) (ok : Bool) : Bool := if inlineKey o then !ok else v != 0

/-- A modulus of a public key (06 R292). -/
def modBitsOk (b : Nat) : Bool := decide (1024 ≤ b) && decide (b ≤ 8192) && b % 8 == 0

/-- An attribute block in the parameter block with a Res0 field that is not zero. -/
def attrParRes0 (o : Order) : Bool := attrRes0 (slice o.inl 0 64)

/-- The checks of a Forge order that depend on the header and the parameter block alone (06 R296, R298; log entry 50). -/
def forgeClassify (o : Order) : Verdict :=
  let b (i : Nat) : Nat := par o i 1
  match o.opcode with
  | 0x0301 => firstBad [refuse (2 ≤ b 1 || resIn o 2 6) 0x0103 0, refuse (hashBad (b 0)) 0x0118 0]
  | 0x0302 => firstBad [refuse (2 ≤ b 1 || resIn o 3 5) 0x0103 0, refuse (hashBad (b 0)) 0x0118 0,
                        refuse (whenInline o (b 2) (1 ≤ b 2 && b 2 ≤ 6)) 0x0118 2]
  | 0x0311 => firstBad [refuse (2 ≤ b 1 || resIn o 3 5) 0x0103 0, eddsa o]
  | 0x0312 => firstBad [refuse (2 ≤ b 1 || resIn o 4 4) 0x0103 0, eddsa o,
                        refuse (whenInline o (b 3) (b 3 == 7 || b 3 == 8)) 0x0118 3]
  | 0x0321 => firstBad [refuse (attrParRes0 o || resIn o 70 2) 0x0103 0, refuse (3 < b 64) 0x0118 64,
                        refuse (whenInline o (b 65) (1 ≤ b 65 && b 65 ≤ 10 && b 65 != 7 && b 65 != 8)) 0x0118 65,
                        refuse (256 < par o 66 2) 0x0118 66, refuse (1024 < par o 68 2) 0x0118 68]
  | 0x0331 => firstBad [refuse (2 ≤ b 3 || resIn o 4 4) 0x0103 0, rsaPad o]
  | 0x0332 => firstBad [refuse (2 ≤ b 3 || resIn o 6 2) 0x0103 0, rsaPad o,
                        refuse (whenInline o (par o 4 2) (modBitsOk (par o 4 2))) 0x0118 4]
  | 0x0341 => firstBad [refuse (resIn o 6 2) 0x0103 0, refuse (b 0 != 1 && b 0 != 3) 0x0118 0,
                        refuse (if b 0 = 3 then b 1 != 0 else hashBad (b 1)) 0x0118 1,
                        refuse (if b 0 = 3 then par o 2 2 != 0 else decide (1024 < par o 2 2)) 0x0118 2,
                        refuse (whenInline o (par o 4 2) (modBitsOk (par o 4 2))) 0x0118 4]
  | 0x0342 => firstBad [refuse (resIn o 2 6) 0x0103 0, refuse (b 0 != 1 && b 0 != 3) 0x0118 0,
                        refuse (if b 0 = 3 then b 1 != 0 else hashBad (b 1)) 0x0118 1, auxCheck o 1024]
  | 0x0343 => firstBad [refuse (attrParRes0 o || resIn o 65 7) 0x0103 0, refuse (hashBad (b 64)) 0x0118 64, auxCheck o 1024]
  | _ => none
where
  eddsa (o : Order) : Verdict :=
    firstBad [refuse (2 < par o 0 1) 0x0118 0, refuse (par o 1 1 == 1 && par o 0 1 != 1) 0x0118 1,
              refuse (par o 0 1 != 1 && decide (65536 < o.inLen)) 0x0116 65536]
  rsaPad (o : Order) : Verdict :=
    let pad := par o 0 1
    let h := par o 1 1
    firstBad [refuse (pad < 1 || 3 < pad) 0x0118 0, refuse (if pad = 3 then h != 0 else hashBad h) 0x0118 1,
              refuse (if pad = 1 then hashLen h < par o 2 1 else par o 2 1 ≠ 0) 0x0118 2]

-- Keys -----------------------------------------------------------------------------------------------------------------------

/-- A type of a family whose curve code satisfies a test. -/
def onCurve (f : KeyFam) (ok : Nat → Bool) (t : Nat) : Bool := keyFam t == some f && ok (t % 16)

/-- Key A of a Forge opcode; none when the order supplies its public key, or asks for an ephemeral one (06 R295, R299). -/
def forgeKeyA (o : Order) : Option KeyUse :=
  let opt (u : KeyUse) : Option KeyUse := if inlineKey o then none else some u
  match o.opcode with
  | 0x0301 => some ⟨onCurve .ecPriv (· ≤ 6), [uSign]⟩
  | 0x0302 => opt ⟨onCurve .ecPub (· ≤ 6), [uVerify]⟩
  | 0x0311 => some ⟨onCurve .ecPriv (fun c => c == 7 || c == 8), [uSign]⟩
  | 0x0312 => opt ⟨onCurve .ecPub (fun c => c == 7 || c == 8), [uVerify]⟩
  | 0x0321 => opt ⟨onCurve .ecPriv (fun c => c ≤ 6 || 9 ≤ c), [uDerive]⟩
  | 0x0331 => some ⟨fun t => keyFam t == some .rsaPriv, [uSign]⟩
  | 0x0332 => opt ⟨fun t => keyFam t == some .rsaPub, [uVerify]⟩
  | 0x0341 => opt ⟨fun t => keyFam t == some .rsaPub, [uEncrypt]⟩
  | 0x0342 => some ⟨fun t => keyFam t == some .rsaPriv, [uDecrypt]⟩
  | 0x0343 => some ⟨fun t => keyFam t == some .rsaPriv, [uUnwrap]⟩
  | _ => none

/-- Curve of an order: that of key A, or the one its parameter block names. -/
def curveOf (o : Order) : Nat :=
  match o.recA with
  | some k => k.attrs.keyType % 16
  | none => match o.opcode with | 0x0302 => par o 2 1 | 0x0312 => par o 3 1 | 0x0321 => par o 65 1 | _ => 0

/-- Modulus bits of an order. -/
def modBits (o : Order) : Nat := match o.recA with | some k => k.attrs.keyBits | none => par o 4 2

/-- Modulus bytes of an order. -/
def modBytes (o : Order) : Nat := (modBits o + 7) / 8

/-- Bytes of a shared secret (06 R309). -/
def secretLen (c : Nat) : Nat := ecBytes c

/-- The rules of kdf 0 on the attribute block (06 R310). -/
def rawSecret (o : Order) (k zLen : Nat) : Option Nat :=
  let a := parseAttrs (slice o.inl 0 64)
  if k ≠ 0 then none else if a.keyType ≠ 0x0107 then some 0 else if a.keyBits ≠ 8 * zLen then some 2 else none

/-- The checks of a derived or recovered key and its target handle (06 R310). -/
def derivedCheck (s : State) (o : Order) (zero : Option Nat) : Verdict :=
  match targetBad s o with
  | some st => some (st, 0)
  | none => (derivedBad (parseAttrs (slice o.inl 0 64)) zero).map (fun off => (0x0219, off))

/-- The context rules of EdDSA, which depend on the curve (06 R302). -/
def eddsaContext (o : Order) : Verdict :=
  let c := curveOf o
  let v := par o 0 1
  let n := par o 2 1
  firstBad [refuse (v == 2 && c != 7) 0x0118 0, refuse (c == 7 && ((v == 0 && n != 0) || (v == 2 && n == 0))) 0x0118 2]

/-- The policies of a Forge order, once its keys are resolved and before the charge (06 R305, R308, R310). -/
def forgePolicy (s : State) (o : Order) : Verdict :=
  let has (u : Nat) : Bool := match o.recA with | some k => hasUsage k.attrs u | none => false
  match o.opcode with
  | 0x0321 => derivedCheck s o (rawSecret o (par o 64 1) (secretLen (curveOf o)))
  | 0x0331 => refuse (par o 0 1 == 3 && has uSign && has uDecrypt) 0x0250 0
  | 0x0342 => firstBad [refuse (has uUnwrap || has uTranslate) 0x0244 0,
                        refuse (par o 0 1 == 3 && has uSign && has uDecrypt) 0x0250 0]
  | 0x0343 => derivedCheck s o none
  | _ => none

-- What the opcodes compute -----------------------------------------------------------------------------------------------------

/-- A check that needs a key's type, made at validation (05 R249). -/
def unlessBad (v : Verdict) (r : Result) : Result := match v with | some f => resFail f.1 f.2 | none => r

/-- Auxiliary input given to an opcode that has no part for it (06 R297). -/
def noAux (o : Order) : List Finding := finding (o.auxLen != 0) 0x0125 1

/-- Findings end an order with the status that R318 selects. -/
def validated (l : List Finding) (r : Result) : Result :=
  match selectFinding l with
  | some f => resFail f.1 f.2
  | none => r

/-- Verdict of a verify order (06 R306). -/
def verdict (ok : Bool) : Result := if ok then resOk 0 [] else resFail 0x0129 0

/-- The digest that an order signs or verifies, and the check of a supplied one (06 R298). -/
def digestOf (o : Order) (h : Nat) (pre : Bool) : Bytes := if pre then inputOf o else digest h (inputOf o)
def digestFindings (o : Order) (n : Nat) (pre : Bool) : List Finding := finding (pre && o.inLen != n) 0x0126 1

def ecdsaSignE : Engine := fun o d _ =>
  let c := curveOf o
  let h := par o 0 1
  capped o (2 * ecBytes c)
    (validated (noAux o ++ digestFindings o (hashLen h) (prehashed o 1))
      (resOk 0 (take (2 * ecBytes c) (Config.ecdsaSign c (matA o) (digestOf o h (prehashed o 1)) (drawn d 0 32)))))

/-- Signature and public key of a verify order, with the findings on the layout (06 R297). A Weierstrass point may have
either length of R293. -/
def ecdsaLayout (o : Order) (c : Nat) : Bytes × Bytes × List Finding :=
  let n := ecBytes c
  let x := auxOf o
  let pk := if inlineKey o then x.drop (2 * n) else matA o
  (x.take (2 * n), pk, if inlineKey o then finding (x.length < 2 * n) 0x0125 3 else finding (x.length != 2 * n) 0x0125 3)

def ecdsaVerifyE : Engine := fun o _ _ =>
  let c := curveOf o
  let n := ecBytes c
  let h := par o 0 1
  let (sig, pk, lay) := ecdsaLayout o c
  validated (lay ++ publicFindings c pk 2 ++ digestFindings o (hashLen h) (prehashed o 1) ++
      integerFindings (ofBe (sig.take n)) (Config.curveN c) 3 ++ integerFindings (ofBe (slice sig n n)) (Config.curveN c) 4)
    (verdict (Config.ecdsaVerify c pk (digestOf o h (prehashed o 1)) sig))

/-- Signature length of an Edwards curve. -/
def eddsaLen (c : Nat) : Nat := if c = 7 then 64 else 114

/-- What EdDSA signs: the message, or for variant 1 its 64-byte digest (06 R302). -/
def eddsaText (o : Order) (c : Nat) : Bytes :=
  if par o 0 1 ≠ 1 || prehashed o 1 then inputOf o else digestLen (if c = 7 then 3 else 8) 64 (inputOf o)

def eddsaSignE : Engine := fun o _ _ =>
  let c := curveOf o
  capped o (eddsaLen c) (unlessBad (eddsaContext o)
    (validated (digestFindings o 64 (prehashed o 1) ++ finding (o.auxLen != par o 2 1) 0x0125 1)
      (resOk 0 (take (eddsaLen c) (Config.eddsaSign c (par o 0 1) (matA o) (eddsaText o c) (auxOf o))))))

def eddsaVerifyE : Engine := fun o _ _ =>
  let c := curveOf o
  let n := eddsaLen c
  let x := auxOf o
  let pk := if inlineKey o then slice x n (ecBytes c) else matA o
  let at' := n + (if inlineKey o then ecBytes c else 0)
  let sig := x.take n
  unlessBad (eddsaContext o) <| validated
    (finding (x.length != at' + par o 2 1) 0x0125 (if inlineKey o then 2 else 3) ++ publicFindings c pk 2 ++
      digestFindings o 64 (prehashed o 1) ++ edwardsFindings c (sig.take (ecBytes c)) false 3 ++
      finding (decide (Config.curveN c ≤ ofLe (slice sig (ecBytes c) (ecBytes c)))) 0x0121 4)
    (verdict (Config.eddsaVerify c (par o 0 1) pk (eddsaText o c) (x.drop at') sig))

/-- DRBG bytes of a key pair on a curve: extra bits for a Weierstrass scalar (06 R312). -/
def ephemeralLen (c : Nat) : Nat := if c ≤ 6 then ecBytes c + 8 else ecBytes c

/-- Draws of ECDH_DERIVE: the ephemeral key, then the nonce of the blob. -/
def ecdhDraws (o : Order) : Nat := (if inlineKey o then ephemeralLen (par o 65 1) else 0) + 12

def ecdhDeriveE : Engine := fun o d s =>
  let c := curveOf o
  let a := parseAttrs (slice o.inl 0 64)
  let m := materialLen a.keyType a.keyBits
  let priv := if inlineKey o then take (ecBytes c) (Config.genKey (0x0200 + c) (ecBits c) d) else matA o
  let head := if inlineKey o then fit (roundUp (ecPoint c) 8) (take (ecPoint c) (Config.publicKey (0x0200 + c) priv)) else []
  let salt := (auxOf o).take (par o 66 2)
  let info := (auxOf o).drop (par o 66 2)
  let z := take (secretLen c) (Config.ecdh c priv (inputOf o))
  capped o (head.length + blobLen m)
    (validated (finding (o.auxLen != par o 66 2 + par o 68 2) 0x0125 1 ++ publicFindings c (inputOf o) 2)
      (derivedBlob s o a (deriveBytes (par o 64 1) z salt info m) (drawn d (ecdhDraws o - 12) 12)
        (fun w b => resOk w (head ++ b))))

/-- The integer findings of RSA on a value of `k` bytes. -/
def rsaFindings (b : Bytes) (k n fld : Nat) : List Finding :=
  if b.length ≠ k then [(0x0125, fld)] else integerFindings (ofBe b) n fld

def rsaSignE : Engine := fun o d _ =>
  let k := modBytes o
  let pad := par o 0 1
  let h := par o 1 1
  let pre := prehashed o 3
  let em := if pad = 3 then inputOf o
            else take k (Config.rsaEncode pad h (modBits o) (digestOf o h pre) (drawn d 0 (par o 2 1)))
  capped o k
    (validated (noAux o ++ if pad = 3 then rsaFindings (inputOf o) k (rsaN k (matA o)) 1 else digestFindings o (hashLen h) pre)
      (resOk 0 (beBytes k (rsaPrivate k (matA o) (ofBe em)))))

def rsaVerifyE : Engine := fun o _ _ =>
  let k := modBytes o
  let pad := par o 0 1
  let h := par o 1 1
  let pre := prehashed o 3
  let x := auxOf o
  let pk := if inlineKey o then x.drop k else matA o
  let n := rsaN k pk
  let v := powMod (ofBe (x.take k)) (rsaE k pk) n
  let dg := digestOf o h pre
  validated
    ((if inlineKey o then finding (x.length != 2 * k + 8) 0x0125 2 ++ rsaKeyFindings k (modBits o) pk
      else finding (x.length != k) 0x0125 3) ++ rsaFindings (x.take k) k n 3 ++
      (if pad = 3 then rsaFindings (inputOf o) k n 1 else digestFindings o (hashLen h) pre))
    (verdict (if pad = 3 then v == ofBe (inputOf o)
              else if pad = 2 then beBytes k v == take k (Config.rsaEncode 2 h (modBits o) dg [])
              else Config.rsaEncodingOk 1 h (modBits o) (par o 2 1) dg (beBytes k v)))

def rsaEncryptE : Engine := fun o d _ =>
  let k := modBytes o
  let raw := par o 0 1 == 3
  let h := par o 1 1
  let x := auxOf o
  let at' := if inlineKey o then k + 8 else 0
  let pk := if inlineKey o then x.take (k + 8) else matA o
  let n := rsaN k pk
  let em := if raw then inputOf o else take k (Config.oaepEncode h k (x.drop at') (inputOf o) (drawn d 0 (hashLen h)))
  capped o k
    (validated
      (finding (x.length != at' + par o 2 2) 0x0125 (if inlineKey o then 2 else 1) ++
        (if inlineKey o then rsaKeyFindings k (modBits o) pk else []) ++
        (if raw then rsaFindings (inputOf o) k n 1 else finding (k < o.inLen + 2 * hashLen h + 2) 0x0127 1))
      (resOk 0 (beBytes k (powMod (ofBe em) (rsaE k pk) n))))

/-- The message of an OAEP ciphertext (06 R308). -/
def oaepOpen (h k : Nat) (label em : Bytes) : Option Bytes :=
  if Config.oaepOk h k label em then
    some (take (min (Config.oaepLen h k label em) (k - 2 * hashLen h - 2)) (Config.oaepByte h k label em))
  else none

def rsaDecryptE : Engine := fun o _ _ =>
  let k := modBytes o
  let raw := par o 0 1 == 3
  let h := par o 1 1
  let m := beBytes k (rsaPrivate k (matA o) (ofBe (inputOf o)))
  capped o (if raw then k else k - 2 * hashLen h - 2)
    (validated (rsaFindings (inputOf o) k (rsaN k (matA o)) 1)
      (if raw then resOk 0 m
       else match oaepOpen h k (auxOf o) m with
         | some b => resOk 0 b
         | none => resFail 0x0128 0))

def rsaUnwrapE : Engine := fun o d s =>
  let k := modBytes o
  let h := par o 64 1
  let a := parseAttrs (slice o.inl 0 64)
  let n := materialLen a.keyType a.keyBits
  let m := beBytes k (rsaPrivate k (matA o) (ofBe (inputOf o)))
  capped o (blobLen n)
    (validated (rsaFindings (inputOf o) k (rsaN k (matA o)) 1)
      (match oaepOpen h k (auxOf o) m with
       | some b => if b.length = n then derivedBlob s o a b (drawn d 0 12) (fun w x => resOk w x) else resFail 0x0128 0
       | none => resFail 0x0128 0))

-- The rows -------------------------------------------------------------------------------------------------------------------

/-- 0x0301 ECDSA_SIGN (06 R300): 32 bytes of hedging input for both copies. -/
def execEcdsaSign (id : Nat) : State → Res := runEngine 0x0301 (fun _ => 32) ecdsaSignE id
/-- 0x0302 ECDSA_VERIFY (06 R301). -/
def execEcdsaVerify (id : Nat) : State → Res := runEngine 0x0302 noDraw ecdsaVerifyE id
/-- 0x0311 EDDSA_SIGN (06 R302). -/
def execEddsaSign (id : Nat) : State → Res := runEngine 0x0311 noDraw eddsaSignE id
/-- 0x0312 EDDSA_VERIFY (06 R302). -/
def execEddsaVerify (id : Nat) : State → Res := runEngine 0x0312 noDraw eddsaVerifyE id
/-- 0x0321 ECDH_DERIVE (06 R309). -/
def execEcdhDerive (id : Nat) : State → Res := runEngine 0x0321 ecdhDraws ecdhDeriveE id
/-- 0x0331 RSA_SIGN (06 R303): a PSS salt for both copies. -/
def execRsaSign (id : Nat) : State → Res := runEngine 0x0331 (fun o => par o 2 1) rsaSignE id
/-- 0x0332 RSA_VERIFY (06 R304). -/
def execRsaVerify (id : Nat) : State → Res := runEngine 0x0332 noDraw rsaVerifyE id
/-- 0x0341 RSA_ENCRYPT (06 R307): an OAEP seed for both copies. -/
def execRsaEncrypt (id : Nat) : State → Res := runEngine 0x0341 (fun o => hashLen (par o 1 1)) rsaEncryptE id
/-- 0x0342 RSA_DECRYPT (06 R308). -/
def execRsaDecrypt (id : Nat) : State → Res := runEngine 0x0342 noDraw rsaDecryptE id
/-- 0x0343 RSA_UNWRAP (06 R311). -/
def execRsaUnwrap (id : Nat) : State → Res := runEngine 0x0343 (fun _ => 12) rsaUnwrapE id

end Machine
end Sys2Proof
end

