-- ==== Sys2Proof/Machine/Kiln.lean ====
section
/-!
DEFINITION. The Kiln opcodes, class 0x04: their checks, keys and policies, and what each computes (07 R334 to R346).
-/
namespace Sys2Proof
namespace Machine

-- Checks ---------------------------------------------------------------------------------------------------------------

/-- The checks of a derivation's parameter block: attributes, kdf in a range, a byte at 65, two lengths (07 R339, R355). -/
def deriveFields (o : Order) (kdfLo kdfHi : Nat) (at65 : Bool) : Verdict :=
  firstBad [refuse (attrParRes0 o || resIn o 70 2) 0x0103 0, refuse (par o 64 1 < kdfLo || kdfHi < par o 64 1) 0x0118 64,
            refuse at65 0x0118 65, refuse (256 < par o 66 2) 0x0118 66, refuse (1024 < par o 68 2) 0x0118 68]

/-- The fields of a signing or verifying order (07 R339). -/
def pqFields (o : Order) (verify : Bool) (codes : Nat) : Verdict :=
  let v := par o 0 1
  let f := par o 2 1
  firstBad [refuse (4 ≤ f || resIn o 5 3) 0x0103 0, refuse (1 < v) 0x0118 0,
            refuse (if v = 1 then par o 1 1 < 1 || 8 < par o 1 1 else par o 1 1 ≠ 0) 0x0118 1,
            refuse ((bitOf f 0 && v == 0) || (bitOf f 1 && verify)) 0x0118 2,
            refuse (if verify then whenInline o (par o 4 1) (1 ≤ par o 4 1 && par o 4 1 ≤ codes) else par o 4 1 ≠ 0) 0x0118 4]

/-- The checks of a Kiln order that depend on the header and the parameter block alone (07 R339, R340). -/
def kilnClassify (o : Order) : Verdict :=
  let slhText : Verdict := refuse (par o 0 1 == 0 && decide (65536 < o.inLen)) 0x0116 65536
  match o.opcode with
  | 0x0401 => deriveFields o 0 3 (whenInline o (par o 65 1) (1 ≤ par o 65 1 && par o 65 1 ≤ 3))
  | 0x0402 => deriveFields o 0 3 (par o 65 1 != 0)
  | 0x0411 => pqFields o false 3
  | 0x0412 => pqFields o true 3
  | 0x0421 => firstBad [pqFields o false 12, slhText]
  | 0x0422 => firstBad [pqFields o true 12, slhText]
  | _ => none

/-- Key A of a Kiln opcode (07 R338, R345). -/
def kilnKeyA (o : Order) : Option KeyUse :=
  let opt (u : KeyUse) : Option KeyUse := if inlineKey o then none else some u
  match o.opcode with
  | 0x0401 => opt ⟨fun t => keyFam t == some .kemPub, [uDerive]⟩
  | 0x0402 => some ⟨fun t => keyFam t == some .kemPriv, [uDerive]⟩
  | 0x0411 => some ⟨fun t => keyFam t == some .dsaPriv, [uSign]⟩
  | 0x0412 => opt ⟨fun t => keyFam t == some .dsaPub, [uVerify]⟩
  | 0x0421 => some ⟨fun t => keyFam t == some .slhPriv, [uSign]⟩
  | 0x0422 => opt ⟨fun t => keyFam t == some .slhPub, [uVerify]⟩
  | _ => none

/-- The rule of kdf 0 on the attribute block of a key derived by ML-KEM (07 R341). -/
def rawKem (o : Order) : Option Nat :=
  let a := parseAttrs (slice o.inl 0 64)
  if par o 64 1 ≠ 0 then none
  else if a.keyType ≠ 0x0103 && a.keyType ≠ 0x0104 && a.keyType ≠ 0x0107 then some 0
  else if a.keyBits ≠ 256 then some 2 else none

/-- The policies of a Kiln order before the charge (07 R341). -/
def kilnPolicy (s : State) (o : Order) : Verdict :=
  if o.opcode = 0x0401 || o.opcode = 0x0402 then derivedCheck s o (rawKem o) else none

-- Encodings ------------------------------------------------------------------------------------------------------------

/-- Parameter set of an order: that of key A, or the one its parameter block names. -/
def psetOf (o : Order) : Nat :=
  match o.recA with
  | some k => k.attrs.keyType % 16
  | none => if o.opcode = 0x0401 then par o 65 1 else par o 4 1

/-- Ciphertext and signature lengths (07 R336). -/
def kemCt : Nat → Nat | 1 => 768 | 2 => 1088 | _ => 1568
def mldsaSig : Nat → Nat | 1 => 2420 | 2 => 3309 | _ => 4627
def slhSig (c : Nat) : Nat :=
  if c ≤ 2 then 7856 else if c ≤ 4 then 17088 else if c ≤ 6 then 16224 else if c ≤ 8 then 35664 else if c ≤ 10 then 29792 else 49856

/-- Shortest pre-hash digest (07 R336). -/
def minDigest (ml : Bool) (c : Nat) : Nat := if ml then 16 * (c + 1) else 2 * slhN c

/-- The modulus check of an encapsulation key: every 12-bit coefficient is below q (07 R346). -/
def kemCoefficients (c : Nat) (ek : Bytes) : Bool :=
  (chunks 3 (ek.take (384 * (c + 1)))).all (fun b =>
    decide (ofLe b % 4096 < 3329) && decide (ofLe b / 4096 < 3329))

/-- Checks of an encapsulation key (07 R346). -/
def kemKeyFindings (c : Nat) (ek : Bytes) (fld : Nat) : List Finding :=
  if ek.length ≠ mlkemPk c then [(0x0131, fld)] else finding (!kemCoefficients c ek) 0x0130 fld

/-- The order in which R346 selects among failed checks. -/
def kilnPriorities : List Nat := [0x0125, 0x0131, 0x0126, 0x0130]

/-- Findings end a Kiln order with the status that R346 selects. -/
def kilnValidated (l : List Finding) (r : Result) : Result :=
  match kilnPriorities.findSome? (fun p => l.find? (fun f => f.1 == p)) with
  | some f => resFail f.1 f.2
  | none => r

-- What the opcodes compute ---------------------------------------------------------------------------------------------

/-- The blob of a key derived from the shared key K (07 R341, 06 R309). -/
def kemBlob (s : State) (o : Order) (k nonce : Bytes) (f : Nat → Bytes → Result) : Result :=
  let a := parseAttrs (slice o.inl 0 64)
  let salt := (auxOf o).take (par o 66 2)
  let info := (auxOf o).drop (par o 66 2)
  derivedBlob s o a (deriveBytes (par o 64 1) k salt info (materialLen a.keyType a.keyBits)) nonce f

/-- Length of the blob an order makes. -/
def targetBlobLen (o : Order) : Nat :=
  let a := parseAttrs (slice o.inl 0 64)
  blobLen (materialLen a.keyType a.keyBits)

def mlkemEncapsE : Engine := fun o d s =>
  let c := psetOf o
  let ek := if inlineKey o then inputOf o else matA o
  let m := drawn d 0 32
  let ct := take (kemCt c) (Config.kemCipher c ek m)
  capped o (ct.length + targetBlobLen o)
    (kilnValidated (finding (o.auxLen != par o 66 2 + par o 68 2) 0x0125 1 ++ kemKeyFindings c ek 2 ++
        finding (!inlineKey o && o.inLen != 0) 0x0131 1)
      (kemBlob s o (take 32 (Config.kemShared c ek m)) (drawn d 32 12) (fun w b => resOk w (ct ++ b))))

def mlkemDecapsE : Engine := fun o d s =>
  let c := psetOf o
  capped o (targetBlobLen o)
    (kilnValidated (finding (o.auxLen != par o 66 2 + par o 68 2) 0x0125 1 ++ finding (o.inLen != kemCt c) 0x0131 1)
      (kemBlob s o (take 32 (Config.kemDecaps c (matA o) (inputOf o))) (drawn d 0 12) (fun w b => resOk w b)))

/-- What is signed: the message, or for variant 1 its digest (07 R340). -/
def pqText (o : Order) : Bytes :=
  if par o 0 1 = 0 || bitOf (par o 2 1) 0 then inputOf o else digest (par o 1 1) (inputOf o)

/-- The rule on the shortest digest, which needs the parameter set (07 R336, R340). -/
def pqDigestCheck (o : Order) (ml : Bool) : Verdict :=
  refuse (par o 0 1 == 1 && decide (hashLen (par o 1 1) < minDigest ml (psetOf o))) 0x0133 0

/-- The check of a supplied digest (07 R340, R346). -/
def pqDigestFindings (o : Order) : List Finding :=
  finding (bitOf (par o 2 1) 0 && o.inLen != hashLen (par o 1 1)) 0x0126 1

/-- Signature, public key and context of a verify order, with the findings on lengths and layout (07 R338, R346). -/
def pqLayout (o : Order) (sigLen pkLen : Nat) : Bytes × Bytes × Bytes × List Finding :=
  let x := auxOf o
  let at' := sigLen + (if inlineKey o then pkLen else 0)
  (x.take sigLen, (if inlineKey o then slice x sigLen pkLen else matA o), x.drop at',
    finding (x.length != at' + par o 3 1) 0x0125 (if inlineKey o then 2 else 3))

def mldsaSignE : Engine := fun o d _ =>
  let c := psetOf o
  let rnd := if bitOf (par o 2 1) 1 then zeros 32 else drawn d 0 32
  let v := par o 0 1
  let h := par o 1 1
  capped o (mldsaSig c) (unlessBad (pqDigestCheck o true)
    (kilnValidated (finding (o.auxLen != par o 3 1) 0x0125 1 ++ pqDigestFindings o)
      (if Config.mldsaStuck c v h (matA o) (pqText o) (auxOf o) rnd then resFail 0x0132 0
       else resOk 0 (take (mldsaSig c) (Config.mldsaSign c v h (matA o) (pqText o) (auxOf o) rnd)))))

def mldsaVerifyE : Engine := fun o _ _ =>
  let c := psetOf o
  let (sig, pk, ctx, lay) := pqLayout o (mldsaSig c) (mldsaPk c)
  unlessBad (pqDigestCheck o true)
    (kilnValidated (lay ++ pqDigestFindings o) (verdict (Config.mldsaVerify c (par o 0 1) (par o 1 1) pk (pqText o) ctx sig)))

def slhdsaSignE : Engine := fun o d _ =>
  let c := psetOf o
  let n := slhN c
  let rnd := if bitOf (par o 2 1) 1 then slice (matA o) (2 * n) n else drawn d 0 n
  capped o (slhSig c) (unlessBad (pqDigestCheck o false)
    (kilnValidated (finding (o.auxLen != par o 3 1) 0x0125 1 ++ pqDigestFindings o)
      (resOk 0 (take (slhSig c) (Config.slhSign c (par o 0 1) (par o 1 1) (matA o) (pqText o) (auxOf o) rnd)))))

def slhdsaVerifyE : Engine := fun o _ _ =>
  let c := psetOf o
  let (sig, pk, ctx, lay) := pqLayout o (slhSig c) (2 * slhN c)
  unlessBad (pqDigestCheck o false)
    (kilnValidated (lay ++ pqDigestFindings o) (verdict (Config.slhVerify c (par o 0 1) (par o 1 1) pk (pqText o) ctx sig)))

-- The rows -------------------------------------------------------------------------------------------------------------------

/-- 0x0401 MLKEM_ENCAPS (07 R342): m and the nonce of the blob are drawn for both copies. -/
def execMlkemEncaps (id : Nat) : State → Res := runEngine 0x0401 (fun _ => 44) mlkemEncapsE id
/-- 0x0402 MLKEM_DECAPS (07 R342). -/
def execMlkemDecaps (id : Nat) : State → Res := runEngine 0x0402 (fun _ => 12) mlkemDecapsE id
/-- 0x0411 MLDSA_SIGN (07 R343). -/
def execMldsaSign (id : Nat) : State → Res := runEngine 0x0411 (fun o => if bitOf (par o 2 1) 1 then 0 else 32) mldsaSignE id
/-- 0x0412 MLDSA_VERIFY (07 R343). -/
def execMldsaVerify (id : Nat) : State → Res := runEngine 0x0412 noDraw mldsaVerifyE id
/-- 0x0421 SLHDSA_SIGN (07 R344). -/
def execSlhdsaSign (id : Nat) : State → Res :=
  runEngine 0x0421 (fun o => if bitOf (par o 2 1) 1 then 0 else slhN (psetOf o)) slhdsaSignE id
/-- 0x0422 SLHDSA_VERIFY (07 R344). -/
def execSlhdsaVerify (id : Nat) : State → Res := runEngine 0x0422 noDraw slhdsaVerifyE id

end Machine
end Sys2Proof
end

