-- ==== Sys2Proof/Machine/Mill.lean ====
section
/-!
DEFINITION. The Mill opcodes, class 0x05: their checks, keys and policies, and what each computes (07 R354 to R362).
-/
namespace Sys2Proof
namespace Machine

/-- A tag field of 64 bytes whose rest after the tag is not zero. -/
def tagRes0 (o : Order) : Bool := resIn o (8 + par o 1 1) (64 - par o 1 1)

/-- The checks of a Mill order that depend on the header and the parameter block alone (07 R355). -/
def millClassify (o : Order) : Verdict :=
  let b (i : Nat) : Nat := par o i 1
  let hmacTag : Verdict := firstBad [refuse (hashBad (b 0)) 0x0118 0, refuse (b 1 < 16 || hashLen (b 0) < b 1) 0x0111 0]
  let kmacTag : Verdict := firstBad [refuse (b 0 != 1 && b 0 != 2) 0x0118 0, refuse (b 1 < 16 || 64 < b 1) 0x0111 0]
  match o.opcode with
  | 0x0501 => firstBad [refuse (resIn o 1 3) 0x0103 0, refuse (b 0 < 1 || 8 < b 0) 0x0118 0,
                        refuse ((if b 0 ≤ 6 then 0 else 65536) < par o 4 4) 0x0118 4, auxCheck o 0]
  | 0x0511 => firstBad [refuse (resIn o 2 6) 0x0103 0, hmacTag, auxCheck o 0]
  | 0x0512 => firstBad [refuse (resIn o 2 6 || tagRes0 o) 0x0103 0, hmacTag, auxCheck o 0]
  | 0x0521 => firstBad [refuse (resIn o 2 6) 0x0103 0, kmacTag, auxCheck o 256]
  | 0x0522 => firstBad [refuse (resIn o 2 6 || tagRes0 o) 0x0103 0, kmacTag, auxCheck o 256]
  | 0x0531 => firstBad [refuse (resIn o 65 1) 0x0103 0, deriveFields o 1 6 false, lengthCheck o.inLen 0 0 1]
  | 0x0541 => firstBad [refuse (resIn o 1 7) 0x0103 0, refuse (b 0 != 1 && b 0 != 2) 0x0118 0]
  | 0x0551 => firstBad [refuse (2 ≤ b 4 || resIn o 5 3) 0x0103 0, refuse (par o 0 4 < 1 || 65536 < par o 0 4) 0x0118 0,
                        lengthCheck o.inLen 0 0 1, auxCheck o 0]
  | _ => none

/-- Key A of a Mill opcode (07 R354). -/
def millKeyA (o : Order) : Option KeyUse :=
  let secret (t : Nat) : Bool := t == 0x0107
  match o.opcode with
  | 0x0511 => some ⟨secret, [uSign]⟩
  | 0x0512 => some ⟨secret, [uVerify]⟩
  | 0x0521 => some ⟨secret, [uSign]⟩
  | 0x0522 => some ⟨secret, [uVerify]⟩
  | 0x0531 => some ⟨if par o 64 1 = 6 then isAes else secret, [uDerive]⟩
  | _ => none

/-- The policies of a Mill order before the charge (07 R356). -/
def millPolicy (s : State) (o : Order) : Verdict :=
  if o.opcode = 0x0531 then firstBad [o.recA.bind (fun k => dnCheck k.attrs false false), derivedCheck s o none] else none

/-- Output length of a HASH order (07 R355). -/
def hashOut (o : Order) : Nat := if par o 4 4 = 0 then hashLen (par o 0 1) else par o 4 4

def hashE : Engine := withLength hashOut (fun o => resOk 0 (digestLen (par o 0 1) (hashOut o) (inputOf o)))

/-- The tags of HMAC and KMAC, at the tag length (07 R355). -/
def hmacTag (o : Order) : Bytes := (hmacOf (par o 0 1) (matA o) (inputOf o)).take (par o 1 1)
def kmacTag (o : Order) : Bytes :=
  take (par o 1 1) (if par o 0 1 = 1 then Config.kmac128 (matA o) (inputOf o) (par o 1 1) (auxOf o)
                    else Config.kmac256 (matA o) (inputOf o) (par o 1 1) (auxOf o))

def hmacE : Engine := withLength (fun o => par o 1 1) (fun o => resOk 0 (hmacTag o))
def kmacE : Engine := withLength (fun o => par o 1 1) (fun o => resOk 0 (kmacTag o))
def hmacVerifyE : Engine := fun o _ _ => verified (if hmacTag o = slice o.inl 8 (par o 1 1) then some [] else none)
def kmacVerifyE : Engine := fun o _ _ => verified (if kmacTag o = slice o.inl 8 (par o 1 1) then some [] else none)

def kdfE : Engine := fun o d s =>
  capped o (targetBlobLen o)
    (kilnValidated (finding (o.auxLen != par o 66 2 + par o 68 2) 0x0125 1)
      (kemBlob s o (matA o) (drawn d 0 12) (fun w b => resOk w b)))

-- LMS and HSS ------------------------------------------------------------------------------------------------------------

/-- An LMS type: m, height and hash family (SP 800-208; log entry 52). -/
def lmsType (t : Nat) : Option (Nat × Nat × Nat) :=
  if t < 5 || 24 < t then none
  else some (if (t - 5) / 5 % 2 = 0 then 32 else 24, 5 * ((t - 5) % 5 + 1), (t - 5) / 5)

/-- An LM-OTS type: n, p and hash family. -/
def lmotsType (t : Nat) : Option (Nat × Nat × Nat) :=
  if t < 1 || 16 < t then none
  else
    let g := (t - 1) / 4
    some (if g % 2 = 0 then 32 else 24, (if g % 2 = 0 then [265, 133, 67, 34] else [200, 101, 51, 26]).getD ((t - 1) % 4) 0, g)

/-- The types of an LMS public key at the front of bytes, and its length (07 R357). -/
def lmsKeyLen (b : Bytes) : Except (Nat × Nat) Nat :=
  let t := ofBe (slice b 0 4)
  let u := ofBe (slice b 4 4)
  match lmsType t, lmotsType u with
  | none, _ => .error (0x0134, t)
  | _, none => .error (0x0134, u)
  | some (m, _, g), some (_, _, g') => if g ≠ g' then .error (0x0134, u) else if b.length < 24 + m then .error (0x0125, 2) else .ok (24 + m)

/-- The length of an LMS signature at the front of bytes, from the types it carries. -/
def lmsSigLen (b : Bytes) : Except (Nat × Nat) Nat :=
  let u := ofBe (slice b 4 4)
  match lmotsType u with
  | none => .error (0x0134, u)
  | some (n, p, g) =>
    let at' := 8 + n + p * n
    let t := ofBe (slice b at' 4)
    if b.length < at' + 4 then .error (0x0125, 3)
    else
      match lmsType t with
      | none => .error (0x0134, t)
      | some (m, h, g') =>
        if g ≠ g' then .error (0x0134, u) else if b.length < at' + 4 + h * m then .error (0x0125, 3) else .ok (at' + 4 + h * m)

/-- The rest of an HSS signature after `n` signed public keys; its last part is one signature. -/
def hssRest : Nat → Bytes → Except (Nat × Nat) Unit
  | 0, b =>
    match lmsSigLen b with
    | .error e => .error e
    | .ok k => if b.length = k then .ok () else .error (0x0125, 3)
  | n + 1, b =>
    match lmsSigLen b with
    | .error e => .error e
    | .ok k =>
      match lmsKeyLen (b.drop k) with
      | .error e => .error e
      | .ok j => hssRest n (b.drop (k + j))

/-- The form of public key and signature of an LMS_VERIFY, and where the signature begins (07 R357). -/
def lmsForm (hss : Bool) (x : Bytes) : Except (Nat × Nat) Nat :=
  let head := if hss then 4 else 0
  let levels := ofBe (slice x 0 4)
  if x.length < head + 8 || (hss && (levels < 1 || 8 < levels)) then .error (0x0125, 2)
  else
    match lmsKeyLen (x.drop head) with
    | .error e => .error e
    | .ok k =>
      let sig := x.drop (head + k)
      let n := ofBe (slice sig 0 4)
      match (if hss then (if 8 ≤ n then .error (0x0125, 3) else hssRest n (sig.drop 4)) else hssRest 0 sig) with
      | .error e => .error e
      | .ok _ => .ok (head + k)

def lmsVerifyE : Engine := fun o _ _ =>
  let hss := par o 0 1 == 2
  let x := auxOf o
  match lmsForm hss x with
  | .error e => resFail e.1 e.2
  | .ok k => verdict (Config.lmsVerify hss (x.take k) (inputOf o) (x.drop k))

-- Random numbers -----------------------------------------------------------------------------------------------------------

def randomE : Engine := fun o d _ => capped o (par o 0 4) (resOk 0 (drawn d 0 (par o 0 4)))

/-- A reseed of the DRBG (07 R360). -/
def reseed (s : State) : State := { s with drbg := { s.drbg with requests := 0, reseedAt := s.clock } }

/-- A RANDOM order that has everything it needs waits while the DRBG is unavailable, and reseeds it first with PRED_RES
(07 R361, R362). -/
def randomStep (id : Nat) (s : State) : State :=
  match order? s id with
  | none => s
  | some o =>
    if o.opcode ≠ 0x0551 || o.stage != .ready then s
    else if !s.drbg.up then
      modOrder { s with drbg := { s.drbg with waiting := s.drbg.waiting ++ [id] } } id (fun o => { o with stage := .waitDrbg })
    else runOrder 0x0551 (fun o => par o 0 4) randomE id (if bitOf (par o 4 1) 0 then reseed s else s)

/-- 0x0551 RANDOM (07 R361). -/
def execRandom (id : Nat) (s : State) : Res := coreAct (randomStep id) s

-- The rows -------------------------------------------------------------------------------------------------------------------

/-- 0x0501 HASH (07 R358). -/
def execHash (id : Nat) : State → Res := runEngine 0x0501 noDraw hashE id
/-- 0x0511 HMAC (07 R354). -/
def execHmac (id : Nat) : State → Res := runEngine 0x0511 noDraw hmacE id
/-- 0x0512 HMAC_VERIFY (07 R355). -/
def execHmacVerify (id : Nat) : State → Res := runEngine 0x0512 noDraw hmacVerifyE id
/-- 0x0521 KMAC (07 R354). -/
def execKmac (id : Nat) : State → Res := runEngine 0x0521 noDraw kmacE id
/-- 0x0522 KMAC_VERIFY (07 R355). -/
def execKmacVerify (id : Nat) : State → Res := runEngine 0x0522 noDraw kmacVerifyE id
/-- 0x0531 KDF (07 R356). -/
def execKdf (id : Nat) : State → Res := runEngine 0x0531 (fun _ => 12) kdfE id
/-- 0x0541 LMS_VERIFY (07 R357). -/
def execLmsVerify (id : Nat) : State → Res := runEngine 0x0541 noDraw lmsVerifyE id

end Machine
end Sys2Proof
end

