-- ==== Sys2Proof/Machine/Charge.lean ====
section
/-!
DEFINITION. The charge of an order's keys against their usage ledgers, alone or with the twin, and what the order does next
(05 R257 to R262; 10 R471 to R473).
-/
namespace Sys2Proof
namespace Machine

/-- A dispatched order of the engine classes reads its inputs once its keys are charged; without any it is ready
(01 R45 stages 7 and 8). -/
def startInput (id : Nat) (s : State) : State :=
  match order? s id with
  | none => s
  | some o =>
    if o.input.isSome && o.aux.isSome then modOrder s id (fun o => { o with stage := .ready })
    else
      let s1 := modOrder s id (fun o => { o with stage := .waitInput })
      match (if o.input.isNone then readFault s o.stall o.inIova o.inLen else none),
            (if o.aux.isNone then readFault s o.stall o.auxIova o.auxLen else none) with
      | some f, _ => complete id f.1 f.2 s
      | none, some f => complete id f.1 f.2 s
      | none, none =>
        emits ((if o.input.isNone then rangeReqs s o.stall o.inIova o.inLen else []) ++
               (if o.aux.isNone then rangeReqs s o.stall o.auxIova o.auxLen else [])) s1

/-- The charge of an order is made. -/
def afterCharge (id : Nat) (s : State) : State :=
  match order? s id with
  | none => s
  | some o =>
    let s1 := modOrder s id (fun o => { o with charged := true })
    if isFirmware o.opcode then modOrder s1 id (fun o => { o with stage := .ready }) else startInput id s1

/-- Bytes that an order charges; a re-executed device-made seal, charged before, takes one more invocation and no byte
(05 R258, R260). -/
def chargeSize (o : Order) : Nat := if o.charged then 0 else chargeBytes o

/-- The invocation index of the nonce comes from key A for AES_GCM_SEAL_DN and from key B for CIPHER_TRANSLATE. -/
def noteIndex (id h idx : Nat) (s : State) : State :=
  modOrder s id (fun o =>
    let dn := if dnOnA o then o.keyA else if dnOnB o then o.keyB else 0
    { o with toCharge := o.toCharge.drop 1, invIndex := if h = dn then idx else o.invIndex })

/-- A charge that no reservation covers (05 R261): 0x0208. -/
def refuseCharge (id : Nat) (s : State) : State := complete id 0x0208 0 (modOrder s id (fun o => { o with toCharge := [] }))

/-- Whether a charge fits the current reservation of a key. -/
def fitsNow (k : KeyRec) (n : Nat) : Bool := k.res.isSome && (chargeOf k.attrs k.res 0 n).taken == 0 && (chargeOf k.attrs k.res 0 n).ok

/-- The RESERVE frames of several reservations: the Lead notes its increments, the Follow requests (10 R471, R472). -/
def reserveFrames (kind tallyNo first h id : Nat) : Nat → State → State
  | 0, s => s
  | n + 1, s =>
    let r := s.pair.reserveNext
    let s1 := { s with pair := { s.pair with reserveNext := (r + 1) % 2 ^ 32, reserveWait := s.pair.reserveWait ++ [(r, h, id)] } }
    reserveFrames kind tallyNo (first + 1) h id n
      (sendFrame 0 (.reserve kind tallyNo r (if kind = 1 then 0 else first) h) s1)

/-- A charge that needs new reservations in Mirror mode: the Lead increments and waits for NOTED, or refuses for both parts;
the Follow requests; without a session it waits (10 R471). -/
def startReserve (id h n : Nat) (k : KeyRec) (s : State) : State :=
  let a := k.attrs
  let t := tally s a.ledgerTally
  let m := if a.byteLimit = 0 then 1 else max 1 ((n + 2 ^ a.byteQ - 1) / 2 ^ a.byteQ)
  let waiting := modOrder s id (fun o => { o with stage := .waitCharge, firstGrant := 0 })
  if !s.pair.session then waiting
  else if isLead s then
    let c := chargeOf a none t.value n
    if t.exhausted || !c.ok then
      refuseCharge id (sendFrame 0 (.reserve 5 a.ledgerTally 0xFFFFFFFF t.value h)
        (spendBound a.ledgerTally (makeSpent (hOwner h) (hSlot h) (tallyAddN a.ledgerTally c.taken s))))
    else
      reserveFrames 3 a.ledgerTally (t.value + 1) h id m
        (modOrder (spendBound a.ledgerTally (tallyAddN a.ledgerTally m waiting)) id (fun o => { o with firstGrant := t.value + 1 }))
  else reserveFrames 1 a.ledgerTally 0 h id m waiting

/-- The keys of a list that a charge would move: present, of the handle's generation, with a ledger. -/
def ledgered (s : State) (hs : List Nat) : List Nat :=
  hs.filter (fun h => match (keySlot s (hOwner h) (hSlot h)).key with
    | some k => k.gen == hGen h && kLedger k.attrs
    | none => false)

/-- A charge made for an order that is refused in the end (05 R261): it is taken back, and the reservations it took are lost. -/
def uncharge (h n : Nat) (k : KeyRec) (s : State) : State :=
  let ks := keySlot s (hOwner h) (hSlot h)
  match ks.key with
  | some x => setKeySlot (hOwner h) (hSlot h) { ks with key := some { x with res := if fitsNow k n then k.res else none } } s
  | none => s

/-- Whether all charges of an order can be made (05 R261: in full or not at all): none, or the state a refused one leaves. -/
def chargeRefused (n : Nat) : List Nat → State → Option State
  | [], _ => none
  | h :: r, s =>
    match (keySlot s (hOwner h) (hSlot h)).key with
    | none => none
    | some k =>
      if k.attrs.kstate ≠ 0 then some s
      else match chargeKey (hOwner h) (hSlot h) n s with
        | (some _, s1) => (chargeRefused n r s1).map (uncharge h n k)
        | (none, s1) => some s1

/-- The key record that an order resolved for a handle. -/
def recFor (o : Order) (h : Nat) : Option KeyRec := if h = o.keyA then o.recA else o.recB

/-- An order whose key is no longer there ends as R190 says of its handle. -/
def keyMissing (id h : Nat) (o : Order) (s : State) : State :=
  match findKey s o.stall h with
  | .error e => complete id e.1 e.2 (modOrder s id (fun o => { o with toCharge := [] }))
  | .ok _ => refuseCharge id s

/-- The charge of a key that has left its slot since the order resolved it (04 R205: such an order runs with it): none without a
ledger; else a new reservation of its Tally, so that no index is used twice (05 R258). A pair makes no such reservation (log
entry 146). The state goes on with `.ok`. -/
def chargeGone (id h : Nat) (o : Order) (s : State) : Except State State :=
  match recFor o h with
  | none => .error (keyMissing id h o s)
  | some k =>
    if !kLedger k.attrs then .ok (noteIndex id h 0 s)
    else if mirrored s then .error (keyMissing id h o s)
    else
      let t := tally s k.attrs.ledgerTally
      let c := chargeOf k.attrs none t.value (chargeSize o)
      let s1 := spendBound k.attrs.ledgerTally (if t.exhausted then s else tallyAddN k.attrs.ledgerTally c.taken s)
      if c.ok && (tally s1 k.attrs.ledgerTally).value == t.value + c.taken then .ok (noteIndex id h c.index s1)
      else .error (refuseCharge id s1)

/-- The charges of an order, one key after the other (05 R260); of two, none is made when the other is refused (R261). -/
def chargeKeys (id : Nat) : Nat → State → State
  | 0, s => afterCharge id s
  | fuel + 1, s =>
    match order? s id with
    | none => s
    | some o =>
      match o.toCharge with
      | [] => afterCharge id s
      | h :: _ =>
        let n := chargeSize o
        match (keySlot s (hOwner h) (hSlot h)).key.filter (fun k => k.gen == hGen h) with
        | none => match chargeGone id h o s with
          | .ok s1 => chargeKeys id fuel s1
          | .error s1 => s1
        | some k =>
          if !kLedger k.attrs then chargeKeys id fuel (noteIndex id h 0 s)
          else if k.attrs.kstate ≠ 0 then refuseCharge id s
          else if mirrored s && !fitsNow k n then startReserve id h n k s
          else
            match (if mirrored s then none else chargeRefused n (ledgered s o.toCharge) s) with
            | some s1 => refuseCharge id s1
            | none =>
              match chargeKey (hOwner h) (hSlot h) n s with
              | (some idx, s1) => chargeKeys id fuel (noteIndex id h idx s1)
              | (none, s1) => refuseCharge id s1

/-- The charge of an order begins, for the keys it names (05 R260). -/
def beginCharge (id : Nat) (hs : List Nat) (s : State) : State :=
  chargeKeys id 3 (modOrder s id (fun o => { o with toCharge := hs }))

/-- The last reservation that a charge waited for is there: the charge is made from them, and the next key is charged. -/
def finishGrant (id h : Nat) (s : State) : State :=
  match order? s id with
  | none => s
  | some o =>
    if o.stage != .waitCharge then s
    else
      let ks := keySlot s (hOwner h) (hSlot h)
      let held := ks.key.filter (fun k => k.gen == hGen h)
      match (match held with | some k => some k | none => recFor o h) with
      | none => keyMissing id h o s
      | some k =>
        let c := chargeOf k.attrs none (o.firstGrant - 1) (chargeSize o)
        let s1 := if held.isSome then setKeySlot (hOwner h) (hSlot h) { ks with key := some { k with res := c.res } } s else s
        if c.ok then chargeKeys id 3 (noteIndex id h c.index s1) else refuseCharge id s1

/-- Orders that wait for a reservation begin their charge again: after a declaration, or once a session is there
(10 R471). -/
def retryCharges (s : State) : State :=
  (s.orders.filter (fun o => o.stage == .waitCharge)).foldl (fun s o => chargeKeys o.id 3 s)
    { s with pair := { s.pair with reserveWait := [] } }

end Machine
end Sys2Proof
end

