-- ==== Sys2Proof/Machine/KeyMgmt.lean ====
section
/-!
DEFINITION. The key-management orders 0x0601 to 0x0610 (04 R198 to R211; 05 R259, R262, R267, R277; 06 R312 to R315;
07 R345).
-/
namespace Sys2Proof
namespace Machine

-- What the orders share ------------------------------------------------------------------------------------------------

/-- Any type. -/
def anyType (_ : Nat) : Bool := true

/-- The keys an order of class 0x06 names resolve as R190 says; a TDEA key is refused while the policy flag is clear
(05 R267). -/
def named (s : State) (o : Order) (h : Nat) (suits : Nat → Bool) (need : List Nat) : Except (Nat × Nat) KeyRec :=
  match resolve s o.stall h suits need with
  | .error e => .error e
  | .ok k => if isTdea k.attrs.keyType && !tdeaPolicy s then .error (0x0242, 0) else .ok k

/-- Lines of the key store: 24 GiB a populated channel (08 R370). -/
def storeLines (s : State) : Nat := 402653184 * s.stk.popCode

/-- Keys that orders on their way to the commit point will store for an Owner in slots that hold none. -/
def comingKeys (s : State) (owner : Nat) : List KeyRec :=
  (s.orders.map (fun o => o.items.filterMap (fun it => match it with
    | .key own slot k => if own = owner && (keySlot s own slot).key.isNone then some k else none
    | _ => none))).flatten

/-- Whether a further key of an Owner finds room (03 R126, 04 R181), counting those that wait for their commit point. -/
def roomCheck (s : State) (owner : Nat) (a : Attrs) : Verdict :=
  let most := match ownerRec s owner with | some r => r.maxStored | none => 0
  firstBad [refuse (most < storedCount s owner + (comingKeys s owner).length + 1) 0x0301 0,
            refuse (storeLines s < usedLines s + ((comingKeys s owner).map recLines).sum + 2 +
              (materialLen a.keyType a.keyBits + 63) / 64) 0x0302 0]

/-- The target slot of a creation or load (04 R200; 02 R74). A slot that holds a key of the same generation is refused like one
that holds another: R200 speaks of another generation only (DESIGN CHOICE, log entry 140). -/
def slotCheck (s : State) (st h : Nat) : Verdict :=
  if hOwner h ≠ (stall s st).owner then some (0x0203, 0)
  else if (ownerRec s (hOwner h)).isNone then some (0x0215, 0)
  else if hGen h = 0 then some (0x0201, 0)
  else (keySlot s (hOwner h) (hSlot h)).key.map (fun k => (0x0216, k.gen))

/-- The Tally of a key with a ledger must lie in its Owner's allotment (04 R185). -/
def ledgerCheck (s : State) (owner : Nat) (a : Attrs) : Verdict :=
  let inside := match ownerRec s owner with
    | some r => decide (r.tallyFirst ≤ a.ledgerTally) && decide (a.ledgerTally < r.tallyFirst + r.tallyCount)
    | none => false
  refuse (kLedger a && !(inside && decide (32 ≤ a.ledgerTally) && decide (a.ledgerTally ≤ 255))) 0x0214 0

/-- The attribute block of a new key (04 R183 to R185). -/
def newAttrs (s : State) (owner : Nat) (a : Attrs) : Verdict :=
  match attrBad a with
  | some off => some (0x0219, off)
  | none =>
    match attrPartSet a with
    | some off => some (0x0219, off)
    | none => ledgerCheck s owner a

/-- A TDEA key that an order would create or load while the policy flag is clear (05 R267). -/
def tdeaCheck (s : State) (t : Nat) : Verdict := refuse (isTdea t && !tdeaPolicy s) 0x0242 0

/-- The binding of a key to its ledger Tally (04 R185). -/
def bound (s : State) (a : Attrs) : Attrs :=
  { a with ledgerBase := if kLedger a then (tally s a.ledgerTally).value else 0 }

/-- Whether a key's ledger is used up when a new key is stored (04 R204): it is Spent at once. -/
def usedUp (s : State) (a : Attrs) : Nat := enterState s true a

/-- Material of a new key from fresh DRBG output (04 R201; 06 R312, R313; 07 R334). -/
def newMaterial (a : Attrs) (s : State) : Bytes × State :=
  let m := materialLen a.keyType a.keyBits
  if isPair a.keyType then (take m (Config.genKey a.keyType a.keyBits s.drbg.next), (draw (m + 8) s).2) else draw m s

/-- The public key of a private key, in the encoding of its type (06 R315, 07 R345). -/
def publicOf (a : Attrs) (material : Bytes) : Bytes :=
  match keyFam a.keyType with
  | some .rsaPriv => material.take (a.keyBits / 8 + 8)
  | some .slhPriv => material.drop (2 * slhN (a.keyType % 16))
  | some .ecPriv => take (publicLen a.keyType a.keyBits) (Config.publicKey a.keyType material)
  | some .kemPriv => take (publicLen a.keyType a.keyBits) (Config.publicKey a.keyType material)
  | some .dsaPriv => take (publicLen a.keyType a.keyBits) (Config.publicKey a.keyType material)
  | _ => material

/-- A handler that needs approvals in some cases only. -/
def gated (q : Bool) (o : Order) (e : FwEnv) (owner : Nat) (s : State) (k : Option Approval → State → FwOut × State) :
    FwOut × State :=
  if q then withQuorum o e (gateFor s o owner) s (fun a s => k (some a) s) else k none s

/-- The answer "already applied" of an order that needs approvals, before every check of its content. -/
def appliedFirst (q : Bool) (o : Order) (owner : Nat) (s : State) (k : FwOut × State) : FwOut × State :=
  match (if q then ifApplied s o (gateFor s o owner) else none) with
  | some r => (r, s)
  | none => k

/-- A check of a handler. -/
def orElse (v : Verdict) (s : State) (k : FwOut × State) : FwOut × State :=
  match v with
  | some f => (.fail f.1 f.2, s)
  | none => k

/-- Keys that an order uses are charged once (05 R260; 11 R493), before the rest of its handler. -/
def withCharge (o : Order) (hs : List Nat) (s : State) (k : State → FwOut × State) : FwOut × State :=
  if o.charged then k s
  else
    let s1 := beginCharge o.id hs s
    match order? s1 o.id with
    | some x => if x.charged && x.stage == .ready then k s1 else (.settled, s1)
    | none => (.settled, s1)

/-- The charge of an order that a Spent key does not refuse (05 R260, R262): KEY_PUBLIC, KEY_UNLOAD, KEY_RETIRE, KEY_REPLACE and
KEY_NARROW; a Spent key is charged no more. -/
def withLedger (o : Order) (k : KeyRec) (s : State) (f : State → FwOut × State) : FwOut × State :=
  if kLedger k.attrs && k.attrs.kstate == 0 then withCharge o [o.keyA] s f else f s

/-- The sequence anchor that an approved key order writes (04 R176, R205). -/
def seqItems (s : State) (a : Option Approval) : List Item := match a with | some x => [seqItem s x] | none => []

/-- A new key is stored and its blob returned (04 R198 to R201). -/
def createKey (o : Order) (ap : Option Approval) (a : Attrs) (material : Bytes) (pub : Bytes) (s : State) : FwOut × State :=
  let h := o.keyA
  let k : KeyRec := { gen := hGen h, attrs := bound s a, material := material, kcv := kcvOf material, res := none }
  let (nonce, s1) := draw 12 s
  match keyBlob s1 h k nonce with
  | none => (.fail 0x0221 0, s1)
  | some b =>
    (.done { word := h, out := b, aux := pub,
             items := [.key (hOwner h) (hSlot h) k, .keyRecord h (usedUp s k.attrs)] ++ seqItems s1 ap }, s1)

-- KEY_GENERATE, KEY_LOAD, KEY_UNLOAD ---------------------------------------------------------------------------------------

/-- Whether a type can be generated: a secret or a private key (04 R201). -/
def generable (t : Nat) : Bool :=
  isPair t || isAes t || isChacha t || isTdea t || keyFam t == some .secret

/-- KEY_GENERATE (04 R200, R201, R206). -/
def keyGenerate : Handler := fun o e s =>
  let own := ownerOf s o
  let a := parseAttrs (params o)
  let q := kQuorum a || hasUsage a uWrapOut
  appliedFirst q o own s <|
  orElse (firstBad [slotCheck s o.stall o.keyA, newAttrs s own a, refuse (!generable a.keyType) 0x020A 0,
                    tdeaCheck s a.keyType, roomCheck s own a]) s <|
  gated q o e own s fun ap s =>
    let pub := if isPair a.keyType then publicLen a.keyType a.keyBits else 0
    withCap o (blobLen (materialLen a.keyType a.keyBits)) pub s <|
    if !e.testOk then (.fail 0x0511 0, s)
    else
      let (m, s1) := newMaterial a s
      createKey o ap a m (if isPair a.keyType then publicOf a m else []) s1

/-- The Loom that unwraps a blob: the first active one (R196 leaves the choice to the part; log entry 148). -/
def unwrapLoom (s : State) : Nat := ((withStatus s .loom .active).head?).getD 0

/-- A key check value that differs after the tag has passed is a device fault of the Loom that unwrapped the blob: it is handled
like a copy mismatch on that Loom, and the order runs again on another (04 R196; 11 R499, R500). -/
def unwrapFault (o : Order) (s : State) : State :=
  let r : Result := { status := 0, word := 0, out := [], aux := [] }
  compareFail o.id { o with insts := [(.loom, unwrapLoom s)] } r r s

/-- Whether the material of an opened blob has the blob's key check value (04 R194, R196), and the unwrap itself was sound. -/
def unwrapOk (b : Opened) (e : FwEnv) : Bool := kcvOf b.body == b.kcv && e.testOk

/-- KEY_LOAD (04 R185, R195, R196, R200, R204). A blob whose handle names another Owner gives 0x0203 after 0x0212 and in place
of 0x0211 and 0x0210, which are that Owner's affair (DESIGN CHOICE, log entry 140); the allotment is checked like that of any key
that is bound (log entry 141). -/
def keyLoad : Handler := fun o e s =>
  let own := ownerOf s o
  if (ownerRec s own).isNone then (.fail 0x0215 0, s)
  else
    let h := field (inputOf o) 8 8
    match openBlob s 1 (inputOf o) with
    | .error (0x0212, w) => (.fail 0x0212 w, s)
    | .error (st, w) => if hOwner h ≠ own then (.fail 0x0203 0, s) else (.fail st w, s)
    | .ok b =>
      let a := parseAttrs b.attrs
      let have' := match (keySlot s (hOwner h) (hSlot h)).key with | some k => k.gen == hGen h | none => false
      if hOwner h ≠ own then (.fail 0x0203 0, s)
      else if have' then (.done { word := h }, s)
      else
        orElse (firstBad [slotCheck s o.stall h, ledgerCheck s own a, tdeaCheck s a.keyType, roomCheck s own a]) s <|
        if !unwrapOk b e then (.settled, unwrapFault o s)
        else
          let a1 := { a with kstate := 0 }
          let k : KeyRec := { gen := hGen h, attrs := a1, material := b.body, kcv := b.kcv, res := none }
          (.done { word := h, items := [.key own (hSlot h) k, .keyRecord h (usedUp s a1)] }, s)

/-- KEY_UNLOAD (04 R204). -/
def keyUnload : Handler := fun o _ s =>
  match named s o o.keyA anyType [] with
  | .error f => (.fail f.1 f.2, s)
  | .ok k => withLedger o k s fun s => (.done { items := [.keyGone (hOwner o.keyA) (hSlot o.keyA) none 0, .keyRecord o.keyA 3] }, s)

-- KEY_IMPORT and KEY_EXPORT ------------------------------------------------------------------------------------------------

/-- Types of key B for a format (04 R199, 05 R268). -/
def wrapType (fmt t : Nat) : Bool := if fmt = 1 then isAes t else isAes t || isTdea t

/-- Consistency of an RSA private key of `kbits` bits (06 R292, R315). -/
def rsaConsistent (kbits : Nat) (m : Bytes) : Bool :=
  let k := kbits / 8
  let h := k / 2
  let part (i : Nat) : Nat := ofBe (slice m (k + 8 + i * h) h)
  let n := rsaN k m
  let e := rsaE k m
  let p := part 0
  let q := part 1
  decide (2 ^ (kbits - 1) ≤ n) && e % 2 == 1 && decide (65537 ≤ e) && decide (2 ^ (8 * h - 1) ≤ p) && decide (2 ^ (8 * h - 1) ≤ q) &&
    n == p * q && e * part 2 % (p - 1) == 1 && e * part 3 % (q - 1) == 1 && q * part 4 % p == 1

/-- The validation of imported material (06 R315, 07 R345). -/
def importFindings (a : Attrs) (m : Bytes) : Verdict :=
  let c := a.keyType % 16
  match keyFam a.keyType with
  | some .ecPriv => if c ≤ 6 then selectFinding (integerFindings (ofBe m) (Config.curveN c) 5) else none
  | some .ecPub => selectFinding (publicFindings c m 2)
  | some .rsaPriv => refuse (!rsaConsistent a.keyBits m) 0x012A 5
  | some .rsaPub => selectFinding (rsaKeyFindings ((a.keyBits + 7) / 8) a.keyBits m)
  | some .kemPub => refuse (!kemCoefficients c m) 0x0130 2
  | some .slhPriv => refuse (take (slhN c) (Config.slhRoot c m) != m.drop (3 * slhN c)) 0x0135 5
  | _ => none

/-- The material that a wrapped key holds (04 R199; 05 R277). -/
def unwrapInput (o : Order) (fmt : Nat) (b : KeyRec) (a : Attrs) : Except (Nat × Nat) Bytes :=
  if fmt = 1 then
    if o.inLen < 16 || o.inLen % 8 ≠ 0 then .error (0x0110, 0)
    else match kwpUnwrap b.material (inputOf o) with | some m => .ok m | none => .error (0x0112, 0)
  else
    let aes := isAes b.attrs.keyType
    match parseKeyBlock aes (inputOf o) with
    | none => .error (0x0114, 0)
    | some k =>
      match openKeyBlock aes b.material k with
      | none => .error (0x0112, 0)
      | some m => if kbMapping a == some (k.usage, k.algorithm, k.mode) then .ok m else .error (0x0246, 0)

/-- KEY_IMPORT (04 R199, R200; 05 R259). -/
def keyImport : Handler := fun o e s =>
  let own := ownerOf s o
  let a := parseAttrs (params o)
  let fmt := par o 64 1
  appliedFirst true o own s <|
  orElse (firstBad [slotCheck s o.stall o.keyA, newAttrs s own a, refuse (kDeviceNonce a) 0x0219 6, tdeaCheck s a.keyType,
                    roomCheck s own a]) s <|
  match named s o o.keyB (wrapType fmt) [uUnwrap] with
  | .error f => (.fail f.1 f.2, s)
  | .ok b =>
    orElse (firstBad [refuse (isTdea b.attrs.keyType && b.attrs.keyType != 0x0106) 0x0242 0, refuse (kDeviceNonce b.attrs) 0x0240 0]) s <|
    gated true o e own s fun ap s =>
      withCap o (blobLen (materialLen a.keyType a.keyBits)) 0 s <|
      withCharge o [o.keyB] s fun s =>
        match unwrapInput o fmt b a with
        | .error f => (.fail f.1 f.2, s)
        | .ok m =>
          if m.length ≠ materialLen a.keyType a.keyBits then (.fail 0x0110 0, s)
          else orElse (importFindings a m) s (createKey o ap a m [] s)

/-- KEY_EXPORT (04 R199; 05 R262, R277). -/
def keyExport : Handler := fun o e s =>
  let own := ownerOf s o
  let fmt := par o 0 1
  appliedFirst true o own s <|
  match named s o o.keyA anyType [uWrapOut], named s o o.keyB (wrapType fmt) [uWrap] with
  | .error f, _ => (.fail f.1 f.2, s)
  | _, .error f => (.fail f.1 f.2, s)
  | .ok a, .ok b =>
    let aes := isAes b.attrs.keyType
    let m := a.material
    orElse (firstBad [refuse (kDeviceNonce b.attrs) 0x0240 0, refuse (isTdea b.attrs.keyType && !tdeaMayEncrypt b.attrs) 0x0242 0,
                      refuse (fmt == 2 && (kbMapping a.attrs).isNone) 0x0246 0]) s <|
    gated true o e own s fun ap s =>
      withCap o (if fmt = 1 then roundUp m.length 8 + 8 else kbLen aes 16 m.length) 0 s <|
      withCharge o [o.keyA, o.keyB] s fun s =>
        let (pad, s1) := if fmt = 1 then ([], s) else draw 16 s
        let out := if fmt = 1 then kwpWrap b.material m
                   else match kbMapping a.attrs with
                     | some x => sealKeyBlock aes b.material (kbHeader x) m pad
                     | none => []
        (.done { out := out, items := seqItems s1 ap }, s1)

-- KEY_REPLACE, KEY_RETIRE, KEY_NARROW ----------------------------------------------------------------------------------------

/-- The slot of a key is locked for an order (04 R207); none when another order holds the lock. -/
def lockSlot (o : Order) (s : State) : Option State :=
  let ks := keySlot s (hOwner o.keyA) (hSlot o.keyA)
  match ks.lock with
  | some id => if id = o.id then some s else none
  | none => some (setKeySlot (hOwner o.keyA) (hSlot o.keyA) { ks with lock := some o.id } s)

/-- The old key of a change, its slot locked; `next` asks for a further generation (04 R205 step 1, R207). -/
def changing (o : Order) (next : Bool) (s : State) (k : KeyRec → State → FwOut × State) : FwOut × State :=
  match named s o o.keyA anyType [] with
  | .error f => (.fail f.1 f.2, s)
  | .ok r =>
    match lockSlot o s with
    | none => (.fail 0x0217 0, s)
    | some s1 => if next && r.gen == 0xFFFFFF then (.fail 0x0218 0, s1) else k r s1

/-- The successor takes the slot, Active, and the old generation becomes the tombstone (04 R204, R205 step 4). -/
def succeed (o : Order) (ap : Option Approval) (k : KeyRec) (s : State) : FwOut × State :=
  let own := hOwner o.keyA
  let slot := hSlot o.keyA
  let h := mkHandle own slot k.gen
  let (nonce, s1) := draw 12 s
  match keyBlob s1 h k nonce with
  | none => (.fail 0x0221 0, s1)
  | some b =>
    (.done { word := h, out := b,
             items := [.key own slot k, .keyGone own slot (some (hGen o.keyA)) h] ++ seqItems s1 ap ++
                      [.keyRecord o.keyA 2, .keyRecord h (enterState s false k.attrs)] }, s1)

/-- KEY_REPLACE (04 R205, R206). -/
def keyReplace : Handler := fun o e s =>
  let own := ownerOf s o
  appliedFirst true o own s <|
  changing o true s fun old s =>
    gated (kQuorum old.attrs) o e own s fun ap s =>
      withCap o (blobLen old.material.length) 0 s <|
      if !generable old.attrs.keyType then (.fail 0x020A 0, s)
      else orElse (ledgerCheck s own old.attrs) s <| withLedger o old s fun s =>
      if !e.testOk then (.fail 0x0511 0, s)
      else
        let (m, s1) := newMaterial old.attrs s
        let a := bound s1 { old.attrs with kstate := 0, predecessor := o.keyA }
        succeed o ap { gen := old.gen + 1, attrs := a, material := m, kcv := kcvOf m, res := none } s1

/-- KEY_RETIRE (04 R204). -/
def keyRetire : Handler := fun o e s =>
  let own := ownerOf s o
  appliedFirst true o own s <|
  changing o false s fun old s =>
    gated (kQuorum old.attrs) o e own s fun ap s =>
      withLedger o old s fun s =>
      (.done { items := [.keyGone own (hSlot o.keyA) (some old.gen) 0] ++ seqItems s ap ++ [.keyRecord o.keyA 2] }, s)

/-- Whether new attributes would widen a key (04 R202, 05 R259; a change of DEVICE_NONCE, of the Tally or of the quanta counts
as widening, log entry 53). -/
def widens (old new : Attrs) : Bool :=
  let limit (x y : Nat) : Bool := x != 0 && (y == 0 || decide (x < y))
  new.keyType != old.keyType || new.keyBits != old.keyBits || (new.usage &&& ~~~old.usage) != 0 ||
    (new.lcMask &&& ~~~old.lcMask) != 0 || (new.worldMask &&& ~~~old.worldMask) != 0 || decide (new.stallLo < old.stallLo) ||
    decide (old.stallHi < new.stallHi) || (kQuorum old && !kQuorum new) || (kLedger old && !kLedger new) ||
    kDeviceNonce old != kDeviceNonce new ||
    (kLedger old && (new.ledgerTally != old.ledgerTally || new.invQ != old.invQ || new.byteQ != old.byteQ)) ||
    limit old.invLimit new.invLimit || limit old.byteLimit new.byteLimit

/-- KEY_NARROW (04 R202; 05 R259): a ledger goes on, one that narrowing adds is bound now. -/
def keyNarrow : Handler := fun o _ s =>
  let own := ownerOf s o
  let a := parseAttrs (params o)
  changing o true s fun old s =>
    orElse (firstBad [newAttrs s own a, refuse (widens old.attrs a) 0x0213 0]) s <|
    withCap o (blobLen old.material.length) 0 s <| withLedger o old s fun s =>
      let a1 := { a with ledgerBase := if kLedger old.attrs then old.attrs.ledgerBase else (bound s a).ledgerBase, predecessor := o.keyA }
      succeed o none { gen := old.gen + 1, attrs := a1, material := old.material, kcv := old.kcv, res := none } s

-- KEY_PUBLIC, BLOB_REWRAP ------------------------------------------------------------------------------------------------

/-- KEY_PUBLIC (06 R315, 07 R345): of a private key, or of a public key itself. -/
def keyPublic : Handler := fun o _ s =>
  let asym (t : Nat) : Bool := !(isAes t || isChacha t || isTdea t || keyFam t == some .secret)
  match named s o o.keyA asym [] with
  | .error f => (.fail f.1 f.2, s)
  | .ok k =>
    let b := publicOf k.attrs k.material
    withCap o b.length 0 s (withLedger o k s fun s => (.done { out := b }, s))

/-- BLOB_REWRAP (04 R196, R211); a blob of another Owner as at KEY_LOAD (DESIGN CHOICE, log entry 140). -/
def blobRewrap : Handler := fun o e s =>
  let own := ownerOf s o
  if (ownerRec s own).isNone then (.fail 0x0215 0, s)
  else
    match openBlob s 1 (inputOf o) with
    | .error (0x0212, w) => (.fail 0x0212 w, s)
    | .error (st, w) => if hOwner (field (inputOf o) 8 8) ≠ own then (.fail 0x0203 0, s) else (.fail st w, s)
    | .ok b =>
      if hOwner b.handle ≠ own then (.fail 0x0203 0, s)
      else
        match omkOf s own (curEpoch s own) with
        | none => (.fail 0x0221 0, s)
        | some omk =>
          withCap o (blobLen b.body.length) 0 s <|
            if !unwrapOk b e then (.settled, unwrapFault o s) else
            let (nonce, s1) := draw 12 s
            (.done { word := curEpoch s own, out := sealBlob omk 1 b.handle b.attrs b.kcv (curEpoch s own) b.body nonce }, s1)

-- Classification -----------------------------------------------------------------------------------------------------------

/-- The checks of a class 0x06 order that depend on the parameter block alone (04 R198, R199). -/
def keyClassify (o : Order) : Verdict :=
  match o.opcode with
  | 0x0601 => refuse (attrParRes0 o) 0x0103 0
  | 0x0604 => firstBad [refuse (attrParRes0 o || resIn o 65 7) 0x0103 0, refuse (par o 64 1 != 1 && par o 64 1 != 2) 0x0105 0]
  | 0x0605 => firstBad [refuse (resIn o 1 7) 0x0103 0, refuse (par o 0 1 != 1 && par o 0 1 != 2) 0x0105 0]
  | 0x0608 => refuse (attrParRes0 o) 0x0103 0
  | 0x0622 => refuse (resIn o 2 6) 0x0103 0
  | 0x0623 => refuse (resIn o 2 6) 0x0103 0
  | 0x0631 => refuse (resIn o 1 7) 0x0103 0
  | 0x0632 => refuse (resIn o 1 7) 0x0103 0
  | _ => none

-- The rows -------------------------------------------------------------------------------------------------------------------

/-- 0x0601 KEY_GENERATE (04 R201). -/
def execKeyGenerate (id : Nat) (e : FwEnv) : State → Res := runFw 0x0601 keyGenerate id e
/-- 0x0602 KEY_LOAD (04 R200). -/
def execKeyLoad (id : Nat) (e : FwEnv) : State → Res := runFw 0x0602 keyLoad id e
/-- 0x0603 KEY_UNLOAD (04 R204). -/
def execKeyUnload (id : Nat) (e : FwEnv) : State → Res := runFw 0x0603 keyUnload id e
/-- 0x0604 KEY_IMPORT (04 R199). -/
def execKeyImport (id : Nat) (e : FwEnv) : State → Res := runFw 0x0604 keyImport id e
/-- 0x0605 KEY_EXPORT (04 R199). -/
def execKeyExport (id : Nat) (e : FwEnv) : State → Res := runFw 0x0605 keyExport id e
/-- 0x0606 KEY_REPLACE (04 R205). -/
def execKeyReplace (id : Nat) (e : FwEnv) : State → Res := runFw 0x0606 keyReplace id e
/-- 0x0607 KEY_RETIRE (04 R204). -/
def execKeyRetire (id : Nat) (e : FwEnv) : State → Res := runFw 0x0607 keyRetire id e
/-- 0x0608 KEY_NARROW (04 R202). -/
def execKeyNarrow (id : Nat) (e : FwEnv) : State → Res := runFw 0x0608 keyNarrow id e
/-- 0x0609 KEY_PUBLIC (06 R315). -/
def execKeyPublic (id : Nat) (e : FwEnv) : State → Res := runFw 0x0609 keyPublic id e
/-- 0x0610 BLOB_REWRAP (04 R211). -/
def execBlobRewrap (id : Nat) (e : FwEnv) : State → Res := runFw 0x0610 blobRewrap id e

end Machine
end Sys2Proof
end

