-- ==== Sys2Proof/Machine/Master.lean ====
section
/-!
DEFINITION. The master key, backup and roster orders 0x0620 to 0x0633 (04 R203, R209 to R219).
-/
namespace Sys2Proof
namespace Machine

-- Master rotation --------------------------------------------------------------------------------------------------------

/-- A kind-1 slot that holds an OMK (04 R173, R174). -/
def masterImg (s : State) (owner : Nat) (omk : Bytes) (epoch seq approver wcount : Nat) (pdigest : Bytes) : Option MSlot :=
  (masterWrapKey s (4 * owner)).map (fun k =>
    { kind := 1, owner := owner, epoch := epoch, seq := seq, approver := approver, wcount := wcount, pdigest := pdigest,
      payload := fit 56 (kwWrap k omk ++ kcvOf omk), state := 1, macOk := true })

/-- MASTER_ROTATE (04 R209). A round trip that fails gives 0x0511: R209 names no status (DESIGN CHOICE, log entry 140). -/
def masterRotate : Handler := fun o e s =>
  let own := ownerOf s o
  appliedFirst true o own s <|
  if (ownerRec s own).isNone then (.fail 0x0215 0, s)
  else
    match validSlots s (4 * own) with
    | [(i, m)] =>
      gated true o e own s fun ap s =>
        match ap with
        | none => (.fail 0x0701 0, s)
        | some a =>
          let (omk, s1) := draw 32 s
          if !e.testOk then (.fail 0x0511 0, s1)
          else
            match masterImg s1 own omk (m.epoch + 1) a.seq own (nextWcount s1 (4 * own)) a.pdigest with
            | none => (.fail 0x0221 0, s1)
            | some img => (.done { word := m.epoch + 1, items := [.mram (4 * own) (1 - i) (some img)] }, s1)
    | _ => (.fail 0x0221 0, s)

/-- MASTER_RETIRE_OLD (04 R210). -/
def masterRetireOld : Handler := fun o e s =>
  let own := ownerOf s o
  gated true o e own s fun ap s =>
    let gone := match prevSlot s own with | some p => [Item.mram (4 * own) p.1 none] | none => []
    let epoch := match prevSlot s own with | some p => p.2.epoch | none => 0
    (.done { word := epoch, items := gone ++ seqItems s ap }, s)

-- Shares -----------------------------------------------------------------------------------------------------------------

/-- Product in GF(2^8) with the reduction polynomial 0x11B (log entry 55). -/
def gfMul (a b : Nat) : Nat :=
  ((List.range 8).foldl (fun (z : Nat × Nat) i =>
    (if bitOf b i then z.1 ^^^ z.2 else z.1, if bitOf z.2 7 then (2 * z.2 ^^^ 0x11B) % 256 else 2 * z.2)) (0, a)).1

/-- Inverse in GF(2^8): the power 254. -/
def gfInv (a : Nat) : Nat := (List.range 253).foldl (fun x _ => gfMul x a) a

/-- The x-coordinate of a custodian's share (log entry 55). -/
def shareX (index : Nat) : Nat := index + 1

/-- The share of a custodian: for each key byte a polynomial of degree M - 1 with the key byte as constant term (04 R213). -/
def shareOf (b : Backup) (m index : Nat) : Bytes :=
  (List.range 32).map (fun i =>
    let coeffs := (List.range (m - 1)).map (fun j => (Config.drbg (b.coeffs + i * (m - 1) + j)).toNat)
    let x := shareX index
    BitVec.ofNat 8 (coeffs.reverse.foldl (fun acc c => gfMul (acc ^^^ c) x) 0 ^^^ (b.omk.getD i 0).toNat))

/-- The key that shares give: Lagrange interpolation at 0 (04 R217). -/
def combine (shares : List (Nat × Nat × Bytes)) : Bytes :=
  (List.range 32).map (fun i =>
    BitVec.ofNat 8 (shares.foldl (fun acc p =>
      let l := shares.foldl (fun n q => if q.1 = p.1 then n else gfMul n (gfMul q.2.1 (gfInv (q.2.1 ^^^ p.2.1)))) 1
      acc ^^^ gfMul l (p.2.2.getD i 0).toNat) 0))

/-- Card-holding custodians of an Owner (04 R213). -/
def holders (r : OwnerRec) : List Custodian := r.custodians.filter (fun c => c.cflags % 2 == 1)

/-- A custodian of an Owner by index. -/
def custodian? (s : State) (owner index : Nat) : Option Custodian :=
  (ownerRec s owner).bind (fun r => r.custodians.find? (fun c => c.index == index))

/-- The port and the custodian of a share order: a port above 3 is out of range, a port not in use has no card, and the
custodian must hold a card (04 R212, R213). -/
def portCheck (s : State) (o : Order) (owner : Nat) : Verdict :=
  let ok := match custodian? s owner (par o 1 1) with | some c => c.cflags % 2 == 1 | none => false
  firstBad [refuse (3 < par o 0 1) 0x0118 0, refuse (!ok) 0x0724 (par o 1 1),
            refuse (!bitOf (cardsInUse s) (par o 0 1)) 0x0709 (par o 0 1)]

/-- A share set and the polynomials of a ceremony are made, for the threshold M that holds at its opening (04 R213). -/
def openBackup (own : Nat) (r : OwnerRec) (m : MSlot) (omk : Bytes) (a : Approval) (s : State) : State :=
  let (sid, s1) := draw 16 s
  let base := s1.drbg.next
  let s2 := (draw (32 * (r.m - 1)) s1).2
  { s2 with munim := { s2.munim with
      backup := some { owner := own, m := r.m, shareId := sid, omk := omk, coeffs := base, epoch := m.epoch, given := [], openedAt := s.clock,
                       seq := a.seq, pdigest := a.pdigest }
      backupLost := s2.munim.backupLost.filter (fun n => n != own) } }

/-- A share order of an open ceremony: the card is asked, and once it holds its share the ceremony goes on or commits with
the share anchor (04 R213). -/
def backupShare (o : Order) (own : Nat) (b : Backup) (s : State) : FwOut × State :=
  let ix := par o 1 1
  if o.cardData.isNone then (.ask (.put (par o 0 1) own ix), s)
  else
    let hs : List Nat := match ownerRec s own with | some r => (holders r).map (fun (c : Custodian) => c.index) | none => []
    let given := if b.given.contains ix then b.given else b.given ++ [ix]
    let n := given.length
    if hs.all (fun i => given.contains i) then
      let payload := b.shareId ++ leBytes 1 b.m ++ leBytes 1 hs.length ++ leBytes 2 (maskOf hs) ++ kcvOf b.omk
      (.done { word := n, items := [anchorItem s (4 * own + 2) 3 own b.epoch (some { owner := own, seq := b.seq, pdigest := b.pdigest })
                                      payload, .backup none] }, s)
    else (.done { status := 2, word := n, items := [.backup (some { b with given := given })] }, s)

/-- MASTER_BACKUP (04 R212 to R214). -/
def masterBackup : Handler := fun o e s =>
  let own := ownerOf s o
  match ownerRec s own with
  | none => (.fail 0x0215 0, s)
  | some r =>
    match s.munim.backup with
    | some b =>
      if b.owner ≠ own then (.fail 0x0221 0, s) else orElse (portCheck s o own) s (backupShare o own b s)
    | none =>
      if s.munim.backupLost.contains own && parseApprovals (auxOf o) == .absent then (.fail 0x0725 0, s)
      else
        orElse (portCheck s o own) s <|
        match masterSlot s own with
        | none => (.fail 0x0221 0, s)
        | some m =>
          match unwrapOmk s own m.2 with
          | none => (.fail 0x0221 0, s)
          | some omk =>
            gated true o e own s fun ap s =>
              if (holders r).length < r.m then (.fail 0x0726 0, s)
              else
                match ap with
                | none => (.fail 0x0701 0, s)
                | some a =>
                  let s1 := openBackup own r m.2 omk a s
                  match s1.munim.backup with
                  | some b => backupShare o own b s1
                  | none => (.fail 0x0221 0, s1)

/-- The OMK of an Owner's master slots that unwraps under the current Device Root (04 R215). -/
def anyOmk (s : State) (own : Nat) : Option Bytes := (validSlots s (4 * own)).findSome? (fun p => unwrapOmk s own p.2)

/-- Whether one of the OMKs that an Owner holds has a key check value (04 R215). -/
def holdsOmk (s : State) (own : Nat) (kcv : Bytes) : Bool :=
  (validSlots s (4 * own)).any (fun p => (unwrapOmk s own p.2).any (fun k => kcvOf k == kcv))

/-- The restore shares held for an Owner, none yet at first (04 R216). -/
def heldShares (s : State) (own : Nat) : Restore :=
  (s.munim.restore.find? (fun r => r.owner == own)).getD { owner := own, shares := [], firstAt := s.clock }

/-- MASTER_RESTORE (04 R215 to R217). -/
def masterRestore : Handler := fun o _ s =>
  let own := ownerOf s o
  let ix := par o 1 1
  match ownerRec s own with
  | none => (.fail 0x0215 0, s)
  | some _ =>
    let anchor := currentSlot s (4 * own + 2)
    match anyOmk s own with
    | some _ =>
      match anchor with
      | some c =>
        if holdsOmk s own (slice c.2.payload 20 8) then (.fail 0x0001 (field c.2.payload 16 1 + c.2.epoch * 2 ^ 32), s)
        else (.fail 0x0221 0, s)
      | none => (.fail 0x0221 0, s)
    | none =>
      match anchor with
      | none => (.fail 0x0724 ix, s)
      | some c =>
        let held := heldShares s own
        orElse (firstBad [portCheck s o own, refuse (held.shares.any (fun p => p.1 == ix)) 0x0724 ix]) s <|
        match o.cardData with
        | none => (.ask (.get (par o 0 1) own ix), s)
        | some rec0 =>
          if rec0.take 16 ≠ c.2.payload.take 16 || rec0.length ≠ 49 then (.fail 0x0724 ix, s)
          else
            let shares := held.shares ++ [(ix, field rec0 16 1, slice rec0 17 32)]
            if shares.length < field c.2.payload 16 1 then
              (.done { status := 2, word := shares.length, items := [.restore own (some { held with shares := shares })] }, s)
            else
              let omk := combine shares
              if kcvOf omk ≠ slice c.2.payload 20 8 then
                (.fail 0x0724 ix, setRestore own none s)
              else
                match masterImg s own omk c.2.epoch 0 0xFFFF 1 (zeros 16) with
                | none => (.fail 0x0221 0, s)
                | some img =>
                  (.done { word := shares.length + c.2.epoch * 2 ^ 32,
                           items := [.mram (4 * own) 0 none, .mram (4 * own) 1 none, .mram (4 * own) 0 (some img), .restore own none] }, s)

-- Rosters ------------------------------------------------------------------------------------------------------------------

/-- A custodian record that is well formed (04 R218). -/
def custodianOk (b : Bytes) : Bool :=
  let kt := field b 1 1
  let n := if kt = 1 then 97 else 1952
  b.length == 1984 && decide (field b 0 1 ≤ 15) && (kt == 1 || kt == 2) && decide (field b 2 1 ≤ 1) && field b 3 1 == 0 &&
    field b 4 2 == n && field b 6 2 == 0 && (field b 2 1 == 1 || allZero (slice b 8 16)) && allZero (b.drop (24 + n))

/-- A new Owner record is written with its blob as output, and its anchor is the commit point (04 R219). -/
def newRecord (o : Order) (r : OwnerRec) (ap : Option Approval) (s : State) : FwOut × State :=
  withCap o (blobLen (ownerBody r).length) 0 s <|
    match omkOf s r.owner (curEpoch s r.owner) with
    | none => (.fail 0x0221 0, s)
    | some omk =>
      let (nonce, s1) := draw 12 s
      (.done { word := r.version, out := ownerBlob omk (curEpoch s1 r.owner) r nonce, items := [.ownerRec r, recordItem s1 r ap] }, s1)

/-- A handler on the issuing Owner's roster, behind its quorum. -/
def rosterOrder (o : Order) (e : FwEnv) (s : State) (check : OwnerRec → Verdict) (change : OwnerRec → OwnerRec) : FwOut × State :=
  let own := ownerOf s o
  appliedFirst true o own s <|
  match ownerRec s own with
  | none => (.fail 0x0215 0, s)
  | some r =>
    gated true o e own s fun ap s =>
      orElse (check r) s (newRecord o { change r with version := r.version + 1 } ap s)

/-- Custodians in index order. -/
def insertCustodian (c : Custodian) : List Custodian → List Custodian
  | [] => [c]
  | x :: r => if c.index < x.index then c :: x :: r else x :: insertCustodian c r

/-- CUSTODIAN_ENROL (04 R219). A malformed record gives 0x0125 (log entry 56). -/
def custodianEnrol : Handler := fun o e s =>
  let b := opAux o
  let c := parseCustodian b
  rosterOrder o e s
    (fun r => firstBad [refuse (!custodianOk b) 0x0125 1,
                        refuse (decide (16 ≤ r.n) || r.custodians.any (fun x => x.index == c.index)) 0x0722 0])
    (fun r => { r with custodians := insertCustodian c r.custodians, n := r.n + 1 })

/-- CUSTODIAN_REMOVE (04 R219). An index that is not enrolled gives 0x0706 (log entry 56). -/
def custodianRemove : Handler := fun o e s =>
  let ix := par o 0 1
  rosterOrder o e s
    (fun r => firstBad [refuse (!r.custodians.any (fun x => x.index == ix)) 0x0706 ix, refuse (r.n - 1 < r.m) 0x0723 0])
    (fun r => { r with custodians := r.custodians.filter (fun x => x.index != ix), n := r.n - 1 })

/-- QUORUM_SET (04 R219). -/
def quorumSet : Handler := fun o e s =>
  let m := par o 0 1
  rosterOrder o e s (fun r => refuse (m < 2 || r.n < m) 0x0721 0) (fun r => { r with m := m })

/-- QUORUM_STATUS (04 R203). -/
def quorumStatus : Handler := fun o _ s =>
  let own := ownerOf s o
  match ownerRec s own with
  | none => (.fail 0x0215 0, s)
  | some r =>
    let (l, d) := lastDone s own
    let prev := match prevSlot s own with | some p => p.2.epoch | none => 0
    let share := match currentSlot s (4 * own + 2) with | some p => p.2.epoch | none => 0
    let b := leBytes 8 l ++ leBytes 4 s.vigil.seconds.toNat ++ [if s.vigil.timeValid then 1 else 0] ++ leBytes 1 r.m ++ leBytes 1 r.n ++
      [0] ++ leBytes 2 (maskOf (r.custodians.map (fun c => c.index))) ++ zeros 2 ++ leBytes 4 (curEpoch s own) ++ leBytes 4 prev ++
      leBytes 4 share ++ fit 16 d ++ zeros 16
    withCap o 64 0 s (.done { word := l, out := b }, s)

-- The rows -------------------------------------------------------------------------------------------------------------------

/-- 0x0620 MASTER_ROTATE (04 R209). -/
def execMasterRotate (id : Nat) (e : FwEnv) : State → Res := runFw 0x0620 masterRotate id e
/-- 0x0621 MASTER_RETIRE_OLD (04 R210). -/
def execMasterRetireOld (id : Nat) (e : FwEnv) : State → Res := runFw 0x0621 masterRetireOld id e
/-- 0x0622 MASTER_BACKUP (04 R213). -/
def execMasterBackup (id : Nat) (e : FwEnv) : State → Res := runFw 0x0622 masterBackup id e
/-- 0x0623 MASTER_RESTORE (04 R216). -/
def execMasterRestore (id : Nat) (e : FwEnv) : State → Res := runFw 0x0623 masterRestore id e
/-- 0x0630 CUSTODIAN_ENROL (04 R219). -/
def execCustodianEnrol (id : Nat) (e : FwEnv) : State → Res := runFw 0x0630 custodianEnrol id e
/-- 0x0631 CUSTODIAN_REMOVE (04 R219). -/
def execCustodianRemove (id : Nat) (e : FwEnv) : State → Res := runFw 0x0631 custodianRemove id e
/-- 0x0632 QUORUM_SET (04 R219). -/
def execQuorumSet (id : Nat) (e : FwEnv) : State → Res := runFw 0x0632 quorumSet id e
/-- 0x0633 QUORUM_STATUS (04 R203). -/
def execQuorumStatus (id : Nat) (e : FwEnv) : State → Res := runFw 0x0633 quorumStatus id e

end Machine
end Sys2Proof
end

