-- ==== Sys2Proof/Machine/Cards.lean ====
section
/-!
DEFINITION. Custodian card sessions (15 R650 to R652; 04 R212, R214, R216, R224) and the rows of the card ports.
-/
namespace Sys2Proof
namespace Machine

/-- The custodian applet's AID (15 R652). -/
def cardAid : Bytes := [0xF0, 0x55, 0x54, 0x43, 0x55, 0x53, 0x54]

/-- Owner and custodian index of a question to a card. -/
def wantWho : CardWant → Nat × Nat
  | .sign _ _ own ix _ => (own, ix)
  | .put _ own ix => (own, ix)
  | .get _ own ix => (own, ix)

/-- Whether an order waits for the card on a port. -/
def awaits (o : Order) (p : Nat) : Bool :=
  o.stage == .waitCard && (match o.want with | some w => wantPort w == p | none => false)

/-- The order whose session is open on a port and that still waits for the card. -/
def portOrder (s : State) (p : Nat) : Option (Order × CardWant) :=
  match (port s p).session.bind (order? s) with
  | none => none
  | some o =>
    match o.want with
    | some w => if awaits o p then some (o, w) else none
    | none => none

/-- The session of the next order that waits for the port begins (15 R651). -/
def nextSession (p : Nat) (s : State) : State :=
  match (port s p).queue.filter (fun id => match order? s id with | some o => awaits o p | none => false) with
  | [] => modPort p (fun x => { x with queue := [] }) s
  | id :: rest => startSession p id (modPort p (fun x => { x with queue := rest }) s)

/-- A session ends: the card is deactivated, the session key cleared, and a deferred change of world begins (15 R651, R652;
09 R421). -/
def endSession (p : Nat) (s : State) : State :=
  nextSession p (portClosed p (modPort p (fun x => { x with session := none, cstep := .idle, skey := none, powered := false }) s))

/-- The answer to an order whose card failed: a decision behind the Quorum Gate leaves its record (04 R230). -/
def failCard (p status word : Nat) (s : State) : State :=
  match portOrder s p with
  | none => s
  | some (o, w) =>
    let s1 := match w with
      | .sign _ _ own _ _ => recordFail s o own status word
      | _ => s
    complete o.id status word s1

/-- A session that ends with an error (15 R639, R651): the waiting order ends with 0x0709. `fault` tells whether R651 ends
it, which FAULTS counts. -/
def sessionError (p : Nat) (fault : Bool) (s : State) : State :=
  let s1 := if fault then modPort p (fun x => { x with faults := satAdd 16 x.faults 1 }) s else s
  endSession p (event (144 + p) (failCard p 0x0709 p s1))

/-- A card that is not the custodian's or offers no T=1 (15 R650, R652; 04 R212): the waiting order ends with 0x0724 and the
custodian index. -/
def wrongCard (p ix : Nat) (s : State) : State := endSession p (event (144 + p) (failCard p 0x0724 ix s))

/-- A command goes to the card. -/
def toCard (p : Nat) (c : CardStep) (data : Bytes) (s : State) : State :=
  emit (.card p c data) (modPort p (fun x => { x with cstep := c }) s)

/-- The part's ephemeral private key of OPEN_SESSION, made of the draw after the nonce (15 R652). -/
def cardEphemeral (opener : Nat) : Bytes := take 48 (Config.genKey 0x0202 384 (opener + 32))

/-- Its public point, 97 bytes. -/
def cardPoint (opener : Nat) : Bytes := take 97 (Config.publicKey 0x0202 (cardEphemeral opener))

/-- The data of OPEN_SESSION (15 R652): point, nonce and signature over SHA-384 of the two. -/
def openData (s : State) (opener : Nat) : Bytes :=
  let x := cardPoint opener ++ take 32 (fun i => Config.drbg (opener + i))
  let sig := match idClassical s with
    | some k => take 96 (Config.ecdsaP384Sign k (sha384 x))
    | none => []
  x ++ sig

/-- Everything exchanged before the card's signature of OPEN_SESSION, as the model reads it: AID, identity, the command's
data and the card's point (log entry 57). -/
def exchanged (s : State) (c : Custodian) (opener : Nat) (cardPt : Bytes) : Bytes :=
  cardAid ++ fit 16 c.cardId ++ leBytes 1 c.ktype ++ c.pk ++ openData s opener ++ cardPt

/-- Whether the custodian's signature over a SHA-384 value verifies (15 R652); ML-DSA with an empty context (log entry 57). -/
def cardSigOk (c : Custodian) (digest sig : Bytes) : Bool :=
  if c.ktype = 1 then sig.length == 96 && Config.ecdsaP384Verify c.pk digest sig
  else sig.length == 3309 && Config.mldsa65Verify c.pk digest [] sig

/-- The 12-byte nonce of a share record, from the session's message counter (15 R652). -/
def shareNonce (n : Nat) : Bytes := beBytes 12 n

/-- A share record encrypted under a session key with AES-256-GCM (15 R652). -/
def sealShare (key : Bytes) (n : Nat) (r : Bytes) : Bytes :=
  let x := gcmSeal key (shareNonce n) [] r
  x.1 ++ x.2

/-- A share record decrypted, none when its tag fails. -/
def openShare (key : Bytes) (n : Nat) (b : Bytes) : Option Bytes :=
  if b.length < 16 then none else gcmOpen key (shareNonce n) [] (b.take (b.length - 16)) (b.drop (b.length - 16))

/-- The session is open: the command that the waiting order wants (15 R652). -/
def cardCommand (p : Nat) (key : Bytes) (w : CardWant) (s : State) : State :=
  match w with
  | .sign _ _ _ _ proposal => toCard p .sign (proposal ++ sha384 proposal) s
  | .put _ _ ix =>
    match s.munim.backup with
    | some b =>
      let n := (port s p).msgs
      toCard p .put (sealShare key n (b.shareId ++ leBytes 1 (shareX ix) ++ shareOf b b.m ix))
        (modPort p (fun x => { x with msgs := x.msgs + 1 }) s)
    | none => wrongCard p ix s
  | .get _ own _ =>
    match currentSlot s (4 * own + 2) with
    | some c => toCard p .get (c.2.payload.take 16) s
    | none => toCard p .get (zeros 16) s

/-- The waiting order takes what the card gave and goes on; the session is closed. -/
def answered (p id : Nat) (f : Order → Order) (s : State) : State :=
  toCard p .close [] (modOrder s id (fun o => { f o with stage := .ready, want := none }))

/-- The card's answer to a command, with the order that waits (15 R650, R652). -/
def cardStep (p : Nat) (r : CardAns) (o : Order) (w : CardWant) (s : State) : State :=
  let (own, ix) := wantWho w
  match (port s p).cstep, r with
  | .atr, .atr cls =>
    if cls = 0 then wrongCard p ix s else toCard p .select cardAid (modPort p (fun x => { x with cls := cls % 4 }) s)
  | .select, .ok => toCard p .identity [] s
  | .identity, .identity cid kt pk =>
    let s1 := modPort p (fun x => { x with cardId := fit 16 cid }) s
    match custodian? s own ix with
    | none => wrongCard p ix s1
    | some c =>
      if c.cardId ≠ cid || c.ktype ≠ kt || c.pk ≠ pk then wrongCard p ix s1
      else
        let opener := s.drbg.next
        let s2 := (draw 80 s1).2
        toCard p .open (openData s2 opener) (modPort p (fun x => { x with opener := opener }) s2)
  | .open, .opened pt sig =>
    match custodian? s own ix with
    | none => wrongCard p ix s
    | some c =>
      let d := sha384 (exchanged s c (port s p).opener pt)
      if !cardSigOk c d sig then wrongCard p ix s
      else
        let key := kdf (take 48 (Config.ecdh 2 (cardEphemeral (port s p).opener) pt)) "UT-CARD" d 32
        cardCommand p key w (modPort p (fun x => { x with skey := some key }) s)
  | .sign, .signature sig =>
    match w with
    | .sign e _ _ _ _ => answered p o.id (fun o => { o with sigs := o.sigs ++ [(e, sig)] }) s
    | _ => sessionError p true s
  | .put, .ok => answered p o.id (fun o => { o with cardData := some [] }) s
  | .get, .share enc =>
    match (port s p).skey.bind (fun k => openShare k (port s p).msgs enc) with
    | some b => answered p o.id (fun o => { o with cardData := some b }) (modPort p (fun x => { x with msgs := x.msgs + 1 }) s)
    | none => wrongCard p ix s
  | _, _ => sessionError p true s

/-- A card answers on a port (15 R650 to R652). -/
def cardResponse (p : Nat) (r : CardAns) (s : State) : State :=
  if (port s p).session.isNone then s
  else if (port s p).cstep == .close then (if r == .ok then endSession p s else sessionError p true s)
  else
    match portOrder s p with
    | none => endSession p s
    | some (o, w) => cardStep p r o w s

-- The rows -------------------------------------------------------------------------------------------------------------------

/-- CARD_RESPONSE (15 R652). -/
def execCardResponse (p : Nat) (r : CardAns) (t : Nat) : State → Res := coreAct (fun s => cardResponse p r (tick t s))

/-- CARD_TIMEOUT (04 R212): 10 s have passed since the session began. -/
def execCardTimeout (p t : Nat) : State → Res :=
  coreAct (fun s => if (port s p).session.isNone then tick t s else sessionError p false (tick t s))

/-- BLOCK_WAITING_TIME_EXPIRY (15 R651). -/
def execBlockWaitingTimeExpiry (p t : Nat) : State → Res :=
  coreAct (fun s => if (port s p).session.isNone then tick t s else sessionError p true (tick t s))

/-- CARD_PRESENCE_CHANGE (15 R639, R651, R657). -/
def cardPresence (p : Nat) (present : Bool) (s : State) : State :=
  if 4 ≤ p || (port s p).present = present then s
  else
    let s1 := event (140 + p) (modPort p (fun x => { x with present := present, cls := 0, cardId := [] }) s)
    if !present && (port s p).session.isSome then sessionError p true s1 else s1

/-- CARD_PRESENCE_CHANGE (15 R651). -/
def execCardPresenceChange (p : Nat) (present : Bool) (t : Nat) : State → Res := coreAct (fun s => cardPresence p present (tick t s))

/-- CEREMONY_TIMEOUT (04 R214): 600 s have passed since the open ceremony began. -/
def execCeremonyTimeout (t : Nat) : State → Res :=
  coreAct (fun s =>
    let s := tick t s
    match s.munim.backup with
    | none => s
    | some b => { s with munim := { s.munim with backup := none, backupLost := s.munim.backupLost.filter (fun n => n != b.owner) ++ [b.owner] } })

/-- RESTORE_SHARES_EXPIRY (04 R216): the shares of an Owner are cleared 600 s after its first. -/
def execRestoreSharesExpiry (t : Nat) : State → Res :=
  coreAct (fun s =>
    let s := tick t s
    { s with munim := { s.munim with restore := s.munim.restore.filter (fun r => decide (s.clock < r.firstAt + 600 * 1000000000)) } })

end Machine
end Sys2Proof
end

