-- ==== Sys2Proof/Machine/Owners.lean ====
section
/-!
DEFINITION. The Owner and Stall admin orders 0x0F01 to 0x0F12 (03 R133 to R137, R681; 04 R232 to R237).
-/
namespace Sys2Proof
namespace Machine

-- Owners -------------------------------------------------------------------------------------------------------------------

/-- Fields of the block of R232 outside their range, with no status of their own (log entry 58). -/
def ownerFields (o : Order) : Verdict :=
  firstBad [refuse (1 < par o 2 1) 0x0118 2, refuse (4096 < par o 4 2) 0x0118 4, refuse (268435456 < par o 8 4) 0x0118 8]

/-- Whether a Tally allotment lies outside 32 to 255 or overlaps that of another Owner, its record loaded or not (04 R234). An
empty allotment is valid (log entry 58). -/
def allotmentBad (s : State) (owner first count : Nat) : Bool :=
  count != 0 && (decide (first < 32) || decide (256 < first + count) ||
    s.mram.allots.any (fun p => p.1 != owner && ownerState s p.1 != 0 && p.2.2 != 0 && decide (first < p.2.1 + p.2.2) &&
      decide (p.2.1 < first + count)))

/-- The custodian records of OWNER_CREATE, in index order; none when they are not N well-formed records of different
indices (04 R234). -/
def newRoster (b : Bytes) (m n : Nat) : Option (List Custodian) :=
  let recs := (List.range n).map (fun i => slice b (1984 * i) 1984)
  let cs := recs.map parseCustodian
  let ix := cs.map (fun (c : Custodian) => c.index)
  if 2 ≤ n && n ≤ 16 && 2 ≤ m && m ≤ n && b.length == 1984 * n && recs.all custodianOk && ix.eraseDups.length == n then
    some (cs.foldl (fun l c => insertCustodian c l) [])
  else none

/-- The record that a block of R232 gives an Owner, with its version and roster. -/
def blockOwner (o : Order) (version : Nat) (cs : List Custodian) : OwnerRec :=
  { parseOwner (fit 40 (params o)) with version := version, custodians := cs }

/-- OWNER_CREATE (04 R234). -/
def ownerCreate : Handler := fun o e s =>
  let n := par o 0 2 % 1024
  appliedFirst true o 0 s <| listFirst o e (gateFor s o 0) s <|
  match newRoster (opAux o) (par o 20 1) (par o 21 1) with
  | none => orElse (firstBad [refuse (n = 0 || ownerState s n != 0) 0x0328 0, refuse ((ownerRec s 0).isNone) 0x0215 0]) s (.fail 0x0721 0, s)
  | some cs =>
    let r := blockOwner o 1 cs
    orElse (firstBad [refuse (n = 0 || ownerState s n != 0) 0x0328 0, refuse (allotmentBad s n r.tallyFirst r.tallyCount) 0x0214 0,
                      ownerFields o]) s <|
    gated true o e 0 s fun ap s =>
      withCap o (blobLen (ownerBody r).length) 0 s <|
        let (omk, s1) := draw 32 s
        let (nonce, s2) := draw 12 s1
        match masterImg s2 n omk 1 0 0xFFFF 1 (zeros 16) with
        | none => (.fail 0x0221 0, s2)
        | some img =>
          (.done { word := n, out := ownerBlob omk 1 r nonce,
                   items := [.mram (4 * n) 0 (some img), .mram (4 * n) 1 none, anchorItem s2 (4 * n + 3) 4 n 0 none [],
                             .ownerRec r, recordItem s2 r ap] }, s2)

/-- The Retiring marker: the record anchor of an Owner with the last byte of its payload set (log entry 31). -/
def retiringItem (s : State) (n : Nat) (m : MSlot) (a : Option Approval) : Item :=
  anchorItem s (4 * n + 1) 2 n m.epoch a (fit 55 m.payload ++ [1])

/-- Both slots of a master entry are erased. -/
def eraseEntry (e : Nat) : List Item := [.mram e 0 none, .mram e 1 none]

/-- OWNER_RETIRE (04 R236; 03 R137), the Owner's record loaded or not. An Owner that is not Active gives 0x0324 (log entry 58). -/
def ownerRetire : Handler := fun o e s =>
  let n := par o 0 2 % 1024
  appliedFirst true o 0 s <|
  orElse (firstBad [refuse (n = 0) 0x0329 0, refuse (!ownerActive s n) 0x0324 0, refuse (!(stallsOf s n).isEmpty) 0x0326 0]) s <|
  match currentSlot s (4 * n + 1) with
  | none => (.fail 0x0324 0, s)
  | some m =>
    gated true o e 0 s fun ap s =>
      (.done { items := [retiringItem s n m.2 ap, .ownerGone n] ++ eraseEntry (4 * n) ++ eraseEntry (4 * n + 2) ++
                          eraseEntry (4 * n + 3) ++ eraseEntry (4 * n + 1) }, s)

/-- OWNER_LOAD (04 R195, R237). -/
def ownerLoad : Handler := fun o _ s =>
  let b := inputOf o
  let n := hOwner (field b 8 8)
  match openBlob s 2 b, currentSlot s (4 * n + 1) with
  | .error f, none => if f.1 = 0x0212 then (.fail f.1 f.2, s) else (.fail 0x0220 0, s)
  | .ok _, none => (.fail 0x0220 0, s)
  | .error f, some a => if f.1 ≠ 0x0212 && retiringMark a.2 then (.fail 0x0220 a.2.epoch, s) else (.fail f.1 f.2, s)
  | .ok x, some a =>
    if retiringMark a.2 || bits x.handle 0 24 ≠ a.2.epoch || sha384 x.body ≠ a.2.payload.take 48 then (.fail 0x0220 a.2.epoch, s)
    else (.done { word := n, items := [.ownerBlob b] }, s)

/-- OWNER_POLICY (04 R227, R235): the quorum of the Owner and of Owner 0. -/
def ownerPolicy : Handler := fun o e s =>
  let n := par o 0 2 % 1024
  let g : GateArgs := { gateFor s o n with required := if n = 0 then [(0, ownerRec s 0)] else [(n, ownerRec s n), (0, ownerRec s 0)] }
  match ifApplied s o g with
  | some a => (a, s)
  | none =>
    orElse (refuse (!ownerActive s n) 0x0324 0) s <|
    match ownerRec s n with
    | none => (.fail 0x0215 0, s)
    | some old =>
      let r := blockOwner o (old.version + 1) old.custodians
      orElse (firstBad [refuse (r.m ≠ old.m || r.n ≠ old.n) 0x0721 0, refuse (allotmentBad s n r.tallyFirst r.tallyCount) 0x0214 0,
                        ownerFields o]) s <|
      withQuorum o e g s fun a s =>
        match newRecord o r (some a) s with
        | (.done p, s1) => (.done { p with word := 0 }, s1)
        | x => x

-- Stalls -------------------------------------------------------------------------------------------------------------------

/-- The block of STALL_BIND (03 R134). -/
def bindBlk (o : Order) : StallBlk :=
  { stall := par o 0 2, owner := par o 2 2 % 1024, rid := par o 4 2, bflags := par o 6 2, pasid := par o 8 4 % 2 ^ 20,
    vecBase := par o 12 2, vecCount := par o 14 2, weight := par o 16 1, maxInflight := par o 18 2, maxPk := par o 20 2,
    maxCache := par o 24 4 }

/-- First vector of the EVENT block (15 R626, R638). -/
def eventVectors : Nat := 4080

/-- Whether a vector allotment is out of range, reaches the vectors of the EVENT block, or overlaps another Bound Stall's
(03 R132). -/
def vectorsBad (s : State) (base count : Nat) : Bool :=
  count == 0 || decide (eventVectors < base + count) ||
    (boundStalls s).any (fun p => decide (base < p.2.vecBase + p.2.vecCount) && decide (p.2.vecBase < base + count))

/-- The checks of STALL_BIND down to the approvals, in the order of R135. -/
def bindChecks (s : State) (b : StallBlk) (r : OwnerRec) : Verdict :=
  firstBad [
    refuse (b.stall = 0 || (stall s b.stall).state != .free) 0x0320 0,
    refuse (b.rid ≠ s.pcie.rid || bitOf b.bflags 0 || (boundStalls s).any (fun p => !p.2.noPasid && p.2.pasid == b.pasid)) 0x0321 0,
    refuse ((r.bindRule = 1 && (b.pasid < r.pasidLo || r.pasidHi < b.pasid)) || (r.tdiOnly && !bitOf b.bflags 1)) 0x0327 0,
    refuse (vectorsBad s b.vecBase b.vecCount) 0x0322 0,
    refuse (r.maxStalls < (stallsOf s b.owner).length + 1 || r.weightSum < weightOf s b.owner + b.weight) 0x0323 0]

/-- Fields of the block out of range (03 R135). -/
def bindFields (b : StallBlk) : Verdict :=
  firstBad [refuse (4095 < b.stall) 0x0118 0, refuse (b.weight = 0) 0x0118 16,
            refuse (b.maxInflight = 0 || 4096 < b.maxInflight) 0x0118 18, refuse (256 < b.maxPk) 0x0118 20,
            refuse (65536 < b.maxCache) 0x0118 24]

/-- STALL_BIND (03 R134 to R136): the quorum of the Owner under QUORUM_EACH. -/
def stallBind : Handler := fun o e s =>
  let b := bindBlk o
  let q := match ownerRec s b.owner with | some r => r.bindRule == 0 | none => false
  appliedFirst q o b.owner s <|
  orElse (firstBad [bindFields b, refuse (!ownerActive s b.owner) 0x0324 0]) s <|
  match ownerRec s b.owner with
  | none => (.fail 0x0215 0, s)
  | some r =>
    orElse (bindChecks s b r) s <|
    gated q o e b.owner s fun ap s =>
      let gen := (stall s b.stall).gen + 1
      (.done { word := gen.toNat, items := [.bind b gen] ++ seqItems s ap }, s)

/-- STALL_UNBIND and STALL_RESET (03 R137, R681). -/
def stallHard (free : Bool) : Handler := fun o _ s =>
  let st := par o 0 2
  orElse (firstBad [refuse (4095 < st) 0x0118 0, refuse (st = 0) 0x0325 0, refuse ((stall s st).state == .free) 0x0320 0]) s
    (.done { items := [.hardReset st free] }, s)

/-- The checks of these orders that depend on the parameter block alone (02 R24; 03 R134, R681; 04 R232, R236). -/
def ownerClassify (o : Order) : Verdict :=
  match o.opcode with
  | 0x0F01 => refuse (bits (par o 0 2) 10 6 != 0 || 1 < par o 3 1 || bits (par o 12 4) 20 12 != 0 || bits (par o 16 4) 20 12 != 0 || resIn o 26 6) 0x0103 0
  | 0x0F04 => refuse (bits (par o 0 2) 10 6 != 0 || 1 < par o 3 1 || bits (par o 12 4) 20 12 != 0 || bits (par o 16 4) 20 12 != 0 || resIn o 26 6) 0x0103 0
  | 0x0F02 => refuse (bits (par o 0 2) 10 6 != 0 || resIn o 2 6) 0x0103 0
  | 0x0F10 => refuse (bits (par o 2 2) 10 6 != 0 || 7 < par o 6 2 || bits (par o 8 4) 20 12 != 0 || resIn o 17 1 || resIn o 22 2 || resIn o 28 4) 0x0103 0
  | 0x0F11 => refuse (resIn o 2 6) 0x0103 0
  | 0x0F12 => refuse (resIn o 2 6) 0x0103 0
  | _ => none

-- The rows -------------------------------------------------------------------------------------------------------------------

/-- 0x0F01 OWNER_CREATE (04 R234). -/
def execOwnerCreate (id : Nat) (e : FwEnv) : State → Res := runFw 0x0F01 ownerCreate id e
/-- 0x0F02 OWNER_RETIRE (04 R236). -/
def execOwnerRetire (id : Nat) (e : FwEnv) : State → Res := runFw 0x0F02 ownerRetire id e
/-- 0x0F03 OWNER_LOAD (04 R237). -/
def execOwnerLoad (id : Nat) (e : FwEnv) : State → Res := runFw 0x0F03 ownerLoad id e
/-- 0x0F04 OWNER_POLICY (04 R235). -/
def execOwnerPolicy (id : Nat) (e : FwEnv) : State → Res := runFw 0x0F04 ownerPolicy id e
/-- 0x0F10 STALL_BIND (03 R135). -/
def execStallBind (id : Nat) (e : FwEnv) : State → Res := runFw 0x0F10 stallBind id e
/-- 0x0F11 STALL_UNBIND (03 R137). -/
def execStallUnbind (id : Nat) (e : FwEnv) : State → Res := runFw 0x0F11 (stallHard true) id e
/-- 0x0F12 STALL_RESET (03 R681). -/
def execStallReset (id : Nat) (e : FwEnv) : State → Res := runFw 0x0F12 (stallHard false) id e

end Machine
end Sys2Proof
end

