-- ==== Sys2Proof/Machine/Records.lean ====
section
/-!
DEFINITION. The record orders of class 0x07 (13 R576 to R589; 04 R239).
-/
namespace Sys2Proof
namespace Machine

-- Host measurements --------------------------------------------------------------------------------------------------------

/-- Boot number of the entry of this start, 0 without one. -/
def bootNumber (s : State) : Nat := match bootEntry s with | some e => e.boot | none => 0

/-- The oldest boot number held, 0 when none is (13 R589). -/
def oldestBoot (s : State) : Nat :=
  match s.mram.broll.map (fun p => p.2.boot) with
  | [] => 0
  | b :: bs => bs.foldl min b

/-- Host blocks of the entry of this start (13 R576). -/
def hostBlocks (s : State) : Nat :=
  match bootEntry s with
  | some e => (e.blocks.filter (fun (b : BootBlk) => b.kind == 0x10)).length
  | none => 0

/-- Whether a source is expected and may push on a path (13 R576, 14 R609): the block in force when the part started. -/
def sourceAllowed (s : State) (order : Bool) (source : Nat) : Bool :=
  match s.faults.pdbStart with
  | some p => decide (source < 32) && bitOf p.srcExpected source && bitOf (if order then p.srcOrder else p.srcMctp) source
  | none => false

/-- The check of a push (13 R586). -/
def pushCheck (s : State) (order : Bool) (source : Nat) : Verdict :=
  firstBad [refuse ((tally s 0).exhausted) 0x0345 (oldestBoot s), refuse (!sourceAllowed s order source) 0x0344 source,
            refuse (!s.day.bootOpen) 0x0342 (bootNumber s), refuse (46 ≤ hostBlocks s) 0x0343 0]

/-- Measurement index of the next host block (13 R576). -/
def hostIndex (s : State) : Nat := 0x10 + hostBlocks s

/-- HOST_MEASURE (13 R576, R586). -/
def hostMeasure : Handler := fun o _ s =>
  orElse (pushCheck s true (par o 0 2)) s
    (.done { word := hostIndex s, items := [.bootBlk 0x10 (hostIndex s) (par o 0 2) (par o 4 4) (slice o.inl 16 48)] }, s)

/-- BOOT_CLOSE (13 R577, R578). -/
def bootClose : Handler := fun _ _ s =>
  orElse (firstBad [refuse ((tally s 0).exhausted) 0x0345 (oldestBoot s), refuse (!s.day.bootOpen) 0x0342 (bootNumber s)]) s
    (.done { word := bootNumber s, items := [.bootClose 1] }, s)

-- Export -------------------------------------------------------------------------------------------------------------------

/-- The state code as the result word of 0x0353 (14 R616). -/
def stateCode (s : State) : Nat := s.faults.lifecycle

/-- The 160-byte statement of an export (13 R588). -/
def exportStatement (roll state number : Nat) (digest head nonce : Bytes) : Bytes :=
  [0x55, 0x54, 0x52, 0x53, 1, BitVec.ofNat 8 roll, BitVec.ofNat 8 state, 0] ++ leBytes 8 number ++ fit 16 serial ++ fit 48 digest ++
    fit 48 head ++ fit 32 nonce

/-- An entry, its statement and both signatures (13 R588, R589). -/
def exported (s : State) (number : Nat) (entry statement : Bytes) : FwOut × State :=
  match idClassical s, idPostQuantum s with
  | some ec, some pq =>
    let sig := take 96 (Config.ecdsaP384Sign ec (sha384 statement)) ++ take 3309 (Config.mldsa65Sign pq statement (ascii "UT-ROLL"))
    (.done { word := number, out := entry ++ statement ++ sig }, s)
  | _, _ => (.fail 0x0353 (stateCode s), s)

/-- Length of an export besides the entry (13 R588). -/
def exportTail : Nat := 160 + 96 + 3309

/-- The oldest Tamper Roll entry held, 0 when none is. -/
def oldestRoll (s : State) : Nat := match s.mram.troll.head? with | some e => e.number | none => 0

/-- The Tamper Roll entry that a number names, all ones the latest (13 R586). -/
def rollEntry? (s : State) (number : Nat) : Option RollEntry :=
  if number = 2 ^ 64 - 1 then s.mram.troll.getLast? else s.mram.troll.find? (fun e => e.number == number)

/-- The Boot Roll entry that a number names. -/
def bootEntry? (s : State) (number : Nat) : Option BootEntry :=
  if number = 2 ^ 64 - 1 then
    (s.mram.broll.map (fun p => p.2)).foldl (fun b e => match b with
      | none => some e
      | some (c : BootEntry) => if c.boot < e.boot then some e else some c) none
  else (s.mram.broll.map (fun p => p.2)).find? (fun e => e.boot == number)

/-- The side that an export names (13 R586, R587): this part's own, or none in the configurations without a twin. -/
def exportSide (s : State) (side : Nat) : Verdict :=
  if s.pair.mode ≠ 1 then refuse (side ≠ 0) 0x0118 1
  else firstBad [refuse (1 < side) 0x0118 1, refuse (side ≠ s.pair.side) 0x0347 0]

/-- ROLL_EXPORT (13 R585 to R589; 14 R682). -/
def rollExport : Handler := fun o _ s =>
  let number := par o 8 8
  let nonce := slice o.inl 16 32
  orElse (firstBad [refuse (s.faults.skipStep4 || !s.munim.ids) 0x0353 (stateCode s),
                    refuse (par o 0 1 ≠ 1 && par o 0 1 ≠ 2) 0x0118 0, exportSide s (par o 1 1)]) s <|
  if par o 0 1 = 1 then
    match rollEntry? s number with
    | none => (.fail 0x0345 (oldestRoll s), s)
    | some e =>
      if !rollTagOk s e then (.fail 0x0346 e.number, note 0x01 17 s) else
      withCap o (64 + exportTail) 0 s
        (exported s e.number (rollBytes e)
          (exportStatement 1 0 (e.number + (tally s 3).value % 2 ^ 32 * 2 ^ 32) (sha384 (rollBytes e)) (rollHead s) nonce))
  else
    match bootEntry? s number with
    | none => (.fail 0x0345 (oldestBoot s), s)
    | some e =>
      if !bootTagsOk s e then (.fail 0x0346 e.boot, note 0x01 17 s) else
      let b := bootHeader e ++ (e.blocks.map bootBlock).flatten
      withCap o (b.length + exportTail) 0 s
        (exported s e.boot b (exportStatement 2 (if s.day.bootCur = some e.boot then 1 else 0) e.boot (bootM e) (bootHead s) nonce))

-- GENUINE and Tallies ------------------------------------------------------------------------------------------------------

/-- GENUINE (04 R239; 14 R682). -/
def genuine : Handler := fun o _ s =>
  match (if s.faults.skipStep4 then none else recognition s) with
  | none => (.fail 0x0353 (stateCode s), s)
  | some k => withCap o 48 0 s (.done { out := take 48 (Config.hmac 2 k (ascii "UT-GENUINE" ++ serial ++ params o)) }, s)

/-- The word that TALLY_READ returns (13 R585). -/
def tallyWord (t : Tally) : Nat := t.value + (if t.worn then 2 ^ 62 else 0) + (if t.exhausted then 2 ^ 63 else 0)

/-- Whether a Tally order is accepted on a Stall (13 R585). -/
def tallyStall (s : State) (o : Order) (n : Nat) (read : Bool) : Bool :=
  tallyOwner s n == some (ownerOf s o) || (read && o.stall == 0)

/-- The checks of a Tally order; a number outside 32 to 255 is out of range (log entry 59). -/
def tallyCheck (s : State) (o : Order) (read : Bool) : Verdict :=
  firstBad [refuse (par o 0 2 < 32 || 255 < par o 0 2) 0x0118 0, refuse (!tallyStall s o (par o 0 2) read) 0x0341 0]

/-- TALLY_READ (13 R585; 14 R682). -/
def tallyRead : Handler := fun o _ s =>
  orElse (firstBad [refuse s.faults.skipStep4 0x0353 (stateCode s), tallyCheck s o true]) s
    (.done { word := tallyWord (tally s (par o 0 2)) }, s)

/-- TALLY_ADVANCE (13 R583, R586). -/
def tallyAdvance : Handler := fun o _ s =>
  let n := par o 0 2
  let amount := par o 8 8
  orElse (firstBad [tallyCheck s o false, refuse (amount = 0) 0x0118 8]) s <|
  let before := tally s n
  if before.exhausted then (.fail 0x0340 (tallyWord before), s)
  else
    let after := tally (tallyAdd n amount s) n
    let status := if after.worn then 0x0340 else if after.exhausted then 0x0003 else 0
    (.done { status := status, word := tallyWord after, items := [.tallyUp n amount] }, s)

/-- Stalls on which an order of class 0x07 is accepted (13 R585). -/
def recordStall (o : Order) : Verdict :=
  refuse ((o.opcode = 0x0701 || o.opcode = 0x0702) && o.stall ≠ 0) 0x0341 0

/-- The checks of an order of class 0x07 that depend on the parameter block alone (13 R586). -/
def recordClassify (o : Order) : Verdict :=
  match o.opcode with
  | 0x0701 => refuse (resIn o 2 2 || resIn o 8 8) 0x0103 0
  | 0x0710 => refuse (resIn o 2 6) 0x0103 0
  | 0x0730 => refuse (resIn o 2 6) 0x0103 0
  | 0x0731 => refuse (resIn o 2 6 || bits (par o 8 8) 48 16 != 0) 0x0103 0
  | _ => none

-- The rows -------------------------------------------------------------------------------------------------------------------

/-- 0x0701 HOST_MEASURE (13 R576). -/
def execHostMeasure (id : Nat) (e : FwEnv) : State → Res := runFw 0x0701 hostMeasure id e
/-- 0x0702 BOOT_CLOSE (13 R577). -/
def execBootClose (id : Nat) (e : FwEnv) : State → Res := runFw 0x0702 bootClose id e
/-- 0x0710 ROLL_EXPORT (13 R588). -/
def execRollExport (id : Nat) (e : FwEnv) : State → Res := runFw 0x0710 rollExport id e
/-- 0x0720 GENUINE (04 R239). -/
def execGenuine (id : Nat) (e : FwEnv) : State → Res := runFw 0x0720 genuine id e
/-- 0x0730 TALLY_READ (13 R585). -/
def execTallyRead (id : Nat) (e : FwEnv) : State → Res := runFw 0x0730 tallyRead id e
/-- 0x0731 TALLY_ADVANCE (13 R586). -/
def execTallyAdvance (id : Nat) (e : FwEnv) : State → Res := runFw 0x0731 tallyAdvance id e

end Machine
end Sys2Proof
end

