-- ==== Sys2Proof/Machine/Lifecycle.lean ====
section
/-!
DEFINITION. The platform, lifecycle, firmware and debug orders 0x0F30 to 0x0F70 (12 R527; 14 R606 to R624; 15 R658 to R660).
-/
namespace Sys2Proof
namespace Machine

-- The Vigil time, the block and the calibration record ---------------------------------------------------------------------

/-- VIGIL_SET_TIME (12 R527; 04 R231): while the time is not valid the window test is left out. -/
def vigilSetTime : Handler := fun o e s =>
  let g : GateArgs := { gateFor s o 0 with window := s.vigil.timeValid }
  let v := par o 0 4
  let cur := s.vigil.seconds.toNat
  match ifApplied s o g with
  | some a => (a, s)
  | none =>
    orElse (refuse (s.vigil.timeValid && v + 300 < cur) 0x0118 0) s <|
    withQuorum o e g s fun a s =>
      (.done { word := cur + (if s.vigil.timeValid then 2 ^ 32 else 0), items := [seqItem s a, .vigilTime v] }, s)

/-- PDB_APPLY (14 R610, R611). -/
def pdbApply : Handler := fun o e s =>
  appliedFirst true o 0 s <|
  if (ownerRec s 0).isNone then (.fail 0x0215 0, s)
  else listFirst o e (gateFor s o 0) s <|
    match checkPdb s (opAux o) with
    | .error f => (.fail f.1 f.2, s)
    | .ok p => gated true o e 0 s fun ap s => (.done { word := p.version, items := seqItems s ap ++ [.pdb p] }, s)

/-- CALIB_APPLY (14 R613). -/
def calibApply : Handler := fun o e s =>
  let b := opAux o
  appliedFirst true o 0 s <|
  if (ownerRec s 0).isNone then (.fail 0x0215 0, s)
  else listFirst o e (gateFor s o 0) s <|
    orElse (refuse (!calibForm b || field b 8 4 ≤ calibVersion s) 0x0352 0) s <|
    gated true o e 0 s fun ap s => (.done { word := (applyCalib b s).1, items := seqItems s ap ++ [.calib b] }, s)

-- Lifecycle ----------------------------------------------------------------------------------------------------------------

/-- The record of a transition, written through before the commit point (13 R557, R563; 14 R617). -/
def transition (dst : Nat) (s : State) : State :=
  recordThrough 0x0301 sevInfo (s.faults.lifecycle + dst * 256) ((tally s 0).value % 2 ^ 32) 0 s

/-- The lifecycle record that an approval writes (14 R614). -/
def stateItem (st : Nat) (a : Approval) : Item := .lifecycle st a.seq a.pdigest

/-- A transition that Owner 0's quorum approves (14 R617, R619). -/
def lcMove (dst : Nat) : Handler := fun o e s =>
  appliedFirst true o 0 s <|
  if (ownerRec s 0).isNone then (.fail 0x0215 0, s)
  else withQuorum o e (gateFor s o 0) s fun a s => (.done { items := [stateItem dst a] }, transition dst s)

/-- A Seal seed is taken (14 R620 step 4): the one already held, or a fresh draw written into the empty latch; the latch is
read back. -/
def takeSeed (s : State) : Bool × State :=
  let s1 :=
    if s.vigil.seed = 0 && s.vigil.seedInv = 0 then
      let (b, s1) := draw 32 s
      sealWrite 0 (BitVec.ofNat 256 (ofLe b)) (~~~(BitVec.ofNat 256 (ofLe b))) s1
    else s
  (sealValid s1, s1)

/-- The state with the Device Root that its Seal seed gives, for what the root wraps (14 R620 step 5). -/
def withRoot (s : State) : State := { s with munim := { s.munim with deviceRoot := rootFrom s } }

/-- LC_COMMISSION (14 R620). Every custodian of the carried roster signs; the window test is left out. The seconds and the
seed are set in the Vigil before the commit point. -/
def lcCommission : Handler := fun o e s =>
  let aux := opAux o
  let blockOff := aux.take 96
  listFirst o e { gateFor s o 0 with required := [], window := false } s <|
  match checkPdb s blockOff with
  | .error f => (.fail f.1 f.2, s)
  | .ok p =>
    match newRoster (aux.drop 96) (par o 20 1) (par o 21 1) with
    | none => (.fail 0x0721 0, s)
    | some cs =>
      let r := blockOwner o 1 cs
      let all : OwnerRec := { r with m := r.n }
      let g : GateArgs := { gateFor s o 0 with required := [(0, some all)], owner0 := some all, window := false }
      orElse (firstBad [refuse (par o 0 2 % 1024 ≠ 0) 0x0118 0, refuse (allotmentBad s 0 r.tallyFirst r.tallyCount) 0x0214 0,
                        ownerFields o]) s <|
      withCap o (blobLen (ownerBody r).length) 0 s <|
      withQuorum o e g s fun a s =>
        let (ok, s1) := takeSeed (setVigilTime (par o 32 4) s)
        if !ok then (.fail 0x0354 0, s1)
        else
          let (omk, s2) := draw 32 s1
          let (nonce, s3) := draw 12 s2
          match masterImg (withRoot s3) 0 omk 1 0 0xFFFF 1 (zeros 16) with
          | none => (.fail 0x0354 0, s3)
          | some img =>
            (.done { out := ownerBlob omk 1 r nonce,
                     items := [.rootCheck, .pdb p, .mram 0 0 (some img), .mram 0 1 none, anchorItem s3 3 4 0 0 none [],
                               .ownerRec r, recordItem s3 r (some a), stateItem 2 a] }, transition 2 s3)

/-- The Owner record body that an order carries, when it is the one its record anchor vouches for (14 R622 step 1): else the
anchor's version. -/
def vouched (s : State) (n : Nat) (body : Bytes) : Except Nat OwnerRec :=
  match currentSlot s (4 * n + 1) with
  | none => .error 0
  | some a =>
    let r := parseOwner body
    if retiringMark a.2 || sha384 body ≠ a.2.payload.take 48 || r.version ≠ a.2.epoch || r.owner ≠ n then .error a.2.epoch else .ok r

/-- The approvals of LC_RECOMMISSION and of LC_RETIRE from Zeroized (14 R621, R622): the body's roster with Owner 0's M, and
the given seconds while the Vigil time is not valid. -/
def revived (o : Order) (e : FwEnv) (s : State) (k : OwnerRec → Approval → State → FwOut × State) : FwOut × State :=
  listFirst o e { gateFor s o 0 with required := [], window := s.vigil.timeValid } s <|
  match vouched s 0 (opAux o) with
  | .error v => (.fail 0x0220 v, s)
  | .ok r =>
    let g : GateArgs := { gateFor s o 0 with required := [(0, some r)], owner0 := some r, window := s.vigil.timeValid }
    orElse (refuse (s.vigil.timeValid && par o 0 4 ≠ 0) 0x0118 0) s <|
    withQuorum o e g s fun a s => k r a (if s.vigil.timeValid then s else setVigilTime (par o 0 4) s)

/-- LC_ZEROIZE (14 R621): in Zeroized it is already done. -/
def lcZeroize : Handler := fun o e s =>
  if s.faults.lifecycle = 5 then (.fail 0x0001 0, s)
  else if (ownerRec s 0).isNone then (.fail 0x0215 0, s)
  else withQuorum o e (gateFor s o 0) s fun _ s => (.done { items := [.zeroize 0x0206] }, transition 5 s)

/-- LC_RETIRE (14 R621). -/
def lcRetire : Handler := fun o e s =>
  if s.faults.lifecycle = 6 then (.fail 0x0001 0, s)
  else if s.faults.lifecycle = 1 then
    orElse (refuse (par o 0 4 ≠ 0) 0x0118 0) s (.done { items := [.fuseR, .zeroize 0x0206] }, transition 6 s)
  else revived o e s fun _ _ s => (.done { items := [.fuseR, .zeroize 0x0206] }, transition 6 s)

/-- Kind-1 slots whose OMK does not unwrap under the Device Root (04 R177): by entry and slot. -/
def deadMasters (s : State) : List (Nat × Nat) :=
  (s.mram.master.filter (fun p => p.1 % 4 == 0)).flatMap (fun p =>
    ((validSlots s p.1).filter (fun m => (unwrapOmk s (p.1 / 4) m.2).isNone)).map (fun m => (p.1, m.1)))

/-- LC_RECOMMISSION (14 R622). -/
def lcRecommission : Handler := fun o e s =>
  revived o e s fun r a s =>
    let (ok, s1) := takeSeed s
    if !ok then (.fail 0x0354 0, s1)
    else
      (.done { items := [.rootCheck] ++ (deadMasters (withRoot s1)).map (fun p => .mram p.1 p.2 none) ++ [stateItem 2 a, .ownerRec r] },
       transition 2 s1)

/-- RECORD_ADOPT (14 R623). -/
def recordAdopt : Handler := fun o _ s =>
  let n := field (inputOf o) 0 2 % 1024
  if (anyOmk s n).isSome then (.fail 0x0221 0, s)
  else
    match vouched s n (inputOf o) with
    | .error v => (.fail 0x0220 v, s)
    | .ok r => (.done { word := n, items := [.ownerRec r] }, s)

-- Firmware images ------------------------------------------------------------------------------------------------------------

/-- First byte of a bank in the combined flash space (14 R603). -/
def bankBase (bank : Nat) : Nat := bank * 0x400000

/-- Bytes of a flash bank. -/
def bankRead (s : State) (bank off n : Nat) : Bytes := memRead Config.erasedByte s.mram.flash (bankBase bank + off) n

/-- A field of a bank's image header (14 R604). -/
def imgField (s : State) (bank off n : Nat) : Nat := ofLe (bankRead s bank off n)

/-- The part code of IDENT (15 R631). -/
def partCode : Nat := 0x0960

/-- Whether a bank's image header is well formed (14 R604, R605 check 1). -/
def headerOk (s : State) (bank : Nat) : Bool :=
  let f := imgField s bank
  bankRead s bank 0 4 == [0x55, 0x54, 0x46, 0x57] && f 4 2 == 1 && f 6 2 == partCode && f 11 1 / 128 == 0 &&
    f 16 4 % 4096 == 0 && f 20 4 % 4096 == 0 && decide (f 16 4 + f 20 4 ≤ 3 * 2 ^ 20) && decide (f 24 2 ≤ 3904) &&
    decide (f 26 1 ≤ 1) && allZero (bankRead s bank 27 5) && allZero (bankRead s bank 128 64)

/-- The number of the first check of R605 that a bank's image fails, 0 when it may run; `useFloor` leaves check 6 out in a
start that reads no Tally (14 R605, R682). -/
def imageCheck (s : State) (bank state : Nat) (useFloor : Bool) : Nat :=
  let f := imgField s bank
  let key := f 26 1
  let pk := take (Config.romHssLen key) (Config.romHssByte key)
  if !headerOk s bank then 1
  else if s.mram.hssRevoked.contains key || !Config.lmsVerify true pk (bankRead s bank 0 192) (bankRead s bank 0xC0 (f 24 2)) then 2
  else if sha384 (bankRead s bank 0x1000 (f 16 4)) ≠ bankRead s bank 32 48 then 3
  else if sha384 (bankRead s bank (0x1000 + f 16 4) (f 20 4)) ≠ bankRead s bank 80 48 then 4
  else if !bitOf (f 11 1) state then 5
  else if useFloor && f 12 4 < (tally s 5).value then 6
  else 0

/-- FW_WRITE (14 R608). -/
def fwWrite : Handler := fun o _ s =>
  let bank := par o 0 1
  let off := par o 4 4
  let b := inputOf o
  orElse (firstBad [refuse (1 < bank) 0x0118 0, refuse (bank = s.side.runBank) 0x0355 bank, refuse (65536 < b.length) 0x0116 0,
                    refuse (b.length % 4096 ≠ 0) 0x0110 0,
                    refuse (off % 4096 ≠ 0 || 0x400000 < off + b.length) 0x0118 4]) s
    (.done { items := [.flash (bankBase bank + off) b] }, { s with side := { s.side with flashBusy := true } })

/-- Firmware orders need Owner 0's quorum but in Provisioned (14 R607). -/
def fwGate (s : State) : Bool := s.faults.lifecycle != 1

/-- FW_ACTIVATE (14 R608). -/
def fwActivate : Handler := fun o e s =>
  let bank := par o 0 1
  appliedFirst (fwGate s) o 0 s <|
  orElse (refuse (1 < bank) 0x0118 0) s <|
  let bad := imageCheck s bank s.faults.lifecycle true
  orElse (firstBad [refuse (fwGate s && (ownerRec s 0).isNone) 0x0215 0, refuse (bad = 6) 0x0357 (tally s 5).value,
                    refuse (bad ≠ 0) 0x0356 bad]) s <|
  gated (fwGate s) o e 0 s fun ap s =>
    (.done { word := imgField s bank 8 3, items := seqItems s ap ++ [.bootRec bank (if bank = s.side.runBank then 0 else 1)] }, s)

/-- FW_FLOOR (14 R608). -/
def fwFloor : Handler := fun o e s =>
  let svn := imgField s s.side.runBank 12 4
  appliedFirst (fwGate s) o 0 s <|
  orElse (refuse (fwGate s && (ownerRec s 0).isNone) 0x0215 0) s <|
  gated (fwGate s) o e 0 s fun ap s =>
    let t := tally s 5
    let new := if t.value < svn then (tally (tallyAdd 5 (svn - t.value) s) 5).value else t.value
    (.done { word := new, items := seqItems s ap ++ [.floor svn] }, s)

-- Debug unlock ---------------------------------------------------------------------------------------------------------------

/-- DBG_MAX of a lifecycle state (14 R616). -/
def dbgMax : Nat → Nat
  | 0 => 3 | 1 => 2 | 2 => 2 | 3 => 1 | 4 => 1 | 5 => 2 | _ => 3

/-- A refused unlock order counts in TOKENS_REFUSED (15 R657). -/
def countRefused (r : FwOut × State) : FwOut × State :=
  match r.1 with
  | .done p => if p.status < 0x100 then r
               else (r.1, { r.2 with dbg := { r.2.dbg with tokensRefused := satAdd 16 r.2.dbg.tokensRefused 1 } })
  | _ => r

/-- DEBUG_UNLOCK (15 R660). -/
def debugUnlock : Handler := fun o e s =>
  countRefused <|
  let level := par o 0 1
  appliedFirst true o 0 s <|
  orElse (firstBad [refuse (level = 0 || 3 < level) 0x0118 0, refuse ((ownerRec s 0).isNone) 0x0215 0,
                    refuse (dbgMax s.faults.lifecycle < level) 0x0360 (dbgMax s.faults.lifecycle)]) s <|
  gated true o e 0 s fun ap s => (.done { word := level, items := seqItems s ap ++ [.debugStage level] }, s)

/-- The checks of these orders that depend on the parameter block alone (02 R24; 12 R527; 14 R607, R619; 15 R660). -/
def platformClassify (o : Order) : Verdict :=
  match o.opcode with
  | 0x0F30 => refuse (resIn o 4 4) 0x0103 0
  | 0x0F50 => refuse (bits (par o 0 2) 10 6 != 0 || 1 < par o 3 1 || bits (par o 12 4) 20 12 != 0 || bits (par o 16 4) 20 12 != 0 || resIn o 26 6 || resIn o 36 4) 0x0103 0
  | 0x0F54 => refuse (resIn o 4 4) 0x0103 0
  | 0x0F55 => refuse (resIn o 4 4) 0x0103 0
  | 0x0F60 => refuse (resIn o 1 3) 0x0103 0
  | 0x0F61 => refuse (resIn o 1 7) 0x0103 0
  | 0x0F70 => refuse (resIn o 1 7) 0x0103 0
  | _ => none

-- The rows -------------------------------------------------------------------------------------------------------------------

/-- 0x0F30 VIGIL_SET_TIME (12 R527). -/
def execVigilSetTime (id : Nat) (e : FwEnv) : State → Res := runFw 0x0F30 vigilSetTime id e
/-- 0x0F40 PDB_APPLY (14 R611). -/
def execPdbApply (id : Nat) (e : FwEnv) : State → Res := runFw 0x0F40 pdbApply id e
/-- 0x0F41 CALIB_APPLY (14 R613). -/
def execCalibApply (id : Nat) (e : FwEnv) : State → Res := runFw 0x0F41 calibApply id e
/-- 0x0F50 LC_COMMISSION (14 R620). -/
def execLcCommission (id : Nat) (e : FwEnv) : State → Res := runFw 0x0F50 lcCommission id e
/-- 0x0F51 LC_DEPLOY (14 R617). -/
def execLcDeploy (id : Nat) (e : FwEnv) : State → Res := runFw 0x0F51 (lcMove 3) id e
/-- 0x0F52 LC_QUARANTINE (14 R617). -/
def execLcQuarantine (id : Nat) (e : FwEnv) : State → Res := runFw 0x0F52 (lcMove 4) id e
/-- 0x0F53 LC_ZEROIZE (14 R621). -/
def execLcZeroize (id : Nat) (e : FwEnv) : State → Res := runFw 0x0F53 lcZeroize id e
/-- 0x0F54 LC_RETIRE (14 R621). -/
def execLcRetire (id : Nat) (e : FwEnv) : State → Res := runFw 0x0F54 lcRetire id e
/-- 0x0F55 LC_RECOMMISSION (14 R622). -/
def execLcRecommission (id : Nat) (e : FwEnv) : State → Res := runFw 0x0F55 lcRecommission id e
/-- 0x0F56 RECORD_ADOPT (14 R623). -/
def execRecordAdopt (id : Nat) (e : FwEnv) : State → Res := runFw 0x0F56 recordAdopt id e
/-- 0x0F60 FW_WRITE (14 R608). -/
def execFwWrite (id : Nat) (e : FwEnv) : State → Res := runFw 0x0F60 fwWrite id e
/-- 0x0F61 FW_ACTIVATE (14 R608). -/
def execFwActivate (id : Nat) (e : FwEnv) : State → Res := runFw 0x0F61 fwActivate id e
/-- 0x0F62 FW_FLOOR (14 R608). -/
def execFwFloor (id : Nat) (e : FwEnv) : State → Res := runFw 0x0F62 fwFloor id e
/-- 0x0F70 DEBUG_UNLOCK (15 R660). -/
def execDebugUnlock (id : Nat) (e : FwEnv) : State → Res := runFw 0x0F70 debugUnlock id e

end Machine
end Sys2Proof
end

