-- ==== Sys2Proof/Machine/Frames.lean ====
section
/-!
DEFINITION. Frames of the Courier Link as they are received: order, acknowledgement, replay and lanes (10 R443 to R447).
-/
namespace Sys2Proof
namespace Machine

/-- Notes of the pair: the model's numbers of Notes whose codes R563 does not list (log entry 44). -/
def pnLane : Nat := 2
def pnTag : Nat := 3
def pnBeat : Nat := 4
def pnFrame : Nat := 5
def pnVote : Nat := 6
def pnSplit : Nat := 7
def pnCeremony : Nat := 8
def pnRecord : Nat := 9

/-- A Note of the pair. -/
def pairNote (which : Nat) (s : State) : State := note 0x0A which s

/-- Whether the link is up: at least 4 lanes in service (10 R443). -/
def linkUp (s : State) : Bool :=
  decide (4 ≤ ((List.range 8).filter (fun i => s.pair.lanes.getLsbD i)).length)

/-- Whether frames of a session are accepted: it is formed and not closed by tag failures (10 R442, R446). -/
def accepting (s : State) : Bool := s.pair.session && !s.pair.closedRx

/-- An acknowledgement, or a NAK, of what a channel received (10 R444, R446): a frame with a sequence of its own, whose header
carries the last sequence received in order. An ACK frame is not itself answered by one (log entry 60). -/
def sendAck (ch : Nat) (nak : Bool) (s : State) : State := sendFrame ch (.ack nak) s

/-- Whether a frame of a type is permitted in the pair's mode (10 R447). -/
def bodyPermitted (s : State) : FrameBody → Bool
  | .heartbeat _ => true
  | .evidence .. => true
  | .silence .. => true
  | .ack .. => true
  | .claim _ => s.pair.mode == 1
  | .delta _ => s.pair.mode == 1
  | .stallReset .. => s.pair.mode == 1
  | .reserve .. => s.pair.mode == 1
  | .resync _ => s.pair.mode == 1
  | .resyncEnd _ => s.pair.mode == 1
  | _ => false

/-- A row of a frame type at a time. -/
def frameAct (t : Nat) (k : State → State) : State → Res := coreAct (fun s => k (tick t s))

/-- What an acknowledgement frees (10 R446, R459, R474): frames up to a sequence leave the replay buffer of the channel, with
the evidence items and receipt records they carried. -/
def acked (ch : Nat) (upTo : Nat) (s : State) : State :=
  let p := s.pair
  let freed := p.replay.filter (fun x => x.1 == ch && decide (x.2.1 ≤ upTo))
  let items : List (Nat × Nat × Bytes) := freed.filterMap (fun x => match x.2.2.body with | .evidence k n b => some (k, n, b) | _ => none)
  let left := if ch = 0 then p.pendRcpts.filter (fun x => !decide (x.2.2 ≤ upTo)) else p.pendRcpts
  { s with pair := { p with
      replay := p.replay.filter (fun x => !(x.1 == ch && decide (x.2.1 ≤ upTo)))
      evidence := p.evidence.filter (fun e => !items.contains e)
      pendRcpts := left
      rcptUnacked := left.length } }

/-- A frame is the next in order on its channel: it is counted, and its header acknowledges (10 R444, R446). -/
def takeFrame (f : Frame) (s : State) : State :=
  let s1 := { s with pair := { s.pair with rxSeq := modAt (· + 1) s.pair.rxSeq f.ch } }
  match f.ack with
  | some n => acked f.ch n s1
  | none => s1

/-- A frame of the session is received (10 R446, R447): in sequence order and once; a gap discards it with a NAK, a repeat is
acknowledged again; a type not permitted is discarded with a Note and acknowledged. -/
def receive (f : Frame) (k : State → State) (s : State) : State :=
  if !accepting s || f.epoch ≠ s.pair.sessionEpoch then s
  else if f.seq < expected s f.ch then sendAck f.ch false s
  else if expected s f.ch < f.seq then sendAck f.ch true s
  else sendAck f.ch false (if bodyPermitted s f.body then k (takeFrame f s) else pairNote pnFrame (takeFrame f s))

/-- The frames of a channel kept for resending go out again (10 R446). -/
def resend (ch : Nat) (s : State) : State :=
  let fs := (s.pair.replay.filter (fun x => x.1 == ch)).map (fun x => x.2.2)
  emits (fs.map Out.frame) { s with pair := { s.pair with retransmits := satAdd 32 s.pair.retransmits fs.length } }

/-- ACK (10 R446): in sequence order and once as every frame, and its header frees frames; a NAK also asks for the rest
again. It is not answered by an ACK (log entry 60). -/
def ackIn (f : Frame) (nak : Bool) (s : State) : State :=
  if !accepting s || f.epoch ≠ s.pair.sessionEpoch || decide (f.seq < expected s f.ch) then s
  else if expected s f.ch < f.seq then sendAck f.ch true s
  else if nak then resend f.ch (takeFrame f s) else takeFrame f s

/-- ACK (10 R446). -/
def execAck (f : Frame) (t : Nat) : State → Res :=
  frameAct t fun s => match f.body with | .ack nak => ackIn f nak s | _ => s

/-- FRAME_ERROR (10 R446): the frame is discarded and a NAK sent; a tag failure is counted and noted, and the 64th within 1 ms
closes the link until a new session forms. -/
def frameError (ch : Nat) (k : FrameErr) (s : State) : State :=
  if !accepting s then s
  else
    match k with
    | .tag =>
      let ts := within 1000000 s.pair.tagTimes s.clock
      let s1 := event 36 (pairNote pnTag { s with pair := { s.pair with tagFails := satAdd 16 s.pair.tagFails 1, tagTimes := ts } })
      if 64 ≤ ts.length then { s1 with pair := { s1.pair with closedRx := true } } else sendAck ch true s1
    | _ => sendAck ch true s

/-- FRAME_ERROR (10 R446). -/
def execFrameError (ch : Nat) (k : FrameErr) (t : Nat) : State → Res := frameAct t (frameError ch k)

/-- COURIER_LANE_FAIL (10 R443): the lane is dropped, a Note and event 35; below 4 lanes the link is down and its session
ends. -/
def laneFail (lane : Nat) (s : State) : State :=
  if 8 ≤ lane || !s.pair.lanes.getLsbD lane then s
  else
    let s1 := event 35 (pairNote pnLane { s with pair := { s.pair with lanes := s.pair.lanes &&& ~~~((1 : BitVec 8) <<< lane) } })
    if linkUp s1 then s1 else { s1 with pair := { s1.pair with session := false, sessionKey := none, frameKeys := none, ptk := none, hsStep := 0 } }

/-- COURIER_LANE_FAIL (10 R443). -/
def execCourierLaneFail (lane : Nat) (t : Nat) : State → Res := frameAct t (laneFail lane)

-- Evidence -----------------------------------------------------------------------------------------------------------------

/-- A 32-byte Daybook record read back (13 R552). -/
def parseDb (b : Bytes) : DbRec :=
  { code := field b 0 2, sev := field b 2 1 % 8, subsumed := bitOf (field b 2 1) 3, twin := true,
    repeatFull := bitOf (field b 2 1) 5, hours := field b 4 4, pcycles := field b 8 3, seq := field b 12 2,
    repeats := field b 14 2, p0 := field b 16 4, p1 := field b 20 4, p2 := field b 24 4 }

/-- An evidence item of the twin (10 R474; 13 R562), written through. -/
def evidenceIn (kind seq : Nat) (body : Bytes) (s : State) : State :=
  match kind with
  | 1 => recordThrough 0x0102 sevInfo (field body 0 4) (field (sha384 body) 0 4) (field (sha384 body) 4 4) s
  | 2 => flushAll (enterRec (parseDb body) s)
  | 3 => recordThrough 0x0303 sevInfo seq (field body 0 4) (field body 4 4) s
  | _ => s

/-- EVIDENCE (10 R474). -/
def execEvidence (f : Frame) (t : Nat) : State → Res :=
  frameAct t fun s =>
    match f.body with
    | .evidence kind seq body => receive f (evidenceIn kind seq body) s
    | .other _ => receive f id s
    | _ => s

end Machine
end Sys2Proof
end

