-- ==== Sys2Proof/Machine/Twin.lean ====
section
/-!
DEFINITION. Binding the pair and forming sessions: the handshake, PAIR_BIND and PAIR_UNBIND (10 R436 to R442, R478, R479).
-/
namespace Sys2Proof
namespace Machine

-- Identities and records ---------------------------------------------------------------------------------------------------

/-- The identity hash of the twin that the Platform Description Block names (14 R610). -/
def twinNamed (s : State) : Option Bytes :=
  match s.faults.pdbStart with
  | some p => if p.config = 2 || p.config = 3 then some (if p.idA = ownId then p.idB else p.idA) else none
  | none => none

/-- The pair identity (10 R437). -/
def pairIdentity (id0 id1 : Bytes) : Bytes := (sha384 (ascii "UT-PAIRID" ++ fit 16 id0 ++ fit 16 id1)).take 16

/-- An Arbiter word value: tag, round and holder (10 R475). -/
def arbWord (pairId : Bytes) (round holder : Nat) : Nat := field pairId 0 2 * 2 ^ 48 + round % 2 ^ 32 * 2 ^ 16 + holder * 2 ^ 8

/-- Fields of an Arbiter word. -/
def arbRound (v : Nat) : Nat := bits v 16 32
def arbHolder (v : Nat) : Nat := bits v 8 8

/-- The pair record changed in MRAM (10 R436). -/
def modPairRec (f : PairRec → PairRec) (s : State) : State :=
  { s with mram := { s.mram with pairRec := s.mram.pairRec.map f } }

/-- The arbiter field of the pair record. -/
def recArbiter (s : State) : Nat := match s.mram.pairRec with | some p => p.arbiter | none => 0

/-- The pair identity of the record. -/
def recPairId (s : State) : Bytes := match s.mram.pairRec with | some p => p.pairId | none => []

-- The handshake ------------------------------------------------------------------------------------------------------------

/-- The order that waits for the binding ceremony. -/
def bindOrder (s : State) : Option Order :=
  (s.pair.hsOrder.bind (order? s)).bind (fun o => if o.stage == .waitPair && o.opcode == 0x0F20 then some o else none)

/-- This part's side in the handshake: that of PAIR_BIND, or of the pair record. -/
def hsSide (s : State) : Nat :=
  if s.pair.hsPurpose = 1 then (match bindOrder s with | some o => par o 0 1 | none => 0) else s.pair.side

/-- A handshake frame: epoch 0, no sequence (10 R444). -/
def sendHandshake (b : FrameBody) (s : State) : State := emit (.frame { ch := 0, epoch := 0, seq := 0, ack := none, body := b }) s

/-- Public key of the post-quantum identity key (04 R172). -/
def idPqPublic (s : State) : Bytes :=
  match idPostQuantum s with | some k => take 1952 (Config.publicKey 0x0412 k) | none => []

/-- The ephemeral keys of a handshake come from the DRBG (10 R440, R442): nonce, ML-KEM seed or message, X25519 scalar. -/
def ephKem (d : Nat) : Bytes := take 64 (fun i => Config.drbg (d + 32 + i))
def ephX (d : Nat) : Bytes := take 32 (fun i => Config.drbg (d + 96 + i))
def ephNonce (d : Nat) : Bytes := take 32 (fun i => Config.drbg (d + i))

/-- The encoded payload of a HELLO. -/
def helloBytes (purpose epoch : Nat) (nonce pk pq : Bytes) : Bytes := if purpose = 1 then nonce ++ pk ++ pq else nonce ++ leBytes 4 epoch

/-- The handshake begins on this side: HELLO is sent (10 R440 step 1, R442). What the twin sent before is kept. -/
def startHandshake (purpose : Nat) (s : State) : State :=
  let d := s.drbg.next
  let s1 := (draw 128 s).2
  let epoch := match s.mram.pairRec with | some p => p.epoch + 1 | none => 0
  let pk := if purpose = 1 then idPublic else []
  let pq := if purpose = 1 then idPqPublic s else []
  sendHandshake (.hello purpose epoch (ephNonce d) pk pq)
    { s1 with pair := { s1.pair with hsPurpose := purpose, hsStep := 1, hsDraw := d, hsEpoch := epoch, hsSecret := none, hsTranscript := [],
                                     hsMine := helloBytes purpose epoch (ephNonce d) pk pq } }

/-- Authentication of a handshake message over the transcript hash (10 R440, R442): both identity signatures, or a tag under
the pair secret. -/
def hsAuth (s : State) (h : Bytes) : Bytes × Bytes :=
  if s.pair.hsPurpose = 1 then
    (match idClassical s with | some k => take 96 (Config.ecdsaP384Sign k h) | none => [],
     match idPostQuantum s with | some k => take 3309 (Config.mldsa65Sign k h (ascii "UT-PAIR")) | none => [])
  else (kdf (s.pair.pairSecret.getD []) "UT-SESSION" h 32, [])

/-- Whether the twin's authentication verifies. -/
def hsVerify (s : State) (h a b : Bytes) : Bool :=
  if s.pair.hsPurpose = 1 then
    a.length == 96 && b.length == 3309 && Config.ecdsaP384Verify (slice s.pair.hsPeer 32 97) h a &&
      Config.mldsa65Verify (slice s.pair.hsPeer 129 1952) h (ascii "UT-PAIR") b
  else a == kdf (s.pair.pairSecret.getD []) "UT-SESSION" h 32

/-- The secret that the exchange forms (10 R441): the pair secret, or the session secret. -/
def hsForm (s : State) (k z transcript : Bytes) : Bytes :=
  if s.pair.hsPurpose = 1 then kdf (k ++ z) "UT-PAIR" (sha384 transcript) 32
  else kdf (s.pair.pairSecret.getD [] ++ k ++ z) "UT-SESSION" (leBytes 4 s.pair.hsEpoch ++ sha384 transcript) 32

/-- The key under which CONFIRM is made: the pair secret (10 R440 step 4). -/
def confirmKey (s : State) : Bytes := if s.pair.hsPurpose = 1 then s.pair.hsSecret.getD [] else s.pair.pairSecret.getD []

/-- The CONFIRM tag (10 R440). -/
def confirmTag (s : State) : Bytes := kdf (confirmKey s) "UT-CONFIRM" (sha384 s.pair.hsTranscript) 32

/-- The handshake is over. -/
def hsClear (s : State) : State :=
  { s with pair := { s.pair with hsStep := 0, hsPurpose := 0, hsTranscript := [], hsMine := [], hsPeer := [], hsSecret := none,
                                 hsOrder := none } }

/-- A failed check ends the handshake (10 R440): a ceremony completes its order with 0x0331 and a Note. -/
def hsFail (s : State) : State :=
  let s1 := match bindOrder s with
    | some o => if s.pair.hsPurpose = 1 then complete o.id 0x0331 0 s else s
    | none => s
  hsClear (pairNote pnCeremony s1)

/-- Both HELLO payloads are there (10 R440 step 2): side 0's first in the transcript. Side 0 sends KEX, side 1 awaits it. -/
def helloBoth (s : State) : State :=
  if s.pair.hsStep ≠ 1 || s.pair.hsPeer.isEmpty then s
  else
    let purpose := s.pair.hsPurpose
    let peer := s.pair.hsPeer
    let twinId := (sha384 (slice peer 32 97)).take 16
    if purpose = 1 && twinNamed s ≠ some twinId then hsFail s
    else
      let epoch := if purpose = 2 then max s.pair.hsEpoch (field peer 32 4) else 0
      let t0 := if hsSide s = 0 then s.pair.hsMine ++ peer else peer ++ s.pair.hsMine
      let s1 := { s with pair := { s.pair with hsTwinId := twinId, hsEpoch := epoch, hsTranscript := t0 } }
      if hsSide s = 0 then
        let ek := take 1184 (Config.publicKey 0x0402 (ephKem s.pair.hsDraw))
        let x := take 32 (Config.publicKey 0x0209 (ephX s.pair.hsDraw))
        let (a, b) := hsAuth s1 (sha384 (t0 ++ ek ++ x))
        sendHandshake (.kex ek x a b) { s1 with pair := { s1.pair with hsStep := 3, hsTranscript := t0 ++ ek ++ x ++ a ++ b } }
      else { s1 with pair := { s1.pair with hsStep := 2 } }

/-- HELLO (10 R440, R442). A session's HELLO from side 0 makes side 1 answer; a binding's is kept for the ceremony. -/
def helloIn (purpose epoch : Nat) (nonce pk pq : Bytes) (s : State) : State :=
  let peer := helloBytes purpose epoch nonce pk pq
  if purpose = 1 then
    if s.pair.bound then s
    else
      let s1 := { s with pair := { s.pair with hsPeer := peer } }
      if s.pair.hsPurpose = 1 then helloBoth s1 else s1
  else if purpose = 2 then
    if !s.pair.bound || s.pair.pairSecret.isNone then s
    else
      let s1 := if s.pair.side = 1 then startHandshake 2 s else s
      if s1.pair.hsPurpose = 2 then helloBoth { s1 with pair := { s1.pair with hsPeer := peer } } else s1
  else s

/-- KEX on side 1 (10 R440 step 3): checked, answered by KEX_REPLY and CONFIRM. On side 0 the twin names the same side. -/
def kexIn (ek x a b : Bytes) (s : State) : State :=
  if s.pair.hsStep = 3 && s.pair.hsPurpose = 1 then hsFail s
  else if s.pair.hsStep ≠ 2 then s
  else
    let t0 := s.pair.hsTranscript
    if !hsVerify s (sha384 (t0 ++ ek ++ x)) a b then hsFail s
    else
      let d := s.pair.hsDraw
      let m := (ephKem d).take 32
      let ct := take 1088 (Config.kemCipher 2 ek m)
      let k := take 32 (Config.kemShared 2 ek m)
      let ox := take 32 (Config.publicKey 0x0209 (ephX d))
      let z := take 32 (Config.ecdh 9 (ephX d) x)
      let t1 := t0 ++ ek ++ x ++ a ++ b ++ ct ++ ox
      let (oa, ob) := hsAuth s (sha384 t1)
      let t2 := t1 ++ oa ++ ob
      let s1 := { s with pair := { s.pair with hsStep := 4, hsTranscript := t2, hsSecret := some (hsForm s k z t2) } }
      sendHandshake (.confirm (confirmTag s1)) (sendHandshake (.kexReply ct ox oa ob) s1)

/-- KEX_REPLY on side 0 (10 R440 step 4): checked, answered by CONFIRM. -/
def kexReplyIn (ct x a b : Bytes) (s : State) : State :=
  if s.pair.hsStep ≠ 3 then s
  else
    let t1 := s.pair.hsTranscript ++ ct ++ x
    if !hsVerify s (sha384 t1) a b then hsFail s
    else
      let d := s.pair.hsDraw
      let k := take 32 (Config.kemDecaps 2 (ephKem d) ct)
      let z := take 32 (Config.ecdh 9 (ephX d) x)
      let t2 := t1 ++ a ++ b
      let s1 := { s with pair := { s.pair with hsStep := 4, hsTranscript := t2, hsSecret := some (hsForm s k z t2) } }
      sendHandshake (.confirm (confirmTag s1)) s1

/-- The pair record of a binding (10 R436, R437). -/
def newPairRec (s : State) (side : Nat) (ps : Bytes) : PairRec :=
  let cfg := match s.faults.pdbStart with | some p => p.config | none => 0
  let pid := if side = 0 then pairIdentity ownId s.pair.hsTwinId else pairIdentity s.pair.hsTwinId ownId
  { mode := if cfg = 3 then 2 else 1, side := side, epoch := 0, arbiter := 0, pairId := pid, twinId := s.pair.hsTwinId,
    psWrap := match s.munim.deviceRoot with | some r => kwWrap (kdf r "UT-PAIRWRAP" [] 32) ps | none => [] }

/-- The binding commits (10 R439): the pair record is the commit point, and the word is the first half of the pair
identity. Side 0 then forms the first session. -/
def bindDone (s : State) : State :=
  match bindOrder s, s.pair.hsSecret with
  | some o, some ps =>
    let r := newPairRec s (par o 0 1) ps
    let a := approvalOf s o 0
    let s1 := hsClear { s with pair := { s.pair with pairSecret := some ps } }
    let s2 := planned o.id o (.done { word := field r.pairId 0 8, items := [seqItem s1 a, .keep 0 a.seq (field r.pairId 0 8), .pairMade r] }, s1)
    if s2.pair.bound && s2.pair.side = 0 then startHandshake 2 s2 else s2
  | _, _ => hsClear s

/-- The frame keys of a session by direction (10 R441). -/
def frameKeysOf (ss : Bytes) : Bytes × Bytes := (kdf ss "UT-FRAME" [0] 32, kdf ss "UT-FRAME" [1] 32)

/-- The pair transfer key of a session (10 R441). -/
def ptkOf (ss : Bytes) : Bytes := kdf ss "UT-PTK" [] 32

/-- A session is formed (10 R442): the epoch goes to the pair record, sequence numbers begin at 0, unacknowledged evidence is
sent again, and in Mirror mode the twin's first heartbeat decides who keeps its state (10 R478). -/
def sessionFormed (s : State) : State :=
  let p := s.pair
  let s1 := modPairRec (fun r => { r with epoch := p.hsEpoch }) { s with pair := { p with
    session := true, sessionKey := p.hsSecret, frameKeys := p.hsSecret.map frameKeysOf, ptk := p.hsSecret.map ptkOf, sessionEpoch := p.hsEpoch, txSeq := [0, 0], rxSeq := [0, 0], replay := [], pendRcpts := [],
    rcptUnacked := 0, closedRx := false, tagTimes := [], missRun := 0, arbOnStart := false, decideDue := p.mode == 1 && p.state == psLinking,
    joinTries := 0 } }
  let s2 := hsClear s1
  let s3 := if p.mode = 2 then setPair psPaired s2 else s2
  s3.pair.evidence.foldl (fun s e => sendFrame 0 (.evidence e.1 e.2.1 e.2.2) s) s3

/-- CONFIRM (10 R440 step 4): both sides hold the secret. -/
def confirmIn (tag : Bytes) (s : State) : State :=
  if s.pair.hsStep ≠ 4 then s
  else if tag ≠ confirmTag s then hsFail s
  else if s.pair.hsPurpose = 1 then bindDone s
  else sessionFormed s

-- Rows ---------------------------------------------------------------------------------------------------------------------

/-- HELLO (10 R440). -/
def execHello (f : Frame) (t : Nat) : State → Res :=
  frameAct t fun s => match f.body with | .hello p e n pk pq => helloIn p e n pk pq s | _ => s

/-- KEX (10 R440). -/
def execKex (f : Frame) (t : Nat) : State → Res :=
  frameAct t fun s => match f.body with | .kex ek x a b => kexIn ek x a b s | _ => s

/-- KEX_REPLY (10 R440). -/
def execKexReply (f : Frame) (t : Nat) : State → Res :=
  frameAct t fun s => match f.body with | .kexReply ct x a b => kexReplyIn ct x a b s | _ => s

/-- CONFIRM (10 R440). -/
def execConfirm (f : Frame) (t : Nat) : State → Res :=
  frameAct t fun s => match f.body with | .confirm tag => confirmIn tag s | _ => s

/-- COURIER_LINK_UP (10 R442): every lane in service; on a bound part side 0 begins a session. A ceremony under way sends its
HELLO again. -/
def linkUpIn (s : State) : State :=
  let s1 := event 35 { s with pair := { s.pair with lanes := 0xFF, session := false, sessionKey := none, frameKeys := none, ptk := none } }
  if s.pair.bound then (if s.pair.side = 0 && s.pair.pairSecret.isSome then startHandshake 2 s1 else s1)
  else if (bindOrder s).isSome then startHandshake 1 s1 else s1

/-- COURIER_LINK_UP (10 R442). -/
def execCourierLinkUp (t : Nat) : State → Res := frameAct t linkUpIn

/-- PAIR_BIND (10 R439): the checks, the quorum of Owner 0, and the ceremony, which the order waits for. -/
def pairBind : Handler := fun o e s =>
  let side := par o 0 1
  appliedFirst true o 0 s <|
  orElse (firstBad [
    refuse (1 < side) 0x0118 0,
    refuse (s.mram.pairRec.isSome || (s.faults.lifecycle != 2 && s.faults.lifecycle != 3) || (twinNamed s).isNone) 0x0330 0,
    refuse (side = 1 && (s.keeper.loaded.any (fun p => p.1 != 0) || (List.range 1024).any (fun n => n != 0 && ownerState s n != 0) ||
      (boundStalls s).any (fun b => b.1 != 0))) 0x0332 0,
    refuse ((ownerRec s 0).isNone) 0x0215 0]) s <|
  gated true o e 0 s fun _ s =>
    (.settled, helloBoth (startHandshake 1
      { modOrder s o.id (fun x => { x with stage := .waitPair }) with pair := { s.pair with hsOrder := some o.id, hsPurpose := 1 } }))

/-- PAIR_BIND_TIMEOUT (10 R439): the twin did not complete the ceremony within 60 s. -/
def execPairBindTimeout (t : Nat) : State → Res :=
  frameAct t fun s =>
    match bindOrder s with
    | some o => hsClear (complete o.id 0x0331 0 s)
    | none => s

/-- PAIR_UNBIND (10 R479): the quorum of Owner 0, and the pair record is erased. Without a pair record it gives 0x0330. -/
def pairUnbind : Handler := fun o e s =>
  appliedFirst true o 0 s <|
  orElse (firstBad [refuse (s.mram.pairRec.isNone) 0x0330 0, refuse ((ownerRec s 0).isNone) 0x0215 0]) s <|
  gated true o e 0 s fun ap s => (.done { items := seqItems s ap ++ [.pairGone] }, s)

/-- 0x0F20 PAIR_BIND (10 R439). -/
def execPairBind (id : Nat) (e : FwEnv) : State → Res := runFw 0x0F20 pairBind id e
/-- 0x0F21 PAIR_UNBIND (10 R479). -/
def execPairUnbind (id : Nat) (e : FwEnv) : State → Res := runFw 0x0F21 pairUnbind id e

end Machine
end Sys2Proof
end

