-- ==== Sys2Proof/Machine/Claims.lean ====
section
/-!
DEFINITION. What the twin's CLAIM, DELTA and RESERVE frames do (10 R455 to R473).
-/
namespace Sys2Proof
namespace Machine

-- Claims -------------------------------------------------------------------------------------------------------------------

/-- An order of a shared ring that the twin has receipted leaves this part (10 R457). -/
def dropReceipted (st q : Nat) (count : BitVec 32) (s : State) : State :=
  match (ringOrders s st q).find? (fun o => !o.intakeErr && o.count == count) with
  | some o =>
    dropOrder (unlockKeys o.id (dropTlps o.id
      { modRing s st q (fun r => { r with reserved := r.reserved - o.rsv }) with
          pair := { s.pair with txns := s.pair.txns.filter (fun x => x.lead || x.place != (st, q, count.toNat)) } })) o.id
  | none => s

/-- One record of the twin (10 R455, R457, R458, R460). Records of another generation than the Stall's are past. -/
def claimIn (s : State) (c : ClaimRec) : State :=
  match c with
  | .commit n st q gen count crc =>
    if !ringExists st q || !(ring s st q).shared || gen ≠ (stall s st).gen then s
    else if 2 ^ 31 ≤ (count - (ring s st q).h).toNat then s
    else checkDivergence st q (modRing s st q (fun r => { r with twinCommits := r.twinCommits ++ [(count.toNat, n, crc)] }))
  | .receipt n st q gen _ count rcpt =>
    if !ringExists st q || !(ring s st q).shared || gen ≠ (stall s st).gen then s
    else
      advanceShared st q 64 (dropReceipted st q count (modRing s st q (fun r =>
        { r with twinW := rcpt + BitVec.ofNat 32 n, twinDone := r.twinDone ++ [count.toNat] })))
  | .ring st q gen log2 base =>
    if !ringExists st q || gen ≠ (stall s st).gen then s
    else
      let first := (ring s st q).enabled && !(ring s st q).shared
      let s1 := modRing s st q (fun r => { r with twinRcpBase := base, twinRcpLog2 := log2, twinW := 0,
                                                  shared := r.enabled })
      if first then claim st q (.ring st q gen (ring s1 st q).rcpLog2 (ring s1 st q).rcpBase) s1 else s1

/-- CLAIM (10 R458). -/
def execClaim (f : Frame) (t : Nat) : State → Res :=
  frameAct t fun s => match f.body with | .claim rs => receive f (fun s => rs.foldl claimIn s) s | _ => s

-- Two-phase commit ---------------------------------------------------------------------------------------------------------

/-- The kind-7 item of a PREPARE (10 R466). -/
def deltaResult (d : Delta) : Result :=
  (d.items.findSome? (fun it => match it with | .receipt r => some r | _ => none)).getD { status := 0, word := 0, out := [], aux := [] }

/-- This part's own copy of the order that a DELTA names. -/
def deltaOrder (s : State) (d : Delta) : Option Order :=
  (ringOrders s d.stall d.ring).find? (fun o => !o.intakeErr && o.count == d.count)

/-- The transaction of the Follow that a PREPARE opens (10 R467 step 2). -/
def followTxn (s : State) (d : Delta) : Txn :=
  { num := d.txn, order := match deltaOrder s d with | some o => o.id | none => 0, lead := false, phase := 1, items := d.items.map (openItem s),
    result := deltaResult d, own := [], odigest := d.odigest, vigil := d.vigil, place := (d.stall, d.ring, d.count.toNat) }

/-- Items applied without a vote (10 R470, R482): one that has taken effect already changes nothing. -/
def applyGiven (its : List Item) (s : State) : State :=
  its.foldl (fun s it => match it with
    | .bind b g => if (stall s b.stall).state == .bound && (stall s b.stall).gen == g then s else applyItem 0 (.bind b g) s
    | it => applyItem 0 it s) s

/-- The reply to a DELTA frame (10 R464). -/
def replyDelta (d : Delta) (phase : Nat) (s : State) : State :=
  sendFrame 0 (.delta { d with phase := phase, apply := false, items := [] }) s

/-- PREPARE on the Follow (10 R467, R470): with APPLY the items take effect and COMMITTED is the reply; else they are kept
until this part's copy of the order reaches the decision that votes. One of an older generation is past. -/
def prepareIn (d : Delta) (s : State) : State :=
  if d.apply then
    let s1 := applyGiven (d.items.map (openItem s)) s
    let s2 := match deltaOrder s1 d with
      | some o => modOrder s1 o.id (fun o => { o with stage := .waitTwin, commit := .done, result := some (deltaResult d), outSent := true })
      | none => s1
    replyDelta d 5 { s2 with pair := { s2.pair with txns := s2.pair.txns.filter (fun x => x.lead || x.num != d.txn) } }
  else if d.gen ≠ (stall s d.stall).gen || 64 ≤ s.pair.txns.length then s
  else { s with pair := { s.pair with txns := s.pair.txns ++ [followTxn s d] } }

/-- A reset that the twin accepted (10 R461). -/
def twinReset (st : Nat) (gen : BitVec 16) (cause : Nat) (s : State) : State :=
  if 4096 ≤ st then s
  else wireReset st gen (cause != causeSelf) false cause s

/-- DELTA_PREPARE (10 R468, R461). -/
def execDeltaPrepare (f : Frame) (t : Nat) : State → Res :=
  frameAct t fun s =>
    match f.body with
    | .delta d => receive f (fun s => if d.phase = 1 then prepareIn d s else s) s
    | .stallReset st gen cause => receive f (twinReset st gen cause) s
    | _ => s

/-- The first open transaction of the Lead whose commit-point write is not made. -/
def leadNext (s : State) : Option Txn := s.pair.txns.find? (fun x => x.lead && decide (x.phase < 4))

/-- The Lead makes its commit-point write and sends COMMIT (10 R467 step 3). -/
def leadCommit (x : Txn) (s : State) : State :=
  let y : Txn := { x with phase := 4 }
  let s1 := sendFrame 0 (deltaFrame s y 4 false)
    { s with pair := { s.pair with txns := s.pair.txns.map (fun z => if z.lead && z.num = x.num then y else z) } }
  commitOwn x.order x.own s1

/-- COMMIT frames go in the order of transaction numbers (10 R465). -/
def commitVoted : Nat → State → State
  | 0, s => s
  | fuel + 1, s =>
    match leadNext s with
    | some x => if x.phase = 2 then commitVoted fuel (leadCommit x s) else s
    | none => s

/-- A row that answers to a DELTA frame of one phase. -/
def deltaRow (phase : Nat) (k : Delta → State → State) (f : Frame) (t : Nat) : State → Res :=
  frameAct t fun s =>
    match f.body with
    | .delta d => receive f (fun s => if d.phase = phase then k d s else s) s
    | _ => s

/-- The open transaction of a number on one side. -/
def txnOf (s : State) (lead : Bool) (n : Nat) : Option Txn := s.pair.txns.find? (fun x => x.lead == lead && x.num == n)

/-- A transaction closes. -/
def closeTxn (lead : Bool) (n : Nat) (s : State) : State :=
  { s with pair := { s.pair with txns := s.pair.txns.filter (fun x => x.lead != lead || x.num != n) } }

/-- VOTE_YES on the Lead (10 R467 step 3). -/
def voteYes (d : Delta) (s : State) : State :=
  match txnOf s true d.txn with
  | some x =>
    if x.phase ≠ 1 then s
    else commitVoted 64 { s with pair := { s.pair with txns := s.pair.txns.map (fun z =>
      if z.lead && z.num = d.txn then { z with phase := 2 } else z) } }
  | none => s

/-- DELTA_VOTE_YES (10 R467 step 3). -/
def execDeltaVoteYes (f : Frame) (t : Nat) : State → Res := deltaRow 2 voteYes f t

/-- VOTE_NO on the Lead (10 R467, R468): the change is discarded, ABORT is sent, and the order completes with 0x0541. -/
def voteNo (d : Delta) (s : State) : State :=
  match txnOf s true d.txn with
  | some x =>
    if x.phase ≠ 1 then s
    else
      let s1 := pairNote pnVote (replyDelta d 6 (closeTxn true d.txn s))
      commitVoted 64 (complete x.order 0x0541 0 (modOrder s1 x.order (fun o => { o with items := [] })))
  | none => s

/-- DELTA_VOTE_NO (10 R467). -/
def execDeltaVoteNo (f : Frame) (t : Nat) : State → Res := deltaRow 3 voteNo f t

/-- COMMIT on the Follow (10 R467 step 4): the staged items and the effects of its own are made, and COMMITTED is sent. -/
def commitIn (d : Delta) (s : State) : State :=
  match txnOf s false d.txn with
  | some x => if x.phase = 2 then replyDelta d 5 (commitOwn x.order (x.items ++ x.own) (closeTxn false d.txn s)) else s
  | none => s

/-- DELTA_COMMIT (10 R467 step 4). -/
def execDeltaCommit (f : Frame) (t : Nat) : State → Res := deltaRow 4 commitIn f t

/-- COMMITTED on the Lead (10 R467 step 5): the receipt may be released. -/
def committedIn (d : Delta) (s : State) : State :=
  match txnOf s true d.txn with
  | some x =>
    if x.phase ≠ 4 then s
    else modOrder (closeTxn true d.txn s) x.order (fun o =>
      if o.stage == .waitTwin then { o with stage := if o.commit == .pending then .waitCommit else .done } else o)
  | none => s

/-- DELTA_COMMITTED (10 R467 step 5). -/
def execDeltaCommitted (f : Frame) (t : Nat) : State → Res := deltaRow 5 committedIn f t

/-- ABORT on the Follow (10 R467): the staged items are discarded; the Lead writes the receipt of the order. -/
def abortIn (d : Delta) (s : State) : State :=
  match txnOf s false d.txn with
  | some x =>
    modOrder (closeTxn false d.txn s) x.order (fun o =>
      if o.stage == .waitTwin && o.commit == .none then { o with stage := .ready, result := none, outSent := false } else o)
  | none => s

/-- DELTA_ABORT (10 R467). -/
def execDeltaAbort (f : Frame) (t : Nat) : State → Res := deltaRow 6 abortIn f t

/-- The twin's Keeper world has been restarted (10 R470): transactions whose commit-point write is not made end with 0x0502,
those made and not confirmed go again as PREPARE with APPLY. -/
def twinRestarted (s : State) : State :=
  let open1 := s.pair.txns.filter (fun x => x.lead && decide (x.phase < 4))
  let s1 := open1.foldl (fun s x =>
    complete x.order 0x0502 0 (modOrder (sendFrame 0 (deltaFrame s x 6 false) (closeTxn true x.num s)) x.order (fun o => { o with items := [] }))) s
  (s1.pair.txns.filter (fun x => x.lead)).foldl (fun s x => sendFrame 0 (deltaFrame s x 1 true) s) s1

-- Reservations -------------------------------------------------------------------------------------------------------------

/-- The key record a handle names in the key store, if it is the one held. -/
def heldKey (s : State) (h : Nat) : Option KeyRec :=
  match (keySlot s (hOwner h) (hSlot h)).key with
  | some k => if k.gen = hGen h then some k else none
  | none => none

/-- REQUEST on the Lead (10 R471): the increment and GRANT, or REFUSE with the key Spent on both parts. -/
def reserveRequest (n rid h : Nat) (s : State) : State :=
  let refuseIt (s : State) : State :=
    sendFrame 0 (.reserve 5 n rid (tally s n).value h) (if (heldKey s h).isSome then makeSpent (hOwner h) (hSlot h) s else s)
  match heldKey s h with
  | none => refuseIt s
  | some k =>
    let t := tally s n
    if t.exhausted || k.attrs.kstate ≠ 0 || beyond k.attrs (t.value - k.attrs.ledgerBase) then refuseIt s
    else
      let s1 := tallyAdd n 1 s
      if (tally s1 n).value = t.value + 1 then sendFrame 0 (.reserve 2 n rid (t.value + 1) h) s1 else refuseIt s1

/-- The Tally takes the value that the twin gives, if it is greater (10 R466, R471). -/
def tallyTo (n v : Nat) (s : State) : State := applyItem 0 (.tally n v) s

/-- Reservations that an order needs for its charge of a key. -/
def quanta (k : KeyRec) (o : Order) : Nat :=
  if k.attrs.byteLimit = 0 then 1 else max 1 ((chargeSize o + 2 ^ k.attrs.byteQ - 1) / 2 ^ k.attrs.byteQ)

/-- A grant for a waiting charge (10 R471). Those of one charge must follow one another; else the part asks again, and the
grants it has are lost. -/
def grantIn (n rid value h : Nat) (s : State) : State :=
  match s.pair.reserveWait.find? (fun w => w.1 == rid && w.2.1 == h) with
  | none => s
  | some w =>
    let id := w.2.2
    let s1 := tallyTo n value { s with pair := { s.pair with reserveWait := s.pair.reserveWait.filter (fun x => x.1 != rid) } }
    let s2 := modOrder s1 id (fun o => if o.firstGrant = 0 then { o with firstGrant := value } else o)
    if s2.pair.reserveWait.any (fun x => x.2.2 == id) then s2
    else
      match order? s2 id, heldKey s2 h with
      | some o, some k =>
        if value + 1 = o.firstGrant + quanta k o then finishGrant id h s2
        else chargeKeys id 3 (modOrder s2 id (fun o => { o with firstGrant := 0 }))
      | _, _ => s2

/-- A refusal reaches the Follow (10 R471): the key is Spent, and the charge that asked fails. -/
def reserveRefused (rid h : Nat) (s : State) : State :=
  let s1 := if (heldKey s h).isSome then makeSpent (hOwner h) (hSlot h) s else s
  match s1.pair.reserveWait.find? (fun w => w.1 == rid && w.2.1 == h) with
  | some w => refuseCharge w.2.2 { s1 with pair := { s1.pair with reserveWait := s1.pair.reserveWait.filter (fun x => x.2.2 != w.2.2) } }
  | none => s1

/-- A row that answers to a RESERVE frame of one kind (10 R472). -/
def reserveRow (kind : Nat) (k : Nat → Nat → Nat → Nat → State → State) (f : Frame) (t : Nat) : State → Res :=
  frameAct t fun s =>
    match f.body with
    | .reserve kd n rid v h => receive f (fun s => if kd = kind then k n rid v h s else s) s
    | _ => s

/-- RESERVE_REQUEST (10 R471). -/
def execReserveRequest (f : Frame) (t : Nat) : State → Res :=
  reserveRow 1 (fun n rid _ h s => if isLead s then reserveRequest n rid h s else s) f t

/-- RESERVE_GRANT (10 R471). -/
def execReserveGrant (f : Frame) (t : Nat) : State → Res := reserveRow 2 grantIn f t

/-- RESERVE_NOTE (10 R471). -/
def execReserveNote (f : Frame) (t : Nat) : State → Res :=
  reserveRow 3 (fun n rid v h s => sendFrame 0 (.reserve 4 n rid v h) (tallyTo n v s)) f t

/-- RESERVE_NOTED (10 R471): the Lead uses the reservation it noted. -/
def execReserveNoted (f : Frame) (t : Nat) : State → Res :=
  reserveRow 4 (fun _ rid _ h s =>
    match s.pair.reserveWait.find? (fun w => w.1 == rid && w.2.1 == h) with
    | none => s
    | some w =>
      let s1 := { s with pair := { s.pair with reserveWait := s.pair.reserveWait.filter (fun x => x.1 != rid) } }
      if s1.pair.reserveWait.any (fun x => x.2.2 == w.2.2) then s1 else finishGrant w.2.2 h s1) f t

/-- RESERVE_REFUSE (10 R471). -/
def execReserveRefuse (f : Frame) (t : Nat) : State → Res := reserveRow 5 (fun _ rid _ h s => reserveRefused rid h s) f t

end Machine
end Sys2Proof
end

