-- ==== Sys2Proof/Machine/Mirror.lean ====
section
/-!
DEFINITION. Losing the twin and taking it back: heartbeats, declarations, arbitration, takeover and PAIR_JOIN (10 R449 to
R453, R469, R475 to R484).
-/
namespace Sys2Proof
namespace Machine

/-- The Note of a takeover (10 R480 step 5; log entry 44). -/
def pnTakeover : Nat := 10

-- Heartbeats ---------------------------------------------------------------------------------------------------------------

/-- The payload of the next HEARTBEAT (10 R449). -/
def beatNow (s : State) : Beat :=
  { state := s.pair.state, role := s.pair.role, side := s.pair.side, beat := (s.pair.beat + 1) % 2 ^ 32, vigil := vigilSeconds s,
    active := [(withStatus s .loom .active).length, (withStatus s .forge .active).length, (withStatus s .kiln .active).length],
    arbiter := recArbiter s, restarts := s.keeper.restarts, troll := s.mram.troll.length % 2 ^ 16 }

/-- HEARTBEAT_SEND (10 R449): a heartbeat goes out while a session is formed. -/
def execHeartbeatSend (t : Nat) : State → Res :=
  frameAct t fun s =>
    if s.pair.session then
      sendFrame 0 (.heartbeat (beatNow s)) { s with pair := { s.pair with beat := (s.pair.beat + 1) % 2 ^ 32 } }
    else s

/-- The armed Arbiter value of the next round (10 R476): the Lead writes the word, and both parts record it. -/
def armArbiter (s : State) : State :=
  let v := arbWord (recPairId s) (max (arbRound (recArbiter s)) (arbRound s.pair.twinArbiter) + 1) 0xFF
  let s1 := modPairRec (fun r => { r with arbiter := v }) s
  if isLead s then emit (.arbWrite s.pair.arbAddr v) { s1 with pair := { s1.pair with arbValue := v } } else s1

/-- Whether this part keeps its state (10 R478): the higher round, then the record that names its own part as holder, then
side 0. -/
def keepsState (s : State) (twin : Nat) : Bool :=
  let mine := recArbiter s
  if arbRound mine ≠ arbRound twin then decide (arbRound twin < arbRound mine)
  else if arbHolder mine = s.pair.side then true
  else if arbHolder twin = 1 - s.pair.side then false
  else s.pair.side == 0

/-- The first heartbeat of a session of a Mirror pair (10 R476, R478): at a start it decides whose state stands. -/
def decideStart (twin : Nat) (s : State) : State :=
  let s1 := { s with pair := { s.pair with decideDue := false, twinArbiter := twin } }
  if s.pair.state = psPaired then armArbiter s1
  else if s.pair.state ≠ psLinking then s1
  else if recArbiter s = twin then armArbiter (setPair psPaired { s1 with pair := { s1.pair with role := s.pair.side } })
  else if keepsState s twin then setPair psSole { s1 with pair := { s1.pair with role := 0 } }
  else setPair psWaiting { s1 with pair := { s1.pair with role := 1 } }

/-- Whether a heartbeat is one that R449 has noted: the own side, or a Vigil time more than 2 s away. -/
def beatOdd (s : State) (b : Beat) : Bool :=
  b.side == s.pair.side ||
    (s.vigil.timeValid && b.vigil != 0xFFFFFFFF &&
      (decide (b.vigil + 2 < s.vigil.seconds.toNat) || decide (s.vigil.seconds.toNat + 2 < b.vigil)))

/-- A valid heartbeat (10 R449, R450, R470, R478). -/
def heartbeatIn (b : Beat) (s : State) : State :=
  let s1 := holdClear .pairQuiet { s with pair := { s.pair with missRun := 0 } }
  let s2 := if beatOdd s b then pairNote pnBeat s1 else s1
  let rose := decide (s2.pair.twinRestarts < b.restarts)
  let s3 := { s2 with pair := { s2.pair with twinState := b.state, twinArbiter := b.arbiter, twinRestarts := b.restarts } }
  let s4 := if rose && mirrored s3 && isLead s3 then twinRestarted s3 else s3
  let s5 := if s4.pair.decideDue && s4.pair.mode = 1 then decideStart b.arbiter s4 else s4
  retryCharges s5

/-- HEARTBEAT (10 R449). -/
def execHeartbeat (f : Frame) (t : Nat) : State → Res :=
  frameAct t fun s => match f.body with | .heartbeat b => receive f (heartbeatIn b) s | _ => s

-- Declaration and arbitration ----------------------------------------------------------------------------------------------

/-- The twin is declared failed, or this part lost it (10 R451): FAILOVERS at a declaration, record 0x0A01, event 33. -/
def lossRecord (cause : Nat) (s : State) : State :=
  event 33 (record 0x0A01 sevNote cause s.pair.failovers s.pair.sessionEpoch { s with pair := { s.pair with lastLoss := cause } })

/-- A declaration (10 R451): the session ends. -/
def declareTwin (cause : Nat) (s : State) : State :=
  lossRecord cause { s with pair := { s.pair with
    failovers := satAdd 32 s.pair.failovers 1, session := false, sessionKey := none, frameKeys := none, ptk := none, missRun := 0, twinDeclared := true, hsStep := 0 } }

/-- The join that runs on this part cannot end (10 R482; 0x0541). -/
def joinLost (s : State) : State :=
  match s.pair.joinOrder with
  | some id => complete id 0x0541 0 { s with pair := { s.pair with joinOrder := none, joinTries := 0 } }
  | none => s

/-- The twin's share of the orders of the shared rings (10 R456, R480): stateless orders by their count or by the side that a
ROLL_EXPORT names, stateful ones while the twin is Lead. -/
def twinsOrder (s : State) (o : Order) : Bool :=
  (ring s o.stall o.ring).shared && !o.intakeErr &&
    (if isStateful o.opcode then !isLead s
     else if o.opcode = 0x0710 then par o 1 1 != s.pair.side
     else o.count.toNat / 2 ^ s.pair.splitLog2 % 2 != s.pair.side)

/-- This part is the one that goes on (10 R435, R480): it is Lead at once, and the fabric settle time begins. -/
def becomeSole (s : State) : State :=
  let s1 := { s with orders := s.orders.map (fun o => if twinsOrder s o then { o with byTwin := true } else o) }
  { s1 with pair := { s1.pair with role := 0, settling := true, casPending := 0, casFailed := false } }

/-- The value by which this part holds the pair alone (10 R475, R477). -/
def soleWord (s : State) : Nat := arbWord (recPairId s) (arbRound (recArbiter s)) s.pair.side

/-- The pair record and ARB_VALUE name this part as holder (10 R477). -/
def holdsAlone (s : State) : State :=
  let v := soleWord s
  modPairRec (fun r => { r with arbiter := v }) { s with pair := { s.pair with arbValue := v } }

/-- An arbitration that is lost or fails: at a start the part waits, else it enters Silence 0x000F (10 R477, R478). -/
def arbLost (cause : Nat) (s : State) : State :=
  let s1 := { s with pair := { s.pair with casPending := 0, casFailed := false } }
  if s.pair.arbOnStart then
    setPair psWaiting { s1 with pair := { s1.pair with role := 1, arbOnStart := false, lastLoss := cause } }
  else silence 0x000F (lossRecord cause s1)

/-- The request on the Arbiter word (10 R477); without the enable bit of the function it has failed (15 R629). -/
def arbitrate (s : State) : State :=
  if s.pcie.atomicEn then
    emit (.casReq s.pair.arbAddr (recArbiter s) (soleWord s)) { s with pair := { s.pair with casPending := 1, casFailed := false } }
  else arbLost 4 s

/-- This part holds the pair alone after a request that succeeded (10 R477, R478). -/
def arbWon (s : State) : State :=
  let s1 := holdsAlone { s with pair := { s.pair with casPending := 0, casFailed := false, arbOnStart := false } }
  if s.pair.arbOnStart then setPair psSole { s1 with pair := { s1.pair with role := 0 } } else becomeSole s1

/-- ARBITER_CAS_COMPLETION (10 R477): the compare value was there, the twin is named, or the request is made once more. -/
def casDone (r : CasRes) (s : State) : State :=
  if s.pair.casPending = 0 then s
  else
    let s1 := match r with | .value v => { s with pair := { s.pair with arbValue := v } } | .error => s
    let again (s : State) : State :=
      if s.pair.casFailed then arbLost 4 s
      else emit (.casReq s.pair.arbAddr (recArbiter s) (soleWord s)) { s with pair := { s.pair with casFailed := true } }
    match r with
    | .value v =>
      if v = recArbiter s then arbWon s1
      else if bits v 48 16 = field (recPairId s) 0 2 && arbHolder v = 1 - s.pair.side then arbLost 3 s1
      else again s1
    | .error => again s1

/-- ARBITER_CAS_COMPLETION (10 R477). -/
def execArbiterCasCompletion (r : CasRes) (t : Nat) : State → Res := frameAct t (casDone r)

/-- ARBITER_CAS_TIMEOUT (10 R477). -/
def execArbiterCasTimeout (t : Nat) : State → Res :=
  frameAct t fun s => if s.pair.casPending = 0 then s else arbLost 4 s

/-- SESSION_FORM_TIMEOUT (10 R478): no session within 100 ms of the start. -/
def execSessionFormTimeout (t : Nat) : State → Res :=
  frameAct t fun s =>
    if s.pair.bound && s.pair.mode = 1 && s.pair.state = psLinking && !s.pair.session && s.pair.casPending = 0 then
      arbitrate { s with pair := { s.pair with arbOnStart := true } }
    else s

/-- The third miss of a Mirror pair (10 R451, R477, R479). -/
def thirdMiss (s : State) : State :=
  let s1 := declareTwin (if s.pair.closedRx then 5 else 1) s
  if s.pair.state = psPaired then arbitrate s1
  else if s.pair.state = psLinking then s1
  else joinLost s1

/-- HEARTBEAT_MISS (10 R450, R451, R453). -/
def beatMissed (s : State) : State :=
  if !s.pair.bound || s.pair.casPending ≠ 0 || s.pair.settling || !(s.pair.session || s.pair.state == psPaired) then s
  else
    let s1 := { s with pair := { s.pair with hbMisses := satAdd 16 s.pair.hbMisses 1, missRun := s.pair.missRun + 1 } }
    if s.pair.mode = 2 then
      let s2 := pairNote pnSplit s1
      if 3 ≤ s2.pair.missRun then setPair psLinking (declareTwin (if s.pair.closedRx then 5 else 1) s2) else s2
    else
      let s2 := if s1.pair.missRun = 1 && s1.pair.state = psPaired then holdEnter .pairQuiet false s1 else s1
      if 3 ≤ s2.pair.missRun then thirdMiss s2 else s2

/-- HEARTBEAT_MISS (10 R450). -/
def execHeartbeatMiss (t : Nat) : State → Res := frameAct t beatMissed

/-- A SILENCE frame (10 R451, R453, R477, R479): the twin is declared failed, and without arbitration this part is Sole; a
Waiting or Sole part stays what it is. -/
def silenceIn (s : State) : State :=
  let s1 := declareTwin 2 s
  if s.pair.mode = 2 then setPair psLinking (pairNote pnSplit s1)
  else if s.pair.state = psPaired || s.pair.state = psLinking then
    becomeSole (holdsAlone (emit (.arbWrite s.pair.arbAddr (soleWord s1)) s1))
  else joinLost s1

/-- SILENCE_FRAME (10 R451). -/
def execSilenceFrame (f : Frame) (t : Nat) : State → Res :=
  frameAct t fun s => match f.body with | .silence .. => receive f silenceIn s | _ => s

-- Takeover -----------------------------------------------------------------------------------------------------------------

/-- An order runs anew on this part, from its start and with the same approvals (10 R469). -/
def runAnew (id : Nat) (s : State) : State :=
  unlockKeys id (modOrder (dropTlps id s) id (fun o =>
    { o with stage := .redo, commit := .none, items := [], result := none, outSent := false, rcptQueued := false, copyA := none, copyB := none }))

/-- An open transaction is resolved by the point it reached (10 R469). -/
def resolveTxn (s : State) (x : Txn) : State :=
  match order? s x.order with
  | none => s
  | some o =>
    if !x.lead then (if o.stage == .waitTwin && o.commit == .none then runAnew x.order s else s)
    else if x.phase = 1 then runAnew x.order s
    else
      let s1 := if x.phase = 2 then commitOwn x.order x.own s else s
      modOrder s1 x.order (fun o => if o.stage == .waitTwin then { o with stage := if o.commit == .pending then .waitCommit else .done } else o)

/-- A stateful order of a Follow whose change stands (10 R469, fourth row): its receipt is written from the kind-7 item. -/
def releaseFollow (s : State) : State :=
  { s with orders := s.orders.map (fun o =>
      if o.stage == .waitTwin && o.commit != .none then { o with stage := if o.commit == .pending then .waitCommit else .done } else o) }

/-- The rings that both parts share, by number. -/
def sharedRings (s : State) : List Nat := (s.rings.filter (fun p => p.2.shared)).map (fun p => p.1)

/-- The reads of the twin's receipt ring from the first slot not seen on: up to 64 slots, as far as the end of the ring
(10 R480 step 3). -/
def scanReads (s : State) (i : Nat) : List Out :=
  let r := ring s (i / 4) (i % 4)
  let at0 := r.twinW.toNat % 2 ^ r.twinRcpLog2
  let n := min 64 (2 ^ r.twinRcpLog2 - at0)
  readReqs s (i / 4) (r.twinRcpBase.toNat + 32 * at0) (32 * n) ++
    (if n < 64 then readReqs s (i / 4) r.twinRcpBase.toNat (32 * (64 - n)) else [])

/-- The takeover ends (10 R480 steps 4 and 5): no ring is shared any more, so the twin's orders are dispatched here. -/
def takeoverEnd (s : State) : State :=
  retryCharges (setPair psSole (pairNote pnTakeover (unshare (releaseFollow s))))

/-- SETTLE_EXPIRY (10 R480 steps 1 to 3). -/
def settled (s : State) : State :=
  if !s.pair.settling then s
  else
    let s1 := holdClear .pairQuiet { s with pair := { s.pair with settling := false } }
    let s2 := s1.pair.txns.foldl resolveTxn { s1 with pair := { s1.pair with txns := [] } }
    let rs := sharedRings s2
    if rs.isEmpty then takeoverEnd s2
    else emits ((rs.map (scanReads s2)).flatten) { s2 with pair := { s2.pair with scanning := rs } }

/-- SETTLE_EXPIRY (10 R480). -/
def execSettleExpiry (t : Nat) : State → Res := frameAct t settled

/-- What the slots from a count on show (10 R480 step 3): the tags receipted, how many slots are behind, and whether the scan
of the ring has reached a slot of the old phase. -/
def scanSlots (r : Ring) : Nat → List Bytes → List Nat × Nat × Bool
  | 0, _ => ([], 0, false)
  | _, [] => ([], 0, false)
  | fuel + 1, h :: rest =>
    let c := r.twinW
    let phase := if c.toNat / 2 ^ r.twinRcpLog2 % 2 = 0 then 1 else 0
    if field h 6 1 % 2 ≠ phase then ([], 0, true)
    else
      let n := field h 7 1
      if 1 ≤ n && rest.length + 1 < n && n ≤ 32 && !bitOf (field h 6 1) 7 then ([], 0, false)
      else
        let good := !bitOf (field h 6 1) 7 && decide (1 ≤ n) && decide (n ≤ rest.length + 1) &&
          field h 28 4 == (crc32c (h.take 28 ++ ((rest.take (n - 1)).flatten))).toNat
        let k := if good then n else 1
        let x := scanSlots { r with twinW := c + BitVec.ofNat 32 k } fuel (rest.drop (k - 1))
        (if good then field h 0 4 :: x.1 else x.1, k + x.2.1, x.2.2)

/-- An order that the twin has receipted by its tag is past (10 R480 step 3). -/
def dropTagged (st q : Nat) (s : State) (tag : Nat) : State :=
  match (ringOrders s st q).find? (fun o => !o.intakeErr && o.tag == tag) with
  | some o => dropReceipted st q o.count s
  | none => s

/-- TAKEOVER_SCAN_COMPLETION (10 R480): the receipts found, then more reads of the ring, or its scan is over; with the last
ring the takeover ends. -/
def scanDone (st q : Nat) (slots : List Bytes) (s : State) : State :=
  if !ringExists st q || !s.pair.scanning.contains (rix st q) then s
  else
    let x := scanSlots (ring s st q) (slots.length + 1) (slots.map (fit 32))
    let s1 := x.1.foldl (dropTagged st q) (modRing s st q (fun r => { r with twinW := r.twinW + BitVec.ofNat 32 x.2.1 }))
    if x.2.2 then
      let left := s1.pair.scanning.filter (fun i => i != rix st q)
      let s2 := { s1 with pair := { s1.pair with scanning := left } }
      if left.isEmpty then takeoverEnd s2 else s2
    else emits (scanReads s1 (rix st q)) s1

/-- TAKEOVER_SCAN_COMPLETION (10 R480). -/
def execTakeoverScanCompletion (st q : Nat) (slots : List Bytes) (t : Nat) : State → Res := frameAct t (scanDone st q slots)

-- Returning a part ---------------------------------------------------------------------------------------------------------

/-- A master-entry slot as the two parts compare it: without its MAC, which differs between them (04 R174; 10 R482). -/
def slotBytes (m : Option MSlot) : Bytes :=
  match m with
  | none => zeros 96
  | some m => slotBody m

/-- A Stall of the Stall table as the join compares it. -/
def stallBytes (p : Nat × Stall) : Bytes :=
  let x := p.2
  leBytes 2 p.1 ++ leBytes 2 x.gen.toNat ++ leBytes 2 x.owner ++ [if x.noPasid then 1 else 0, if x.ats then 1 else 0, if x.tdi != .none then 1 else 0] ++
    leBytes 4 x.pasid ++ leBytes 2 x.vecBase ++ leBytes 2 x.vecCount ++ leBytes 1 x.weight ++ leBytes 2 x.maxInflight ++
    leBytes 2 x.maxPk ++ leBytes 4 x.maxCache

/-- A key record of the key store as the join compares it. -/
def keyBytes (p : Nat × KeySlot) : Bytes :=
  match p.2.key with
  | some k => leBytes 8 (mkHandle (p.1 / 2 ^ 28) (p.1 % 2 ^ 28) k.gen) ++ attrBytes k.attrs ++ k.kcv ++ k.material
  | none => leBytes 8 (mkHandle (p.1 / 2 ^ 28) (p.1 % 2 ^ 28) (p.2.tomb.getD 0))

/-- The digest over master entries, Owner record digests, Stall table and key store, in index order (10 R482 step 4). -/
def joinDigest (s : State) : Bytes :=
  sha384 ((s.mram.master.map (fun p => leBytes 2 p.1 ++ slotBytes p.2.1 ++ slotBytes p.2.2)).flatten ++
    (s.keeper.loaded.map (fun p => leBytes 2 p.1 ++ sha384 (ownerBody p.2))).flatten ++
    ((boundStalls s).map stallBytes).flatten ++ (s.munim.keys.map keyBytes).flatten)

/-- The parameter block that would bind a Stall as it is bound (03 R134; 10 R462). -/
def blockOf (n : Nat) (x : Stall) : StallBlk :=
  { stall := n, owner := x.owner, rid := 0,
    bflags := (if x.noPasid then 1 else 0) + (if x.tdi != .none then 2 else 0) + (if x.ats then 4 else 0),
    pasid := x.pasid, vecBase := x.vecBase, vecCount := x.vecCount, weight := x.weight, maxInflight := x.maxInflight,
    maxPk := x.maxPk, maxCache := x.maxCache }

/-- The blob of a loaded Owner record for the stream, with a fresh nonce. -/
def ownerItem (acc : List Item × State) (p : Nat × OwnerRec) : List Item × State :=
  match omkOf acc.2 p.1 (curEpoch acc.2 p.1) with
  | some k =>
    let (nonce, s1) := draw 12 acc.2
    (acc.1 ++ [.ownerBlob (ownerBlob k (curEpoch s1 p.1) p.2 nonce)], s1)
  | none => acc

/-- The items of the stream (10 R482 step 2): entries, Owner Tallies, Owner records, Stalls with their generation, keys. -/
def streamItems (s : State) : List Item × State :=
  let slots := (s.mram.master.map (fun p =>
    (match p.2.1 with | some m => [Item.mram p.1 0 (some m)] | none => []) ++
    (match p.2.2 with | some m => [Item.mram p.1 1 (some m)] | none => []))).flatten
  let tallies := (s.mram.tallies.filter (fun p => decide (32 ≤ p.1))).map (fun p => Item.tally p.1 p.2.value)
  let (owners, s1) := s.keeper.loaded.foldl ownerItem ([], s)
  let stalls := ((boundStalls s).map (fun p => [Item.bind (blockOf p.1 p.2) p.2.gen, Item.stallReset p.1 p.2.gen 0])).flatten
  let keys := (s.munim.keys.map (fun p =>
    (match p.2.key with | some k => [Item.key (p.1 / 2 ^ 28) (p.1 % 2 ^ 28) { k with res := none }] | none => []) ++
    (match p.2.tomb with | some g => [Item.keyGone (p.1 / 2 ^ 28) (p.1 % 2 ^ 28) (some g) p.2.tombNext] | none => []))).flatten
  (slots ++ tallies ++ owners ++ stalls ++ keys, s1)

/-- The stream goes out, one item a frame, and the digest after it (10 R482 steps 2 and 4). -/
def sendStream (s : State) : State :=
  let (its, s1) := streamItems s
  let s2 := its.foldl (fun s it => sendFrame 1 (.resync [sealItem s it]) s) s1
  sendFrame 1 (.resyncEnd (joinDigest s2)) { s2 with pair := { s2.pair with resyncRecords := satAdd 32 s2.pair.resyncRecords its.length } }

/-- PAIR_JOIN (10 R482). -/
def pairJoin : Handler := fun o _ s =>
  if s.pair.state ≠ psSole || !s.pair.session || (s.pair.twinState ≠ psWaiting && s.pair.twinState ≠ psJoining) || s.pair.joinOrder.isSome then
    (.fail 0x0330 0, s)
  else
    (.settled, sendStream { modOrder s o.id (fun o => { o with stage := .waitPair }) with
      pair := { s.pair with joinOrder := some o.id, joinTries := 1, resyncRecords := 0 } })

/-- 0x0F22 PAIR_JOIN (10 R482). -/
def execPairJoin (id : Nat) (e : FwEnv) : State → Res := runFw 0x0F22 pairJoin id e

/-- What the joining part clears (10 R482 step 1, R473): key store, Stall bindings, Owner records and open ceremonies, with
the master entries that the stream replaces. -/
def joinClear (s : State) : State :=
  let s1 := ((boundStalls s).filter (fun p => p.1 != 0)).foldl (fun s p =>
    let s1 := { (stallOrders s p.1).foldl (fun s o => dropOrder (dropTlps o.id s) o.id) s with pcie := { s.pcie with trans := s.pcie.trans.filter (fun y => y.stall != p.1) } }
    let s2 := (List.range 4).foldl (fun s q => setRing s p.1 q Ring.reset) s1
    modStall s2 p.1 freedStall) s
  { clearWorking s1 with
    mram := { s1.mram with master := [], allots := [] }
    keeper := { s1.keeper with loaded := [], results := [] }
    munim := { s1.munim with keys := [], cache := [], backup := none, restore := [] } }

/-- An item of the stream on the joining part (10 R482): a generation of kind 6 is set as it is; a Tally of which this part
holds more goes back (10 R473). -/
def joinItem (s : State) (it : Item) : State :=
  let s1 := { s with pair := { s.pair with resyncRecords := satAdd 32 s.pair.resyncRecords 1 } }
  match it with
  | .stallReset st gen _ => if st < 4096 then modStall s1 st (fun x => { x with gen := gen }) else s1
  | .tally n v => if v < (tally s1 n).value then sendFrame 1 (.resync [.tally n (tally s1 n).value]) s1 else applyItem 0 (.tally n v) s1
  | .bind b gen => if b.stall = 0 then s1 else applyItem 0 (.bind b gen) s1
  | it => applyItem 0 it s1

/-- RESYNC items (10 R482): the first frame of an attempt makes the part Joining and clears it; a Sole part takes the greater
Tallies that come back. -/
def resyncIn (its : List Item) (s : State) : State :=
  if s.pair.state = psWaiting || s.pair.state = psJoining then
    let s1 := if s.pair.state = psWaiting then setPair psJoining { s with pair := { s.pair with resyncRecords := 0 } } else s
    let s2 := if s1.pair.joinTries = 0 then joinClear { s1 with pair := { s1.pair with joinTries := 1 } } else s1
    its.foldl (fun s it => joinItem s (openItem s it)) s2
  else if s.pair.state = psSole then
    its.foldl (fun s it => match it with | .tally n v => if 32 ≤ n then applyItem 0 (.tally n v) s else s | _ => s) s
  else s

/-- The two parts are equal (10 R482 step 5): they are Paired, and the Lead writes the armed value. -/
def joined (role : Nat) (s : State) : State :=
  armArbiter (event 37 (setPair psPaired { s with pair := { s.pair with role := role, joinTries := 0 } }))

/-- The digest of the twin at the end of the stream (10 R482 step 4). -/
def resyncEndIn (d : Bytes) (s : State) : State :=
  let mine := joinDigest s
  if s.pair.state = psWaiting || s.pair.state = psJoining then
    let s1 := sendFrame 1 (.resyncEnd mine) s
    if d = mine then joined 1 s1 else { s1 with pair := { s1.pair with joinTries := 0 } }
  else
    match s.pair.joinOrder with
    | some id =>
      if d = mine then
        complete id 0 0 (joined 0 { s with pair := { s.pair with joinOrder := none } })
      else if s.pair.joinTries < 3 then sendStream { s with pair := { s.pair with joinTries := s.pair.joinTries + 1 } }
      else joinLost s
    | none => s

/-- RESYNC (10 R482). -/
def execResync (f : Frame) (t : Nat) : State → Res :=
  frameAct t fun s =>
    match f.body with
    | .resync its => receive f (resyncIn its) s
    | .resyncEnd d => receive f (resyncEndIn d) s
    | _ => s

end Machine
end Sys2Proof
end

