-- ==== Sys2Proof/Machine/Dispatcher.lean ====
section
/-!
DEFINITION. The scheduler: which order is dispatched, to which instances, and what an order meets on its way to the engines:
classification, key resolution, cache fills, translations and input (01 R31 to R35, R45; 02 R95 to R99; 03 R147 to R152,
R158; 11 R500; 12 R686).
-/
namespace Sys2Proof
namespace Machine

-- Costs (03 R148; 06 R329; 07 R348, R350) --------------------------------------------------------------------------------

/-- Type and size of key A as the key store holds it, zeros without a key. -/
def storedType (s : State) (o : Order) : Nat × Nat :=
  match (keySlot s (hOwner o.keyA) (hSlot o.keyA)).key with
  | some k => (k.attrs.keyType, k.attrs.keyBits)
  | none => (0, 0)

/-- Curve or parameter set of a Forge or Kiln order: that of key A, or the one its parameter block names. -/
def workCode (s : State) (o : Order) : Nat :=
  if !inlineKey o then (storedType s o).1 % 16
  else match o.opcode with
    | 0x0302 => par o 2 1 | 0x0312 => par o 3 1 | 0x0321 => par o 65 1 | 0x0401 => par o 65 1 | _ => par o 4 1

/-- Modulus bits of an RSA order. -/
def workBits (s : State) (o : Order) : Nat := if inlineKey o then par o 4 2 else (storedType s o).2

/-- W of an ECDSA or EdDSA signature, and of a verification, by curve. -/
def signWork : Nat → Option Nat
  | 1 => some 1920 | 2 => some 8640 | 3 => some 26400 | 4 => some 2240 | 5 => some 10080 | 6 => some 1920
  | 7 => some 1920 | 8 => some 11760 | _ => none
def verifyWork : Nat → Option Nat
  | 1 => some 6400 | 2 => some 28800 | 3 => some 88000 | 4 => some 7400 | 5 => some 33600 | 6 => some 6400
  | 7 => some 6400 | 8 => some 39200 | _ => none
/-- W of a key agreement, by curve. -/
def agreeWork : Nat → Option Nat
  | 1 => some 1800 | 2 => some 8100 | 3 => some 24750 | 9 => some 1600 | 10 => some 9800 | _ => none
/-- W of an RSA private and public operation, by modulus bits. -/
def rsaPrivateWork : Nat → Option Nat
  | 2048 => some 85300 | 3072 => some 287900 | 4096 => some 682400 | 8192 => some 5459200 | _ => none
def rsaPublicWork : Nat → Option Nat
  | 2048 => some 1500 | 4096 => some 5000 | 8192 => some 18000 | _ => none
/-- Cost of the lattice operations, by parameter set. -/
def encapsWork : Nat → Option Nat | 1 => some 3152 | 2 => some 6400 | 3 => some 10872 | _ => none
def decapsWork : Nat → Option Nat | 1 => some 3744 | 2 => some 7280 | 3 => some 12064 | _ => none
def mldsaSignWork : Nat → Option Nat | 1 => some 14500 | 2 => some 25600 | 3 => some 34000 | _ => none
def mldsaVerifyWork : Nat → Option Nat | 1 => some 6800 | 2 => some 10240 | 3 => some 16400 | _ => none
/-- W of an SLH-DSA operation by row of R350 (0 for 128s to 5 for 256f) for a SHAKE set; a SHA2 set, of odd code, costs 4.7
times as much. -/
def slhRow (sign : Bool) : Nat → Option Nat
  | 0 => some (if sign then 30600000 else 31400) | 1 => some (if sign then 1560000 else 92000)
  | 2 => some (if sign then 52700000 else 45100) | 3 => some (if sign then 2500000 else 132900)
  | 4 => some (if sign then 46000000 else 66500) | 5 => some (if sign then 4970000 else 135500) | _ => none
def slhWork (sign : Bool) (c : Nat) : Option Nat :=
  if c = 0 then none else (slhRow sign ((c - 1) / 2)).map (fun w => if c % 2 = 1 then w * 47 / 10 else w)

/-- What the tables give for an order. -/
def tabledWork (s : State) (o : Order) : Option Nat :=
  let c := workCode s o
  match o.opcode with
  | 0x0301 => signWork c | 0x0302 => verifyWork c | 0x0311 => signWork c | 0x0312 => verifyWork c | 0x0321 => agreeWork c
  | 0x0331 => rsaPrivateWork (workBits s o) | 0x0342 => rsaPrivateWork (workBits s o) | 0x0343 => rsaPrivateWork (workBits s o)
  | 0x0332 => rsaPublicWork (workBits s o) | 0x0341 => rsaPublicWork (workBits s o)
  | 0x0401 => encapsWork c | 0x0402 => decapsWork c
  | 0x0411 => mldsaSignWork c | 0x0412 => mldsaVerifyWork c | 0x0421 => slhWork true c | 0x0422 => slhWork false c
  | _ => none

/-- The public exponent of an RSA order (06 R292, R295): of the stored key, or of the key in the auxiliary data. -/
def workExponent (s : State) (o : Order) : Nat :=
  let k := (workBits s o + 7) / 8
  if inlineKey o then rsaE (if o.opcode = 0x0332 then 2 * k else k) (auxOf o)
  else match (keySlot s (hOwner o.keyA) (hSlot o.keyA)).key with
    | some x => rsaE k x.material
    | none => 65537

/-- Bit length of a number, and how many of its bits are one. -/
def bitCounts : Nat → Nat → Nat × Nat
  | 0, _ => (0, 0)
  | fuel + 1, n => if n = 0 then (0, 0) else ((bitCounts fuel (n / 2)).1 + 1, (bitCounts fuel (n / 2)).2 + n % 2)

/-- The rise of W for a public exponent other than 65,537 (06 R329): its ladder steps, in modmul equivalents of the modulus
(01 R56: cycles over 4). -/
def exponentRise (s : State) (o : Order) : Nat :=
  let e := workExponent s o
  let n := workBits s o
  if o.opcode / 16 ≠ 0x33 && o.opcode / 16 ≠ 0x34 || e = 65537 then 0
  else ((bitCounts 64 e).1 + (bitCounts 64 e).2 - 19) * (((n + 63) / 64) * ((n + 255) / 256)) / 4

/-- Whether an order is an RSA key generation (04 R198; 06 R314). -/
def rsaGenerate (o : Order) : Bool := o.opcode == 0x0601 && par o 0 2 == 0x0301

/-- Mean W of an RSA key generation (06 R314, R329). -/
def rsaPairWork (o : Order) : Nat :=
  match par o 2 2 with
  | 2048 => 1800000
  | 4096 => 25800000
  | b => Config.workUnits 0x0601 1 b

/-- The kind whose deficit an order is charged to: that of its class, and the Forges for an RSA key generation, which is a
firmware order (03 R148; 06 R314). -/
def costKind (o : Order) : Option EngKind := if rsaGenerate o then some .forge else classKind o.opcode

/-- Cost of one order for its engine kind (03 R148). -/
def orderCost (s : State) (o : Order) : Nat :=
  if rsaGenerate o then rsaPairWork o
  else match classKind o.opcode with
  | some .loom => if (o.opcode == 0x0142 || o.opcode == 0x0171) && twoPass o then 2 * o.inLen else 64 + o.inLen
  | some .mill => 64 + o.inLen
  | some _ => (tabledWork s o).getD (Config.workUnits o.opcode (workCode s o) (workBits s o)) + exponentRise s o
  | none => 0

/-- Quantum Qk of a kind (03 R148). -/
def quantum : EngKind → Nat | .loom => 512 | .forge => 2048 | .kiln => 2048 | .mill => 512

-- Instances --------------------------------------------------------------------------------------------------------------

/-- Slots of an instance that hold work: its orders and its discarded runs (01 R32; 03 R161). -/
def load (s : State) (k : EngKind) (i : Nat) : Nat :=
  (s.orders.filter (fun o => o.insts.contains (k, i))).length + (inst s k i).discard.length

/-- Orders an instance can hold: a Loom one executing and one staged, a Forge or Kiln 8 slots, a Mill pair one
(01 R32; 05 R279; 07 R353). -/
def capacity : EngKind → Nat | .loom => 2 | .forge => 8 | .kiln => 8 | .mill => 1

/-- Whether an instance may take an order (01 R35; 05 R244; 11 R500, R502; 09 R425). -/
def canTake (s : State) (o : Order) (k : EngKind) (i : Nat) : Bool :=
  let x := inst s k i
  x.status == .active && x.heldFor.isNone && !x.gated && !(k == .loom && x.needReseed) && !o.avoid.contains (k, i) &&
    decide (load s k i < capacity k)

/-- Instances of a kind that may take an order, by number. -/
def takers (s : State) (o : Order) (k : EngKind) : List Nat := (List.range (instsOf s k).length).filter (canTake s o k)

/-- The first pair of instances in different groups, else of one group (01 R32). -/
def pickPair (k : EngKind) (l : List Nat) : Option (Nat × Nat) :=
  let pairs := (l.map (fun i => (l.filter (fun j => decide (i < j))).map (fun j => (i, j)))).flatten
  match pairs.find? (fun p => groupOf k p.1 != groupOf k p.2) with
  | some p => some p
  | none => pairs.head?

/-- The instances an order is dispatched to: a Loom with least work, on a retry in the other group where one is free; two
slots of different Forges or Kilns; a Mill pair (01 R32; 05 R279; 11 R500; 07 R353). -/
def pickInsts (s : State) (o : Order) (k : EngKind) : Option (List (EngKind × Nat)) :=
  let l := takers s o k
  match k with
  | .loom =>
    let far := l.filter (fun i => o.avoid.all (fun p => groupOf .loom p.2 != groupOf .loom i))
    let c := if far.isEmpty then l else far
    ((c.find? (fun i => load s .loom i == 0)).or c.head?).map (fun i => [(.loom, i)])
  | .mill => l.head?.map (fun i => [(.mill, i)])
  | _ => (pickPair k l).map (fun p => [(k, p.1), (k, p.2)])

/-- Whether the temperature Throttle holds dispatch to a kind back: half of the kind, rounded up, holds work (12 R686). -/
def throttled (s : State) (k : EngKind) : Bool :=
  let act := withStatus s k .active
  let busy := ((List.range (instsOf s k).length).map (load s k))
  s.mon.throttle &&
  match k with
  | .loom => decide ((act.length + 1) / 2 ≤ (busy.filter (fun n => decide (0 < n))).length)
  | .mill => decide ((act.length + 1) / 2 ≤ busy.sum)
  | _ => decide ((act.length * 4 + 1) / 2 ≤ (busy.sum + 1) / 2)

-- Which orders may be dispatched -------------------------------------------------------------------------------------------

/-- Whether this part runs an order: one of a shared ring that the other side runs is not dispatched here (10 R456). A
stateful order is dispatched on both. -/
def runsHere (s : State) (o : Order) : Bool :=
  !(mirrored s && (ring s o.stall o.ring).shared && !isStateful o.opcode && twinsOrder s o)

/-- Whether all slots of a ring below an order's count have left the packet queue as committed orders (02 R66, R97). -/
def slotsBefore (s : State) (o : Order) : Bool :=
  let r := ring s o.stall o.ring
  decide ((o.count - r.h).toNat < (skipCw r r.asm - r.h).toNat)

/-- Whether an order of the ring that the twin runs carries FENCE and stands before an order: later ones wait until its receipt
is known (02 R99; 10 R456). -/
def fencedByTwin (s : State) (o : Order) : Bool :=
  let h := (ring s o.stall o.ring).h
  ((ringOrders s o.stall o.ring).filter undispatched).any (fun x =>
    fenceFlag x && !runsHere s x && decide ((x.count - h).toNat < (o.count - h).toNat))

/-- The head order of a ring: in ring order the first that this part has yet to dispatch, once every slot before it has become
an order, unless the ring diverges before it (02 R66, R97; 10 R456, R460). -/
def headOf (s : State) (st q : Nat) : Option Order :=
  match ((waitingOrders s st q).filter (runsHere s)).head? with
  | none => none
  | some o =>
    if !slotsBefore s o || fencedByTwin s o then none
    else match divergence (ring s st q) with
      | some c => if c = o.count.toNat || 2 ^ 31 ≤ (o.count - BitVec.ofNat 32 c).toNat then some o else none
      | none => some o

/-- Receipt slots that an order reserves (02 R98); a cap beyond 448 is refused and needs one slot (log entry 61). -/
def rcptNeed (o : Order) : Nat := if inlineOut o && o.outCap ≤ 448 then 1 + (o.outCap + 30) / 31 else 1

/-- Whether the receipt ring has room for an order (02 R98). -/
def roomFor (s : State) (o : Order) : Bool := decide (rcptNeed o ≤ rcptRoom (ring s o.stall o.ring))

/-- Whether an entry of a ring comes before an order: by its count, or, for a receipt of intake, by when it was owed. -/
def comesBefore (x o : Order) : Bool :=
  if x.intakeErr then decide (x.id < o.id) else x.count != o.count && decide ((o.count - x.count).toNat < 2 ^ 31)

/-- Whether FENCE is satisfied: no earlier order of the ring is without its receipt (02 R99). -/
def fenceMet (s : State) (o : Order) : Bool :=
  !fenceFlag o || !(ringOrders s o.stall o.ring).any (fun x => comesBefore x o)

/-- Whether a quota of the Stall holds an order back (03 R150). -/
def overQuota (s : State) (o : Order) : Bool :=
  let x := stall s o.stall
  decide (x.maxInflight ≤ inflight s o.stall) ||
    ((classKind o.opcode == some .forge || classKind o.opcode == some .kiln) && decide (x.maxPk ≤ pkNow s o.stall))

/-- The keys an engine order uses, with what its opcode wants of them (04 R190). -/
def engineKeys (o : Order) : List (Nat × KeyUse) :=
  match classKind o.opcode with
  | some .loom => if (paramLen o.opcode).isNone then [] else
      (o.keyA, loomKeyA o) :: (match loomKeyB o with | some u => [(o.keyB, u)] | none => [])
  | some .forge => (forgeKeyA o).toList.map (fun u => (o.keyA, u))
  | some .kiln => (kilnKeyA o).toList.map (fun u => (o.keyA, u))
  | some .mill => (millKeyA o).toList.map (fun u => (o.keyA, u))
  | none => []

/-- Whether an order waits for the Keeper world's restart: it names a key or is of a firmware class (09 R430). -/
def waitsKeeper (s : State) (o : Order) : Bool := s.keeper.restarting && (isFirmware o.opcode || !(engineKeys o).isEmpty)

/-- Whether the rate of an opcode is reached: 1,000 exports and statements a second (13 R585), and 47,500 predictions of the
DRBG a second for each healthy source (07 R361). -/
def rateReached (s : State) (o : Order) : Bool :=
  ((o.opcode == 0x0710 || o.opcode == 0x0720) &&
    decide (1000 ≤ (s.keeper.attTimes.filter (fun x => decide (s.clock < x + 1000000000))).length)) ||
  (o.opcode == 0x0551 && bitOf (par o 4 1) 0 &&
    decide (47500 * (4 - s.drbg.bad.length) ≤ (s.drbg.predAt.filter (fun x => decide (s.clock < x + 1000000000))).length))

/-- Whether a Stall's stateful orders, or the pair's transactions, are at their limit (03 R158; 10 R465). -/
def statefulFull (s : State) (o : Order) : Bool :=
  isStateful o.opcode &&
    (decide (8 ≤ ((stallOrders s o.stall).filter (fun x => isDispatched x && isStateful x.opcode)).length) ||
     (mirrored s && decide (64 ≤ s.pair.txns.length)))

/-- Whether an order's engine kind can take it now: an instance is free, the Throttle permits it and the masks can be made
(05 R244; 12 R686). -/
def engineFree (s : State) (o : Order) : Bool :=
  match classKind o.opcode with
  | none => true
  | some k => !throttled s k && (pickInsts s o k).isSome && (k == .mill || s.drbg.up)

/-- Whether a key of an order would need a fill buffer while none is free (03 R151 step 4). -/
def bufferWait (s : State) (o : Order) : Bool :=
  let miss := (((engineKeys o).map (fun p => p.1)).eraseDups).filter (fun h =>
    !inCache s h && (keySlot s (hOwner h) (hSlot h)).key.isSome)
  decide (16 < (miss.foldl (fun s h => cacheMiss o.id o.stall h s) s).munim.fillBufs.length)

/-- Whether an order may be dispatched (03 R150, R158; 02 R98, R99; 09 R430; 10 R465). -/
def dispatchable (s : State) (o : Order) : Bool :=
  !overQuota s o && roomFor s o && fenceMet s o && !waitsKeeper s o && !rateReached s o && !statefulFull s o &&
    !bufferWait s o && engineFree s o

/-- The order that a Stall offers for a kind: of its rings in round-robin order, the first whose head order is of the kind
and dispatchable (03 R149). The Admin ring stands aside (R152). -/
def offer (s : State) (k : Option EngKind) (st : Nat) : Option Order :=
  let n := (stall s st).nextRing
  ([n, n + 1, n + 2, n + 3].map (fun q => q % 4)).findSome? (fun q =>
    if st = 0 && q = 0 then none
    else match headOf s st q with
      | some o => if costKind o == k && dispatchable s o then some o else none
      | none => none)

/-- The Stalls that offer an order of a kind, by number (03 R147). -/
def offers (s : State) (k : Option EngKind) : List (Nat × Order) :=
  (boundStalls s).filterMap (fun p => (offer s k p.1).map (fun o => (p.1, o)))

-- Weighted deficit round robin (03 R147) -----------------------------------------------------------------------------------

/-- Entries by Stall number in the order in which the scheduler comes to them from a position on: by number, cyclically; the
Stall served keeps the turn while its deficit lasts (R147 gives no order within a round; DESIGN CHOICE, log entry 137). -/
def fromCursor (c : Nat) (l : List (Nat × Order)) : List (Nat × Order) :=
  l.filter (fun p => decide (c < p.1)) ++ l.filter (fun p => decide (p.1 ≤ c))

/-- Deficit of a Stall for a kind. -/
def deficit (s : State) (k : EngKind) (st : Nat) : Nat := (stall s st).deficits.getD (kindIx k) 0

/-- What a Stall's deficit for a kind grows by in a round. -/
def grain (s : State) (k : EngKind) (st : Nat) : Nat := max 1 ((stall s st).weight) * quantum k

/-- The visit at which a Stall can dispatch its offer: each visit adds one grain first. -/
def visitsNeeded (s : State) (k : EngKind) (p : Nat × Order) : Nat :=
  max 1 ((orderCost s p.2 - deficit s k p.1 + grain s k p.1 - 1) / grain s k p.1)

/-- The Stall that dispatches next from a position on: fewest visits, then first in order. -/
def firstServed (s : State) (k : EngKind) (l : List (Nat × Order)) : Option (Nat × Order) :=
  l.foldl (fun b p => match b with
    | none => some p
    | some x => if visitsNeeded s k p < visitsNeeded s k x then some p else some x) none

/-- The deficit of a Stall for a kind is replaced. -/
def setDeficit (k : EngKind) (st d : Nat) (s : State) : State :=
  modStall s st (fun x => { x with deficits := modAt (fun _ => d) x.deficits (kindIx k) })

/-- The deficits after the rounds in which the Stall `w` of `l` is served at its visit `v`: those before it in order had `v`
visits too, those after it one fewer. -/
def growAll (k : EngKind) (w v : Nat) : Bool → List (Nat × Order) → State → State
  | _, [], s => s
  | past, p :: r, s =>
    let n := if past then v - 1 else v
    growAll k w v (past || p.1 == w) r (setDeficit k p.1 (deficit s k p.1 + n * grain s k p.1) s)

/-- Stalls that are not active for a kind lose their deficit. -/
def clearIdle (k : EngKind) (l : List (Nat × Order)) (s : State) : State :=
  (boundStalls s).foldl (fun s p => if l.any (fun x => x.1 == p.1) || deficit s k p.1 = 0 then s else setDeficit k p.1 0 s) s

/-- The next order of a kind by weighted deficit round robin, with the deficits charged for it. -/
def nextByWeight (k : EngKind) (s : State) : Option (Order × State) :=
  let l := offers s (some k)
  let s0 := clearIdle k l s
  let c := s.cursors.getD (kindIx k) 0
  match l.find? (fun p => p.1 == c) with
  | some p =>
    if orderCost s p.2 ≤ deficit s k c then some (p.2, setDeficit k c (deficit s k c - orderCost s p.2) s0)
    else served l s0
  | none => served l s0
where
  served (l : List (Nat × Order)) (s : State) : Option (Order × State) :=
    let l' := fromCursor (s.cursors.getD (kindIx k) 0) l
    match firstServed s k l' with
    | none => none
    | some p =>
      let s1 := growAll k p.1 (visitsNeeded s k p) false l' s
      some (p.2, { setDeficit k p.1 (deficit s1 k p.1 - orderCost s p.2) s1 with
        cursors := modAt (fun _ => p.1) s1.cursors (kindIx k) })

-- Classification (02 R72, R75 to R79, R95, R109) ---------------------------------------------------------------------------

/-- Where the inline auxiliary input starts, and the end E of the inline area (02 R72). -/
def auxStart (o : Order) (q : Nat) : Nat := if inlineIn o then q + roundUp o.inLen 8 else q
def inlineEnd (o : Order) (q : Nat) : Nat :=
  if inlineAux o then auxStart o q + o.auxLen else if inlineIn o then q + o.inLen else q

/-- Whether the bytes between the parts of the inline area and after them are zero (02 R72). -/
def paddingOk (o : Order) (q : Nat) : Bool :=
  allZero (o.inl.drop (inlineEnd o q)) &&
    (!(inlineIn o && inlineAux o) || allZero (slice o.inl (q + o.inLen) (auxStart o q - (q + o.inLen))))

/-- The flag checks of R109 (0x0105). -/
def flagsBad (o : Order) : Bool :=
  (inlineIn o && o.inIova != 0) || (inlineOut o && (o.outIova != 0 || decide (448 < o.outCap))) || (inlineAux o && o.auxIova != 0)

/-- Whether a no-operation order has a field or flag that R79 wants zero. -/
def nopBad (o : Order) : Bool :=
  inlineIn o || inlineOut o || inlineAux o || o.keyA != 0 || o.keyB != 0 || o.inIova != 0 || o.inLen != 0 || o.outCap != 0 ||
    o.outIova != 0 || o.auxIova != 0 || o.auxLen != 0

/-- Whether two ranges overlap (02 R77). -/
def rangesMeet (a n b m : Nat) : Bool := n != 0 && m != 0 && decide (a < b + m) && decide (b < a + n)

/-- Whether ranges of an order overlap in a way its opcode does not permit (02 R77; 05 R251). -/
def overlapBad (o : Order) : Bool :=
  let i := if inlineIn o then 0 else o.inLen
  let u := if inlineOut o then 0 else o.outCap
  let x := if inlineAux o then 0 else o.auxLen
  (rangesMeet o.inIova i o.outIova u && !(inPlace o.opcode && o.inIova == o.outIova)) ||
    rangesMeet o.inIova i o.auxIova x || rangesMeet o.outIova u o.auxIova x

/-- Whether a range reaches beyond 2^64 (02 R109). -/
def beyondTop (o : Order) : Bool :=
  (!inlineIn o && decide (2 ^ 64 < o.inIova + o.inLen)) || (!inlineOut o && decide (2 ^ 64 < o.outIova + o.outCap)) ||
    (!inlineAux o && decide (2 ^ 64 < o.auxIova + o.auxLen))

/-- Orders that a Quarantined part refuses beside those a Deployed one does (14 R616). -/
def quarantineRefuses : List Nat :=
  [0x0F52, 0x0F40, 0x0F20, 0x0601, 0x0604, 0x0606, 0x0608, 0x0F01, 0x0F10, 0x0620, 0x0630, 0x0321, 0x0343, 0x0401, 0x0402, 0x0531]

/-- Whether a lifecycle state accepts an opcode (14 R616). -/
def lcAccepts (state opcode : Nat) : Bool :=
  let running := opcode != 0x0F50 && opcode != 0x0F55 && opcode != 0x0F54
  opcode == 0 ||
  match state with
  | 1 => [0x0F50, 0x0F54, 0x0F60, 0x0F61, 0x0F62, 0x0720, 0x0710, 0x0730].contains opcode
  | 2 => running
  | 3 => running && opcode != 0x0F51
  | 4 => running && opcode != 0x0F51 && !quarantineRefuses.contains opcode
  | 5 => [0x0F53, 0x0F55, 0x0F54, 0x0720, 0x0710, 0x0730, 0x0701, 0x0702].contains opcode
  | 6 => [0x0F54, 0x0720, 0x0710, 0x0730].contains opcode
  | _ => false

/-- The checks of each class on its parameter block. -/
def classChecks (o : Order) : Verdict :=
  firstBad [recordStall o, loomClassify o, forgeClassify o, kilnClassify o, millClassify o, keyClassify o, ownerClassify o,
            recordClassify o, platformClassify o, refuse (o.opcode == 0x0F20 && resIn o 1 7) 0x0103 0]

/-- The checks of an order before its keys are resolved (02 R95; 10 R479; 14 R616; order of checks: log entry 50). -/
def classify (s : State) (o : Order) : Verdict :=
  let q := (paramLen o.opcode).getD 0
  firstBad
    [refuse ((paramLen o.opcode).isNone || (o.opcode / 256 == 15 && !(o.stall == 0 && o.ring == 0))) 0x0104 0,
     refuse (if o.opcode = 0 then nopBad o else flagsBad o) 0x0105 0,
     refuse (o.nslots != 1 + (inlineEnd o q + 63) / 64) 0x0102 0,
     refuse (!paddingOk o q) 0x0103 0,
     refuse (beyondTop o) 0x0404 0,
     refuse (overlapBad o) 0x0107 0,
     refuse ((s.pair.state == psWaiting || s.pair.state == psJoining) && o.opcode != 0x0F21) 0x0330 0,
     refuse (!lcAccepts s.faults.lifecycle o.opcode) 0x0353 s.faults.lifecycle,
     classChecks o]

/-- Whether the auxiliary range of an order takes output: KEY_GENERATE without a quorum (04 R200, R201). -/
def auxIsOutput (o : Order) : Bool :=
  o.opcode == 0x0601 && !(bitOf (par o 6 2) 0) && !(bitOf (par o 4 2) uWrapOut)

/-- The order with what its inline area and absent ranges give as input and auxiliary input (02 R72). -/
def withInline (o : Order) : Order :=
  let q := (paramLen o.opcode).getD 0
  { o with
    input := if o.inLen = 0 then some [] else if inlineIn o then some (slice o.inl q o.inLen) else none
    aux := if o.auxLen = 0 || auxIsOutput o then some []
           else if inlineAux o then some (slice o.inl (auxStart o q) o.auxLen) else none }

-- Keys of a dispatched order --------------------------------------------------------------------------------------------

/-- The keys of an order are there: they are charged, or, in a re-execution, only the device-made nonce is (05 R258, R260;
11 R493). -/
def keysPresent (id : Nat) (s : State) : State :=
  match order? s id with
  | none => s
  | some o =>
    if o.charged then
      (if dnOnA o then beginCharge id [o.keyA] s else if dnOnB o then beginCharge id [o.keyB] s else startInput id s)
    else beginCharge id ((engineKeys o).map (fun p => p.1)) s

/-- Each key of an order is taken from the cache, or a fill begins (03 R151; 04 R180). -/
def takeKeys (id : Nat) (s : State) : State :=
  match order? s id with
  | none => s
  | some o =>
    let hs := ((engineKeys o).map (fun p => p.1)).eraseDups
    let missing := hs.filter (fun h => !inCache s h)
    let s1 := hs.foldl (fun s h => if inCache s h then cacheHit o.stall h s else cacheMiss id o.stall h s) s
    if missing.isEmpty then keysPresent id s1 else modOrder s1 id (fun o => { o with stage := .waitFill })

/-- Resolution of an engine order's keys, handle A with its step 12 before handle B (04 R190): the records, or the first check
that fails. -/
def resolveAll (s : State) (st : Nat) : List (Nat × KeyUse) → Except (Nat × Nat) (List KeyRec)
  | [] => .ok []
  | p :: r =>
    match resolve s st p.1 p.2.suits p.2.need with
    | .error e => .error e
    | .ok k =>
      if k.attrs.kstate ≠ 0 then .error (0x0208, 0)
      else match resolveAll s st r with
        | .error e => .error e
        | .ok ks => .ok (k :: ks)

/-- The key policies of the classes. -/
def policies (s : State) (o : Order) : Verdict :=
  match classKind o.opcode with
  | some .loom => loomPolicy s o
  | some .forge => forgePolicy s o
  | some .kiln => kilnPolicy s o
  | some .mill => millPolicy s o
  | none => none

/-- An engine order that passed classification: its keys are resolved and taken. -/
def resolveKeys (id : Nat) (s : State) : State :=
  match order? s id with
  | none => s
  | some o =>
    match resolveAll s o.stall (engineKeys o) with
    | .error e => complete id e.1 e.2 s
    | .ok ks =>
      let o1 := { o with recA := ks.head?, recB := (ks.drop 1).head? }
      match policies s o1 with
      | some v => complete id v.1 v.2 s
      | none => takeKeys id (modOrder s id (fun o => { o with recA := o1.recA, recB := o1.recB }))

-- Dispatch ------------------------------------------------------------------------------------------------------------------

/-- An order is given its instances (05 R279): a Loom order is staged when the Loom already holds an order. -/
def place (id : Nat) (l : List (EngKind × Nat)) (s : State) : State :=
  match l with
  | [(.loom, i)] =>
    let busy := decide (0 < load s .loom i)
    { s with orders := s.orders.map (fun o =>
      if o.id = id then { o with insts := l, staged := busy } else if o.insts.contains (.loom, i) then { o with staged := false } else o) }
  | _ => modOrder s id (fun o => { o with insts := l })

/-- Times of the rate-limited dispatches. -/
def countRate (o : Order) (s : State) : State :=
  if o.opcode = 0x0710 || o.opcode = 0x0720 then
    { s with keeper := { s.keeper with attTimes := within 1000000000 s.keeper.attTimes s.clock } }
  else if o.opcode = 0x0551 && bitOf (par o 4 1) 0 then
    { s with drbg := { s.drbg with predAt := within 1000000000 s.drbg.predAt s.clock } }
  else s

/-- H after a dispatch from a ring (02 R97), and the slots that may now be read; on a shared ring H follows receipts
(10 R457). -/
def advanceHead (st q : Nat) (s : State) : State :=
  if mirrored s && (ring s st q).shared then fetchSlots st q s
  else fetchSlots st q (modRing s st q (ringTo (dispatchHead s st q)))

/-- An order that was chosen is dispatched (01 R45 stages 4 to 6): room and instances are taken, H moves past it, and it is
classified, resolved and charged; or it completes with the first check that fails. -/
def startOrder (o : Order) (l : List (EngKind × Nat)) (s : State) : State :=
  let n := rcptNeed o
  let s1 := modOrder s o.id (fun x => { withInline x with
    stage := .waitInput, rsv := n, runs := x.runs + 1, dispatchAt := s.clock })
  let s2 := modStall (modRing s1 o.stall o.ring (fun r => { r with reserved := r.reserved + n })) o.stall (fun x =>
    { x with nextRing := (o.ring + 1) % 4, waitTime := x.waitTime + (s.clock - o.commitAt) / 10,
             bytesIn := x.bytesIn + (if inlineIn o then o.inLen else 0) + (if inlineAux o then o.auxLen else 0) })
  let s3 := advanceHead o.stall o.ring (countRate o s2)
  match classify s3 (withInline o) with
  | some v => complete o.id v.1 v.2 s3
  | none =>
    let s4 := place o.id l s3
    if o.opcode = 0 then modOrder s4 o.id (fun x => { x with stage := .ready })
    else if isFirmware o.opcode then startInput o.id s4
    else resolveKeys o.id s4

/-- An order to be run again is dispatched (11 R491 to R493, R500): it keeps its keys and its charge, and reads its host
input again. -/
def restartOrder (o : Order) (l : List (EngKind × Nat)) (s : State) : State :=
  let s1 := modOrder s o.id (fun x => { withInline x with
    pass2 := none, stage := .waitInput, runs := x.runs + 1, dispatchAt := s.clock, engTime := 0, wfault := [] })
  let s2 := place o.id l s1
  if o.opcode = 0 then modOrder s2 o.id (fun x => { x with stage := .ready })
  else if isFirmware o.opcode then startInput o.id s2
  else takeKeys o.id s2

/-- The instances of an order, or none while it must wait for them. -/
def instsFor (s : State) (o : Order) : Option (List (EngKind × Nat)) :=
  if !engineFree s o then none
  else match classKind o.opcode with
    | some k => pickInsts s o k
    | none => some []

/-- RCP_WAIT of a ring: its head order waits for receipt-ring space (02 R98). -/
def rcpWaits (s : State) (st q : Nat) : Bool := match headOf s st q with | some o => !roomFor s o | none => false

/-- QUOTA_WAIT of a Stall: a quota holds the head order of one of its rings back (03 R150). -/
def quotaWaits (s : State) (st : Nat) : Bool :=
  [0, 1, 2, 3].any (fun q => match headOf s st q with | some o => overQuota s o | none => false)

/-- The deficits of Stalls that are not active for a kind are 0 (03 R147), at every scheduler step and for every kind. -/
def clearIdles (s : State) : State :=
  [EngKind.loom, .forge, .kiln, .mill].foldl (fun s k => clearIdle k (offers s (some k)) s) s

/-- The waits of every Stall and ring as the scheduler leaves them (02 R98; 03 R150). The registers read `rcpWaits` and
`quotaWaits`, which hold between scheduler steps too. -/
def refreshWaits (s : State) : State :=
  let s1 := s.rings.foldl (fun t p =>
    let st := p.1 / 4
    let q := p.1 % 4
    let w := rcpWaits s st q
    if p.2.rcpWait == w then t else modRing t st q (fun r => { r with rcpWait := w })) s
  s.stalls.foldl (fun t p =>
    let w := quotaWaits s p.1
    if p.2.quotaWait == w then t else modStall t p.1 (fun x => { x with quotaWait := w })) s1

/-- The order that the scheduler takes next, with the state it leaves: the Admin ring's head before all others and without a
deficit; then, of the kind, an order to be run again; then by weight. Orders that need no engine go by Stall and ring
(03 R147 to R152; log entry 62). -/
def chooseOrder (k : Option EngKind) (s : State) : Option (Order × State) :=
  match (headOf s 0 0).filter (dispatchable s) with
  | some o => some (o, s)
  | none =>
    match s.orders.find? (fun o => o.stage == .redo && costKind o == k && (instsFor s o).isSome && !waitsKeeper s o && !bufferWait s o) with
    | some o => some (o, s)
    | none =>
      match k with
      | some k => nextByWeight k s
      | none => (offers s none).head?.map (fun p => (p.2, s))

/-- DISPATCH (03 R147 to R152): the scheduler dispatches one order of a kind, or one that needs no engine; not during a part
Hold (11 R488). -/
def execDispatch (k : Option EngKind) (t : Nat) (s : State) : Res :=
  coreAct (fun s =>
    let s := tick t s
    if inHold s then s
    else
      let s := clearIdles s
      let s1 := match chooseOrder k s with
        | none => s
        | some (o, s) =>
          match instsFor s o with
          | none => s
          | some l => if o.stage == .redo then restartOrder o l s else startOrder o l s
      refreshWaits (clearIdles s1)) s

-- The waits of a dispatched order -------------------------------------------------------------------------------------------

/-- NO_OPERATION (02 R79): it touches no engine and completes with status 0. -/
def execNoOperation (id : Nat) (s : State) : Res :=
  coreAct (fun s => match order? s id with
    | none => s
    | some o => if o.opcode ≠ 0 || o.stage != .ready then s else queueOutput id (complete id 0 0 s)) s

/-- KEY_CACHE_FILL_DONE (08 R387; 11 R499): the keys of an order are in the Muniment. A record whose two copies differ or
that has an uncorrectable word leaves no entry, makes a Note, and the order is run again (log entry 63). -/
def execKeyCacheFillDone (id : Nat) (copiesAgree integrityOk : Bool) (t : Nat) (s : State) : Res :=
  coreAct (fun s =>
    let s := tick t s
    match order? s id with
    | none => s
    | some o =>
      if o.stage != .waitFill then s
      else
        let s1 := { s with munim := { s.munim with fillBufs := s.munim.fillBufs.filter (fun i => i != id) } }
        if copiesAgree && integrityOk then keysPresent id s1
        else reexec id (note 0x04 7 ((engineKeys o).foldl (fun s p => dropCached p.1 s) s1)) ) s

/-- LOOM_RESEED_ARRIVAL (05 R244): a Loom that waited for its reseed goes on. -/
def execLoomReseedArrival (i : Nat) (s : State) : Res :=
  coreAct (fun s =>
    if !s.drbg.up || !(inst s .loom i).needReseed then s
    else
      let s1 := (draw 64 (modInst s .loom i (fun x => { x with needReseed := false }))).2
      { s1 with orders := s1.orders.map (fun o =>
          if o.stage == .waitSeed && o.insts.contains (.loom, i) then { o with stage := .ready } else o) }) s

/-- WORKING_KEY_IDLE_EXPIRY (04 R192): the working-key register of an instance idle for 1 us is cleared. -/
def execWorkingKeyIdleExpiry (k : EngKind) (i : Nat) (s : State) : Res :=
  coreAct (fun s =>
    if load s k i = 0 then modInst s k i (fun x => { x with wregs := [] }) else s) s

/-- What a completed read brings is put in its place. -/
def putPart (part : InPart) (b : Bytes) (o : Order) : Order :=
  match part with
  | .input => { o with input := some b }
  | .aux => { o with aux := some b }
  | .pass2 => { o with pass2 := some b }

/-- Whether an order waits for a part of its host input. -/
def wantsPart (o : Order) : InPart → Bool
  | .input => o.input.isNone
  | .aux => o.aux.isNone
  | .pass2 => o.input.isSome && o.aux.isSome && o.pass2.isNone

/-- Length of a part. -/
def partLen (o : Order) : InPart → Nat | .aux => o.auxLen | _ => o.inLen

/-- A Loom order whose lanes wait for a reseed waits for it; any other that has all it needs is ready (05 R244). -/
def inputReady (s : State) (o : Order) : Stage :=
  if o.insts.any (fun p => p.1 == .loom && (inst s .loom p.2).needReseed) then .waitSeed else .ready

/-- The input of a Loom order fills a half of the Loom's input buffer (05 R241, R279). -/
def fillHalf (o : Order) (s : State) : State :=
  (o.insts.filter (fun p => p.1 == .loom)).foldl (fun s p => modInst s p.1 p.2 (fun x =>
    { x with loomBufs := ({ order := o.id, stall := o.stall } :: x.loomBufs.filter (fun b => b.order != o.id)).take 2 })) s

/-- INPUT_READ_COMPLETION (02 R112, R113; 05 R264): the data of a host range of an order, or the failure that ends it. Data
short of the range reads as zeros beyond it. -/
def execInputReadCompletion (id : Nat) (part : InPart) (rr : ReadRes) (t : Nat) (s : State) : Res :=
  coreAct (fun s =>
    let s := tick t s
    finishInvs (match order? s id with
    | none => s
    | some o =>
      if o.stage != .waitInput || !wantsPart o part then s
      else
        match rr, readStatus rr with
        | .data b, _ =>
          let o1 := putPart part (fit (partLen o part) b) o
          let full := o1.input.isSome && o1.aux.isSome
          let n := partLen o part
          perfAdd 2 n (modStall (modOrder (if full then fillHalf o1 s else s) id (fun x =>
            { putPart part (fit n b) x with stage := if full then inputReady s o1 else .waitInput })) o.stall
            (fun x => { x with bytesIn := x.bytesIn + n }))
        | _, some f => complete id f.1 f.2 s
        | _, none => s)) s

-- Translations ---------------------------------------------------------------------------------------------------------------

/-- The output pages of an order. -/
def outPages (o : Order) : List Nat :=
  if inlineOut o then [] else pagesOf o.outIova o.outCap ++ (if auxIsOutput o then pagesOf o.auxIova o.auxLen else [])

/-- What a translation means for an order that waits for input: its reads of the page are issued, or it ends (02 R112). -/
def translatedRead (st page : Nat) (s : State) (o : Order) : State :=
  let rs := (openRanges o).filter (fun p => (pagesOf p.1 p.2).contains page)
  if o.stall != st || rs.isEmpty then s
  else
    match rs.findSome? (fun p => readFault s st p.1 p.2) with
    | some f => complete o.id f.1 f.2 s
    | none => emits ((rs.map (fun p => readReqs s st (inPage p.1 p.2 page).1 (inPage p.1 p.2 page).2)).flatten) s

/-- What a translation means for an order's output: a fault is kept for an order whose result is not there yet (02 R680). -/
def translatedWrite (st page : Nat) (s : State) (o : Order) : State :=
  if o.stall != st || !(outPages o).contains page || !isDispatched o || o.stage == .done then s
  else match writeFault s st page with
    | some code => modOrder s o.id (fun x => { x with wfault := x.wfault.filter (fun f => f.1 != page) ++ [(page, code)] })
    | none => s

/-- ATS_TRANSLATION_COMPLETION (02 R112, R113, R680; 03 R160): a translation arrives; neither access permitted means that there is
none. The slot reads that waited for it go on; an abandonment receipt of a Resetting Stall finds it when it is released. -/
def execAtsTranslationCompletion (st page : Nat) (rd wr : Bool) (t : Nat) (s : State) : Res :=
  coreAct (fun s =>
    let s := tick t s
    if !(stall s st).ats || (stall s st).state == .free then s
    else
      let x : Trans := { stall := st, page := page, valid := rd || wr, rd := rd, wr := wr }
      let s1 := { s with pcie := { s.pcie with trans := s.pcie.trans.filter (fun (y : Trans) => !(y.stall == st && y.page == page)) ++ [x] } }
      let s2 := s1.orders.foldl (fun s o => translatedWrite st page (translatedRead st page s o) o) s1
      if (stall s st).state == .bound then [0, 1, 2, 3].foldl (fun s q => fetchSlots st q s) s2 else s2) s

end Machine
end Sys2Proof
end

