-- ==== Sys2Proof/Machine/Registers.lean ====
section
/-!
DEFINITION. Writes of the host to register fields: those with a row of their own that no other family holds, and, by their
access codes, all others (Setup Registers, 15 R626 to R641, R653; 02 R60 to R62; 03 R138, R141; 12 R548; 13 R593, R594;
08 R396, R397; 09 R423, R424). Log entry 64: a field with a row of its own is not written by REGISTER_WRITE.
-/
namespace Sys2Proof
namespace Machine

-- Function reset ------------------------------------------------------------------------------------------------------------

/-- In Mirror mode the unbinds of a function reset run under the two-phase commit (14 R597, 10 R470): the twin is told of
them as a change already made, which belongs to no order, and of the reset of Stall 0 by its new generation (10 R461). -/
def tellUnbinds (items : List Item) (s : State) : State :=
  if mirrored s && !items.isEmpty then
    let x : Txn := { num := s.pair.nextTxn, order := s.nextId, lead := true, phase := 4, items := items, result := ⟨0, 0, [], []⟩,
                     own := [], odigest := zeros 48, vigil := vigilSeconds s, place := (0, 0, 0) }
    sendFrame 0 (deltaFrame s x 1 true)
      { s with nextId := s.nextId + 1, pair := { s.pair with nextTxn := s.pair.nextTxn + 1, txns := s.pair.txns ++ [x] } }
  else s

/-- FUNCTION_RESET (14 R597, R598; 03 R155): every ring is disabled, every Stall hard-reset with cause 6 and every Stall
but Stall 0 becomes Free; the MSI-X table returns to its reset state. Silence and a start are not interrupted
(11 R495). -/
def execFunctionReset (_c : FnReset) (t : Nat) (s : State) : Res :=
  coreAct (fun s =>
    let s := tick t s
    let ids := (boundStalls s).map (fun p => p.1)
    let told := (ids.filter (fun st => st != 0)).map (fun st => Item.unbind st (resetGen (stall s st)))
    let s1 := ids.foldl (fun s st =>
      let s1 := match (stall s st).state with
        | .resetting => mergeReset st true causeFunction s
        | _ => beginReset st true causeFunction s
      let s2 := modStall s1 st (fun x => { x with freeAfter := st != 0, lastCause := causeFunction })
      answerReset st (stall s2 st) (settleStall st { s2 with egress := s2.egress.filter (fun y => y.stall != st) })) s
    event 16 (tellUnbinds told (tellReset 0 causeFunction
      { s1 with pcie := { s1.pcie with unmasked := [], pba := [], trans := [], heldMsgs := [], msixTable := [] } }))) s

-- Fields with a row of their own -------------------------------------------------------------------------------------

/-- CAUSE_ACK (15 R636): LAST_CAUSE, LAST_LEVEL, START_FAIL and FAIL_STEP are cleared. -/
def execCauseAck (s : State) : Res :=
  hostAct (fun s => { s with faults := { s.faults with lastCause := 0, lastLevel := 0, startFail := 0, failStep := 0 } }) s

/-- FIRST_ACK (09 R424): the first-report latch is cleared. -/
def execFirstAck (s : State) : Res := hostAct (fun s => { s with worlds := { s.worlds with first := none } }) s

/-- The failure report of the Stacks cleared (08 R397). -/
def clearFailureReport (x : Stacks) : Stacks :=
  { x with ifValid := false, ifKind := 0, ifChannel := 0, ifLevel := 0, ifMaster := 0, ifAddr := 0, ifIndex := 0 }

/-- IF_ACK (08 R396, R397). -/
def execIfAck (s : State) : Res := hostAct (fun s => { s with stk := clearFailureReport s.stk }) s

/-- Every PERF counter is 0 (15 R641); so are the values the host sees while they hold still (09 R427). -/
def clearPerf (s : State) : State :=
  { s with perf := { s.perf with ctrs := List.replicate 18 0, held := s.perf.held.map (fun _ => List.replicate 18 0) } }

/-- PERF_CLEAR (15 R641). -/
def execPerfClear (s : State) : Res := hostAct clearPerf s

/-- Whether a source is one that R639 lists; all others are never set. -/
def sourceExists (n : Nat) : Bool :=
  decide (n ≤ 17) || (decide (32 ≤ n) && decide (n ≤ 37)) || (decide (64 ≤ n) && decide (n ≤ 167)) ||
    (decide (512 ≤ n) && decide (n ≤ 1535))

/-- Sources of a group whose bits a mask sets. -/
def maskSources (g : Nat) (m : BitVec 32) : List Nat :=
  ((List.range 32).filter (fun i => m.getLsbD i)).map (fun i => 32 * g + i)

/-- STATUS bits are cleared by writing ones; a bit whose source occurs in the same cycle stays 1 and a message is sent
(15 R640). -/
def clearStatus (g : Nat) (mask meet : BitVec 32) (s : State) : State :=
  if 48 ≤ g then s
  else
    let s1 := { s with ev := { s.ev with status := Tbl.put 0 s.ev.status g (evStatus s g &&& ~~~mask) } }
    ibiCheck (((maskSources g (mask &&& meet)).filter sourceExists).foldl (fun s n => event n s) s1)

/-- EVENT_STATUS_CLEAR (15 R638, R640). -/
def execEventStatusClear (g : Nat) (mask meet : BitVec 32) (s : State) : Res := hostAct (clearStatus g mask meet) s

/-- ENABLE of a group is written: a source whose status is already 1 sends its message when its enable is set
(15 R640); none is sent while EVENT_EN is 0. -/
def writeEnable (g : Nat) (v : BitVec 32) (s : State) : State :=
  let fresh := v &&& ~~~(evEnable s g) &&& evStatus s g
  let s1 := { s with ev := { s.ev with enable := Tbl.put 0 s.ev.enable g v } }
  if s.ev.en then (maskSources g fresh).foldl (fun s n => sendMsix (4080 + evRoute s n) s) s1 else s1

/-- EVENT_ENABLE_WRITE (15 R638, R640, R646). -/
def execEventEnableWrite (g : Nat) (bmc : Bool) (v : BitVec 32) (s : State) : Res :=
  hostAct (fun s =>
    if 48 ≤ g then s
    else if bmc then ibiCheck { s with ev := { s.ev with bmc := Tbl.put 0 s.ev.bmc g v } }
    else writeEnable g v s) s

/-- The record at a view index (13 R594). -/
def viewRec (s : State) (v : Nat) : Option DbRec :=
  if v < 4096 then Tbl.find? s.mram.general v else Tbl.find? s.mram.protect (v - 4096)

/-- WIN_BASE_WRITE (13 R593, R594): the snapshot of 128 records begins, or the value is refused. -/
def execWinBaseWrite (v : Nat) (s : State) : Res :=
  hostAct (fun s =>
    let v := v % 2 ^ 13
    if 5504 < v then { s with day := { s.day with winErr := true } }
    else { s with day := { s.day with winBase := v, winValid := false, winBusy := true,
                                      winData := (List.range 128).map (fun k => viewRec s (v + k)) } }) s

/-- WIN_SNAPSHOT_DONE (13 R594). -/
def execWinSnapshotDone (s : State) : Res :=
  coreAct (fun s =>
    if s.day.winBusy then { s with day := { s.day with winBusy := false, winValid := true } } else s) s

-- All other fields ---------------------------------------------------------------------------------------------------

/-- Replace 32 bits of a 64-bit register. -/
def putHalf (r : BitVec 64) (high : Bool) (v : Nat) : BitVec 64 :=
  BitVec.ofNat 64 (if high then bits r.toNat 0 32 + v % 2 ^ 32 * 2 ^ 32 else bits r.toNat 32 32 * 2 ^ 32 + v % 2 ^ 32)

/-- Bits [63:12] of a base; the rest is Res0 (02 R60). -/
def baseField (b : BitVec 64) : BitVec 64 := BitVec.ofNat 64 (b.toNat / 4096 * 4096)

/-- A 4-byte write to ring register `r` (02 R60 to R62). ENABLE, CW_EN, FLUSH, RESUME and RCP_HEAD have rows of their own. A
write that leaves ORD_LOG2 and RCP_LOG2 as they are, in the word they share with other fields, is no write to them
(log entry 65). -/
def ringWord (st q r v : Nat) (s : State) : State :=
  modRing s st q (fun x =>
    if r < 0x10 then
      if x.enabled then { x with cfgErr := true }
      else if r < 8 then { x with ordBase := baseField (putHalf x.ordBase (r == 4) v) }
      else { x with rcpBase := baseField (putHalf x.rcpBase (r == 12) v) }
    else if r = 0x10 then
      let y := { x with vecEn := bitOf v 18, outRlx := bitOf v 19 }
      if bits v 0 5 = x.ordLog2 && bits v 8 5 = x.rcpLog2 then y
      else if x.enabled then { y with cfgErr := true }
      else { y with ordLog2 := bits v 0 5, rcpLog2 := bits v 8 5 }
    else if r = 0x18 then
      { x with cfgErr := x.cfgErr && !bitOf v 4, overrun := x.overrun && !bitOf v 6 }
    else if r = 0x2C then { x with coalCount := bits v 0 16, coalTime := bits v 16 16 }
    else if r = 0x30 then { x with vecOff := bits v 0 12 }
    else x)

/-- A 4-byte write to a Stall page (02 R59, 03 R141). Doorbells and Counter windows have rows of their own. -/
def stallWord (off v : Nat) (s : State) : State :=
  let st := off / 4096
  let o := off % 4096
  if 4096 ≤ st then s
  else if 0x100 ≤ o && o < 0x200 then ringWord st ((o - 0x100) / 0x40) ((o - 0x100) % 0x40) v s
  else if o = 0x20C then modStall s st (fun x => { x with resetDone := x.resetDone && !bitOf v 1 })
  else s

/-- A change of GPIO output or edge fields: only pins of Shop world that do not change world take it (15 R653). -/
def gpioMerge (s : State) (old v : Nat) : Nat :=
  (List.range 16).foldl (fun n i =>
    let own := !(pinKeeper s (.gpio i)) && !(s.worlds.pinMoving.any (fun y => y.1 == i))
    n + (if (if own then bitOf v i else bitOf old i) then 2 ^ i else 0)) 0

/-- The GPIO fields of SIDEBAND (15 R657). -/
def gpioWord (o v : Nat) (s : State) : State :=
  if o = 0x204 then { s with side := { s.side with gpioOut := gpioMerge s s.side.gpioOut (bits v 0 16) } }
  else if o = 0x208 then { s with side := { s.side with gpioOe := gpioMerge s s.side.gpioOe (bits v 0 16) } }
  else if o = 0x20C then { s with side := { s.side with gpioOd := gpioMerge s s.side.gpioOd (bits v 0 16) } }
  else if o = 0x210 then
    { s with side := { s.side with gpioRise := gpioMerge s s.side.gpioRise (bits v 0 16),
                                   gpioFall := gpioMerge s s.side.gpioFall (bits v 16 16) } }
  else s

/-- The RW and RW1C fields of STACKS (08 R396). -/
def stacksWord (o v : Nat) (s : State) : State :=
  let x := s.stk
  if o = 0x20 then
    let n := bits v 0 5
    { s with stk := if 1 ≤ n && n ≤ 16 then { x with ceRemapTh := n } else { x with cfgErr := true } }
  else if o = 0x24 then { s with stk := { x with ceNoteTh := bits v 0 16 } }
  else if o = 0x28 then
    let n := bits v 0 5
    { s with stk := if 1 ≤ n && n ≤ 24 then { x with scrubHours := n } else { x with cfgErr := true } }
  else if o = 0x2C then { s with stk := { x with cfgErr := x.cfgErr && !bitOf v 0 } }
  else s

/-- Four ROUTE fields of EVENT (15 R638). -/
def routeWord (src v : Nat) (s : State) : State :=
  { s with ev := { s.ev with route := (List.range 4).foldl (fun t i => Tbl.put 0 t (src + i) (bits v (8 * i) 4)) s.ev.route } }

/-- LATCHED of a MON entry (12 R548): the one field of MON that a write changes. -/
def monWord (o v : Nat) (s : State) : State :=
  if 0x100 ≤ o && (o - 0x100) % 16 == 8 && bitOf v 18 then
    { s with mon := { s.mon with ents := s.mon.ents.map (fun p =>
        if p.1 = (o - 0x100) / 16 then (p.1, { p.2 with latched := false }) else p) } }
  else s

/-- A 4-byte write to BAR0 (15 R627): fields by their access codes; every other offset ignores it. -/
def bar0Word (off v : Nat) (s : State) : State :=
  if off = 0x1010 then { s with faults := { s.faults with accessErr := s.faults.accessErr && !bitOf v 0 } }
  else if off = 0x3000 then { s with ev := { s.ev with en := bitOf v 0 } }
  else if 0x3400 ≤ off && off < 0x3A00 then routeWord (off - 0x3400) v s
  else if 0x10000 ≤ off && off < 0x50000 then
    if off % 64 = 0x28 then modStall s ((off - 0x10000) / 64) (fun x => { x with cfgErr := x.cfgErr && !bitOf v 0 }) else s
  else if 0x50000 ≤ off && off < 0x60000 then monWord (off - 0x50000) v s
  else if off = 0x7001C then { s with day := { s.day with winErr := s.day.winErr && !bitOf v 0 } }
  else if off = 0x70088 then { s with day := { s.day with tallySel := bits v 0 8 } }
  else if 0x90000 ≤ off && off < 0xA0000 then stacksWord (off - 0x90000) v s
  else if 0xB0000 ≤ off && off < 0xC0000 then gpioWord (off - 0xB0000) v s
  else s

/-- A vector's mask bit is set: it sends nothing until it is cleared (02 R120). -/
def maskVector (v : Nat) (s : State) : State :=
  { s with pcie := { s.pcie with unmasked := s.pcie.unmasked.filter (fun x => x != v) } }

/-- A 4-byte write to the MSI-X table (15 R626): message address, message data and the mask bit of an entry. The PBA takes
no write. -/
def msixWord (off v : Nat) (s : State) : State :=
  if 0x10000 ≤ off then s
  else
    let e := off / 16
    let a := Tbl.getD s.pcie.msixTable e (0, 0)
    let put (x : Nat × Nat) : State := { s with pcie := { s.pcie with msixTable := Tbl.put (0, 0) s.pcie.msixTable e x } }
    match off % 16 / 4 with
    | 0 => put ((putHalf (BitVec.ofNat 64 a.1) false v).toNat, a.2)
    | 1 => put ((putHalf (BitVec.ofNat 64 a.1) true v).toNat, a.2)
    | 2 => put (a.1, v % 2 ^ 32)
    | _ => if bitOf v 0 then maskVector e s else unmask e s

/-- A write of 4 or 8 bytes as its 4-byte words, the lower address first. -/
def asWords (f : Nat → Nat → State → State) (off size : Nat) (v : BitVec 64) (s : State) : State :=
  let s1 := f off (bits v.toNat 0 32) s
  if size = 8 then f (off + 4) (bits v.toNat 32 32) s1 else s1

/-- Whether an access is naturally aligned and of 4 or 8 bytes (15 R627). -/
def accessOk (off size : Nat) : Bool := (size == 4 || size == 8) && off % size == 0

/-- The ring in whose CW_DROPS a discarded write to a Stall page counts: that of its doorbell or registers, else ring 0 (03 R145;
log entry 138). -/
def pageRing (o : Nat) : Nat := if o < 0x20 then o / 8 else if 0x100 ≤ o && o < 0x200 then (o - 0x100) / 0x40 else 0

/-- REGISTER_WRITE (15 R627; 02 R60; 03 R141, R145). A BAR0 access that breaks R627 changes nothing and sets ACCESS_ERR. -/
def execRegisterWrite (space : RegSpace) (off size : Nat) (v : BitVec 64) (tbit : Bool) (t : Nat) (s : State) : Res :=
  hostAct (fun s =>
    let s := tick t s
    match space with
    | .bar0 =>
      if !accessOk off size then { s with faults := { s.faults with accessErr := true } }
      else asWords bar0Word off size v s
    | .stallPage => if accessOk off size then pageWrite (off / 4096) (pageRing (off % 4096)) tbit (asWords stallWord off size v) s else s
    | .bar4 => if accessOk off size then asWords msixWord off size v s else s) s

/-- GPIO_EDGE (15 R653, R639): the level at a pin changes; an enabled edge on a pin of Shop world that does not change world
raises its event. -/
def execGpioEdge (pin : Nat) (level : Bool) (t : Nat) (s : State) : Res :=
  act (fun s =>
    let s := tick t s
    if 16 ≤ pin then s
    else
      let was := bitOf s.side.gpioIn pin
      let s1 := { s with side := { s.side with gpioIn := setBit s.side.gpioIn pin level } }
      let on := if level then bitOf s.side.gpioRise pin else bitOf s.side.gpioFall pin
      if was != level && on && !(pinKeeper s (.gpio pin)) && !(s.worlds.pinMoving.any (fun y => y.1 == pin)) then
        event (148 + pin) s1
      else s1) s

end Machine
end Sys2Proof
end

