-- ==== Sys2Proof/Machine/Sideband.lean ====
section
/-!
DEFINITION. The I3C sideband, MCTP, the Hopper, JTAG and debug tokens (Setup Registers, Sideband and Ports, 15 R642 to R649,
R654 to R660).
-/
namespace Sys2Proof
namespace Machine

/-- What the target puts on the bus while the part has power. -/
def busAct (f : State → State) (s : State) : Res := act (fun s => if s.faults.railsUp then f s else s) s

/-- A CCC comes from an I3C controller, so the bus does not run as SMBus (15 R642, log entry 66). -/
def onI3c (f : State → State) (s : State) : Res :=
  busAct (fun s => f { s with side := { s.side with smbus := false } }) s

-- Common command codes -----------------------------------------------------------------------------------------------------

/-- The provisional ID: bytes 0 to 5 of the serial number (15 R642). -/
def provisionalId : Bytes := serial.take 6

/-- The target takes a dynamic address while it has none. -/
def takeAddress (a : Nat) (s : State) : State :=
  { s with side := { s.side with dynAddr := a % 128, dynValid := true } }

/-- ENTDAA (15 R642): a target without a dynamic address sends its provisional ID and characteristics and takes the
address. -/
def execEntdaa (a : Nat) (s : State) : Res :=
  onI3c (fun s =>
    if s.side.dynValid then s
    else takeAddress a (emit (.i3c (provisionalId ++ [Config.i3cBcr, Config.i3cDcr])) s)) s

/-- SETDASA (15 R642): the dynamic address is set from the static address. -/
def execSetdasa (a : Nat) (s : State) : Res := onI3c (fun s => if s.side.dynValid then s else takeAddress a s) s

/-- RSTDAA (15 R642, R646): the dynamic address is lost, the endpoint ID stays. -/
def execRstdaa (s : State) : Res :=
  onI3c (fun s => { s with side := { s.side with dynAddr := 0, dynValid := false } }) s

/-- ENEC (15 R642, R646): bit 0 enables IBI; a group that is pending is announced. -/
def execEnec (e : BitVec 8) (s : State) : Res :=
  onI3c (fun s => ibiCheck { s with side := { s.side with ibiEn := s.side.ibiEn || e.getLsbD 0 } }) s

/-- DISEC (15 R642). -/
def execDisec (e : BitVec 8) (s : State) : Res :=
  onI3c (fun s => { s with side := { s.side with ibiEn := s.side.ibiEn && !e.getLsbD 0 } }) s

/-- GETPID (15 R642). -/
def execGetpid (s : State) : Res := onI3c (emit (.i3c provisionalId)) s
/-- GETBCR (15 R642). -/
def execGetbcr (s : State) : Res := onI3c (emit (.i3c [Config.i3cBcr])) s
/-- GETDCR (15 R642). -/
def execGetdcr (s : State) : Res := onI3c (emit (.i3c [Config.i3cDcr])) s

/-- GETSTATUS (15 R642): the manual gives no layout of the two bytes, so they are a free value. -/
def execGetstatus (s : State) : Res :=
  onI3c (fun s => emit (.i3c (beBytes 2 (freeVal s).1)) (freeVal s).2) s

/-- GETMWL (15 R642). -/
def execGetmwl (s : State) : Res := onI3c (fun s => emit (.i3c (beBytes 2 s.side.mwl)) s) s
/-- GETMRL (15 R642). -/
def execGetmrl (s : State) : Res := onI3c (fun s => emit (.i3c (beBytes 2 s.side.mrl ++ [Config.i3cIbiMax])) s) s

/-- Whether SETMWL and SETMRL accept a length (15 R642). -/
def lengthOk (v : Nat) : Bool := decide (16 ≤ v) && decide (v ≤ 256)

/-- SETMWL (15 R642). -/
def execSetmwl (v : Nat) (s : State) : Res :=
  onI3c (fun s => if lengthOk v then { s with side := { s.side with mwl := v } } else s) s
/-- SETMRL (15 R642). -/
def execSetmrl (v : Nat) (s : State) : Res :=
  onI3c (fun s => if lengthOk v then { s with side := { s.side with mrl := v } } else s) s

-- The Hopper ---------------------------------------------------------------------------------------------------------------

/-- The tagged words of a private write (15 R647). -/
def hopperWords (bad : Bool) (b : Bytes) : List (BitVec 64 × BitVec 8) :=
  let cs := chunks 8 b
  (List.range cs.length).map (fun i =>
    let c := cs.getD i []
    let last := i + 1 == cs.length
    (BitVec.ofNat 64 (ofLe c), BitVec.ofNat 8 (c.length + (if last then 16 else 0) + (if last && bad then 32 else 0))))

/-- Writes in the Hopper that carry BAD. -/
def badWrites (h : List (BitVec 64 × BitVec 8)) : Nat := (h.filter (fun w => w.2.getLsbD 5)).length

/-- The Shop world reads the Hopper out and discards what is bad (15 R648): while the part runs it does so within the step
that fills it (log entry 67). -/
def drainHopper (s : State) : State :=
  if s.faults.phase == .running then
    { s with side := { s.side with hopper := [], hopDrops := satAdd 16 s.side.hopDrops (badWrites s.side.hopper) } }
  else s

/-- I3C_PRIVATE_WRITE (15 R647, R648): acknowledged while the Hopper has room for the longest write. A write to the
static address, before a dynamic one is assigned, is an SMBus write (log entry 66). -/
def execI3cPrivateWrite (b : Bytes) (ok : Bool) (t : Nat) (s : State) : Res :=
  busAct (fun s =>
    let s := drainHopper (tick t s)
    let sm := s.side.smbus || !s.side.dynValid
    let s := { s with side := { s.side with smbus := sm } }
    if s.side.hopper.length + (s.side.mwl + 7) / 8 ≤ 64 then
      drainHopper (emit (.i3cAck true)
        { s with side := { s.side with hopper := s.side.hopper ++ hopperWords (!ok) (b.take s.side.mwl),
                                       pecErrs := if sm && !ok then satAdd 16 s.side.pecErrs 1 else s.side.pecErrs } })
    else emit (.i3cAck false) s) s

-- MCTP ---------------------------------------------------------------------------------------------------------------------

/-- An MCTP packet waits to be read: over I3C it is announced by IBI (15 R646; the mandatory byte 0xAE is that of DSP0233,
PRESUMED, log entry 68). -/
def mctpOut (b : Bytes) (s : State) : State :=
  emits ((if s.side.ibiEn && !s.side.smbus then [.ibi [0xAE]] else []) ++ [.mctp b]) s

-- MCTP control messages (15 R643): command code, completion code and data as DSP0236 lays them out (PRESUMED, log entry 68) -----

/-- SET_ENDPOINT_ID: operations 0 and 1 set an identifier of 8 to 254. -/
def execSetEndpointId (op eid : Nat) (s : State) : Res :=
  coreAct (fun s =>
    if op ≤ 1 && 8 ≤ eid && eid ≤ 254 then
      mctpOut ([0x01, 0x00, 0x00, BitVec.ofNat 8 eid, 0x00]) { s with side := { s.side with eid := eid, eidValid := true } }
    else mctpOut ([0x01, 0x02]) s) s

/-- GET_ENDPOINT_ID. -/
def execGetEndpointId (_arg : Nat) (s : State) : Res :=
  coreAct (fun s => mctpOut ([0x02, 0x00, BitVec.ofNat 8 s.side.eid, 0x00, 0x00]) s) s

/-- GET_MCTP_VERSION_SUPPORT: of the base specification, the control messages, SPDM and the vendor-defined type. -/
def execGetMctpVersionSupport (arg : Nat) (s : State) : Res :=
  coreAct (fun s =>
    if [0xFF, 0, 5, 0x7E].contains arg then mctpOut (([0x04, 0x00, 0x01] ++ take 4 (Config.mctpVersion arg))) s
    else mctpOut ([0x04, 0x80]) s) s

/-- GET_MESSAGE_TYPE_SUPPORT: SPDM and the vendor-defined PCI type (15 R643). -/
def execGetMessageTypeSupport (_arg : Nat) (s : State) : Res :=
  coreAct (fun s => mctpOut ([0x05, 0x00, 0x02, 0x05, 0x7E]) s) s

/-- GET_VENDOR_DEFINED_MSG_SUPPORT: one set, of Weleren's PCI vendor ID (15 R643). -/
def execGetVendorDefinedMsgSupport (arg : Nat) (s : State) : Res :=
  coreAct (fun s =>
    if arg = 0 then
      mctpOut (([0x06, 0x00, 0xFF, 0x00] ++ beBytes 2 (Config.vendorId % 65536) ++ take 2 Config.mctpVendorVersion)) s
    else mctpOut ([0x06, 0x02]) s) s

-- Weleren messages (15 R644, R645) -----------------------------------------------------------------------------------------

/-- A bit at a place of a word. -/
def bitAt (b : Bool) (i : Nat) : Nat := if b then 2 ^ i else 0

/-- The first word of GCTL (15 R636). -/
def gctlStatus (s : State) : Nat :=
  let f := s.faults
  bitAt f.ready 0 + bitAt f.silenceLatched 1 + bitAt f.holdCovered 2 + bitAt (s.mon.throttle || s.mon.stacksThrottle) 3 +
    bitAt s.keeper.restarting 4 + f.step % 16 * 2 ^ 5 + f.lifecycle % 8 * 2 ^ 9 + f.debugLevel % 4 * 2 ^ 12 + f.config % 4 * 2 ^ 14

/-- The second word of GCTL. -/
def gctlCause (s : State) : Nat :=
  let f := s.faults
  f.lastCause % 2 ^ 16 + f.lastLevel % 4 * 2 ^ 16 + f.startFail % 256 * 2 ^ 20 + f.failStep % 16 * 2 ^ 28

/-- SILENCES_24H: Silences within the last 24 h (15 R636, 11 R512). -/
def silences24h (s : State) : Nat :=
  min 255 (s.faults.silences.filter (fun x => decide (s.clock < x + 24 * 3600 * 1000000000))).length

/-- The third word of GCTL. -/
def gctlTimes (s : State) : Nat := silences24h s + s.faults.readyMs % 2 ^ 16 * 2 ^ 16

/-- GCTL bytes 0x000 to 0x00B. -/
def gctlBytes (s : State) : Bytes := leBytes 4 (gctlStatus s) ++ leBytes 4 (gctlCause s) ++ leBytes 4 (gctlTimes s)

/-- A response to a Weleren message: command, status, data. -/
def weleren (cmd : Byte) (status : Nat) (data : Bytes) (s : State) : State :=
  mctpOut (([cmd] ++ leBytes 2 status ++ data)) s

/-- Whether the part answers other Weleren messages than GET_STATUS (15 R644). -/
def whenReady (cmd : Byte) (f : State → State) (s : State) : State :=
  if s.faults.ready then f s else weleren cmd 0x0353 [] s

/-- GET_STATUS (15 R644, R645): answered always, in Silence and during start-up too. -/
def execGetStatus (s : State) : Res :=
  busAct (fun s => weleren 0x01 0 (gctlBytes s ++ leBytes 6 (bmcPending s)) s) s

/-- MCTP_HOST_MEASURE (15 R644; 13 R576, R586): the parameter block of the order, over the sideband. -/
def execMctpHostMeasure (p : Bytes) (t : Nat) (s : State) : Res :=
  busAct (fun s =>
    let s := tick t s
    whenReady 0x02 (fun s =>
      if p.length ≠ 64 || !allZero (slice p 2 2) || !allZero (slice p 8 8) then weleren 0x02 0x0103 [] s
      else
        match pushCheck s false (field p 0 2) with
        | some v => weleren 0x02 v.1 [] s
        | none =>
          weleren 0x02 0 [BitVec.ofNat 8 (hostIndex s)]
            (bootAppend 0x10 (hostIndex s) (field p 0 2) (field p 4 4) (slice p 16 48) s)) s) s

/-- EVENT_READ (15 R644). -/
def execEventRead (g : Nat) (s : State) : Res :=
  busAct (whenReady 0x03 (fun s =>
    if 48 ≤ g then weleren 0x03 0x0118 [] s
    else weleren 0x03 0 (leBytes 4 (evStatus s g &&& evBmc s g).toNat) s)) s

/-- EVENT_CLEAR (15 R640, R644). -/
def execEventClear (g : Nat) (mask meet : BitVec 32) (s : State) : Res :=
  busAct (whenReady 0x04 (fun s =>
    if 48 ≤ g then weleren 0x04 0x0118 [] s else weleren 0x04 0 [] (clearStatus g mask meet s))) s

-- JTAG (15 R654, R655) -----------------------------------------------------------------------------------------------------

/-- A JTAG instruction is selected with what the boundary cells then drive, and a data register is shifted out. -/
def jtagSelect (ir : BitVec 8) (p : JPins) (dr : Bytes) (s : State) : State :=
  emit (.jtag dr) { s with dbg := { s.dbg with ir := ir, pins := p, dr := dr } }

/-- The levels that the boundary cells capture: the manual gives no order of the chain, so they are free; those of balls that
the chain leaves out (08 R394; 15 R655) tell nothing of the ball. -/
def captured (n : Nat) (s : State) : Bytes × State :=
  (take n (fun i => BitVec.ofNat 8 (Config.freeValue (s.free + i))), { s with free := s.free + n })

/-- Whether a boundary cell drives its ball: not a Stacks ball while the Bindery keys exist, which the chain then leaves out
(08 R394; 15 R655), and under EXTEST not CVCC_EN of a card port (15 R655). -/
def cellDrives (s : State) (extest : Bool) (i : Nat) : Bool :=
  !(s.stk.keysFormed && Config.cellBall i == 1) && !(extest && Config.cellBall i == 2)

/-- The cells that drive, first bit first: those that drive nothing read 0. -/
def driven (s : State) (extest : Bool) (cells : Bytes) : Bytes :=
  (List.range cells.length).map (fun n =>
    BitVec.ofNat 8 (((List.range 8).map (fun b =>
      if (cells.getD n 0).getLsbD b && cellDrives s extest (8 * n + b) then 2 ^ b else 0)).sum))

/-- EXTEST: the shifted cells drive the balls. -/
def execExtest (cells : Bytes) (s : State) : Res :=
  busAct (fun s => let c := captured cells.length s; jtagSelect 0x00 (.extest (driven s true cells)) c.1 c.2) s
/-- SAMPLE/PRELOAD: the balls stay functional. -/
def execSamplePreload (cells : Bytes) (s : State) : Res :=
  busAct (fun s => let c := captured cells.length s; jtagSelect 0x01 .functional c.1 c.2) s
/-- The IDCODE register (15 R654). -/
def idcode : Nat := 1 + Config.jep106 % 2 ^ 11 * 2 + partCode * 2 ^ 12 + Config.stepping % 16 * 2 ^ 28
/-- IDCODE. -/
def execIdcode (s : State) : Res := busAct (jtagSelect 0x02 .functional (leBytes 4 idcode)) s
/-- CLAMP: the cells drive the balls, the bypass register is selected. -/
def execClamp (cells : Bytes) (s : State) : Res := busAct (fun s => jtagSelect 0x03 (.clamp (driven s false cells)) [0] s) s
/-- HIGHZ: the balls are high-impedance, the bypass register is selected. -/
def execHighz (_cells : Bytes) (s : State) : Res := busAct (jtagSelect 0x04 .highz [0]) s
/-- BYPASS. -/
def execBypass (s : State) : Res := busAct (jtagSelect 0xFF .functional [0]) s

-- Debug tokens (15 R658, R659) ---------------------------------------------------------------------------------------------

/-- Whether the ROM of a Blank part, or the Keeper world, is there to serve the debug registers. -/
def debugServed (s : State) : Bool := s.faults.phase == .running || s.faults.phase == .waitProv

/-- The challenge of R659. -/
def challengeBytes (nonce : Bytes) (s : State) : Bytes :=
  [0x55, 0x54, 0x44, 0x43, BitVec.ofNat 8 s.faults.lifecycle, BitVec.ofNat 8 (dbgMax s.faults.lifecycle), 0, 0] ++ serial ++
    fit 32 nonce ++ leBytes 6 (tally s 0).value ++ [0, 0]

/-- DBG_CHALLENGE (15 R659): a fresh nonce is drawn; an earlier challenge is stale. -/
def execDbgChallenge (t : Nat) (s : State) : Res :=
  busAct (fun s =>
    let s := tick t s
    if debugServed s && s.drbg.up then
      let d := draw 32 s
      let c := challengeBytes d.1 d.2
      jtagSelect 0x10 .functional c { d.2 with dbg := { d.2.dbg with challenge := some (c, d.2.clock) } }
    else { s with dbg := { s.dbg with ir := 0x10, pins := .functional } }) s

/-- What becomes of a token (15 R657, R659): the TOKEN_RESULT code. In Commissioned, Deployed and Quarantined every token
is refused with code 4 (15 R660); otherwise the lowest code that applies (log entry 69). -/
def tokenCheck (tok : Bytes) (s : State) : Nat :=
  let d := sha384 (tok.take 72)
  let keys := slice tok 72 2689
  if 2 ≤ s.faults.lifecycle && s.faults.lifecycle ≤ 4 then 4
  else if tok.length ≠ 7484 || tok.take 4 != [0x55, 0x54, 0x44, 0x54] || field tok 4 1 = 0 || 3 < field tok 4 1 ||
      !allZero (slice tok 5 3) then 2
  else if sha384 keys != take 48 Config.provHashByte ||
      !Config.ecdsaP384Verify (slice tok 72 97) d (slice tok 2761 96) ||
      !Config.mldsa87Verify (slice tok 169 2592) d (ascii "UT-DEBUG") (slice tok 2857 4627) then 3
  else if dbgMax s.faults.lifecycle < field tok 4 1 then 4
  else match s.dbg.challenge with
    | none => 5
    | some c => if slice tok 8 64 == c.1 && decide (s.clock < c.2 + 60000000000) then 1 else 5

/-- DBG_TOKEN (15 R658, R659): an accepted level is staged for the next cold start. -/
def execDbgToken (tok : Bytes) (t : Nat) (s : State) : Res :=
  busAct (fun s =>
    let s := tick t s
    let s := { s with dbg := { s.dbg with ir := 0x11, pins := .functional } }
    if !debugServed s then s
    else
      let r := tokenCheck tok s
      let s1 := note 0x03 (20 + r) { s with dbg := { s.dbg with tokenResult := r } }
      if r = 1 then event 15 { s1 with mram := { s1.mram with dbgStaged := some (field tok 4 1) } }
      else { s1 with dbg := { s1.dbg with tokensRefused := satAdd 16 s1.dbg.tokensRefused 1 } }) s

end Machine
end Sys2Proof
end

