-- ==== Sys2Proof/Machine/Access.lean ====
section
/-!
DEFINITION. Worlds, rights and the checking of accesses by the ACUs, the Deed unit, the region table, the World Gate, claims
and gating, and the restart of the Keeper world (Keeper and Shop Worlds, Deeds and Access Checks, 09 R398 to R433).
-/
namespace Sys2Proof
namespace Machine

-- Levels and rights --------------------------------------------------------------------------------------------------------

/-- The seven levels (09 R403), numbered as the rights fields of R411. -/
inductive Level | kp | ku | sp | su | dbg | dma | eng
deriving DecidableEq, Repr

/-- Place of a level's field in a region (09 R411). -/
def levelIx : Level → Nat
  | .kp => 0 | .ku => 1 | .sp => 2 | .su => 3 | .dbg => 4 | .dma => 5 | .eng => 6

/-- A Clerk. -/
def clerk (s : State) (i : Nat) : Clerk := s.worlds.clerks.getD i Clerk.reset
/-- Whether a Clerk runs in the Keeper world. -/
def inKeeper (c : Clerk) : Bool := decide (c.level < 2)

/-- Level of a master's access (09 R403); the start-up ROM accesses as Keeper-privileged. -/
def levelOf (s : State) : Master → Level
  | .clerk i user => if inKeeper (clerk s i) then (if user then .ku else .kp) else (if user then .su else .sp)
  | .debug => .dbg
  | .dma _ => .dma
  | .engine .. => .eng
  | .rom => .kp
  | .none => .eng

/-- Read, write and execute rights as bits 0, 1 and 2. -/
def rw : Nat := 3
def rwx : Nat := 7

/-- Rights of a master in a page of a Deed type (09 R410). The debug column applies under an unlock level that opens Shop
pages: reads from level 1 on, writes from level 2 on (15 R656). -/
def deedRights (s : State) (who : Master) (entry : Nat) : Nat :=
  let lv := levelOf s who
  let owner := bits entry 8 10
  match entry % 8 with
  | 1 => match who, lv with
    | .dma c, _ => if (dmaCh s c).keeper then rw else 0
    | _, .kp => rwx
    | _, .ku => rwx
    | _, _ => 0
  | 2 => match lv with
    | .kp => rw
    | .ku => 1
    | .sp => rwx
    | .su => rwx
    | .dbg => if s.faults.debugLevel = 0 then 0 else if s.faults.debugLevel = 1 then 1 else rw
    | .dma => rw
    | .eng => 0
  | 3 => match who with
    | .engine code _ _ => if code = bits entry 8 4 then rw else 0
    | _ => 0
  | 4 => match who, lv with
    | .dma c, _ => if (dmaCh s c).keeper || (dmaCh s c).owner == some owner then rw else 0
    | .engine _ _ o, _ => if o = some owner then rw else 0
    | _, .kp => rw
    | _, .ku => rw
    | _, .sp => 1
    | _, _ => 0
  | _ => 0

/-- The world of the pin or channel whose control page this is (09 R407, R420): true for Keeper. -/
def controlWorld (s : State) (page : Nat) : Option Bool :=
  let n := Config.controlPage page
  if 2 ≤ n && n < 6 then some (pinKeeper s (.card (n - 2)))
  else if 8 ≤ n && n < 24 then some (pinKeeper s (.gpio (n - 8)))
  else if 32 ≤ n && n < 64 then some ((dmaCh s (n - 32)).keeper)
  else none

/-- The entry of any page (09 R407): control pages follow their fixed entries. -/
def entryOf (s : State) (space page : Nat) : Nat :=
  if space = 2 then
    if 2 ^ 14 ≤ page then 0
    else match controlWorld s page with
      | some k => if k then 1 else 2
      | none => if Config.controlPage page = 0 then 1 + 8 else if Config.controlPage page = 1 then 2 + 8 else 0
  else deedOf s space page

/-- Key of a Deed entry among those with an uncorrectable error. -/
def deedBad (s : State) (space page : Nat) : Nat :=
  match deedKey s space page with
  | some k => Tbl.getD s.worlds.deedBad k 0
  | none => 0

/-- Whether a region covers a page (09 R411, R412). -/
def covers (r : Region) (space page : Nat) : Bool :=
  r.enable && r.space == space && decide (r.base ≤ page) && decide (page ≤ r.last)

/-- Rights that a region gives a level; a locked region gives debug none (09 R411). -/
def regionRights (r : Region) (lv : Level) : Nat := if lv = .dbg && r.lock then 0 else r.rights.getD (levelIx lv) 0

/-- Whether rights include what is needed. -/
def includes (have? need : Nat) : Bool := have? &&& need == need

-- The check ----------------------------------------------------------------------------------------------------------------

/-- One part of an access: bytes, and the rights they need (09 R415). -/
structure Part where
  space : Nat
  addr : Nat
  len : Nat
  need : Nat
  kindCode : Nat
deriving DecidableEq, Repr

/-- The parts of an access (09 R415): a DMA transfer is checked at its source and at its destination. -/
def partsOf (q : AccReq) : List Part :=
  match q.kind with
  | .read => [⟨q.space, q.addr, q.len, 1, 0⟩]
  | .write _ => [⟨q.space, q.addr, q.len, 2, 1⟩]
  | .fetch => [⟨q.space, q.addr, q.len, 4, 2⟩]
  | .atomic _ => [⟨q.space, q.addr, q.len, 3, 3⟩]
  | .copy space addr => [⟨q.space, q.addr, q.len, 1, 0⟩, ⟨space, addr, q.len, 2, 1⟩]

/-- Pages of a part, each with its lowest enabled byte. -/
def pagesIn (p : Part) : List (Nat × Nat) :=
  if p.len = 0 then []
  else (List.range ((p.addr + p.len - 1) / 4096 - p.addr / 4096 + 1)).map
    (fun i => (p.addr / 4096 + i, max p.addr (4096 * (p.addr / 4096 + i))))

/-- The causes of R417 that hold for a page of a part. -/
def causesAt (s : State) (who : Master) (p : Part) (page : Nat) : List Nat :=
  let e := entryOf s p.space page
  let lv := levelOf s who
  let cover := s.worlds.regions.filter (fun r => covers r p.space page)
  let keeperLevel := match who with
    | .dma c => some (dmaCh s c).keeper
    | .engine .. => none
    | .debug => none
    | _ => some (lv == .kp || lv == .ku)
  (if p.need = 4 && p.space != 0 then [5] else []) ++
  (if bitOf e 4 || 5 ≤ e % 8 || deedBad s p.space page ≠ 0 then [4] else []) ++
  (if lv = .dbg && (bitOf e 3 || cover.any (fun r => r.lock)) then [6] else []) ++
  (if p.space = 2 && (controlWorld s page).isSome && keeperLevel.isSome && keeperLevel != controlWorld s page then [7] else []) ++
  (if includes (deedRights s who e) p.need then [] else [1]) ++
  (if cover.isEmpty then [3] else []) ++
  (if cover.all (fun r => includes (regionRights r lv) p.need) then [] else [2])

/-- What the check of an access refuses: part, page and lowest byte of each failing page, with its causes. -/
def failures (s : State) (q : AccReq) : List (Part × Nat × Nat × List Nat) :=
  ((partsOf q).map (fun p => (pagesIn p).map (fun x => (p, x.1, x.2, causesAt s q.who p x.1)))).flatten.filter
    (fun f => !f.2.2.2.isEmpty)

/-- The report of a refused access (09 R416, R417, R423): the lowest byte that fails any check, and the first failing
check in the order of R417; cause 2 names the lowest-numbered region that does not give the right. -/
def violationOf (s : State) (q : AccReq) : Option Viol :=
  match failures s q with
  | [] => none
  | f :: fs =>
    let cause := ([5, 4, 6, 7, 1, 3, 2].find? (fun c => (f :: fs).any (fun g => g.2.2.2.contains c))).getD 0
    let at2 := ((f :: fs).find? (fun g => g.2.2.2.contains 2)).getD f
    let region := (List.range 64).find? (fun i =>
      let r := s.worlds.regions.getD i Region.reset
      covers r at2.1.space at2.2.1 && !includes (regionRights r (levelOf s q.who)) at2.1.need)
    some { addr := f.2.2.1, space := f.1.space, kind := f.1.kindCode, lenM1 := (f.1.len - 1) % 1024, master := masterId s q.who,
           region := if cause = 2 then region else none, deedType := entryOf s f.1.space f.2.1 % 8, cause := cause,
           seq := s.worlds.violSeq, start := f.1.addr, dbkSeq := 0 }

-- Refusals -----------------------------------------------------------------------------------------------------------------

/-- Severity of the record of a refusal: that of the response (09 R418, 13 R553). -/
def refusalSev (s : State) (who : Master) : Nat :=
  match who with
  | .engine .. => sevHold
  | .rom => if s.faults.phase = .running then sevNote else sevSilence
  | .clerk i _ => if inKeeper (clerk s i) && s.faults.phase != .running then sevSilence else sevNote
  | _ => sevNote

/-- The report of a refusal (09 R424): the Daybook record, the log entry, the latch, VIOL_TOTAL; event 8. -/
def report (sev : Nat) (v : Viol) (s : State) : State :=
  let s1 := record 0x0901 sev v.addr (v.master + v.cause * 2 ^ 16 + v.space * 2 ^ 20) (v.addr / 2 ^ 32) s
  let n := match s1.day.buf.reverse.find? (fun r => r.code == 0x0901 && r.sev == sev && r.p0 == v.addr % 2 ^ 32) with
    | some r => r.seq
    | none => s.mram.nextSeq
  let e := { v with dbkSeq := n }
  let w := s1.worlds
  let s2 := { s1 with worlds := { w with
    log := modAt (fun _ => e) w.log w.logNext, logNext := (w.logNext + 1) % 16, logWrapped := w.logWrapped || w.logNext == 15,
    violTotal := satAdd 32 w.violTotal 1, violSeq := (w.violSeq + 1) % 2 ^ 16,
    first := if w.first.isNone then some e else w.first } }
  if w.first.isNone then event 8 s2 else s2

/-- The engine whose access is refused (09 R418, 11 R499): its orders are run again elsewhere, and it gets a strike. -/
def engineRefused (k : EngKind) (i : Nat) (s : State) : State :=
  let hit := (s.orders.filter (fun o => o.insts.contains (k, i))).map (fun o => o.id)
  let s1 := hit.foldl (fun s id => reexec id (modOrder s id (fun o => { o with avoid := o.avoid ++ o.insts }))) s
  strike (k, i) s1

/-- Engine kind of an engine code of R404. -/
def codeKind : Nat → Option EngKind
  | 2 => some .loom | 3 => some .forge | 4 => some .kiln | 5 => some .mill | _ => none

/-- What the master sees and how the part responds (09 R418). -/
def respond (who : Master) (s : State) : State :=
  let s1 := emit .refused s
  match who with
  | .clerk i _ =>
    if inKeeper (clerk s i) then
      if s.faults.phase = .running then (if s.keeper.restarting then s1 else triggerRestart 2 s1) else silence 0x0008 s1
    else s1
  | .rom => if s.faults.phase = .running then (if s.keeper.restarting then s1 else triggerRestart 2 s1) else silence 0x0008 s1
  | .dma c => { s1 with worlds := { s1.worlds with dma := modAt (fun d => { d with halted := true, busy := false }) s1.worlds.dma c } }
  | .engine code i _ => match codeKind code with
    | some k => engineRefused k i s1
    | none => s1
  | .debug => { s1 with worlds := { s1.worlds with dbgRefused := satAdd 16 s1.worlds.dbgRefused 1 } }
  | .none => s1

/-- A refused access. -/
def refuseAccess (v : Viol) (q : AccReq) (s : State) : State := respond q.who (report (refusalSev s q.who) v s)

-- Performing ---------------------------------------------------------------------------------------------------------------

/-- What a read of a control port returns: the manual gives the ports no values, so they are free (log entry 74). -/
def controlData (n : Nat) (s : State) : Bytes × State :=
  (take n (fun i => BitVec.ofNat 8 (Config.freeValue (s.free + i))), { s with free := s.free + n })

/-- An access that passed is performed (09 R402, R416). A Stacks access goes to the Bindery in pieces of one sector. -/
def perform (q : AccReq) (s : State) : State :=
  let sramRead (a n : Nat) : Bytes := memRead 0 s.worlds.sram a n
  let sramWrite (a : Nat) (b : Bytes) (s : State) : State := { s with worlds := { s.worlds with sram := memWrite 0 s.worlds.sram a b } }
  let readIt (f : Bytes → State → State) : State :=
    if q.space = 0 then f (sramRead q.addr q.len) s
    else let d := controlData q.len s; f d.1 d.2
  let writeIt (space a : Nat) (b : Bytes) (s : State) : State :=
    if space = 0 then sramWrite a b s else if space = 1 then runBindery (addWrites q.who a b s) else s
  match q.kind with
  | .read => if q.space = 1 then runBindery (addReads q.who q.addr q.len none s) else readIt (fun b => emit (.clerkData b))
  | .fetch => readIt (fun b => emit (.clerkData b))
  | .write b => writeIt q.space q.addr (fit q.len b) s
  | .atomic b =>
    if q.space = 1 then runBindery (addWrites q.who q.addr (fit q.len b) (addReads q.who q.addr q.len none s))
    else readIt (fun old s => writeIt q.space q.addr (fit q.len b) (emit (.clerkData old) s))
  | .copy space a =>
    if q.space = 1 then runBindery (addReads q.who q.addr q.len (some (space, a)) s)
    else readIt (fun b s => writeIt space a b s)

/-- An ACU checks an access and performs it or refuses it whole (09 R416). -/
def checkAccess (q : AccReq) (s : State) : State :=
  match violationOf s q with
  | some v => refuseAccess v q s
  | none => perform q s

/-- Accesses happen while the part runs or starts. -/
def alive (s : State) : Bool := s.faults.phase == .running || s.faults.phase == .starting || s.faults.phase == .waitProv

/-- A command of the world logic. -/
def worldAct (f : State → State) (s : State) : Res := act (fun s => if alive s then f s else s) s

/-- An access meets a Deed entry with an uncorrectable error (09 R409, 11 R499): in one copy a tainting part Hold until it is
restored from the other, in both copies Silence 0x0009. -/
def meetDeedError (q : AccReq) (err : Nat) (s : State) : State :=
  match deedKey s q.space (q.addr / 4096) with
  | none => s
  | some k =>
    if err = 0 then s
    else { s with worlds := { s.worlds with deedBad := Tbl.put 0 s.worlds.deedBad k (if err = 1 then 1 else 3) } }

/-- What follows once the access has been refused for it. -/
def deedHold (q : AccReq) (err : Nat) (s : State) : State :=
  if err = 0 || (deedKey s q.space (q.addr / 4096)).isNone then s
  else if err = 1 then holdEnter .deed true s else silence 0x0009 s

/-- ACCESS_CHECK (09 R402 to R418). `err` tells in how many copies the Deed entry of the first page shows an uncorrectable
error. -/
def execAccessCheck (q : AccReq) (err t : Nat) (s : State) : Res :=
  worldAct (fun s => let s := tick t s; deedHold q err (checkAccess q (meetDeedError q err s))) s

/-- ACU_CHECKER_DISAGREEMENT (11 R499): the access is refused and a tainting part Hold is raised; a second one within 1 s is
Silence 0x0009. The report carries the cause that a check finds, 0 when it finds none (log entry 75). -/
def execAcuCheckerDisagreement (q : AccReq) (t : Nat) (s : State) : Res :=
  worldAct (fun s =>
    let s := tick t s
    let v := (violationOf s q).getD
      { addr := q.addr, space := q.space, kind := ((partsOf q).map (·.kindCode)).headD 0,
        lenM1 := (q.len - 1) % 1024, master := masterId s q.who, region := none,
        deedType := entryOf s q.space (q.addr / 4096) % 8, cause := 0, seq := s.worlds.violSeq, start := q.addr, dbkSeq := 0 }
    let again := s.faults.acuTimes.any (fun x => decide (s.clock < x + 1000000000))
    let s1 := report sevHold v (emit .refused { s with faults := { s.faults with acuTimes := within 1000000000 s.faults.acuTimes s.clock } })
    if again then silence 0x0009 s1 else holdEnter .acuChecker true s1) s

/-- ACU_SELFTEST_DONE (11 R499): the self-test clears its cause of the Hold. One that fails shows a second disagreement
(log entry 76). -/
def execAcuSelftestDone (ok : Bool) (t : Nat) (s : State) : Res :=
  worldAct (fun s =>
    let s := tick t s
    if !s.faults.holds.contains .acuChecker then s
    else if ok then holdClear .acuChecker s else silence 0x0009 s) s

-- The Deed unit ------------------------------------------------------------------------------------------------------------

/-- Whether a new Deed entry may be written (09 R408 step 1). -/
def deedSetOk (s : State) (space page : Nat) (entry : Nat) : Bool :=
  match deedKey s space page with
  | none => false
  | some k =>
    let old := Tbl.getD s.worlds.deeds k 0
    let ty := entry % 8
    !bitOf old 3 && decide (ty ≤ 4) && (ty != 4 || ownerActive s (bits entry 8 10)) &&
      !s.worlds.deedPend.any (fun p => p.space == space && p.page == page)

/-- A Deed entry without SCRUB_PEND and Res0 fields (09 R406). -/
def cleanEntry (e : Nat) : Nat := e % 16 + bits e 8 10 * 2 ^ 8

/-- DEED_SET (09 R407, R408): only by a Keeper-privileged Clerk. A Clerk of another level reaches no page of the Deed unit;
Keeper-user is refused by the unit. -/
def execDeedSet (core space page : Nat) (entry : BitVec 32) (t : Nat) (s : State) : Res :=
  worldAct (fun s =>
    let s := tick t s
    let lv := (clerk s core).level
    if 8 ≤ core then s
    else if 2 ≤ lv then
      let q : AccReq := { who := .clerk core (lv == 3), space := 2, addr := 4096 * Config.deedUnitPage, len := 8, kind := .write (zeros 8) }
      refuseAccess ((violationOf s q).getD
        { addr := q.addr, space := 2, kind := 1, lenM1 := 7, master := masterId s q.who, region := none,
          deedType := 1, cause := 1, seq := s.worlds.violSeq, start := q.addr, dbkSeq := 0 }) q s
    else if lv = 1 || !deedSetOk s space page entry.toNat then emit .refused s
    else
      match deedKey s space page with
      | none => s
      | some k =>
        let old := Tbl.getD s.worlds.deeds k 0
        let new := cleanEntry entry.toNat
        let s1 := { s with worlds := { s.worlds with deedPend := s.worlds.deedPend ++ [⟨space, page, new⟩] } }
        if old % 8 ≠ 0 && old % 8 ≠ new % 8 then scrubPage space page (setDeed k (old % 16 + bits old 8 10 * 2 ^ 8 + 16) s1)
        else s1) s

/-- Whether a request of the Bindery still touches a page. -/
def pageBusy (s : State) (space page : Nat) : Bool := space == 1 && s.stk.reqs.any (fun r => r.sla / 4096 == page)

/-- DEED_SET_DONE (09 R408 steps 4 and 5). -/
def execDeedSetDone (space page : Nat) (s : State) : Res :=
  worldAct (fun s =>
    match s.worlds.deedPend.find? (fun p => p.space == space && p.page == page), deedKey s space page with
    | some p, some k =>
      if pageBusy s space page then s
      else
        let w := s.worlds
        setDeed k p.entry { s with worlds := { w with deedPend := w.deedPend.filter (fun x => !(x.space == space && x.page == page)) } }
    | _, _ => s) s

/-- DEED_ENTRY_RESTORED (09 R409, 11 R499): the entry is whole again; the cause clears with the last such entry. -/
def execDeedEntryRestored (space page t : Nat) (s : State) : Res :=
  worldAct (fun s =>
    let s := tick t s
    match deedKey s space page with
    | none => s
    | some k =>
      if Tbl.getD s.worlds.deedBad k 0 = 1 then
        let s1 := { s with worlds := { s.worlds with deedBad := Tbl.del s.worlds.deedBad k } }
        if s1.worlds.deedBad.isEmpty then holdClear .deed s1 else s1
      else s) s

-- The region table ---------------------------------------------------------------------------------------------------------

/-- Whether rights grant write and execute to one level: the Keeper world writes no such region (09 R414). -/
def writeExec (rights : List Nat) : Bool := rights.any (fun r => includes r 6)

/-- A region as a write leaves it; none when the write is refused (09 R411, R413, R414). -/
def regionWrite (r : Region) (f : RegionField) (v : Nat) : Option Region :=
  let ok (r : Region) : Option Region := if r.last < r.base || writeExec r.rights then none else some r
  if r.lock then none
  else match f with
    | .base => if v % 4096 = 0 && v < 2 ^ 64 then ok { r with base := v / 4096 } else none
    | .last => if v % 4096 = 0 && v < 2 ^ 64 then ok { r with last := v / 4096 } else none
    | .rights =>
      if [3, 7, 11, 15, 19, 23, 27, 28, 29, 30, 31].any (fun i => bitOf v i) || 2 ^ 32 ≤ v then none
      else ok { r with rights := (List.range 7).map (fun i => bits v (4 * i) 3) }
    | .control =>
      if 16 ≤ v || bits v 2 2 = 3 then none
      else ok { r with enable := bitOf v 0, lock := bitOf v 1, space := bits v 2 2 }
    | .reserved => if v = 0 then some r else none

/-- ACU_REGION_WRITE (09 R413): only a Keeper-privileged Clerk writes the table; a refused write records a Note. -/
def execAcuRegionWrite (level idx : Nat) (f : RegionField) (v t : Nat) (s : State) : Res :=
  worldAct (fun s =>
    let s := tick t s
    if 64 ≤ idx then s
    else
      match (if level = 0 then regionWrite (s.worlds.regions.getD idx Region.reset) f v else none) with
      | some r => { s with worlds := { s.worlds with regions := modAt (fun _ => r) s.worlds.regions idx } }
      | none => emit .refused (note 0x09 9 s)) s

-- The World Gate -----------------------------------------------------------------------------------------------------------

/-- Clerks in the Keeper world. -/
def keeperClerks (s : State) : Nat := (s.worlds.clerks.filter inKeeper).length

/-- The host-visible counters hold still while a Clerk runs in the Keeper world (09 R427). -/
def hideCounters (s : State) : State :=
  if s.worlds.hidden then s
  else
    { s with worlds := { s.worlds with hidden := true }
             perf := { s.perf with held := some s.perf.ctrs }
             stalls := s.stalls.map (fun p => (p.1, { p.2 with held := some [p.2.orders, p.2.bytesIn, p.2.bytesOut, p.2.engineTime, p.2.waitTime] })) }

/-- A Clerk passes the gate (09 R400): its Shop registers are saved and cleared. -/
def enterKeeper (core : Nat) (s : State) : State :=
  let f (c : Clerk) : Clerk :=
    { c with level := 0, saved := some c.level, savedRegs := c.shopRegs, shopRegs := [], keeperRegs := [], callAt := s.clock }
  hideCounters { s with worlds := { s.worlds with clerks := modAt f s.worlds.clerks core } }

/-- Clerks that wait at the gate enter while there is room and the Keeper world is there (09 R400). -/
def letIn : Nat → State → State
  | 0, s => s
  | fuel + 1, s =>
    match s.keeper.waitGate with
    | [] => s
    | c :: r => if keeperClerks s < 4 && !s.keeper.restarting then letIn fuel (enterKeeper c { s with keeper := { s.keeper with waitGate := r } }) else s

/-- WORLD_GATE_CALL (09 R400): at most four Clerks are in the Keeper world; a fifth waits. -/
def execWorldGateCall (core t : Nat) (s : State) : Res :=
  worldAct (fun s =>
    let s := tick t s
    let c := clerk s core
    if 8 ≤ core || inKeeper c || c.halted || s.keeper.waitGate.contains core then s
    else letIn 8 { s with keeper := { s.keeper with waitGate := s.keeper.waitGate ++ [core] } }) s

/-- WORLD_GATE_RETURN (09 R400): the Keeper registers are cleared, the Shop registers restored; a debug halt takes effect
(15 R656). -/
def execWorldGateReturn (core t : Nat) (s : State) : Res :=
  worldAct (fun s =>
    let s := tick t s
    letIn 8 { s with worlds := { s.worlds with clerks := modAt leaveKeeper s.worlds.clerks core } }) s

/-- PERF_HOLD_RELEASE (09 R427): no Clerk has run in the Keeper world for 2 us: every held value takes its count. -/
def execPerfHoldRelease (t : Nat) (s : State) : Res :=
  worldAct (fun s =>
    let s := tick t s
    if keeperClerks s = 0 then
      { s with worlds := { s.worlds with hidden := false }, perf := { s.perf with held := none }
               stalls := (s.stalls.map (fun p => (p.1, { p.2 with held := none }))).filter (fun p => p.2 != Stall.reset) }
    else s) s

-- Claims and gating --------------------------------------------------------------------------------------------------------

/-- Gateable blocks (09 R425), numbered: Looms 0 to 17, Forges from 18, Kilns from 70, Mill pairs from 88, card ports from
92, and the Courier interface 96 (log entry 77). -/
def gateExists (b : Nat) : Bool := decide (b < 97)

/-- The engine instance of a block. -/
def gateInst (b : Nat) : Option (EngKind × Nat) :=
  if b < 18 then some (.loom, b) else if b < 70 then some (.forge, b - 18) else if b < 88 then some (.kiln, b - 70)
  else if b < 92 then some (.mill, b - 88) else none

/-- A block's claim and request fields. -/
def gateOf (s : State) (b : Nat) : Gate := Tbl.getD s.worlds.gates b Gate.reset

/-- The state with a block's fields replaced; an engine instance follows its gating. -/
def setGate (b : Nat) (g : Gate) (s : State) : State :=
  let s1 := { s with worlds := { s.worlds with gates := Tbl.put Gate.reset s.worlds.gates b g } }
  match gateInst b with
  | some p => modInst s1 p.1 p.2 (fun x => { x with gated := g.gatedReq })
  | none => s1

/-- CLAIM_SET (09 R425). -/
def execClaimSet (b t : Nat) (s : State) : Res :=
  worldAct (fun s => let s := tick t s; if gateExists b then setGate b { gateOf s b with claimed := true } s else s) s

/-- CLAIM_RELEASE (09 R425): the pending request is applied. -/
def execClaimRelease (b t : Nat) (s : State) : Res :=
  worldAct (fun s => let s := tick t s; if gateExists b then setGate b (releasedGate (gateOf s b)) s else s) s

/-- The deferral of a claimed block (09 R425): counted, and recorded once a claim with its repeats. -/
def deferral (first : Bool) (s : State) : State :=
  let s1 := { s with worlds := { s.worlds with deferrals := satAdd 16 s.worlds.deferrals 1 } }
  if first || s.day.buf.any (merges (0x0900 + Config.noteLow 10 % 256) sevNote (Config.noteParam 10 0)) then note 0x09 10 s1 else s1

/-- GATING_REQUEST (09 R425): to ungate at once; to gate at once unless the block is claimed. -/
def execGatingRequest (b : Nat) (on : Bool) (t : Nat) (s : State) : Res :=
  worldAct (fun s =>
    let s := tick t s
    let g := gateOf s b
    if !gateExists b then s
    else if !on then setGate b { g with gatedReq := false, pendingReq := none } s
    else if g.claimed then deferral (!g.deferred) (setGate b { g with pendingReq := some true, deferred := true } s)
    else setGate b { g with gatedReq := true } s) s

-- Keeper restart -----------------------------------------------------------------------------------------------------------

/-- Whether a locked page stays through a restart: unlocked Keeper pages of the SRAM are overwritten (09 R429 step 3). -/
def wipeKeeper (s : State) : State :=
  let gone (page : Nat) : Bool := let e := Tbl.getD s.worlds.deeds page 0; e % 8 == 1 && !bitOf e 3
  { s with worlds := { s.worlds with sram := s.worlds.sram.filter (fun p => !gone (p.1 / 4096)) } }

/-- Owner records re-verified against their anchors (09 R429 step 6): a record that fails is dropped. -/
def verifyRecords (s : State) : State :=
  { s with keeper := { s.keeper with loaded := s.keeper.loaded.filter (fun p =>
      match currentSlot s (4 * p.1 + 1) with
      | some a => sha384 (ownerBody p.2) == a.2.payload.take 48
      | none => false) } }

/-- The block of kind 0x20 (13 R572, R575): at most eight in an entry. -/
def restartBlock (s : State) : State :=
  match bootEntry s with
  | none => s
  | some e =>
    let n := (e.blocks.filter (fun b => b.kind == 0x20)).length
    if 8 ≤ n then s
    else bootAppend 0x20 (0x40 + n) 0 s.keeper.trigger (((e.blocks.find? (fun b => b.kind == 0x03)).map (fun b => b.value)).getD (zeros 48)) s

/-- Steps 4 to 7 of a restart (09 R429, R433): an image that measures differently, or more than 10 ms, is Silence 0x0007. -/
def finishRestart (imageOk : Bool) (s : State) : State :=
  if !s.keeper.restarting || s.faults.silent then s
  else if !imageOk || s.keeper.restartFrom + 10000000 < s.clock then silence 0x0007 s
  else
    let s1 := verifyRecords (restartBlock (wipeKeeper s))
    letIn 8 { s1 with keeper := { s1.keeper with restarting := false }, munim := { s1.munim with policyStale := false } }

/-- KEEPER_WATCHDOG_EXPIRY (09 R428): a Clerk has held a gate call for more than 2 ms without a progress point. -/
def execKeeperWatchdogExpiry (core t : Nat) (s : State) : Res :=
  coreAct (fun s =>
    let s := tick t s
    if core < 8 && inKeeper (clerk s core) && !s.keeper.restarting then triggerRestart 3 s else s) s

/-- KEEPER_RESTART (09 R428 to R433): the restart that was triggered completes; with none in progress, a trigger of R428
starts one. -/
def execKeeperRestart (trigger : Nat) (imageOk : Bool) (t : Nat) (s : State) : Res :=
  coreAct (fun s =>
    let s := tick t s
    finishRestart imageOk (if s.keeper.restarting then s else triggerRestart trigger s)) s

/-- KEEPER_RESTART_TIMEOUT (09 R433). -/
def execKeeperRestartTimeout (t : Nat) (s : State) : Res :=
  coreAct (fun s => let s := tick t s; if s.keeper.restarting then silence 0x0007 s else s) s

-- Debug access -------------------------------------------------------------------------------------------------------------

/-- A refused run control command (15 R656): counted, with a Note. -/
def refuseRun (s : State) : State :=
  emit .refused (note 0x09 11 { s with worlds := { s.worlds with dbgRefused := satAdd 16 s.worlds.dbgRefused 1 } })

/-- The state with a Clerk changed. -/
def modClerk (i : Nat) (f : Clerk → Clerk) (s : State) : State := { s with worlds := { s.worlds with clerks := modAt f s.worlds.clerks i } }

/-- Run control of a Clerk (15 R656): from unlock level 2 on, at Shop levels; a halt aimed at a Clerk in the Keeper world
waits for its return through the gate. -/
def runControl (i : Nat) (op : DbgRun) (s : State) : State :=
  let c := clerk s i
  if 8 ≤ i || s.faults.debugLevel < 2 then refuseRun s
  else match op with
    | .halt => if inKeeper c then modClerk i (fun c => { c with haltReq := true }) s else modClerk i (fun c => { c with halted := true }) s
    | .resume => modClerk i (fun c => { c with halted := false, haltReq := false }) s
    | .step => if inKeeper c || !c.halted then refuseRun s else s
    | .readReg r => if inKeeper c then refuseRun s else emit (.jtag (leBytes 8 (c.shopRegs.getD r 0))) s
    | .writeReg r v =>
      if inKeeper c then refuseRun s
      else modClerk i (fun c => { c with shopRegs := modAt (fun _ => v % 2 ^ 64) (c.shopRegs ++ List.replicate (r + 1 - c.shopRegs.length) 0) r }) s

/-- DBG_ACCESS (09 R419, 15 R654, R656): every access of the command is checked before any is performed. -/
def execDbgAccess (q : DbgCmd) (t : Nat) (s : State) : Res :=
  worldAct (fun s =>
    let s := tick t s
    let s := { s with dbg := { s.dbg with ir := 0x12, pins := .functional } }
    match q with
    | .read space a n => checkAccess ⟨.debug, space, a, n, .read⟩ s
    | .write space a b => checkAccess ⟨.debug, space, a, b.length, .write b⟩ s
    | .fill space a n v => checkAccess ⟨.debug, space, a, n, .write (List.replicate n v)⟩ s
    | .run i op => runControl (i % 2 ^ 16) op s) s

end Machine
end Sys2Proof
end

