-- ==== Sys2Proof/Machine/Stacks.lean ====
section
/-!
DEFINITION. The commands of the Bindery and of the DRAM behind it (Stacks Memory and the Bindery, 08 R381 to R392, R687).
-/
namespace Sys2Proof
namespace Machine

-- Requests -----------------------------------------------------------------------------------------------------------------

/-- Whether a request is one that the Bindery takes (08 R381): a multiple of 8 bytes, 8 to 512, within one sector. -/
def bindReqOk (q : BindReq) : Bool :=
  decide (8 ≤ q.len) && decide (q.len ≤ 512) && q.len % 8 == 0 && q.sla % 8 == 0 && decide (q.sla % 512 + q.len ≤ 512)

/-- BINDERY_READ (08 R381, R382): the access check runs before anything else. -/
def execBinderyRead (q : BindReq) (t : Nat) (s : State) : Res :=
  coreAct (fun s =>
    let s := tick t s
    if !bindReqOk q then s else checkAccess ⟨q.who, 1, q.sla, q.len, .read⟩ s) s

/-- BINDERY_WRITE (08 R381, R383). -/
def execBinderyWrite (q : BindReq) (data : Bytes) (t : Nat) (s : State) : Res :=
  coreAct (fun s =>
    let s := tick t s
    if !bindReqOk q then s else checkAccess ⟨q.who, 1, q.sla, q.len, .write (fit q.len data)⟩ s) s

/-- The two datapaths differ (08 R391 kind 8, 11 R499): the first time a clean part Hold, a Note and one retry; a second
difference within 1 s is Silence. -/
def datapathsDiffer (r : BReq) (s : State) : State :=
  let c := channels s
  let a := lineAddr c (reqSector r) (r.sla % 512 / 64)
  let again := s.faults.binderyTimes.any (fun x => decide (s.clock < x + 1000000000))
  let s1 := { s with faults := { s.faults with binderyTimes := within 1000000000 s.faults.binderyTimes s.clock } }
  if again || r.retried then failItem 8 a.1 a.2 (masterId s r.who) s1
  else
    let s2 := holdEnter .bindery false (record 0x0804 sevHold a.1 a.2 0 s1)
    issueReq { r with retried := true } { s2 with stk := { s2.stk with reqs := s2.stk.reqs.map (fun x => if x.id = r.id then { x with retried := true } else x) } }

/-- DRAM_READ_COMPLETION (08 R382, R383, R388, R391): the lines of a request are there. -/
def execDramReadCompletion (id : Nat) (d : DramData) (t : Nat) (s : State) : Res :=
  coreAct (fun s =>
    let s := tick t s
    match s.stk.reqs.find? (fun r => r.id == id && r.issued) with
    | none => s
    | some r =>
      if d.lines.length ≠ r.plan.length then s
      else if d.storeBad then failPlain 7 0 0xFFFF s
      else if d.differ then datapathsDiffer r s
      else
        let s1 := runBindery (answerReq r d.lines s)
        if r.retried && !s1.faults.silent && !s1.stk.reqs.any (fun x => x.retried) then holdClear .bindery s1 else s1) s

-- Patrol and remap ---------------------------------------------------------------------------------------------------------

/-- The channel address whose content a physical line holds: spare blocks in use hold the block mapped to them, and a
block that is mapped away holds nothing. -/
def heldAt (s : State) (ch a : Nat) : Option Nat :=
  if reserveBase ≤ a then ((chan s ch).remap.find? (fun p => p.2 == (a - reserveBase) / 8192)).map (fun p => 8192 * p.1 + a % 8192)
  else if (chan s ch).remap.any (fun p => p.1 == a / 8192) then none
  else some a

/-- Whether a line counts as written (08 R379, R389): by its sector's version while that is resident, else as given. -/
def lineWritten (s : State) (n : Nat) (given : Bool) : Bool :=
  match versionOf s 0 n with
  | some v => v != 0
  | none => given

/-- An uncorrectable codeword met without an access (08 R389, R390, R391). -/
def badMet (ch a : Nat) (written : Bool) (s : State) : State :=
  match itemAt (channels s) ch a with
  | .node k j => stacksFail ⟨3, ch, k, a, j, 0xFFFF⟩ s
  | .line n _ => if lineWritten s n written then stacksFail ⟨1, ch, 0, a, n, 0xFFFF⟩ s else discardLine ch a s
  | .tagLine n => if lineWritten s n written then stacksFail ⟨2, ch, 0, a, n, 0xFFFF⟩ s else discardLine ch a s
  | .unused => s

/-- PATROL_READ (08 R389): the next line of the channel is read and checked by SECDED alone. -/
def execPatrolRead (ch : Nat) (e : LineEcc) (written : Bool) (t : Nat) (s : State) : Res :=
  coreAct (fun s =>
    let s := tick t s
    if channels s ≤ ch || !s.stk.catReady then s
    else
      let a := (chan s ch).patrolAt
      let done := decide (channelEnd ≤ a + 64)
      let s1 := modChan ch (fun x => { x with patrolAt := if done then 0 else a + 64,
                                              scrubPasses := if done then x.scrubPasses + 1 else x.scrubPasses }) s
      match heldAt s1 ch a with
      | none =>
        if reserveBase ≤ a && e = .bad then
          record 0x0806 sevNote ch 2 a (modChan ch (fun x => { x with badSpares := x.badSpares ++ [(a - reserveBase) / 8192] }) s1)
        else s1
      | some l => match e with
        | .clean => s1
        | .corrected n => (List.range (min n 8)).foldl (fun s _ => correctedOne ch l s) s1
        | .bad => badMet ch l written s1) s

/-- REMAP_DONE (08 R390): the copy of the first block due is made, or meets an uncorrectable codeword in a line. -/
def execRemapDone (ch : Nat) (bad : Option (Nat × Bool)) (t : Nat) (s : State) : Res :=
  coreAct (fun s =>
    let s := tick t s
    match (chan s ch).remapping with
    | [] => s
    | p :: rest =>
      let met := match bad with
        | some b => (match itemAt (channels s) ch (8192 * p.1 + 64 * (b.1 % 128)) with
          | .node k j => stacksFail ⟨3, ch, k, 8192 * p.1 + 64 * (b.1 % 128), j, 0xFFFF⟩ s
          | .line n _ => if lineWritten s n b.2 then stacksFail ⟨1, ch, 0, 8192 * p.1 + 64 * (b.1 % 128), n, 0xFFFF⟩ s
                         else record 0x0806 sevNote ch 1 (8192 * p.1 + 64 * (b.1 % 128)) s
          | .tagLine n => if lineWritten s n b.2 then stacksFail ⟨2, ch, 0, 8192 * p.1 + 64 * (b.1 % 128), n, 0xFFFF⟩ s
                          else record 0x0806 sevNote ch 1 (8192 * p.1 + 64 * (b.1 % 128)) s
          | .unused => s)
        | none => s
      if met.faults.silent then met
      else
        let s1 := modChan ch (fun x => { x with remapping := rest, remap := x.remap.filter (fun q => q.1 != p.1) ++ [p],
                                                remapUsed := min 65536 (x.remapUsed + 1) }) met
        let x := chan s1 ch
        runBindery (event 166 (record 0x0802 sevNote ch x.ceCount x.lastCe s1))) s

-- Temperature --------------------------------------------------------------------------------------------------------------

/-- How hot a device is by its refresh-rate code: 0 up to 85 degrees, 1 above, 2 above 95 (08 R687). The codes are those of
JESD79-5 (PRESUMED, log entry 78). -/
def heatOf (code : Nat) : Nat := if code % 8 ≤ 2 then 0 else if code % 8 ≤ 4 then 1 else 2

/-- The code of the device that reports the hottest state, the first of equals. -/
def hottest : List Nat → Nat
  | [] => 0
  | c :: r => if heatOf (hottest r) ≤ heatOf c then c else hottest r

/-- Whether every populated channel has reported 85 degrees or below for 1 s (08 R391). -/
def stacksCool (s : State) : Bool :=
  (List.range (channels s)).all (fun c => match (chan s c).coolAt with
    | some t0 => decide (t0 + 1000000000 ≤ s.clock)
    | none => false)

/-- DRAM_TEMP_POLL (08 R391, R687): the refresh-rate reports of a channel's devices. -/
def execDramTempPoll (ch : Nat) (codes : List Nat) (t : Nat) (s : State) : Res :=
  coreAct (fun s =>
    let s := tick t s
    if channels s ≤ ch || !s.stk.trained || codes.isEmpty then s
    else
      let code := hottest codes % 8
      let h := heatOf code
      let s1 := modChan ch (fun x => { x with tempCode := code, coolAt := if h = 0 then (if x.coolAt.isSome then x.coolAt else some s.clock) else none }) s
      if h = 2 then failPlain 12 ch 0xFFFF s1
      else if h = 1 then
        if s1.mon.stacksThrottle then s1
        else event 167 (event 3 (record 0x0803 sevThrottle ch code 1 { s1 with mon := { s1.mon with stacksThrottle := true } }))
      else if s1.mon.stacksThrottle && stacksCool s1 then
        record 0x0803 sevInfo ch code 2 { s1 with mon := { s1.mon with stacksThrottle := false } }
      else s1) s

-- DRAM commands ------------------------------------------------------------------------------------------------------------

/-- The master that a request serves, among those pending and the recent writes (08 R684). -/
def masterOf (s : State) (id : Nat) : Nat :=
  match s.stk.reqs.find? (fun r => r.id == id), s.stk.recent.find? (fun p => p.1 == id) with
  | some r, _ => masterId s r.who
  | none, some p => p.2
  | none, none => 0xFFFF

/-- DRAM_CMD_ERROR (08 R391 kind 10): a parity or write CRC error on a command: retried with a Note, Silence at the third. -/
def execDramCmdError (ch id addr : Nat) (wcrc : Bool) (t : Nat) (s : State) : Res :=
  coreAct (fun s =>
    let s := tick t s
    if channels s ≤ ch then s
    else
      let n := (((s.stk.cmdErrs.find? (fun p => p.1 == id && p.2.1 == addr)).map (fun p => p.2.2)).getD 0) + 1
      let es := (s.stk.cmdErrs.filter (fun p => !(p.1 == id && p.2.1 == addr))) ++ [(id, addr, n)]
      let s1 := { s with stk := { s.stk with cmdErrs := es.drop (es.length - 64) } }
      if 3 ≤ n then failItem 10 ch addr (masterOf s id) s1
      else
        record 0x0805 sevNote ch (if wcrc then 2 else 1) n
          (modChan ch (fun x => if wcrc then { x with wcrcRetry := satAdd 16 x.wcrcRetry 1 }
                                else { x with caparRetry := satAdd 16 x.caparRetry 1 }) s1)) s

/-- DRAM_TIMEOUT (08 R391 kind 11): no data or completion within 10 us, or training state lost. -/
def execDramTimeout (ch t : Nat) (s : State) : Res :=
  coreAct (fun s =>
    let s := tick t s
    if channels s ≤ ch then s
    else
      let who := match s.stk.reqs.find? (fun r => r.issued && (r.plan.map (planAddr (channels s) (reqSector r))).any (fun p => p.1 == ch)) with
        | some r => masterId s r.who
        | none => 0xFFFF
      failPlain 11 ch who s) s

end Machine
end Sys2Proof
end

