-- ==== Sys2Proof/Machine/Recovery.lean ====
section
/-!
DEFINITION. The ends of part Holds, retired and returning instances, lost queues, the random source, and the Vigil's Dead
state (Fault Containment and the Response Ladder, 11 R490 to R505; 01 R35, R41; 07 R359 to R362; 12 R517).
-/
namespace Sys2Proof
namespace Machine

-- Instances ----------------------------------------------------------------------------------------------------------------

/-- SPARE_PROMOTION (01 R35): the spare passes its self-test and enters the active set; one that fails is retired
(log entry 79). -/
def execSparePromotion (k : EngKind) (i : Nat) (ok : Bool) (t : Nat) (s : State) : Res :=
  coreAct (fun s =>
    let s := tick t s
    if (inst s k i).status != .spare then s
    else if ok then promote k i s
    else retire k i 4 s) s

/-- Whether an instance is empty: no order and no discarded run on it (11 R502). -/
def instEmpty (s : State) (k : EngKind) (i : Nat) : Bool :=
  (inst s k i).discard.isEmpty && !s.orders.any (fun o => o.insts.contains (k, i))

/-- SUSPECT_SELFTEST_DONE (11 R502): an empty instance with a strike returns to the active set, or is retired. -/
def execSuspectSelftestDone (k : EngKind) (i : Nat) (ok : Bool) (t : Nat) (s : State) : Res :=
  coreAct (fun s =>
    let s := tick t s
    if (inst s k i).status != .suspect || !instEmpty s k i then s
    else if ok then record 0x0601 sevInfo (engCode k i) 3 0 (modInst s k i (fun x => { x with status := .active }))
    else retire k i 1 s) s

/-- PERIODIC_KAT (11 R502): every active and spare instance, once in every second. -/
def execPeriodicKat (k : EngKind) (i : Nat) (ok : Bool) (t : Nat) (s : State) : Res :=
  coreAct (fun s =>
    let s := tick t s
    let st := (inst s k i).status
    if (st == .active || st == .spare) && !ok then retire k i 4 s else s) s

/-- PROGRESS_WATCHDOG_EXPIRY (11 R499, R502). -/
def execProgressWatchdogExpiry (k : EngKind) (i t : Nat) (s : State) : Res :=
  coreAct (fun s =>
    let s := tick t s
    let st := (inst s k i).status
    if st == .active || st == .suspect then retire k i 3 s else s) s

/-- SCRUB_REGION (06 R325, 07 R348): a freed region of operand memory is overwritten. -/
def execScrubRegion (k : EngKind) (i region : Nat) (s : State) : Res :=
  coreAct (fun s =>
    if region < 8 && (k == .forge || k == .kiln) then modInst s k i (fun x => { x with dirty := x.dirty - 1 }) else s) s

-- Holds --------------------------------------------------------------------------------------------------------------------

/-- Input that a staged order dropped during the Hold is asked for again (05 R282). -/
def rereadStaged (s : State) : State :=
  ((s.orders.filter (fun o => o.staged && o.stage == .waitInput && !o.intakeErr)).map (fun o => o.id)).foldl (fun s id => startInput id s) s

/-- The part Hold ends (11 R491): messages withheld go out; after a tainted Hold every order but those compared 50 ns before
its entry is run again, after a clean one withheld output is released as it stands. -/
def endHold (s : State) : State :=
  let f := s.faults
  let ids := if f.holdTaint then taintedIds s else []
  let s1 := perfAdd 13 ((s.clock - f.holdAt) / 10)
    { s with faults := { f with holdCovered := false, holdTaint := false }, pcie := { s.pcie with heldMsgs := [] } }
  let s2 := ids.foldl (fun s id => reexec id s) s1
  s.pcie.heldMsgs.foldl (fun s v => sendMsix v s) (if f.holdTaint then s2 else rereadStaged s2)

/-- HOLD_END (11 R488, R491, R494): once no cause is left; during a start too, which a Hold pauses (12 R546). -/
def execHoldEnd (t : Nat) (s : State) : Res :=
  worldAct (fun s =>
    let s := tick t s
    if s.faults.holdCovered && s.faults.holds.isEmpty then endHold s else s) s

/-- HOLD_TIMEOUT (11 R490): a part Hold that has lasted 10 ms. -/
def execHoldTimeout (t : Nat) (s : State) : Res :=
  worldAct (fun s =>
    let s := tick t s
    if s.faults.holdCovered && decide (s.faults.holdAt + 10000000 ≤ s.clock) then silence 0x0001 s else s) s

/-- TRANSMIT_BUFFER_SELFTEST_DONE (01 R47, 11 R499): clears its cause of the Hold. A test that fails counts as a second
mismatch (log entry 76). -/
def execTransmitBufferSelftestDone (ok : Bool) (t : Nat) (s : State) : Res :=
  coreAct (fun s =>
    let s := tick t s
    if !s.faults.holds.contains .releaseCrc then s
    else if ok then holdClear .releaseCrc s else silence 0x0002 s) s

-- Queues -------------------------------------------------------------------------------------------------------------------

/-- Number of a queue in the list of mismatch times. -/
def queueIx : QueueId → Nat
  | .readCompletion => 0 | .egress => 1 | .courier => 2 | .hopper => 3
  | .engineStacks c => 4 + c % 2
  | .clerkControl c => 6 + c % 8
  | .intake st q => 16 + rix st q

/-- An intake packet queue is reset (01 R41, 02 R96): committed doorbell orders are read again, Counter-window orders end
with 0x0501, what was not committed vanishes. -/
def loseIntake (st q : Nat) (s : State) : State :=
  if !ringExists st q then s
  else
    let lost := (ringOrders s st q).filter undispatched
    let bell := lost.filter (fun o => !o.viaWindow)
    let s1 := (lost.filter (fun o => o.viaWindow)).foldl (fun s o => complete o.id 0x0501 0 s) s
    let gone (o : Order) : Bool := bell.any (fun b => b.id == o.id)
    let s2 := { s1 with orders := s1.orders.filter (fun o => !gone o) }
    let s3 := modRing (dropUncommitted st q s2) st q (fun r =>
      let a := match (byCount r.h bell).head? with | some o => o.count | none => r.asm
      { r with asm := a, rd := a, fetched := [], cwBytes := [],
               commits := r.commits.filter (fun c => !bell.any (fun o => o.count.toNat == c.1)) })
    advanceHead st q s3

/-- Requests or responses of the Bindery are lost (01 R41, 08 R391): each access is tried once more; lost a second time it
is kind 9. -/
def loseStacks (ch : Nat) (s : State) : State :=
  let c := channels s
  let hit := s.stk.reqs.filter (fun r => r.issued && (r.plan.map (planAddr c (reqSector r))).any (fun p => p.1 == ch))
  match hit.find? (fun r => 1 ≤ r.lost) with
  | some r =>
    let a := lineAddr c (reqSector r) (r.sla % 512 / 64)
    stacksFail ⟨9, a.1, 0, a.2, reqSector r, masterId s r.who⟩ s
  | none =>
    hit.foldl (fun s r => issueReq { r with lost := 1 } s)
      { s with stk := { s.stk with reqs := s.stk.reqs.map (fun r => if hit.any (fun h => h.id == r.id) then { r with lost := 1 } else r) } }

/-- What becomes of the contents of a queue that was reset (01 R41). Frames of the Courier Link that are lost with their queue
are lost frames (10 R446): those sent stay in the replay buffer until the twin acknowledges or asks for them, and a gap in those
received shows at the next frame, which `receive` answers with a NAK. -/
def loseQueue (q : QueueId) (s : State) : State :=
  match q with
  | .intake st r => loseIntake st r s
  | .readCompletion =>
    ((s.orders.filter (fun o => !(openRanges o).isEmpty)).map (fun o => o.id)).foldl (fun s id => reexec id s) s
  | .egress =>
    ((s.orders.filter (fun o => s.egress.any (fun x => x.order == o.id))).map (fun o => o.id)).foldl (fun s id => reexec id s) s
  | .engineStacks ch => loseStacks ch s
  | .clerkControl _ =>
    { s with orders := s.orders.map (fun o => if isFirmware o.opcode && o.stage == .ready && !o.intakeErr then { o with fwLost := true } else o) }
  | .courier => s
  | .hopper => { s with side := { s.side with hopper := [], hopDrops := satAdd 16 s.side.hopDrops 1 } }

/-- QUEUE_POINTER_MISMATCH (01 R41, R42; 11 R499): recorded, the contents handled by kind; the third on one queue within 1 s
is Silence 0x0004. -/
def execQueuePointerMismatch (q : QueueId) (t : Nat) (s : State) : Res :=
  coreAct (fun s =>
    let s := tick t s
    let ix := queueIx q
    let ts := s.faults.queueTimes.filter (fun p => decide (s.clock < p.2 + 1000000000)) ++ [(ix, s.clock)]
    let s1 := loseQueue q (note 0x0D 12 { s with faults := { s.faults with queueTimes := ts } })
    if 3 ≤ (ts.filter (fun p => p.1 == ix)).length then silence 0x0004 s1 else s1) s

/-- FIRMWARE_REQUEST_TIMEOUT (01 R41): a firmware request lost with its queue is made again by the requesting world. -/
def execFirmwareRequestTimeout (id t : Nat) (s : State) : Res :=
  coreAct (fun s => modOrder (tick t s) id (fun o => { o with fwLost := false })) s

-- The random source --------------------------------------------------------------------------------------------------------

/-- Sources in service (07 R362). -/
def healthySources (s : State) : Nat := 4 - s.drbg.bad.length

/-- DRBG_RESEED (07 R360). -/
def execDrbgReseed (t : Nat) (s : State) : Res :=
  coreAct (fun s => let s := tick t s; if s.drbg.up then reseed s else s) s

/-- A known-answer test of the DRBG has failed (07 R362): Silence 0x000B. -/
def drbgFailed (s : State) : State := silence 0x000B (record 0x0602 sevSilence 3 0xFF (healthySources s) s)

/-- DRBG_KAT (07 R362): the test of every second. -/
def execDrbgKat (ok : Bool) (t : Nat) (s : State) : Res :=
  coreAct (fun s => let s := tick t s; if ok || !s.drbg.up then s else drbgFailed s) s

/-- HEALTH_TEST_FAILURE (07 R362): the source is excluded until the next cold start; fewer than two are Silence 0x000B. -/
def execHealthTestFailure (src t : Nat) (s : State) : Res :=
  coreAct (fun s =>
    let s := tick t s
    if 4 ≤ src || s.drbg.bad.contains src then s
    else
      let s1 := { s with drbg := { s.drbg with bad := s.drbg.bad ++ [src] } }
      let few := decide (healthySources s1 < 2)
      let s2 := record 0x0602 (if few then sevSilence else sevNote) 1 src (healthySources s1) s1
      if few then silence 0x000B s2 else s2) s

/-- DRBG_MISMATCH (07 R362; 05 R244): the block is discarded; a clean part Hold lasts until the DRBG is reinstantiated, and
Loom orders wait for a reseed. A second within 1 s is Silence 0x000B. -/
def execDrbgMismatch (t : Nat) (s : State) : Res :=
  coreAct (fun s =>
    let s := tick t s
    let again := s.faults.drbgTimes.any (fun x => decide (s.clock < x + 1000000000))
    let s1 := { s with faults := { s.faults with drbgTimes := within 1000000000 s.faults.drbgTimes s.clock } }
    if again then silence 0x000B (record 0x0602 sevSilence 2 0xFF (healthySources s1) s1)
    else
      let s2 := holdEnter .drbg false (record 0x0602 sevHold 2 0xFF (healthySources s1) s1)
      let s3 := { s2 with
        drbg := { s2.drbg with up := false, reinst := true }
        orders := s2.orders.map (fun o => if o.stage == .ready && o.insts.any (fun p => p.1 == .loom) then { o with stage := .waitSeed } else o) }
      (List.range 18).foldl (fun s i => modInst s .loom i (fun x => { x with needReseed := x.status == .active || x.status == .suspect })) s3) s

/-- DRBG_REINSTANTIATED (07 R362): the new instance passes its test and the cause clears; waiting RANDOM orders go on. -/
def execDrbgReinstantiated (ok : Bool) (t : Nat) (s : State) : Res :=
  coreAct (fun s =>
    let s := tick t s
    if !s.drbg.reinst then s
    else if !ok then drbgFailed s
    else
      let s1 := reseed { s with drbg := { s.drbg with up := true, reinst := false, waiting := [] } }
      holdClear .drbg { s1 with orders := s1.orders.map (fun o => if o.stage == .waitDrbg then { o with stage := .ready } else o) }) s

/-- RANDOM_WAIT_TIMEOUT (07 R362): a RANDOM order has waited 10 ms. -/
def execRandomWaitTimeout (id t : Nat) (s : State) : Res :=
  coreAct (fun s =>
    let s := tick t s
    match order? s id with
    | none => s
    | some o =>
      if o.stage != .waitDrbg then s
      else complete id 0x0530 0 { s with drbg := { s.drbg with waiting := s.drbg.waiting.filter (fun i => i != id) } }) s

-- The Vigil ----------------------------------------------------------------------------------------------------------------

/-- VIGIL_REACHES_DEAD (12 R517 to R519): the Seal latch, the Vigil time and the arming are lost. -/
def execVigilReachesDead (t : Nat) (s : State) : Res :=
  act (fun s =>
    let s := tick t s
    if s.vigil.power = 3 then s
    else { s with vigil := { s.vigil with
      power := 3, seed := 0, seedInv := 0, clearing := false, timeValid := false, inputs := List.replicate 12 TamperIn.reset,
      tbuf := [], tbufOver := 0, lastMove := [] } }) s

end Machine
end Sys2Proof
end

