-- ==== Sys2Proof/Machine/Spdm.lean ====
section
/-!
DEFINITION. The SPDM responder, TDISP and IDE (13 R590 to R592; 03 R143 to R146; 15 R631). The manual names the messages and
what they do; the bytes of a message are those of DSP0274 and of PCIe 6.0 as the modeller knows them (PRESUMED, log entry 80).
-/
namespace Sys2Proof
namespace Machine

-- Answers ----------------------------------------------------------------------------------------------------------------

/-- The version byte of a response: the negotiated version, 1.0 before. -/
def spdmVer (s : State) : Byte := BitVec.ofNat 8 (s.spdm.version.getD 0x10)

/-- An SPDM ERROR. -/
def spdmError (code : Byte) (s : State) : Bytes := [spdmVer s, 0x7F, code, 0]

/-- ERROR codes: InvalidRequest, InvalidSession, UnexpectedRequest, Unspecified, DecryptError, SessionRequired, VersionMismatch
(PRESUMED, log entry 80). -/
def eInvalid : Byte := 0x01
def eSession : Byte := 0x02
def eUnexpected : Byte := 0x04
def eUnspecified : Byte := 0x05
def eDecrypt : Byte := 0x06
def eSessionRequired : Byte := 0x0B
def eVersion : Byte := 0x41

/-- A response leaves by the path its request came by (13 R590). -/
def spdmSend (q : SpdmReq) (b : Bytes) (s : State) : State := if q.mctp then mctpOut b s else emit (.doe b) s

/-- Whether a secure session is established (15 R631). -/
def sessionUp (s : State) (k : Nat) : Bool := s.spdm.sessions.any (fun x => x.1 == k)

/-- Whether a message comes inside an established session (15 R631). -/
def secured (s : State) (k : Option Nat) : Bool :=
  match k with
  | some k => sessionUp s k
  | none => false

/-- The bytes of a request. -/
def reqBytes (code : Byte) (q : SpdmReq) : Bytes :=
  [BitVec.ofNat 8 q.version, code, BitVec.ofNat 8 q.param1, BitVec.ofNat 8 q.param2] ++ q.data

/-- A request after the checks all requests share: a session it names is up, its version is the negotiated one, and what must
come before it has come. -/
def spdmRun (q : SpdmReq) (ready : State → Bool) (f : State → Bytes × State) (s : State) : Res :=
  coreAct (fun s =>
    if q.session.isSome && !secured s q.session then spdmSend q (spdmError eSession s) s
    else if s.spdm.version != some q.version then spdmSend q (spdmError (if s.spdm.version.isNone then eUnexpected else eVersion) s) s
    else if !ready s then spdmSend q (spdmError eUnexpected s) s
    else let r := f s; spdmSend q r.1 r.2) s

/-- Whether capabilities and algorithms are settled. -/
def negotiated (s : State) : Bool := s.spdm.caps && s.spdm.algs

/-- The certificate chain of slot 0 (13 R591). -/
def certChain (s : State) : Bytes := s.mram.certChain.getD []

/-- A signature of a response by the classical identity key over a transcript (13 R591), with the context string that DSP0274
puts before its hash; none without the key (14 R602, R656). -/
def spdmSign (ctx : String) (transcript : Bytes) (s : State) : Option Bytes :=
  let v := s.spdm.version.getD 0x10
  let pre : Bytes := ascii (if v = 0x12 then "dmtf-spdm-v1.2.*" else "dmtf-spdm-v1.3.*")
  let c : Bytes := ascii ctx
  (idClassical s).map (fun k =>
    take 96 (Config.ecdsaP384Sign k (sha384 (pre ++ pre ++ pre ++ pre ++ zeros (36 - c.length) ++ c ++ sha384 transcript))))

-- Measurements (13 R592) ---------------------------------------------------------------------------------------------------

/-- The blocks that carry a value: those of the current entry, or those measured at a start that opened none (13 R578). -/
def measBlocks (s : State) : List BootBlk :=
  match bootEntry s with
  | some e => e.blocks.filter (fun b => b.index != 0)
  | none => s.day.bootNoRoll.filter (fun b => decide (1 ≤ b.index) && decide (b.index ≤ 8))

/-- DMTF value type of an index, with the bit of the raw form (13 R592). -/
def dmtfType (i : Nat) : Nat :=
  if i = 1 then 0x00 else if i = 2 ∨ i = 3 then 0x01 else if i = 4 then 0x87 else if i = 5 ∨ i = 6 then 0x03
  else if i = 7 then 0x82 else if i = 8 then 0x02 else if 0x40 ≤ i then 0x01 else 0x04

/-- Bytes of the value of an index (13 R592). -/
def dmtfLen (i : Nat) : Nat := if i = 4 then 8 else if i = 7 then 2 else 48

/-- The indices that hold a value, with it, in rising order (13 R592, R578). -/
def measurements (s : State) : List (Nat × Bytes) :=
  let of := fun (l : List BootBlk) => l.map (fun b => (b.index, b.value.take (dmtfLen b.index)))
  let l := measBlocks s
  of (l.filter (fun b => decide (b.index ≤ 8))) ++
    (if (bootEntry s).isSome then [(9, bootHead s)] else []) ++
    of (l.filter (fun b => decide (0x10 ≤ b.index) && decide (b.index ≤ 0x3D))) ++ of (l.filter (fun b => decide (0x40 ≤ b.index)))

/-- A measurement block. -/
def measBlock (m : Nat × Bytes) : Bytes :=
  [BitVec.ofNat 8 m.1, 0x01] ++ leBytes 2 (m.2.length + 3) ++ [BitVec.ofNat 8 (dmtfType m.1)] ++ leBytes 2 m.2.length ++ m.2

/-- The summary hash that CHALLENGE and KEY_EXCHANGE can ask for: 1 for indices 1 to 8, 0xFF for all. -/
def measSummary (kind : Nat) (s : State) : Bytes :=
  if kind = 0 then []
  else sha384 (((measurements s).filter (fun m => decide (kind = 0xFF) || decide (m.1 ≤ 8))).map measBlock).flatten

-- The connection -----------------------------------------------------------------------------------------------------------

/-- SPDM_GET_VERSION (13 R590): the connection begins again; versions 1.2 and 1.3. -/
def execSpdmGetVersion (s : State) : Res :=
  coreAct (fun s =>
    let rsp : Bytes := [0x10, 0x04, 0, 0, 0, 2, 0x00, 0x12, 0x00, 0x13]
    emit (.doe rsp) { s with spdm := { s.spdm with
      version := none, caps := false, algs := false, handshake := none,
      transcript := [0x10, 0x84, 0, 0] ++ rsp, certLog := [], measLog := [] } }) s

/-- The capability flags of R590 at their places in DSP0274: CERT, CHAL, MEAS with signature, MEAS_FRESH, ENCRYPT, MAC, KEY_EX,
HBEAT and KEY_UPD. -/
def spdmFlags : Nat := 2 ^ 1 + 2 ^ 2 + 2 ^ 4 + 2 ^ 5 + 2 ^ 6 + 2 ^ 7 + 2 ^ 9 + 2 ^ 13 + 2 ^ 14

/-- SPDM_GET_CAPABILITIES (13 R590): the version of its header, 1.2 or 1.3, is the one the connection takes. -/
def execSpdmGetCapabilities (q : SpdmReq) (s : State) : Res :=
  coreAct (fun s =>
    if q.version ≠ 0x12 ∧ q.version ≠ 0x13 then spdmSend q (spdmError eVersion s) s
    else if s.spdm.caps || s.spdm.transcript.isEmpty then spdmSend q (spdmError eUnexpected s) s
    else
      let rsp : Bytes := [BitVec.ofNat 8 q.version, 0x61, 0, 0, 0, Config.spdmCt, 0, 0] ++ leBytes 4 spdmFlags ++
        leBytes 4 Config.spdmTransferSize ++ leBytes 4 Config.spdmMessageSize
      spdmSend q rsp { s with spdm := { s.spdm with
        version := some q.version, caps := true, transcript := s.spdm.transcript ++ reqBytes 0xE1 q ++ rsp } }) s

/-- NEGOTIATE_ALGORITHMS (13 R591): ECDSA P-384, SHA-384, secp384r1, AES-256-GCM and the SPDM key schedule, as far as the
request offers them. -/
def execNegotiateAlgorithms (q : SpdmReq) (s : State) : Res :=
  spdmRun q (fun s => s.spdm.caps && !s.spdm.algs) (fun s =>
    let asym := if bitOf (ofLe (slice q.data 4 4)) 7 then 0x80 else 0
    let hash := if bitOf (ofLe (slice q.data 8 4)) 1 then 0x02 else 0
    if asym = 0 ∨ hash = 0 then (spdmError eInvalid s, s)
    else
      let tail : Bytes := [0x02, 0x20, 0x10, 0x00, 0x03, 0x20, 0x02, 0x00, 0x05, 0x20, 0x01, 0x00]
      let rsp : Bytes := [spdmVer s, 0x63, 3, 0] ++ leBytes 2 48 ++ [1, 2] ++ leBytes 4 4 ++ leBytes 4 asym ++ leBytes 4 hash ++
        zeros 12 ++ [0, 0, 0, 0] ++ tail
      (rsp, { s with spdm := { s.spdm with
        algs := true, transcript := s.spdm.transcript ++ reqBytes 0xE3 q ++ rsp, certLog := [], measLog := [] } })) s

/-- A request and its response join the messages a CHALLENGE signs. -/
def logCert (code : Byte) (q : SpdmReq) (rsp : Bytes) (s : State) : State :=
  { s with spdm := { s.spdm with certLog := s.spdm.certLog ++ reqBytes code q ++ rsp } }

/-- GET_DIGESTS (13 R590, R591): slot 0 alone. -/
def execGetDigests (q : SpdmReq) (s : State) : Res :=
  spdmRun q negotiated (fun s =>
    let rsp : Bytes := [spdmVer s, 0x01, 0, 1] ++ sha384 (certChain s)
    (rsp, logCert 0x81 q rsp s)) s

/-- GET_CERTIFICATE (13 R591): a portion of the chain of slot 0. -/
def execGetCertificate (q : SpdmReq) (s : State) : Res :=
  spdmRun q negotiated (fun s =>
    let off := ofLe (slice q.data 0 2)
    let chain := certChain s
    if q.param1 % 16 ≠ 0 ∨ chain.length ≤ off then (spdmError eInvalid s, s)
    else
      let part := (chain.drop off).take (ofLe (slice q.data 2 2))
      let rsp : Bytes := [spdmVer s, 0x02, 0, 0] ++ leBytes 2 part.length ++ leBytes 2 (chain.length - off - part.length) ++ part
      (rsp, logCert 0x82 q rsp s)) s

/-- The context of 8 bytes that version 1.3 has a response repeat. -/
def reqContext (off : Nat) (q : SpdmReq) : Bytes := if q.version = 0x13 then fit 8 (slice q.data off 8) else []

/-- CHALLENGE (13 R590, R591): signed by the classical identity key; refused where a start formed none (14 R602, R656). -/
def execChallenge (q : SpdmReq) (s : State) : Res :=
  spdmRun q negotiated (fun s =>
    if q.param1 ≠ 0 then (spdmError eInvalid s, s)
    else
      let d := draw 32 s
      let body : Bytes := [spdmVer s, 0x03, 0, 1] ++ sha384 (certChain s) ++ d.1 ++ measSummary q.param2 s ++ [0, 0] ++ reqContext 32 q
      match spdmSign "responder-challenge_auth signing" (s.spdm.transcript ++ s.spdm.certLog ++ reqBytes 0x83 q ++ body) s with
      | none => (spdmError eUnspecified s, s)
      | some sig => (body ++ sig, { d.2 with spdm := { d.2.spdm with certLog := [] } })) s

/-- GET_MEASUREMENTS (13 R592, R578): operation 0 counts, 0xFF gives all, any other value names one index. -/
def execGetMeasurements (q : SpdmReq) (s : State) : Res :=
  spdmRun q negotiated (fun s =>
    let all := measurements s
    let asked := if q.param2 = 0 then [] else if q.param2 = 0xFF then all else all.filter (fun m => m.1 == q.param2)
    if q.param2 ≠ 0 ∧ asked = [] then (spdmError eInvalid s, s)
    else
      let signed := bitOf q.param1 0
      let d := draw 32 s
      let recs := (asked.map measBlock).flatten
      let body : Bytes := [spdmVer s, 0x60, BitVec.ofNat 8 (if q.param2 = 0 then all.length else 0), 0, BitVec.ofNat 8 asked.length] ++
        leBytes 3 recs.length ++ recs ++ d.1 ++ [0, 0] ++ reqContext (if signed then 33 else 0) q
      let log := s.spdm.measLog ++ reqBytes 0xE0 q ++ body
      if signed then
        match spdmSign "responder-measurements signing" (s.spdm.transcript ++ log) s with
        | none => (spdmError eUnspecified s, s)
        | some sig => (body ++ sig, { d.2 with spdm := { d.2.spdm with measLog := [] } })
      else (body, { d.2 with spdm := { d.2.spdm with measLog := log } })) s

-- Sessions (13 R590, R591) -------------------------------------------------------------------------------------------------

/-- HKDF-Expand to 48 bytes with the label form of the SPDM key schedule. -/
def spdmExpand (s : State) (key : Bytes) (label : String) (ctx : Bytes) : Bytes :=
  hkdfExpand 2 key (leBytes 2 48 ++ ascii (if s.spdm.version = some 0x12 then "spdm1.2 " else "spdm1.3 ") ++ ascii label ++ ctx) 1 1 []

/-- HMAC of a handshake's transcript under the finished key of a direction. -/
def verifyData (s : State) (hs : Bytes) (label : String) (th1 th : Bytes) : Bytes :=
  hmacOf 2 (spdmExpand s (spdmExpand s hs label (sha384 th1)) "finished" []) (sha384 th)

/-- KEY_EXCHANGE (13 R590, R591): ephemeral secp384r1, signed by the classical identity key; neither mutual authentication nor
a pre-shared key. -/
def execKeyExchange (q : SpdmReq) (s : State) : Res :=
  spdmRun q (fun s => negotiated s && q.session.isNone) (fun s =>
    let peer : Bytes := 0x04 :: slice q.data 36 96
    if q.param2 ≠ 0 ∨ q.data.length < 132 ∨ (weierFindings 2 peer 0).isEmpty = false then (spdmError eInvalid s, s)
    else
      let priv := take 48 (Config.genKey 0x0202 384 s.drbg.next)
      let d := draw 32 (draw 56 s).2
      let id := ofLe (slice q.data 0 2) + s.spdm.nextSession % 65536 * 65536
      let body : Bytes := [spdmVer s, 0x64, Config.spdmHeartbeat, 0] ++ leBytes 2 s.spdm.nextSession ++ [0, 0] ++ d.1 ++
        (take 97 (Config.publicKey 0x0202 priv)).drop 1 ++ measSummary q.param1 s ++
        leBytes 2 Config.spdmKexOpaque.length ++ Config.spdmKexOpaque
      let pre := s.spdm.transcript ++ sha384 (certChain s) ++ reqBytes 0xE4 q ++ body
      match spdmSign "responder-key_exchange_rsp signing" pre s with
      | none => (spdmError eUnspecified s, s)
      | some sig =>
        let th1 := pre ++ sig
        let hs := hmacOf 2 (zeros 48) (take 48 (Config.ecdh 2 priv peer))
        let mac := verifyData s hs "rsp hs data" th1 th1
        (body ++ sig ++ mac, { d.2 with spdm := { d.2.spdm with
          nextSession := (d.2.spdm.nextSession + 1) % 65536, handshake := some (id, hs, th1 ++ mac) } })) s

/-- FINISH (13 R590): inside the handshake session; the requester's verification data must agree. -/
def execFinish (q : SpdmReq) (s : State) : Res :=
  coreAct (fun s =>
    match s.spdm.handshake with
    | none => spdmSend q (spdmError eUnexpected s) s
    | some (id, hs, th) =>
      if q.session ≠ some id then spdmSend q (spdmError eSession s) s
      else
        let th1 := th.take (th.length - 48)
        let mac := verifyData s hs "req hs data" th1 (th ++ [BitVec.ofNat 8 q.version, 0xE5, BitVec.ofNat 8 q.param1, BitVec.ofNat 8 q.param2])
        if q.data ≠ mac then spdmSend q (spdmError eDecrypt s) { s with spdm := { s.spdm with handshake := none } }
        else
          let ms := hmacOf 2 (spdmExpand s hs "derived" []) (zeros 48)
          spdmSend q [spdmVer s, 0x65, 0, 0] { s with spdm := { s.spdm with
            handshake := none, sessions := s.spdm.sessions.filter (fun x => x.1 != id) ++ [(id, ms, 0)] } }) s

/-- A request that has a meaning only inside a session. -/
def inSession (q : SpdmReq) (f : Nat → State → Bytes × State) (s : State) : Res :=
  spdmRun q negotiated (fun s =>
    match q.session with
    | none => (spdmError eSessionRequired s, s)
    | some k => f k s) s

/-- END_SESSION (13 R590). -/
def execEndSession (q : SpdmReq) (s : State) : Res :=
  inSession q (fun k s =>
    ([spdmVer s, 0x6C, 0, 0], { s with spdm := { s.spdm with sessions := s.spdm.sessions.filter (fun x => x.1 != k) } })) s

/-- KEY_UPDATE (13 R590): operations 1 and 2 take the next keys, 3 confirms them. -/
def execKeyUpdate (q : SpdmReq) (s : State) : Res :=
  inSession q (fun k s =>
    let next := fun (x : Nat × Bytes × Nat) =>
      if x.1 = k then (x.1, spdmExpand s x.2.1 "traffic upd" [], x.2.2 + 1) else x
    let ack : Bytes := [spdmVer s, 0x69, BitVec.ofNat 8 q.param1, BitVec.ofNat 8 q.param2]
    if q.param1 = 1 ∨ q.param1 = 2 then
      (ack, { s with spdm := { s.spdm with sessions := s.spdm.sessions.map next } })
    else if q.param1 = 3 then (ack, s)
    else (spdmError eInvalid s, s)) s

/-- SPDM_HEARTBEAT (13 R590). -/
def execSpdmHeartbeat (q : SpdmReq) (s : State) : Res := inSession q (fun _ s => ([spdmVer s, 0x68, 0, 0], s)) s

-- TDISP (03 R143 to R146) --------------------------------------------------------------------------------------------------

/-- Head of a TDISP message: version, type and INTERFACE_ID (03 R143). -/
def tdispHead (type : Byte) (q : TdispReq) : Bytes := [0x10, type, 0, 0] ++ leBytes 4 q.func ++ leBytes 2 q.stall ++ zeros 6

/-- A TDISP_ERROR. -/
def tdispError (code : Nat) (q : TdispReq) : Bytes := tdispHead 0x7F q ++ leBytes 4 code ++ leBytes 4 0

/-- TDISP error codes: INVALID_INTERFACE_STATE, VERSION_MISMATCH, INVALID_INTERFACE, INVALID_NONCE and
INVALID_DEVICE_CONFIGURATION (the numbers PRESUMED, log entry 80). -/
def tState : Nat := 0x0004
def tVersion : Nat := 0x0041
def tInterface : Nat := 0x0101
def tNonce : Nat := 0x0102
def tConfig : Nat := 0x0104

/-- A TDISP payload in the vendor-defined response that carries it. -/
def vendorRsp (s : State) (p : Bytes) : Bytes := [spdmVer s, 0x7E, 0, 0, 3, 0, 2, 1, 0] ++ leBytes 2 (p.length + 1) ++ [1] ++ p

/-- A TDISP request after the checks all share (15 R631, 03 R143): a secure session, the version, and an interface that is a
TDI of this function. -/
def tdispAnswer (q : TdispReq) (f : State → Bytes × State) (s : State) : Bytes × State :=
  if !secured s q.session then (spdmError eSessionRequired s, s)
  else if q.version ≠ 0x10 then (vendorRsp s (tdispError tVersion q), s)
  else if q.func ≠ s.pcie.rid ∨ 4096 ≤ q.stall ∨ (stall s q.stall).tdi = .none then (vendorRsp s (tdispError tInterface q), s)
  else let r := f s; (vendorRsp r.2 r.1, r.2)

/-- The answer of a TDISP request leaves over DOE (15 R631). -/
def tdispRun (g : State → Bytes × State) (s : State) : Res := coreAct (fun s => let r := g s; emit (.doe r.1) r.2) s

/-- GET_VERSION: version 1.0. -/
def tdispVersion (q : TdispReq) : State → Bytes × State := tdispAnswer q (fun s => (tdispHead 0x01 q ++ [1, 0x10], s))

/-- GET_CAPABILITIES: the requests 0x81 to 0x87; the other fields are not in the manual. -/
def tdispCapabilities (q : TdispReq) : State → Bytes × State :=
  tdispAnswer q (fun s => (tdispHead 0x02 q ++ take 4 Config.tdispCaps ++ fit 16 [0xFE] ++ take 8 (fun i => Config.tdispCaps (i + 4)), s))

/-- LOCK_INTERFACE_REQUEST (03 R145): only from CONFIG_UNLOCKED, and only if the selective IDE stream it names is in its secure
state; the Stall is hard-reset on entry. The answer carries the nonce for START. -/
def tdispLock (q : TdispReq) (t : Nat) : State → Bytes × State :=
  tdispAnswer q (fun s =>
    if (stall s q.stall).tdi ≠ .unlocked then (tdispError tState q, s)
    else if 8 ≤ q.stream || !s.spdm.ideSecure.contains q.stream then (tdispError tConfig q, s)
    else
      let n := s.drbg.next
      let d := draw 32 (tick t s)
      let s1 := modStall d.2 q.stall (fun x => { x with tdi := .locked, stream := some q.stream, tdiNonce := some n })
      (tdispHead 0x03 q ++ d.1, requestReset q.stall true causeTdi s1))

/-- The device interface report (03 R144): the Stall page is the only TEE range; the MSI-X table and the PBA in BAR4 are
reported as non-TEE. -/
def tdiReport (st : Nat) : Bytes :=
  let range := fun (page count attr : Nat) => leBytes 8 page ++ leBytes 4 count ++ leBytes 4 attr
  leBytes 2 0 ++ leBytes 2 0 ++ take 8 Config.tdispReport ++ leBytes 4 3 ++ range st 1 (2 * 2 ^ 16) ++
    range 0 16 (4 * 2 ^ 16 + 5) ++ range 16 1 (4 * 2 ^ 16 + 6) ++ leBytes 4 0

/-- GET_DEVICE_INTERFACE_REPORT (03 R144): in CONFIG_LOCKED and RUN. -/
def tdispReportOf (q : TdispReq) : State → Bytes × State :=
  tdispAnswer q (fun s =>
    let x := (stall s q.stall).tdi
    if x = .locked ∨ x = .run then
      let r := tdiReport q.stall
      (tdispHead 0x04 q ++ leBytes 2 r.length ++ leBytes 2 0 ++ r, s)
    else (tdispError tState q, s))

/-- Code of a TDI state. -/
def tdiCode : Tdi → Byte | .none => 0 | .unlocked => 0 | .locked => 1 | .run => 2 | .error => 3

/-- GET_DEVICE_INTERFACE_STATE (03 R145). -/
def tdispStateOf (q : TdispReq) : State → Bytes × State :=
  tdispAnswer q (fun s => (tdispHead 0x05 q ++ [tdiCode (stall s q.stall).tdi], s))

/-- START_INTERFACE_REQUEST (03 R145): from CONFIG_LOCKED to RUN, with the nonce of the lock. -/
def tdispStart (q : TdispReq) (t : Nat) : State → Bytes × State :=
  tdispAnswer q (fun s =>
    let x := stall s q.stall
    if x.tdi ≠ .locked then (tdispError tState q, s)
    else
      match x.tdiNonce with
      | none => (tdispError tNonce q, s)
      | some n =>
        if q.nonce ≠ take 32 (fun i => Config.drbg (n + i)) then (tdispError tNonce q, s)
        else (tdispHead 0x06 q, modStall (tick t s) q.stall (fun x => { x with tdi := .run, tdiNonce := none })))

/-- STOP_INTERFACE_REQUEST (03 R145, R146): to CONFIG_UNLOCKED. -/
def tdispStop (q : TdispReq) (t : Nat) : State → Bytes × State :=
  tdispAnswer q (fun s =>
    (tdispHead 0x07 q, modStall (tick t s) q.stall (fun x => { x with tdi := .unlocked, stream := none, tdiNonce := none })))

/-- TDISP_GET_VERSION. -/
def execTdispGetVersion (q : TdispReq) (s : State) : Res := tdispRun (tdispVersion q) s
/-- TDISP_GET_CAPABILITIES. -/
def execTdispGetCapabilities (q : TdispReq) (s : State) : Res := tdispRun (tdispCapabilities q) s
/-- LOCK_INTERFACE_REQUEST. -/
def execLockInterfaceRequest (q : TdispReq) (t : Nat) (s : State) : Res := tdispRun (tdispLock q t) s
/-- GET_DEVICE_INTERFACE_REPORT. -/
def execGetDeviceInterfaceReport (q : TdispReq) (s : State) : Res := tdispRun (tdispReportOf q) s
/-- GET_DEVICE_INTERFACE_STATE. -/
def execGetDeviceInterfaceState (q : TdispReq) (s : State) : Res := tdispRun (tdispStateOf q) s
/-- START_INTERFACE_REQUEST. -/
def execStartInterfaceRequest (q : TdispReq) (t : Nat) (s : State) : Res := tdispRun (tdispStart q t) s
/-- STOP_INTERFACE_REQUEST. -/
def execStopInterfaceRequest (q : TdispReq) (t : Nat) (s : State) : Res := tdispRun (tdispStop q t) s

/-- The fields of a TDISP message in a vendor-defined request (03 R143; layouts PRESUMED, log entry 80). -/
def parseTdisp (session : Option Nat) (p : Bytes) : TdispReq where
  session := session
  version := (p.getD 0 0).toNat
  func := ofLe (slice p 4 4)
  stall := ofLe (slice p 8 2)
  stream := (p.getD 18 0).toNat
  nonce := slice p 16 32

/-- VENDOR_DEFINED_REQUEST (13 R590; 15 R631): it carries TDISP, inside a session over DOE alone. -/
def execVendorDefinedRequest (q : SpdmReq) (s : State) : Res :=
  coreAct (fun s =>
    let p := q.data.drop 8
    let r := parseTdisp q.session p
    if slice q.data 0 5 ≠ [3, 0, 2, 1, 0] ∨ q.data.getD 7 0 ≠ 1 then spdmSend q [spdmVer s, 0x7F, 0x07, 0x7E] s
    else if q.mctp then spdmSend q (spdmError eSessionRequired s) s
    else
      let a := match (p.getD 1 0).toNat with
        | 0x81 => tdispVersion r s
        | 0x82 => tdispCapabilities r s
        | 0x83 => tdispLock r 0 s
        | 0x84 => tdispReportOf r s
        | 0x85 => tdispStateOf r s
        | 0x86 => tdispStart r 0 s
        | 0x87 => tdispStop r 0 s
        | _ => tdispAnswer r (fun s => (tdispError 0x0007 r, s)) s
      spdmSend q a.1 a.2) s

-- IDE (15 R631; 03 R145) ---------------------------------------------------------------------------------------------------

/-- The TDIs bound to a stream enter ERROR, which hard-resets their Stalls (03 R145, R146). -/
def streamLost (stream : Nat) (s : State) : State :=
  let hit := s.stalls.filter (fun p => p.2.stream = some stream && (p.2.tdi == .locked || p.2.tdi == .run))
  hit.foldl (fun s p => requestReset p.1 true causeTdi (tdiToError p.1 s))
    { s with spdm := { s.spdm with ideSecure := s.spdm.ideSecure.filter (fun i => i != stream) } }

/-- IDE_STREAM_FAILURE (03 R145; 15 R631): a stream leaves its secure state, by an integrity failure or otherwise. -/
def execIdeStreamFailure (stream : Nat) (_integrity : Bool) (t : Nat) (s : State) : Res :=
  coreAct (fun s => streamLost stream (tick t s)) s

/-- An IDE_KM response in its vendor-defined wrapping. -/
def ideRsp (s : State) (p : Bytes) : Bytes := [spdmVer s, 0x7E, 0, 0, 3, 0, 2, 1, 0] ++ leBytes 2 (p.length + 1) ++ [0] ++ p

/-- The key set, direction and sub-stream byte of an IDE_KM message. -/
def ideSel (keySet dir sub : Nat) : Byte := BitVec.ofNat 8 (keySet % 2 + dir % 2 * 2 + sub % 16 * 16)

/-- IDE_KM_MESSAGE (15 R631): inside a secure session alone. A stream whose keys are programmed becomes secure with GO and
leaves its secure state with STOP; 0 to 7 are selective streams, 8 the link stream. -/
def execIdeKmMessage (session : Option Nat) (m : IdeKm) (s : State) : Res :=
  coreAct (fun s =>
    if !secured s session then emit (.doe (spdmError eSessionRequired s)) s
    else
      match m with
      | .query p => emit (.doe (ideRsp s (1 :: 0 :: BitVec.ofNat 8 p :: Config.ideQuery p))) s
      | .keyProg st ks d sub =>
        let ok := decide (st < 9)
        let s1 := if ok then { s with spdm := { s.spdm with ideKeys := s.spdm.ideKeys.filter (fun i => i != st) ++ [st] } } else s
        emit (.doe (ideRsp s [3, 0, 0, BitVec.ofNat 8 st, if ok then 0 else 3, ideSel ks d sub, 0])) s1
      | .goSet st ks d sub =>
        let s1 := if s.spdm.ideKeys.contains st then
            { s with spdm := { s.spdm with ideSecure := s.spdm.ideSecure.filter (fun i => i != st) ++ [st] } }
          else s
        emit (.doe (ideRsp s [6, 0, 0, BitVec.ofNat 8 st, 0, ideSel ks d sub, 0])) s1
      | .stop st ks d sub => emit (.doe (ideRsp s [6, 0, 0, BitVec.ofNat 8 st, 0, ideSel ks d sub, 0])) (streamLost st s)) s

end Machine
end Sys2Proof
end

