-- ==== Sys2Proof/Machine/Timers.lean ====
section
/-!
DEFINITION. The timers of the record store (Daybook, Tamper Roll, Boot Roll and Tallies, 13 R556, R561, R577, R582).
-/
namespace Sys2Proof
namespace Machine

/-- A step of the record store, which runs in Silence too (11 R497) but not while the part is off. -/
def storeAct (f : State → State) (s : State) : Res := act (fun s => if s.faults.phase == .off then s else f s) s

/-- DAYBOOK_FLUSH_TIMER (13 R556): 1 s after the previous flush. -/
def execDaybookFlushTimer (t : Nat) (s : State) : Res :=
  storeAct (fun s =>
    let s := tick t s
    if s.day.buf.isEmpty && s.day.dropped + s.day.replaced = 0 then s else beginFlush s) s

/-- DAYBOOK_FLUSH_DONE (13 R556, R561): the records are written and read back; a flush that was due meanwhile follows. A record
that fails twice is a failed MRAM write (11 R499): Silence 0x000A. -/
def execDaybookFlushDone (ok : Bool) (t : Nat) (s : State) : Res :=
  storeAct (fun s =>
    let s := tick t s
    if !s.day.flushing then s
    else if !ok then silence 0x000A { s with day := { s.day with flushing := false, flushAgain := false } }
    else
      let s1 := flushAll s
      { s1 with day := { s1.day with flushing := false, flushAgain := false } }) s

/-- OPERATING_TIME_TICK (13 R582): every 3.515625 s under main power; the write needs the anchor MAC key (13 R579). -/
def execOperatingTimeTick (t : Nat) (s : State) : Res :=
  storeAct (fun s =>
    let s := tick t s
    if s.munim.anchorKey.isSome then tallyAdd 2 1 s else s) s

/-- BOOT_CLOSE_TIMER (13 R577; 14 R683): the close time of the Platform Description Block has passed. -/
def execBootCloseTimer (t : Nat) (s : State) : Res :=
  coreAct (fun s =>
    let s := tick t s
    if s.faults.pdbStart.isSome then closeBoot 2 s else s) s

end Machine
end Sys2Proof
end

