-- ==== Sys2Proof/Machine/Start.lean ====
section
/-!
DEFINITION. Cold start, warm reset and the start-up sequence; the provisioning exchange (Start-Up, Firmware Images and
Lifecycle, 14 R596 to R602, R606, R615, R618, R682, R683; 04 R165 to R171, R177; 11 R510 to R512; 13 R567, R575; 10 R438, R478).
A start command runs the steps up to the next wait: for a Watermark attempt, for DRAM training, for Catalogue initialisation.
-/
namespace Sys2Proof
namespace Machine

-- What a start clears ------------------------------------------------------------------------------------------------------

/-- What every start keeps: the non-volatile stores, the Vigil, and the model's own fields. -/
def keepAlways (s r : State) : State :=
  { r with
    pending := s.pending, clock := s.clock, free := s.free, nextId := s.nextId, out := s.out, mram := s.mram
    vigil := { s.vigil with power := if s.vigil.power = 3 then 3 else 0, sealRead := false }
    drbg := { r.drbg with next := s.drbg.next }
    stk := { r.stk with owed := s.stk.owed }
    side := { r.side with gpioIn := s.side.gpioIn,
                          ports := r.side.ports.mapIdx (fun i p => { p with present := (s.side.ports.getD i Port.reset).present }) }
    faults := { r.faults with railsUp := true, perst := false } }

/-- A slot whose write was torn: its MAC does not check (04 R175); one that was being erased is erased. -/
def tornSlot (m : Option MSlot) : Option MSlot := m.map (fun x => { x with macOk := false })

/-- The slot writes that a loss of power interrupts (04 R175, R211): each is whole, or torn, or has not begun, in their order;
how far they came is open (log entry 142). -/
def tearWrites (s : State) : State :=
  let l := s.mram.writing
  if l.isEmpty then s
  else
    let k := Config.freeValue s.free % (l.length + 1)
    let undo (s : State) (w : Nat × Nat × Nat × Option MSlot) : State := writeSlot w.2.1 w.2.2.1 w.2.2.2 s
    let s1 := (l.drop (k + 1)).reverse.foldl undo { s with free := s.free + 1, mram := { s.mram with writing := [] } }
    match l[k]? with
    | some w => writeSlot w.2.1 w.2.2.1 (tornSlot (slotOf s1 w.2.1 w.2.2.1)) s1
    | none => s1

/-- The instances that are retired when the power goes, by kind and number (01 R37; log entry 144). -/
def noteRetired (s : State) : State :=
  let l := [EngKind.loom, .forge, .kiln, .mill].flatMap (fun k => (withStatus s k .retired).map (fun i => (kindIx k, i)))
  if l.isEmpty then s else { s with mram := { s.mram with retired := l } }

/-- A cold start clears everything but MRAM, OTP, the Vigil domain and flash (14 R596). A flush that has begun completes
(log entry 81). -/
def coldClear (s : State) : State :=
  let s := if s.day.flushing then flushAll s else s
  keepAlways (noteRetired (tearWrites s)) State.reset

/-- Registers of a Stall after a warm reset: the binding of Stall 0, and RESETS, which counts since the cold start (03 R138). -/
def warmStall (st : Nat) (x : Stall) : Stall :=
  if st = 0 then { Stall.zero with gen := x.gen, resets := x.resets, rid := x.rid, vecBase := x.vecBase, vecCount := x.vecCount,
                                   weight := x.weight, maxInflight := x.maxInflight, maxPk := x.maxPk, maxCache := x.maxCache }
  else { Stall.reset with resets := x.resets }

/-- A MON entry after a warm reset: factory limits, and what it tracks since the cold start (12 R541, R548). -/
def warmMon (m : Nat) (e : MonEnt) : MonEnt :=
  { MonEnt.at m with value := e.value, extreme := e.extreme, measured := e.measured, alarms := e.alarms, present := e.present }

/-- An instance after a warm reset: one that is retired stays so until the next cold start (01 R37). -/
def warmInst (x : Inst) : Inst :=
  match x.status with
  | .retired => { Inst.reset with status := .retired }
  | .spare => { Inst.reset with status := .spare }
  | .off => Inst.reset
  | _ => { Inst.reset with status := .active, replaces := x.replaces }

/-- A warm reset (11 R510; 15 R632, R641): it keeps the link, configuration space and AER state, MRAM, the Vigil domain, every
ROS field, and what counts or stays "since" or "until" a cold start (log entry 82). -/
def warmClear (s : State) : State :=
  let s := if s.day.flushing then flushAll s else s
  let r := keepAlways s State.reset
  let vec := fun (v : Nat) => decide (4080 ≤ v)
  { r with
    stalls := (s.stalls.map (fun p => (p.1, warmStall p.1 p.2))).filter (fun p => p.2 != Stall.reset)
    insts := s.insts.map (fun l => l.map warmInst)
    drbg := { r.drbg with bad := s.drbg.bad }
    keeper := { r.keeper with restarts := s.keeper.restarts }
    day := { r.day with shown := s.day.shown, droppedReg := s.day.droppedReg }
    mon := { r.mon with ents := (s.mon.ents.map (fun p => (p.1, warmMon p.1 p.2))).filter (fun p => p.2 != MonEnt.at p.1),
                        glitches := s.mon.glitches, thermAlert := s.mon.thermAlert }
    faults := { r.faults with
      silenceLatched := s.faults.silenceLatched, lastCause := s.faults.lastCause, lastLevel := s.faults.lastLevel,
      startFail := s.faults.startFail, failStep := s.faults.failStep, silences := s.faults.silences }
    worlds := { r.worlds with
      first := s.worlds.first, violTotal := s.worlds.violTotal, violSeq := s.worlds.violSeq
      deeds := s.worlds.deeds.filter (fun p => bitOf p.2 3)
      regions := s.worlds.regions.mapIdx (fun i x => if x.lock && decide (8 ≤ i) then x else r.worlds.regions.getD i Region.reset) }
    pair := { r.pair with lastLoss := s.pair.lastLoss, failovers := s.pair.failovers }
    stk := { r.stk with
      ifValid := s.stk.ifValid, ifKind := s.stk.ifKind, ifChannel := s.stk.ifChannel, ifLevel := s.stk.ifLevel,
      ifMaster := s.stk.ifMaster, ifAddr := s.stk.ifAddr, ifIndex := s.stk.ifIndex }
    side := { r.side with
      dynAddr := s.side.dynAddr, dynValid := s.side.dynValid, smbus := s.side.smbus, eid := s.side.eid, eidValid := s.side.eidValid }
    dbg := { r.dbg with ir := s.dbg.ir, dr := s.dbg.dr, pins := s.dbg.pins }
    ev := { r.ev with en := s.ev.en, enable := s.ev.enable, bmc := s.ev.bmc, route := s.ev.route }
    pcie := { r.pcie with
      rid := s.pcie.rid, atomicEn := s.pcie.atomicEn, atsEn := s.pcie.atsEn, aerFatal := s.pcie.aerFatal
      unmasked := s.pcie.unmasked.filter vec, msixTable := s.pcie.msixTable.filter (fun p => vec p.1) } }

-- Failures -----------------------------------------------------------------------------------------------------------------

/-- A start that fails (14 R601): record 0x0B01, Silence 0x0011, latched. -/
def startFailed (code step : Nat) (s : State) : State :=
  let s1 := record 0x0B01 sevSilence code step 0 s
  silence 0x0011 { s1 with faults := { s1.faults with startFail := code, failStep := step } }

/-- The next step of a start, while it has not failed. -/
def thenStep (n : Nat) (f : State → State) (s : State) : State :=
  if s.faults.silent then s else f { s with faults := { s.faults with step := n } }

-- Steps 2 to 4 -------------------------------------------------------------------------------------------------------------

/-- Whether the start skips step 4 (14 R602, R682; 15 R656, R658): a Blank part, and a start that applies a staged level 3. -/
def skipsFour (s : State) : Bool :=
  (!s.mram.fuseR && !s.mram.fuseP) ||
    (s.faults.startKind == 1 && s.mram.dbgStaged == some 3 && s.mram.fuseR)

/-- The Daybook record of a regeneration (04 R169): the number of corrected bits; a Note above 12 %. R563 lists no code for it
(log entry 44). -/
def regenRecord (corrected : Nat) (s : State) : State :=
  record (0x0B * 256 + Config.noteLow 13 % 256) (if 12 * 65536 < 100 * corrected then sevNote else sevInfo) corrected 0 0 s

/-- The Watermark key and what it gives (04 R165, R168, R172): the whole PUF SRAM is overwritten with DRBG output, and its island
is powered down until the next start; nothing reads it. -/
def formWatermark (corrected : Nat) (s : State) : State :=
  let w := take 32 Config.watermarkByte
  let s1 := (draw 8192 s).2
  let store := draw 32 s1
  regenRecord corrected { store.2 with munim := { store.2.munim with
    watermark := some w, anchorKey := some (kdf w "UT-ANCHOR" otpSalt 32), storeKey := some store.1, ids := true, wmTries := 0,
    puf := .off, pufOffAt := s.clock } }

/-- The state code that fuses and lifecycle record give before step 7 acts on it (14 R615). -/
def recordedState (s : State) : Nat :=
  if s.mram.fuseR then 6 else if !s.mram.fuseP then 0
  else match s.mram.lifecycle with | some r => r.1 | none => 1

/-- The Seal latch is read and the Device Root formed where R171 permits (04 R170, R171; 12 R530): not in Provisioned or in
Zeroized (14 R602). -/
def formRoot (s : State) : State :=
  let s1 := { s with vigil := { s.vigil with sealRead := true } }
  let root := rootFrom s1
  let ok := sealValid s1 && (root.map (rootCheckWith s1)) == s1.mram.rootCheck && s1.mram.rootCheck.isSome &&
    recordedState s1 != 1 && recordedState s1 != 5
  { s1 with munim := { s1.munim with deviceRoot := if ok then root else none } }

-- Step 5 -------------------------------------------------------------------------------------------------------------------

/-- A bank runs. -/
def runBank (b : Nat) (s : State) : State := { s with side := { s.side with runBank := b } }
/-- The boot record is written (14 R606). -/
def writeBoot (p t : Nat) (s : State) : State := { s with mram := { s.mram with bootBank := p, bootTrial := t } }

/-- The choice of a bank (14 R606, R682). -/
def chooseBank (s : State) : State :=
  let st := recordedState s
  let may := fun (b : Nat) (s : State) => imageCheck s b st (!s.faults.skipStep4) == 0
  if s.faults.skipStep4 then
    if may 0 s then runBank 0 s else if may 1 s then runBank 1 s else startFailed 0x05 5 s
  else if s.mram.recTorn.contains 1 then startFailed 0x07 5 s
  else
    let p := s.mram.bootBank
    let s1 := if s.mram.bootTrial = 2 then note 0x0B 14 (writeBoot (1 - p) 0 s)
              else if s.mram.bootTrial = 1 then writeBoot p 2 s else writeBoot p 0 s
    let p1 := s1.mram.bootBank
    if may p1 s1 then runBank p1 s1
    else if may (1 - p1) s1 then note 0x0B 15 (runBank (1 - p1) (writeBoot (1 - p1) 0 s1))
    else startFailed 0x05 5 s1

-- Step 6 -------------------------------------------------------------------------------------------------------------------

/-- A region that the start-up ROM programs and locks (09 R413; 14 R599 step 6): its contents are not in the manual. -/
def romRegion (i : Nat) : Region where
  base := Config.romRegion i 0
  last := Config.romRegion i 1
  rights := (List.range 7).map (fun k => Config.romRegion i (2 + k) % 8)
  enable := true
  lock := true
  space := Config.romRegion i 9 % 3

/-- Whether an instance is the spare of its group when a cold start begins (01 R31; log entry 22). -/
def spareAtStart (k : EngKind) (i : Nat) : Bool := k != .mill && i % groupSize k == groupSize k - 1

/-- Status of an instance that passes its start-up self-test (01 R37): what a warm reset left, else active or spare; a spare
is clock-gated (R34). -/
def passInst (k : EngKind) (i : Nat) (x : Inst) : Inst :=
  let st := if x.status == .off then (if spareAtStart k i then .spare else .active) else x.status
  { x with status := st, gated := st == .spare, dirty := 0 }

/-- The retired instances that a cold start tests again and that pass return to service, each with its record (01 R37; 13
R563). -/
def returned (failed : List (EngKind × Nat)) (s : State) : State :=
  let one (s : State) (k : EngKind) (i : Nat) : State :=
    if failed.contains (k, i) then s else record 0x0601 sevInfo (engCode k i) 3 0 s
  let s1 := s.mram.retired.foldl (fun s p =>
    match [EngKind.loom, .forge, .kiln, .mill][p.1]? with | some k => one s k p.2 | none => s) s
  { s1 with mram := { s1.mram with retired := [] } }

/-- Every instance that is not retired runs its start-up self-test (01 R37; 14 R599 step 6, R601; 11 R504): one that fails is
retired, and a spare that passed takes its place at once (01 R35). -/
def testInstances (failed : List (EngKind × Nat)) (s : State) : State :=
  let kinds : List EngKind := [.loom, .forge, .kiln, .mill]
  let s1 := returned failed { s with insts := List.zipWith (fun k l => l.mapIdx (passInst k)) kinds s.insts }
  let out := failed.filter (fun p => decide (p.2 < (instsOf s1 p.1).length) && (inst s1 p.1 p.2).status != .retired)
  let s2 := out.foldl (fun s p =>
    event 5 (record 0x0601 sevNote (engCode p.1 p.2) 1 5
      (modInst s p.1 p.2 (fun x => { Inst.reset with status := .retired, replaces := x.replaces })))) s1
  let s3 := out.foldl (fun s p => match spareFor s p.1 p.2 with | some j => promote p.1 j s | none => s) s2
  if kinds.any (fun k => decide (activeCount s3 k < minActive k)) then startFailed 0x06 6 s3 else s3

/-- Step 6 (14 R599). -/
def stepSix (failed : List (EngKind × Nat)) (s : State) : State :=
  testInstances failed { s with worlds := { s.worlds with
    regions := s.worlds.regions.mapIdx (fun i x => if i < 8 then romRegion i else x) } }

-- Step 7 -------------------------------------------------------------------------------------------------------------------

/-- The lifecycle state is found (14 R615, R682). -/
def findLifecycle (s : State) : State :=
  let st := recordedState s
  if !s.faults.skipStep4 && s.mram.fuseP && !s.mram.fuseR && s.mram.lifeTorn then startFailed 0x07 7 s
  else
    let s1 := { s with faults := { s.faults with lifecycle := st } }
    if st = 1 then { s1 with mram := { s1.mram with master := [], allots := [], rootCheck := none, pairRec := none } }
    else if 2 ≤ st && st ≤ 4 && s1.munim.deviceRoot.isNone then setLifecycle 5 0 (zeros 16) (transition 5 s1)
    else s1

/-- A staged debug level is applied, for this start, or erased (15 R658, 14 R616): at a cold start only. -/
def applyDebug (s : State) : State :=
  if s.faults.startKind ≠ 1 then s
  else
    match s.mram.dbgStaged with
    | none => s
    | some l =>
      { s with
        mram := { s.mram with dbgStaged := none }
        faults := { s.faults with debugLevel := if l ≤ dbgMax s.faults.lifecycle && (l < 3 || s.faults.skipStep4) then l else 0 } }

/-- Whether the inputs are armed as a block names them. -/
def armedAs (p : Pdb) (s : State) : Bool :=
  (List.range 12).all (fun i =>
    let x := tamperIn s i
    x.armed == fittedIn p i && (!fittedIn p i || (x.filter == bits p.filters (4 * i) 4 && (8 ≤ i || x.nc == bitOf p.swNc i))))

/-- Inputs that stay armed keep what MON shows of them. -/
def showArmed (s : State) : State :=
  (List.range 12).foldl (fun s i =>
    modMon (64 + i) (fun e => { e with userFilter := (tamperIn s i).filter, present := (tamperIn s i).armed }) s) s

/-- The Platform Description Block at a start (14 R611, R683; 12 R519; 09 R420): inputs already armed as it names them stay
armed (log entry 83), and the worlds of pins and channels stand before any Shop firmware runs. -/
def startPdb (s : State) : State :=
  match s.mram.pdb with
  | none => s
  | some p =>
    let keep := armedAs p s
    let s1 := applyPdb p s
    let s2 := if keep then showArmed { s1 with vigil := s.vigil, drbg := s.drbg } else s1
    let s3 := ((List.range 16).map PinId.gpio ++ (List.range 4).map PinId.card).foldl (fun s x => takePin x s) s2
    { s3 with
      faults := { s3.faults with config := p.config, pdbStart := some p }
      pair := { s3.pair with splitLog2 := if p.config = 2 then p.splitLog2 else 0, settleUs := p.settleUs, arbAddr := p.arbiter } }

/-- The pair record at a start (10 R436, R438, R478). -/
def startPair (s : State) : State :=
  match s.mram.pairRec with
  | none => s
  | some r =>
    match s.munim.deviceRoot.bind (fun k => kwUnwrap (kdf k "UT-PAIRWRAP" [] 32) r.psWrap) with
    | none => note 0x0A 16 s
    | some ps =>
      setPair psLinking { s with pair := { s.pair with
        bound := true, mode := r.mode, side := r.side, role := r.side, arbValue := r.arbiter, sessionEpoch := r.epoch,
        pairSecret := some ps } }

/-- Step 7 (14 R599, R615, R682). -/
def stepSeven (s : State) : State :=
  let s1 := findLifecycle s
  if s1.faults.silent then s1
  else
    let s2 := applyDebug s1
    if s2.faults.skipStep4 then showArmed s2
    else if s2.mram.recTorn.any (fun r => r == 2 || r == 3) then startFailed 0x07 7 s2
    else
      let s3 := match s2.mram.calib with | some b => (applyCalib b s2).2 | none => s2
      startPdb s3

-- Step 9 -------------------------------------------------------------------------------------------------------------------

/-- A slot of a master entry is erased and recorded (04 R177, 13 R563). -/
def eraseSlot (why : Nat) (s : State) (p : Nat × Nat) : State :=
  let kind := match (if p.2 = 0 then (entrySlots s p.1).1 else (entrySlots s p.1).2) with | some m => m.kind | none => 0
  if kind = 0 then s
  else record 0x0402 sevInfo p.1 (p.2 + kind * 256) why (writeSlot p.1 p.2 none s)

/-- Owners whose record anchor holds the Retiring marker (04 R236). -/
def retiringOwners (s : State) : List Nat :=
  ((s.mram.master.map (fun p => p.1 / 4)).eraseDups).filter (fun n =>
    match currentSlot s (4 * n + 1) with | some p => retiringMark p.2 | none => false)

/-- An erasure that a power loss left unfinished is resumed (04 R236): entries 4n, 4n + 2, 4n + 3 and finally 4n + 1. -/
def resumeRetiring (s : State) : State :=
  (retiringOwners s).foldl (fun s n => [4 * n, 4 * n + 2, 4 * n + 3, 4 * n + 1].foldl (fun s e =>
    writeSlot e 1 none (writeSlot e 0 none s)) s) s

/-- The erasures of R177: what no valid record anchor vouches for, and master slots that the Device Root does not unwrap. -/
def eraseDead (s : State) : State :=
  let owners := (s.mram.master.map (fun p => p.1 / 4)).eraseDups
  let lost := owners.filter (fun n => (validSlots s (4 * n + 1)).isEmpty)
  let s1 := (lost.flatMap (fun n => [(4 * n, 0), (4 * n, 1), (4 * n + 2, 0), (4 * n + 2, 1), (4 * n + 3, 0), (4 * n + 3, 1)])).foldl
    (eraseSlot 1) s
  if s1.munim.deviceRoot.isSome then (deadMasters s1).foldl (eraseSlot 2) s1 else s1

/-- The Boot Roll entry with the greatest number. -/
def lastBoot (s : State) : Option BootEntry :=
  (s.mram.broll.map (fun p => p.2)).foldl (fun b e => match b with
    | none => some e
    | some x => if x.boot < e.boot then some e else some x) none

/-- Step 1 of R575: a previous entry without a close block is closed with reason 3. -/
def closePrevious (s : State) : State :=
  match lastBoot s with
  | none => s
  | some e =>
    if (tally s 0).exhausted || e.blocks.any (fun b => b.kind == 0x30) then s
    else
      let s1 := closeBoot 3 { s with day := { s.day with bootCur := some e.boot, bootOpen := true } }
      { s1 with day := { s1.day with bootCur := none, bootOpen := false } }

/-- The kind-3 entries owed to the Tamper Roll (13 R567, R569). -/
def enterOwed (s : State) : State :=
  let one := fun (s : State) (f : Nat × Nat × Nat × Nat × Nat) =>
    let body := leBytes 1 f.1 ++ leBytes 1 f.2.2.1 ++ leBytes 1 f.2.1 ++ [0] ++ leBytes 4 f.2.2.2.1 ++ leBytes 8 f.2.2.2.2
    match rollAppend 3 body s with
    | (some n, s1) => recordThrough 0x0104 sevSilence f.1 (f.2.2.2.1 % 2 ^ 32) n s1
    | (none, s1) => recordThrough 0x0104 sevSilence f.1 (f.2.2.2.1 % 2 ^ 32) 0xFFFFFFFF s1
  let s1 := s.stk.owed.foldl one s
  { s1 with stk := { s1.stk with owed := [] } }

/-- The blocks of kinds 0x01 to 0x08 (13 R572). -/
def bootBlocks (s : State) : List BootBlk :=
  let blk := fun (kind detail : Nat) (value : Bytes) =>
    ({ kind := kind, index := kind, source := 0, seconds := vigilSeconds s, detail := detail % 2 ^ 32, value := fit 48 value } : BootBlk)
  let b := s.side.runBank
  let img := b + imgField s b 8 3 * 256
  [ blk 1 0 (take 48 Config.romDigestByte), blk 2 img (sha384 (bankRead s b 0 192)), blk 3 img (bankRead s b 80 48),
    blk 4 0 (leBytes 8 (tally s 5).value),
    (match s.mram.pdb with | some p => blk 5 p.version (sha384 p.raw) | none => blk 5 0 []),
    (match s.mram.calib with | some c => blk 6 0 (sha384 c) | none => blk 6 0 []),
    blk 7 0 [BitVec.ofNat 8 s.faults.lifecycle, BitVec.ofNat 8 s.faults.debugLevel],
    blk 8 (tally s 3).value (rollHead s) ]

/-- The start kind of an entry (13 R570, 14 R615). -/
def entryKind (s : State) : Nat :=
  if 2 ≤ s.faults.lifecycle && s.faults.lifecycle ≤ 5 && s.munim.deviceRoot.isNone then 3 else s.faults.startKind

/-- Step 4 of R575: the new entry (13 R570, R574); the one before it is final, and the twin gets its digest (10 R474). An
Exhausted Tally 0 opens none (13 R578). -/
def openBoot (s : State) : State :=
  if (tally s 0).exhausted then { s with day := { s.day with bootNoRoll := bootBlocks s } }
  else
    let prev := lastBoot s
    let b := (tally s 0).value
    let e := bootTagged s { start := entryKind s, boot := b, blocks := bootBlocks s, tags := [],
                            previous := match prev with | some e => bootM e | none => sha384 (ascii "UT-BROLL" ++ serial) }
    let s1 := { s with
      mram := { s.mram with broll := Tbl.ins s.mram.broll (b % 1024) e }
      day := { s.day with bootCur := some b, bootOpen := true } }
    match prev with
    | some e => queueEvidence 3 (e.boot % 2 ^ 32) (bootM e ++ leBytes 6 e.boot) s1
    | none => s1

/-- Step 9 (14 R599, R602, R682; 13 R575, R580). -/
def stepNine (s : State) : State :=
  if s.faults.skipStep4 then s
  else if !s.mram.tallyTorn.isEmpty then startFailed 0x07 9 s
  else
    let s1 := if s.faults.startKind = 1 then tallyAdd 1 1 s else s
    let s2 := startPair (eraseDead (resumeRetiring s1))
    let s3 := tallyAdd 0 1 (enterOwed (transferAll (closePrevious s2)))
    if s3.faults.lifecycle = 6 then s3 else openBoot s3

/-- Step 10 (14 R599, R606; 11 R511; 15 R636, R640; 13 R593): the Admin ring is in service. -/
def stepTen (s : State) : State :=
  let s1 := if !s.faults.skipStep4 && s.mram.bootTrial = 2 then writeBoot s.mram.bootBank 0 s else s
  event (if s1.faults.startKind = 1 then 0 else 1) { s1 with
    faults := { s1.faults with
      phase := .running, step := 0, ready := true, readyMs := min 0xFFFF ((s1.clock - s1.faults.startAt) / 1000000) }
    day := { s1.day with shown := true } }

-- The sequence -------------------------------------------------------------------------------------------------------------

/-- Steps 9 and 10. -/
def fromNine (s : State) : State := thenStep 10 stepTen (thenStep 9 stepNine s)

/-- Step 8 (14 R599, R602, R683): it waits for DRAM training, or does nothing. -/
def fromEight (s : State) : State :=
  match s.faults.pdbStart with
  | some p =>
    if s.faults.lifecycle = 6 then fromNine s
    else thenStep 8 (fun s => { s with stk := { s.stk with popCode := p.popCode } }) s
  | none => fromNine s

/-- Steps 5 on (14 R602): a Blank part waits after step 6 for the provisioning exchange. -/
def fromFive (failed : List (EngKind × Nat)) (s : State) : State :=
  let s1 := thenStep 6 (stepSix failed) (thenStep 5 chooseBank s)
  if s1.faults.silent then s1
  else if !s1.mram.fuseR && !s1.mram.fuseP then
    let s2 := applyDebug { s1 with faults := { s1.faults with lifecycle := 0 } }
    { s2 with faults := { s2.faults with phase := .waitProv, step := 0 } }
  else
    let s2 := thenStep 7 stepSeven s1
    if s2.faults.silent then s2 else fromEight s2

/-- A successful attempt at the Watermark (04 R166 to R170), then steps 5 on. -/
def fromWatermark (corrected : Nat) (failed : List (EngKind × Nat)) (s : State) : State :=
  fromFive failed (formRoot (formWatermark corrected s))

/-- A failed attempt (04 R167): the PUF island is powered down; the fourth ends the start. -/
def wmFailed (s : State) : State :=
  let n := s.munim.wmTries + 1
  let s1 := { s with munim := { s.munim with wmTries := n, puf := .off, pufOffAt := s.clock } }
  if 4 ≤ n then startFailed 0x04 4 s1 else s1

/-- Steps 2 to 4 and on (14 R599, R601). -/
def runStart (e : StartEnv) (s : State) : State :=
  let s1 := { s with faults := { s.faults with step := 2 } }
  if !e.otpAgree then startFailed 0x01 2 s1
  else if !e.romOk then startFailed 0x02 2 s1
  else
    let s2 := { s1 with faults := { s1.faults with step := 3 } }
    if !e.entropyOk then startFailed 0x03 3 s2
    else
      let s3 := { s2 with drbg := { s2.drbg with up := true, requests := 0, reseedAt := s2.clock } }
      if skipsFour s3 then fromFive e.failed { s3 with faults := { s3.faults with skipStep4 := true } }
      else
        let s4 := { s3 with faults := { s3.faults with step := 4 }, munim := { s3.munim with puf := .response } }
        if e.watermarkOk then fromWatermark e.corrected e.failed s4 else wmFailed s4

/-- The time that the steps took is added at their end. -/
def afterSteps (took : Nat) (f : State → State) (s : State) : State :=
  f { s with clock := s.clock + took, vigil := (tick (s.clock + took) s).vigil }

/-- PERST_ASSERT (14 R598): at any moment, in Silence and in a start too. -/
def execPerstAssert (t : Nat) (s : State) : Res :=
  act (fun s =>
    let s := tick t s
    if !s.faults.railsUp then { s with faults := { s.faults with perst := true } }
    else
      let s1 := coldClear (clearKeys s)
      { s1 with faults := { s1.faults with phase := .off, perst := true } }) s

/-- COLD_START (14 R596, R599; 16 R668): every main rail above its reset level, PERST# deasserted. -/
def execColdStart (e : StartEnv) (s : State) : Res :=
  act (fun s =>
    if s.faults.phase != .off then s
    else
      let s1 := coldClear (tick e.t s)
      afterSteps e.took (runStart e) { s1 with faults := { s1.faults with
        phase := .starting, step := 1, startKind := 1, startAt := s1.clock } }) s

/-- WARM_RESET (11 R497, R510, R512): 1 ms after entry to a Silence that is not latched. -/
def execWarmReset (e : StartEnv) (s : State) : Res :=
  act (fun s =>
    let s := tick e.t s
    if s.faults.phase != .silent || s.faults.silenceLatched || decide (s.clock < s.faults.silentAt + 1000000) then s
    else
      let s1 := warmClear s
      afterSteps e.took (runStart e) { s1 with faults := { s1.faults with
        phase := .starting, step := 2, startKind := 2, startAt := s1.clock } }) s

/-- A step of a start that waits: a part Hold pauses the sequence (12 R546). -/
def startAct (f : State → State) (s : State) : Res :=
  act (fun s => if s.faults.phase == .starting && !s.faults.holdCovered then f s else s) s

/-- WATERMARK_RETRY (04 R167): after 10 ms without power the PUF island has a new response, and the regeneration is repeated. -/
def execWatermarkRetry (w : WmEnv) (t : Nat) (s : State) : Res :=
  startAct (fun s =>
    let s := tick t s
    if s.faults.step ≠ 4 || s.munim.wmTries = 0 || decide (s.clock < s.munim.pufOffAt + 10000000) then s
    else
      let s1 := { s with munim := { s.munim with puf := .response } }
      if w.ok then afterSteps w.took (fromWatermark w.corrected w.failed) s1 else wmFailed s1) s

/-- DRAM_TRAINING_DONE (08 R367, R374, R378; 14 R601): the four Bindery keys are drawn, every Catalogue node is written, the
root counters are 0. -/
def execDramTrainingDone (ok : Bool) (t : Nat) (s : State) : Res :=
  startAct (fun s =>
    let s := tick t s
    if s.faults.step ≠ 8 || s.stk.trained then s
    else if !ok then startFailed 0x08 8 s
    else
      let n := s.drbg.next
      let s1 := (draw 128 s).2
      emits ((List.range (channels s1)).map Out.dramInit) { s1 with stk := { s1.stk with
        trained := true, keysFormed := true, keysAt := n, roots := List.replicate (28 * channels s1) 0, nodes := [], tagLines := [] } }) s

/-- CAT_INIT_DONE (08 R378), then steps 9 and 10. -/
def execCatInitDone (t : Nat) (s : State) : Res :=
  startAct (fun s =>
    let s := tick t s
    if s.faults.step ≠ 8 || !s.stk.trained || s.stk.catReady then s
    else fromNine { s with stk := { s.stk with catReady := true } }) s

/-- START_TIMEOUT (14 R601): step 10 has not been reached within 1 s; a Blank part is exempt. -/
def execStartTimeout (t : Nat) (s : State) : Res :=
  act (fun s =>
    let s := tick t s
    if s.faults.phase == .starting && decide (s.faults.startAt + 1000000000 ≤ s.clock) then startFailed 0x09 s.faults.step s
    else s) s

-- Provisioning -------------------------------------------------------------------------------------------------------------

/-- The bytes of a provisioning message that its signature covers (its form is not in the manual; log entry 84). -/
def provBytes : ProvBody → Bytes
  | .helper d => 1 :: d
  | .identities => [2]
  | .recognition => [3]
  | .chain c => 4 :: c
  | .finish => [5]

/-- Whether a message is signed with Weleren's provisioning key (14 R618; 15 R659). -/
def provSigned (m : ProvMsg) : Bool :=
  let d := sha384 (provBytes m.body)
  sha384 m.keys == take 48 Config.provHashByte && m.keys.length == 2689 && m.sig.length == 4723 &&
    Config.ecdsaP384Verify (m.keys.take 97) d (m.sig.take 96) &&
    Config.mldsa87Verify (m.keys.drop 97) d (take 8 Config.provContext) (m.sig.drop 96)

/-- PROVISIONING_EXCHANGE (14 R618): in Blank, while the part waits for it; the recognition secret leaves it once only (04 R240).
 The last message blows fuse P (14 R617). -/
def execProvisioningExchange (m : ProvMsg) (t : Nat) (s : State) : Res :=
  act (fun s =>
    let s := tick t s
    if s.faults.phase != .waitProv || s.faults.lifecycle ≠ 0 || !provSigned m then s
    else
      match m.body with
      | .helper d => { s with mram := { s.mram with helper := some d } }
      | .identities =>
        let w := take 32 Config.watermarkByte
        emit (.jtag (idPublic ++ take 1952 (Config.publicKey 0x0412 (kdf w "UT-ID-PQ" otpSalt 32)))) s
      | .recognition =>
        if s.mram.recogSent then s else
        let d := draw 32 s
        let z := kdf (take 32 Config.watermarkByte) "UT-GENUINE" otpSalt 48
        let ek := take 1568 Config.provKemByte
        let k := take 32 (Config.kemShared 3 ek d.1)
        emit (.jtag (take 1568 (Config.kemCipher 3 ek d.1) ++ take 64 (Config.provWrap k z))) { d.2 with mram := { d.2.mram with recogSent := true } }
      | .chain c => { s with mram := { s.mram with certChain := some c } }
      | .finish =>
        let s1 := transition 1 s
        event 14 { s1 with mram := { s1.mram with fuseP := true, dbgStaged := none }, faults := { s1.faults with lifecycle := 1 } }) s

end Machine
end Sys2Proof
end

