-- ==== Sys2Proof/Machine/Dispatch.lean ====
section
/-!
DEFINITION. One arm per command: a direct call of its meaning.
-/
namespace Sys2Proof
namespace Machine

def exec (i : Instr) (s : State) : Host.Outcome State Fault Refusal :=
  match i with
  | .noOperation id => Sys2Proof.Machine.execNoOperation id s
  | .aesEcbEnc id => Sys2Proof.Machine.execAesEcbEnc id s
  | .aesEcbDec id => Sys2Proof.Machine.execAesEcbDec id s
  | .aesCbcEnc id => Sys2Proof.Machine.execAesCbcEnc id s
  | .aesCbcDec id => Sys2Proof.Machine.execAesCbcDec id s
  | .aesCtrEnc id => Sys2Proof.Machine.execAesCtrEnc id s
  | .aesCtrDec id => Sys2Proof.Machine.execAesCtrDec id s
  | .aesXtsEnc id => Sys2Proof.Machine.execAesXtsEnc id s
  | .aesXtsDec id => Sys2Proof.Machine.execAesXtsDec id s
  | .aesGcmSealDn id => Sys2Proof.Machine.execAesGcmSealDn id s
  | .aesGcmSeal id => Sys2Proof.Machine.execAesGcmSeal id s
  | .aesGcmOpen id => Sys2Proof.Machine.execAesGcmOpen id s
  | .aesCmac id => Sys2Proof.Machine.execAesCmac id s
  | .aesCmacVerify id => Sys2Proof.Machine.execAesCmacVerify id s
  | .aesKwWrap id => Sys2Proof.Machine.execAesKwWrap id s
  | .aesKwUnwrap id => Sys2Proof.Machine.execAesKwUnwrap id s
  | .aesKwpWrap id => Sys2Proof.Machine.execAesKwpWrap id s
  | .aesKwpUnwrap id => Sys2Proof.Machine.execAesKwpUnwrap id s
  | .chachaSeal id => Sys2Proof.Machine.execChachaSeal id s
  | .chachaOpen id => Sys2Proof.Machine.execChachaOpen id s
  | .tdeaEcbEnc id => Sys2Proof.Machine.execTdeaEcbEnc id s
  | .tdeaEcbDec id => Sys2Proof.Machine.execTdeaEcbDec id s
  | .tdeaCbcEnc id => Sys2Proof.Machine.execTdeaCbcEnc id s
  | .tdeaCbcDec id => Sys2Proof.Machine.execTdeaCbcDec id s
  | .pinTranslate id => Sys2Proof.Machine.execPinTranslate id s
  | .keyblockTranslate id => Sys2Proof.Machine.execKeyblockTranslate id s
  | .cipherTranslate id => Sys2Proof.Machine.execCipherTranslate id s
  | .ecdsaSign id => Sys2Proof.Machine.execEcdsaSign id s
  | .ecdsaVerify id => Sys2Proof.Machine.execEcdsaVerify id s
  | .eddsaSign id => Sys2Proof.Machine.execEddsaSign id s
  | .eddsaVerify id => Sys2Proof.Machine.execEddsaVerify id s
  | .ecdhDerive id => Sys2Proof.Machine.execEcdhDerive id s
  | .rsaSign id => Sys2Proof.Machine.execRsaSign id s
  | .rsaVerify id => Sys2Proof.Machine.execRsaVerify id s
  | .rsaEncrypt id => Sys2Proof.Machine.execRsaEncrypt id s
  | .rsaDecrypt id => Sys2Proof.Machine.execRsaDecrypt id s
  | .rsaUnwrap id => Sys2Proof.Machine.execRsaUnwrap id s
  | .mlkemEncaps id => Sys2Proof.Machine.execMlkemEncaps id s
  | .mlkemDecaps id => Sys2Proof.Machine.execMlkemDecaps id s
  | .mldsaSign id => Sys2Proof.Machine.execMldsaSign id s
  | .mldsaVerify id => Sys2Proof.Machine.execMldsaVerify id s
  | .slhdsaSign id => Sys2Proof.Machine.execSlhdsaSign id s
  | .slhdsaVerify id => Sys2Proof.Machine.execSlhdsaVerify id s
  | .hash id => Sys2Proof.Machine.execHash id s
  | .hmac id => Sys2Proof.Machine.execHmac id s
  | .hmacVerify id => Sys2Proof.Machine.execHmacVerify id s
  | .kmac id => Sys2Proof.Machine.execKmac id s
  | .kmacVerify id => Sys2Proof.Machine.execKmacVerify id s
  | .kdf id => Sys2Proof.Machine.execKdf id s
  | .lmsVerify id => Sys2Proof.Machine.execLmsVerify id s
  | .random id => Sys2Proof.Machine.execRandom id s
  | .keyGenerate id e => Sys2Proof.Machine.execKeyGenerate id e s
  | .keyLoad id e => Sys2Proof.Machine.execKeyLoad id e s
  | .keyUnload id e => Sys2Proof.Machine.execKeyUnload id e s
  | .keyImport id e => Sys2Proof.Machine.execKeyImport id e s
  | .keyExport id e => Sys2Proof.Machine.execKeyExport id e s
  | .keyReplace id e => Sys2Proof.Machine.execKeyReplace id e s
  | .keyRetire id e => Sys2Proof.Machine.execKeyRetire id e s
  | .keyNarrow id e => Sys2Proof.Machine.execKeyNarrow id e s
  | .keyPublic id e => Sys2Proof.Machine.execKeyPublic id e s
  | .blobRewrap id e => Sys2Proof.Machine.execBlobRewrap id e s
  | .masterRotate id e => Sys2Proof.Machine.execMasterRotate id e s
  | .masterRetireOld id e => Sys2Proof.Machine.execMasterRetireOld id e s
  | .masterBackup id e => Sys2Proof.Machine.execMasterBackup id e s
  | .masterRestore id e => Sys2Proof.Machine.execMasterRestore id e s
  | .custodianEnrol id e => Sys2Proof.Machine.execCustodianEnrol id e s
  | .custodianRemove id e => Sys2Proof.Machine.execCustodianRemove id e s
  | .quorumSet id e => Sys2Proof.Machine.execQuorumSet id e s
  | .quorumStatus id e => Sys2Proof.Machine.execQuorumStatus id e s
  | .hostMeasure id e => Sys2Proof.Machine.execHostMeasure id e s
  | .bootClose id e => Sys2Proof.Machine.execBootClose id e s
  | .rollExport id e => Sys2Proof.Machine.execRollExport id e s
  | .genuine id e => Sys2Proof.Machine.execGenuine id e s
  | .tallyRead id e => Sys2Proof.Machine.execTallyRead id e s
  | .tallyAdvance id e => Sys2Proof.Machine.execTallyAdvance id e s
  | .ownerCreate id e => Sys2Proof.Machine.execOwnerCreate id e s
  | .ownerRetire id e => Sys2Proof.Machine.execOwnerRetire id e s
  | .ownerLoad id e => Sys2Proof.Machine.execOwnerLoad id e s
  | .ownerPolicy id e => Sys2Proof.Machine.execOwnerPolicy id e s
  | .stallBind id e => Sys2Proof.Machine.execStallBind id e s
  | .stallUnbind id e => Sys2Proof.Machine.execStallUnbind id e s
  | .stallReset id e => Sys2Proof.Machine.execStallReset id e s
  | .pairBind id e => Sys2Proof.Machine.execPairBind id e s
  | .pairUnbind id e => Sys2Proof.Machine.execPairUnbind id e s
  | .pairJoin id e => Sys2Proof.Machine.execPairJoin id e s
  | .vigilSetTime id e => Sys2Proof.Machine.execVigilSetTime id e s
  | .pdbApply id e => Sys2Proof.Machine.execPdbApply id e s
  | .calibApply id e => Sys2Proof.Machine.execCalibApply id e s
  | .lcCommission id e => Sys2Proof.Machine.execLcCommission id e s
  | .lcDeploy id e => Sys2Proof.Machine.execLcDeploy id e s
  | .lcQuarantine id e => Sys2Proof.Machine.execLcQuarantine id e s
  | .lcZeroize id e => Sys2Proof.Machine.execLcZeroize id e s
  | .lcRetire id e => Sys2Proof.Machine.execLcRetire id e s
  | .lcRecommission id e => Sys2Proof.Machine.execLcRecommission id e s
  | .recordAdopt id e => Sys2Proof.Machine.execRecordAdopt id e s
  | .fwWrite id e => Sys2Proof.Machine.execFwWrite id e s
  | .fwActivate id e => Sys2Proof.Machine.execFwActivate id e s
  | .fwFloor id e => Sys2Proof.Machine.execFwFloor id e s
  | .debugUnlock id e => Sys2Proof.Machine.execDebugUnlock id e s
  | .doorbellWrite stall ring v gen width tbit => Sys2Proof.Machine.execDoorbellWrite stall ring v gen width tbit s
  | .doorbellCas stall ring cmp swap tbit => Sys2Proof.Machine.execDoorbellCas stall ring cmp swap tbit s
  | .counterWindowWrite stall off bytes tbit t => Sys2Proof.Machine.execCounterWindowWrite stall off bytes tbit t s
  | .slotReadCompletion stall ring count r t => Sys2Proof.Machine.execSlotReadCompletion stall ring count r t s
  | .dispatch kind t => Sys2Proof.Machine.execDispatch kind t s
  | .keyCacheFillDone id copiesAgree integrityOk t => Sys2Proof.Machine.execKeyCacheFillDone id copiesAgree integrityOk t s
  | .inputReadCompletion id part r t => Sys2Proof.Machine.execInputReadCompletion id part r t s
  | .atsTranslationCompletion stall page read write t => Sys2Proof.Machine.execAtsTranslationCompletion stall page read write t s
  | .loomReseedArrival loom => Sys2Proof.Machine.execLoomReseedArrival loom s
  | .compareAndRelease id d t => Sys2Proof.Machine.execCompareAndRelease id d t s
  | .egressCheck x t => Sys2Proof.Machine.execEgressCheck x t s
  | .receiptRelease id t => Sys2Proof.Machine.execReceiptRelease id t s
  | .commitWriteDone id ok t => Sys2Proof.Machine.execCommitWriteDone id ok t s
  | .coalTimeExpiry stall ring t => Sys2Proof.Machine.execCoalTimeExpiry stall ring t s
  | .vectorUnmask vector => Sys2Proof.Machine.execVectorUnmask vector s
  | .ringEnable stall ring twin w => Sys2Proof.Machine.execRingEnable stall ring twin w s
  | .ringDisable stall ring w => Sys2Proof.Machine.execRingDisable stall ring w s
  | .cwEnable stall ring w => Sys2Proof.Machine.execCwEnable stall ring w s
  | .cwDisable stall ring w => Sys2Proof.Machine.execCwDisable stall ring w s
  | .ringFlush stall ring w => Sys2Proof.Machine.execRingFlush stall ring w s
  | .ringResume stall ring w => Sys2Proof.Machine.execRingResume stall ring w s
  | .rcpHeadWrite stall ring c w => Sys2Proof.Machine.execRcpHeadWrite stall ring c w s
  | .registerWrite space off size v tbit t => Sys2Proof.Machine.execRegisterWrite space off size v tbit t s
  | .stallSelfReset stall w => Sys2Proof.Machine.execStallSelfReset stall w s
  | .stallcfgHardReset stall t => Sys2Proof.Machine.execStallcfgHardReset stall t s
  | .stallcfgQuotaWrite stall f v => Sys2Proof.Machine.execStallcfgQuotaWrite stall f v s
  | .stallResetComplete stall twinDone t => Sys2Proof.Machine.execStallResetComplete stall twinDone t s
  | .functionReset cause t => Sys2Proof.Machine.execFunctionReset cause t s
  | .configWrite rid reg t => Sys2Proof.Machine.execConfigWrite rid reg t s
  | .atsInvalidation pasid page count => Sys2Proof.Machine.execAtsInvalidation pasid page count s
  | .tdispGetVersion q => Sys2Proof.Machine.execTdispGetVersion q s
  | .tdispGetCapabilities q => Sys2Proof.Machine.execTdispGetCapabilities q s
  | .lockInterfaceRequest q t => Sys2Proof.Machine.execLockInterfaceRequest q t s
  | .getDeviceInterfaceReport q => Sys2Proof.Machine.execGetDeviceInterfaceReport q s
  | .getDeviceInterfaceState q => Sys2Proof.Machine.execGetDeviceInterfaceState q s
  | .startInterfaceRequest q t => Sys2Proof.Machine.execStartInterfaceRequest q t s
  | .stopInterfaceRequest q t => Sys2Proof.Machine.execStopInterfaceRequest q t s
  | .ideStreamFailure stream integrity t => Sys2Proof.Machine.execIdeStreamFailure stream integrity t s
  | .ideKmMessage session m => Sys2Proof.Machine.execIdeKmMessage session m s
  | .spdmGetVersion => Sys2Proof.Machine.execSpdmGetVersion s
  | .spdmGetCapabilities q => Sys2Proof.Machine.execSpdmGetCapabilities q s
  | .negotiateAlgorithms q => Sys2Proof.Machine.execNegotiateAlgorithms q s
  | .getDigests q => Sys2Proof.Machine.execGetDigests q s
  | .getCertificate q => Sys2Proof.Machine.execGetCertificate q s
  | .challenge q => Sys2Proof.Machine.execChallenge q s
  | .getMeasurements q => Sys2Proof.Machine.execGetMeasurements q s
  | .keyExchange q => Sys2Proof.Machine.execKeyExchange q s
  | .finish q => Sys2Proof.Machine.execFinish q s
  | .endSession q => Sys2Proof.Machine.execEndSession q s
  | .keyUpdate q => Sys2Proof.Machine.execKeyUpdate q s
  | .spdmHeartbeat q => Sys2Proof.Machine.execSpdmHeartbeat q s
  | .vendorDefinedRequest q => Sys2Proof.Machine.execVendorDefinedRequest q s
  | .workingKeyIdleExpiry kind idx => Sys2Proof.Machine.execWorkingKeyIdleExpiry kind idx s
  | .cardResponse port r t => Sys2Proof.Machine.execCardResponse port r t s
  | .cardTimeout port t => Sys2Proof.Machine.execCardTimeout port t s
  | .cardPresenceChange port present t => Sys2Proof.Machine.execCardPresenceChange port present t s
  | .ceremonyTimeout t => Sys2Proof.Machine.execCeremonyTimeout t s
  | .restoreSharesExpiry t => Sys2Proof.Machine.execRestoreSharesExpiry t s
  | .heartbeatSend t => Sys2Proof.Machine.execHeartbeatSend t s
  | .heartbeat f t => Sys2Proof.Machine.execHeartbeat f t s
  | .heartbeatMiss t => Sys2Proof.Machine.execHeartbeatMiss t s
  | .claim f t => Sys2Proof.Machine.execClaim f t s
  | .deltaPrepare f t => Sys2Proof.Machine.execDeltaPrepare f t s
  | .deltaVoteYes f t => Sys2Proof.Machine.execDeltaVoteYes f t s
  | .deltaVoteNo f t => Sys2Proof.Machine.execDeltaVoteNo f t s
  | .deltaCommit f t => Sys2Proof.Machine.execDeltaCommit f t s
  | .deltaCommitted f t => Sys2Proof.Machine.execDeltaCommitted f t s
  | .deltaAbort f t => Sys2Proof.Machine.execDeltaAbort f t s
  | .reserveRequest f t => Sys2Proof.Machine.execReserveRequest f t s
  | .reserveGrant f t => Sys2Proof.Machine.execReserveGrant f t s
  | .reserveNote f t => Sys2Proof.Machine.execReserveNote f t s
  | .reserveNoted f t => Sys2Proof.Machine.execReserveNoted f t s
  | .reserveRefuse f t => Sys2Proof.Machine.execReserveRefuse f t s
  | .evidence f t => Sys2Proof.Machine.execEvidence f t s
  | .silenceFrame f t => Sys2Proof.Machine.execSilenceFrame f t s
  | .ack f t => Sys2Proof.Machine.execAck f t s
  | .resync f t => Sys2Proof.Machine.execResync f t s
  | .hello f t => Sys2Proof.Machine.execHello f t s
  | .kex f t => Sys2Proof.Machine.execKex f t s
  | .kexReply f t => Sys2Proof.Machine.execKexReply f t s
  | .confirm f t => Sys2Proof.Machine.execConfirm f t s
  | .frameError ch k t => Sys2Proof.Machine.execFrameError ch k t s
  | .courierLaneFail lane t => Sys2Proof.Machine.execCourierLaneFail lane t s
  | .arbiterCasCompletion r t => Sys2Proof.Machine.execArbiterCasCompletion r t s
  | .arbiterCasTimeout t => Sys2Proof.Machine.execArbiterCasTimeout t s
  | .settleExpiry t => Sys2Proof.Machine.execSettleExpiry t s
  | .takeoverScanCompletion stall ring slots t => Sys2Proof.Machine.execTakeoverScanCompletion stall ring slots t s
  | .sessionFormTimeout t => Sys2Proof.Machine.execSessionFormTimeout t s
  | .pairBindTimeout t => Sys2Proof.Machine.execPairBindTimeout t s
  | .sparePromotion kind idx ok t => Sys2Proof.Machine.execSparePromotion kind idx ok t s
  | .suspectSelftestDone kind idx ok t => Sys2Proof.Machine.execSuspectSelftestDone kind idx ok t s
  | .periodicKat kind idx ok t => Sys2Proof.Machine.execPeriodicKat kind idx ok t s
  | .progressWatchdogExpiry kind idx t => Sys2Proof.Machine.execProgressWatchdogExpiry kind idx t s
  | .holdEnd t => Sys2Proof.Machine.execHoldEnd t s
  | .holdTimeout t => Sys2Proof.Machine.execHoldTimeout t s
  | .warmReset e => Sys2Proof.Machine.execWarmReset e s
  | .queuePointerMismatch q t => Sys2Proof.Machine.execQueuePointerMismatch q t s
  | .acuCheckerDisagreement q t => Sys2Proof.Machine.execAcuCheckerDisagreement q t s
  | .supplyWarning rail mv t => Sys2Proof.Machine.execSupplyWarning rail mv t s
  | .supplyRecovered t => Sys2Proof.Machine.execSupplyRecovered t s
  | .dipTimeout t => Sys2Proof.Machine.execDipTimeout t s
  | .supplyBelowReset rail mv t => Sys2Proof.Machine.execSupplyBelowReset rail mv t s
  | .supplyOvervoltage rail mv t => Sys2Proof.Machine.execSupplyOvervoltage rail mv t s
  | .glitchAlarm idx t => Sys2Proof.Machine.execGlitchAlarm idx t s
  | .glitchHoldEnd t => Sys2Proof.Machine.execGlitchHoldEnd t s
  | .lightAlarm idx t => Sys2Proof.Machine.execLightAlarm idx t s
  | .tempSample sensor v t => Sys2Proof.Machine.execTempSample sensor v t s
  | .clockWindow clk dev t => Sys2Proof.Machine.execClockWindow clk dev t s
  | .pllLockLoss pll t => Sys2Proof.Machine.execPllLockLoss pll t s
  | .keeperWatchdogExpiry clerk t => Sys2Proof.Machine.execKeeperWatchdogExpiry clerk t s
  | .keeperRestart trigger imageOk t => Sys2Proof.Machine.execKeeperRestart trigger imageOk t s
  | .keeperRestartTimeout t => Sys2Proof.Machine.execKeeperRestartTimeout t s
  | .perfHoldRelease t => Sys2Proof.Machine.execPerfHoldRelease t s
  | .worldGateCall clerk t => Sys2Proof.Machine.execWorldGateCall clerk t s
  | .worldGateReturn clerk t => Sys2Proof.Machine.execWorldGateReturn clerk t s
  | .accessCheck q deedErr t => Sys2Proof.Machine.execAccessCheck q deedErr t s
  | .deedSet clerk space page entry t => Sys2Proof.Machine.execDeedSet clerk space page entry t s
  | .deedSetDone space page => Sys2Proof.Machine.execDeedSetDone space page s
  | .acuRegionWrite level idx f v t => Sys2Proof.Machine.execAcuRegionWrite level idx f v t s
  | .pinWorldSet pin keeper t => Sys2Proof.Machine.execPinWorldSet pin keeper t s
  | .pinWorldTakeover pin => Sys2Proof.Machine.execPinWorldTakeover pin s
  | .dmaChannelBind level ch keeper owner t => Sys2Proof.Machine.execDmaChannelBind level ch keeper owner t s
  | .claimSet block t => Sys2Proof.Machine.execClaimSet block t s
  | .claimRelease block t => Sys2Proof.Machine.execClaimRelease block t s
  | .gatingRequest block gate t => Sys2Proof.Machine.execGatingRequest block gate t s
  | .binderyRead q t => Sys2Proof.Machine.execBinderyRead q t s
  | .binderyWrite q data t => Sys2Proof.Machine.execBinderyWrite q data t s
  | .dramReadCompletion id d t => Sys2Proof.Machine.execDramReadCompletion id d t s
  | .patrolRead ch e written t => Sys2Proof.Machine.execPatrolRead ch e written t s
  | .remapDone ch bad t => Sys2Proof.Machine.execRemapDone ch bad t s
  | .dramTempPoll ch codes t => Sys2Proof.Machine.execDramTempPoll ch codes t s
  | .dramCmdError ch id addr wcrc t => Sys2Proof.Machine.execDramCmdError ch id addr wcrc t s
  | .dramTimeout ch t => Sys2Proof.Machine.execDramTimeout ch t s
  | .catInitDone t => Sys2Proof.Machine.execCatInitDone t s
  | .ifAck => Sys2Proof.Machine.execIfAck s
  | .scrubRegion kind idx region => Sys2Proof.Machine.execScrubRegion kind idx region s
  | .drbgReseed t => Sys2Proof.Machine.execDrbgReseed t s
  | .drbgKat ok t => Sys2Proof.Machine.execDrbgKat ok t s
  | .healthTestFailure src t => Sys2Proof.Machine.execHealthTestFailure src t s
  | .drbgMismatch t => Sys2Proof.Machine.execDrbgMismatch t s
  | .randomWaitTimeout id t => Sys2Proof.Machine.execRandomWaitTimeout id t s
  | .tamperSample input v t => Sys2Proof.Machine.execTamperSample input v t s
  | .meshExcursionTimeout mesh t => Sys2Proof.Machine.execMeshExcursionTimeout mesh t s
  | .vigilSourceChange vdd a b t => Sys2Proof.Machine.execVigilSourceChange vdd a b t s
  | .vigilSourceReturn vdd t => Sys2Proof.Machine.execVigilSourceReturn vdd t s
  | .cellMeasure vdd a b t => Sys2Proof.Machine.execCellMeasure vdd a b t s
  | .vigilPowerOn t => Sys2Proof.Machine.execVigilPowerOn t s
  | .oscStop t => Sys2Proof.Machine.execOscStop t s
  | .sealWrite level seed inv t => Sys2Proof.Machine.execSealWrite level seed inv t s
  | .tamperTransfer t => Sys2Proof.Machine.execTamperTransfer t s
  | .daybookFlushTimer t => Sys2Proof.Machine.execDaybookFlushTimer t s
  | .daybookFlushDone ok t => Sys2Proof.Machine.execDaybookFlushDone ok t s
  | .operatingTimeTick t => Sys2Proof.Machine.execOperatingTimeTick t s
  | .bootCloseTimer t => Sys2Proof.Machine.execBootCloseTimer t s
  | .winBaseWrite v => Sys2Proof.Machine.execWinBaseWrite v s
  | .winSnapshotDone => Sys2Proof.Machine.execWinSnapshotDone s
  | .perstAssert t => Sys2Proof.Machine.execPerstAssert t s
  | .coldStart e => Sys2Proof.Machine.execColdStart e s
  | .watermarkRetry w t => Sys2Proof.Machine.execWatermarkRetry w t s
  | .dramTrainingDone ok t => Sys2Proof.Machine.execDramTrainingDone ok t s
  | .startTimeout t => Sys2Proof.Machine.execStartTimeout t s
  | .provisioningExchange m t => Sys2Proof.Machine.execProvisioningExchange m t s
  | .causeAck => Sys2Proof.Machine.execCauseAck s
  | .firstAck => Sys2Proof.Machine.execFirstAck s
  | .perfClear => Sys2Proof.Machine.execPerfClear s
  | .eventStatusClear grp mask meet => Sys2Proof.Machine.execEventStatusClear grp mask meet s
  | .eventEnableWrite grp bmc v => Sys2Proof.Machine.execEventEnableWrite grp bmc v s
  | .entdaa addr => Sys2Proof.Machine.execEntdaa addr s
  | .setdasa addr => Sys2Proof.Machine.execSetdasa addr s
  | .rstdaa => Sys2Proof.Machine.execRstdaa s
  | .enec events => Sys2Proof.Machine.execEnec events s
  | .disec events => Sys2Proof.Machine.execDisec events s
  | .getpid => Sys2Proof.Machine.execGetpid s
  | .getbcr => Sys2Proof.Machine.execGetbcr s
  | .getdcr => Sys2Proof.Machine.execGetdcr s
  | .getstatus => Sys2Proof.Machine.execGetstatus s
  | .getmwl => Sys2Proof.Machine.execGetmwl s
  | .setmwl v => Sys2Proof.Machine.execSetmwl v s
  | .getmrl => Sys2Proof.Machine.execGetmrl s
  | .setmrl v => Sys2Proof.Machine.execSetmrl v s
  | .i3cPrivateWrite bytes parityOk t => Sys2Proof.Machine.execI3cPrivateWrite bytes parityOk t s
  | .setEndpointId op eid => Sys2Proof.Machine.execSetEndpointId op eid s
  | .getEndpointId arg => Sys2Proof.Machine.execGetEndpointId arg s
  | .getMctpVersionSupport arg => Sys2Proof.Machine.execGetMctpVersionSupport arg s
  | .getMessageTypeSupport arg => Sys2Proof.Machine.execGetMessageTypeSupport arg s
  | .getVendorDefinedMsgSupport arg => Sys2Proof.Machine.execGetVendorDefinedMsgSupport arg s
  | .getStatus => Sys2Proof.Machine.execGetStatus s
  | .mctpHostMeasure params t => Sys2Proof.Machine.execMctpHostMeasure params t s
  | .eventRead grp => Sys2Proof.Machine.execEventRead grp s
  | .eventClear grp mask meet => Sys2Proof.Machine.execEventClear grp mask meet s
  | .gpioEdge pin level t => Sys2Proof.Machine.execGpioEdge pin level t s
  | .extest cells => Sys2Proof.Machine.execExtest cells s
  | .samplePreload cells => Sys2Proof.Machine.execSamplePreload cells s
  | .idcode => Sys2Proof.Machine.execIdcode s
  | .clamp cells => Sys2Proof.Machine.execClamp cells s
  | .highz cells => Sys2Proof.Machine.execHighz cells s
  | .dbgChallenge t => Sys2Proof.Machine.execDbgChallenge t s
  | .dbgToken token t => Sys2Proof.Machine.execDbgToken token t s
  | .dbgAccess q t => Sys2Proof.Machine.execDbgAccess q t s
  | .bypass => Sys2Proof.Machine.execBypass s
  | .courierLinkUp t => Sys2Proof.Machine.execCourierLinkUp t s
  | .blockWaitingTimeExpiry port t => Sys2Proof.Machine.execBlockWaitingTimeExpiry port t s
  | .transmitBufferSelftestDone ok t => Sys2Proof.Machine.execTransmitBufferSelftestDone ok t s
  | .acuSelftestDone ok t => Sys2Proof.Machine.execAcuSelftestDone ok t s
  | .deedEntryRestored space page t => Sys2Proof.Machine.execDeedEntryRestored space page t s
  | .drbgReinstantiated ok t => Sys2Proof.Machine.execDrbgReinstantiated ok t s
  | .firmwareRequestTimeout id t => Sys2Proof.Machine.execFirmwareRequestTimeout id t s
  | .vigilReachesDead t => Sys2Proof.Machine.execVigilReachesDead t s

end Machine
end Sys2Proof
end

