-- ==== Sys2Proof/Machine/Step.lean ====
section
/-!
DEFINITION. One step of the part: the command at the front of the queue of waiting commands takes effect (log entry 1),
and the host's way of putting a command that bits spell in front of the queue.
-/
namespace Sys2Proof
namespace Machine

/-- One step: the command at the front of the queue, run on the state with the rest of the queue. On an empty queue the
part idles (log entry 1). -/
def step (s : State) : Host.Outcome State Fault Refusal :=
  match s.pending with
  | [] => .next s
  | c :: rest => exec c { s with pending := rest }

/-- The state with the command that a word spells put in front of the queue. The commands of this part are given no
bits, so no word spells one and the state is unchanged. -/
def State.withFetchWord (s : State) (nbits w : Nat) : State :=
  match decodeTableWord nbits w with
  | some c => { s with pending := c :: s.pending }
  | none => s

end Machine
end Sys2Proof
end

