-- ==== Sys2Proof/Machine/Views.lean ====
section
/-!
DEFINITION. What the host reads at every offset of BAR0, of the Stall pages and of BAR4 (15 R626 to R641, R657; 02 R60, R80;
03 R138, R141; 08 R396; 09 R423; 10 R485; 12 R548; 13 R593). A read changes nothing, so no command stands for it (log entry 85):
the views are functions of the state, one 4-byte word at a time.
-/
namespace Sys2Proof
namespace Machine

/-- Half of a 64-bit field: the word at offset `o` of an 8-byte register. -/
def half (v o : Nat) : Nat := if o % 8 = 0 then bits v 0 32 else bits v 32 32

/-- The word at an offset of a byte string. -/
def wordAt (b : Bytes) (o : Nat) : Nat := field b o 4

-- IDENT and GCTL -----------------------------------------------------------------------------------------------------

/-- Engine status word of a kind (15 R633): BUILT, ACTIVE, SPARES, RETIRED. -/
def engineWord (s : State) (k : EngKind) : Nat :=
  (instsOf s k).length + activeCount s k * 2 ^ 8 + (withStatus s k .spare).length * 2 ^ 16 +
    (withStatus s k .retired).length * 2 ^ 24

/-- IDENT (15 R633, R634). -/
def identWord (s : State) (o : Nat) : Nat :=
  match o with
  | 0x000 => 0x0960 + Config.stepping % 16 * 2 ^ 16 + 0x55 * 2 ^ 24
  | 0x004 => 0x01 + 0x1 * 2 ^ 8 + Config.vendorId % 65536 * 2 ^ 16
  | 0x008 => wordAt serial 0
  | 0x00C => wordAt serial 4
  | 0x010 => wordAt serial 8
  | 0x014 => wordAt serial 12
  | 0x018 => Config.jep106 % 2048
  | 0x020 => engineWord s .loom
  | 0x024 => engineWord s .forge
  | 0x028 => engineWord s .kiln
  | 0x02C => engineWord s .mill
  | 0x030 => 0x400 + 0x1000 * 2 ^ 16
  | 0x034 => 4 + 16 * 2 ^ 3 + 0x800 * 2 ^ 8
  | 0x038 => 0x00010000
  | 0x03C => 0x1000 + 0x600 * 2 ^ 16
  | 0x040 => 0x03FFFFFF
  | 0x048 => 0x2000 + 0x100 * 2 ^ 16
  | 0x04C => 0x1F + 4 * 2 ^ 8 + 16 * 2 ^ 11 + 0x40 * 2 ^ 16
  | _ => 0

/-- GCTL (15 R636). -/
def gctlWord (s : State) (o : Nat) : Nat :=
  match o with
  | 0x000 => gctlStatus s
  | 0x004 => gctlCause s
  | 0x008 => gctlTimes s
  | 0x010 => bitAt s.faults.accessErr 0
  | _ => 0

-- ADMIN and EVENT ----------------------------------------------------------------------------------------------------

/-- Owners in a state of R637. -/
def ownersIn (s : State) (p : Nat → Bool) : Nat := ((List.range 1024).filter (fun n => p (ownerState s n))).length

/-- ADMIN (15 R637). -/
def adminWord (s : State) (o : Nat) : Nat :=
  if o = 0x000 then ownersIn s (fun v => v == 1 || v == 2) + ownersIn s (fun v => v == 3) * 2 ^ 16
  else if o = 0x004 then (s.stalls.filter (fun p => p.2.state == .bound)).length
  else if o = 0x008 then min 0xFFF (0x800 - cwHeld s)
  else if o = 0x00C then
    match s.mram.dbgStaged with
    | some l => l % 4 + 4
    | none => 0
  else if 0x100 ≤ o && o < 0x200 then
    ((List.range 16).map (fun i => ownerState s (16 * ((o - 0x100) / 4) + i) % 4 * 4 ^ i)).sum
  else 0

/-- EVENT (15 R638). -/
def eventWord (s : State) (o : Nat) : Nat :=
  if o = 0x000 then bitAt s.ev.en 0
  else if o = 0x008 || o = 0x00C then half (evPending s) o
  else if o = 0x010 || o = 0x014 then half (bmcPending s) o
  else if 0x100 ≤ o && o < 0x1C0 then (evStatus s ((o - 0x100) / 4)).toNat
  else if 0x200 ≤ o && o < 0x2C0 then (evEnable s ((o - 0x200) / 4)).toNat
  else if 0x300 ≤ o && o < 0x3C0 then (evBmc s ((o - 0x300) / 4)).toNat
  else if 0x400 ≤ o && o < 0xA00 then ((List.range 4).map (fun i => evRoute s (o - 0x400 + i) % 16 * 256 ^ i)).sum
  else 0

-- Stalls -------------------------------------------------------------------------------------------------------------

/-- STATE code of a Stall (03 R138). -/
def stallStateCode : StallState → Nat
  | .free => 0 | .bound => 1 | .resetting => 2

/-- TDI_STATE code (03 R138). -/
def tdiStateCode : Tdi → Nat
  | .none => 0 | .unlocked => 1 | .locked => 2 | .run => 3 | .error => 4

/-- STALLCFG entry of a Stall (03 R138). -/
def stallcfgWord (x : Stall) (o : Nat) : Nat :=
  match o with
  | 0x00 => x.owner % 1024 + x.gen.toNat * 2 ^ 16
  | 0x04 => stallStateCode x.state + tdiStateCode x.tdi * 2 ^ 4 + bitAt x.noPasid 7 + bitAt x.ats 8
  | 0x08 => x.rid % 2 ^ 16
  | 0x0C => x.pasid % 2 ^ 20
  | 0x10 => x.vecBase % 2 ^ 12 + x.vecCount % 2 ^ 13 * 2 ^ 16
  | 0x14 => x.weight % 2 ^ 8
  | 0x18 => x.maxInflight % 2 ^ 13 + x.maxPk % 2 ^ 9 * 2 ^ 16
  | 0x1C => x.maxCache % 2 ^ 17
  | 0x20 => x.resets % 2 ^ 16
  | 0x28 => bitAt x.cfgErr 0
  | _ => 0

/-- Ring registers of a ring position (02 R60); FLUSH and RESUME read 0. -/
def ringRegWord (s : State) (st q o : Nat) : Nat :=
  let r := ring s st q
  match o with
  | 0x00 | 0x04 => half r.ordBase.toNat o
  | 0x08 | 0x0C => half r.rcpBase.toNat o
  | 0x10 => r.ordLog2 % 32 + r.rcpLog2 % 32 * 2 ^ 8 + bitAt r.enabled 16 + bitAt r.cwEn 17 + bitAt r.vecEn 18 + bitAt r.outRlx 19
  | 0x18 => bitAt r.enabled 0 + bitAt r.stopped 1 + bitAt (ringOrders s st q).isEmpty 2 + bitAt r.cwEn 3 + bitAt r.cfgErr 4 +
      bitAt (vecErr s st q) 5 + bitAt r.overrun 6 + bitAt (rcpWaits s st q) 7 + r.stopCode % 2 ^ 16 * 2 ^ 16
  | 0x1C => r.p.toNat
  | 0x20 => r.h.toNat
  | 0x24 => r.w.toNat
  | 0x28 => r.c.toNat
  | 0x2C => r.coalCount % 2 ^ 16 + r.coalTime % 2 ^ 16 * 2 ^ 16
  | 0x30 => r.vecOff % 2 ^ 12
  | 0x34 => r.intakeErrs % 2 ^ 16 + r.cwDrops % 2 ^ 16 * 2 ^ 16
  | 0x38 => r.staleDbs % 2 ^ 16 + r.rcpDrops % 2 ^ 16 * 2 ^ 16
  | _ => 0

/-- One of the five counters of a Stall page as the host sees it (03 R141, 09 R427): while a Clerk runs in the Keeper world it
holds still. -/
def stallCounter (s : State) (x : Stall) (i : Nat) : Nat :=
  if s.worlds.hidden then (x.held.getD []).getD i 0
  else [x.orders, x.bytesIn, x.bytesOut, x.engineTime, x.waitTime].getD i 0

/-- Report entry of a Stall (03 R141): order tag, status, DONE_VALID. -/
def reportValue (x : Stall) (k : Nat) : Nat :=
  match x.reports[k]? with
  | some p => p.1 % 2 ^ 32 + p.2 % 2 ^ 16 * 2 ^ 32 + 2 ^ 63
  | none => 0

/-- Control and status area of a Stall page (03 R141). -/
def stallAreaWord (s : State) (st o : Nat) : Nat :=
  let x := stall s st
  if o = 0x200 then st % 4096 + x.owner % 1024 * 2 ^ 16
  else if o = 0x204 then x.gen.toNat
  else if o = 0x20C then bitAt (x.state == .resetting) 0 + bitAt x.resetDone 1 + bitAt (quotaWaits s st) 2 + x.lastCause % 16 * 2 ^ 8
  else if o = 0x210 then x.abandoned % 2 ^ 16 + x.lostRcpts % 2 ^ 16 * 2 ^ 16
  else if 0x220 ≤ o && o < 0x260 then half (reportValue x ((o - 0x220) / 8)) o
  else if o = 0x280 then x.weight % 2 ^ 8 + x.maxPk % 2 ^ 9 * 2 ^ 16
  else if o = 0x284 then x.maxInflight % 2 ^ 13 + (x.maxCache + 1) / 2 % 2 ^ 17 * 2 ^ 15
  else if o = 0x288 then inflight s st % 2 ^ 13 + pkNow s st % 2 ^ 9 * 2 ^ 16
  else if o = 0x28C then cacheNow s st % 2 ^ 17
  else if 0x300 ≤ o && o < 0x328 then half (stallCounter s x ((o - 0x300) / 8)) o
  else 0

/-- A word of a Stall page (02 R59, R80, R86; 03 R145): a page in TDI state ERROR reads 0, one in RUN answers reads with the T
bit alone (log entry 85); Counter windows read 0. -/
def stallPageWord (s : State) (off : Nat) (tbit : Bool) : Nat :=
  let st := off / 4096
  let o := off % 4096
  if !(pageTakes (stall s st) tbit) then 0
  else if o < 0x20 then half (doorbellValue s st (o / 8)).toNat o
  else if 0x100 ≤ o && o < 0x200 then ringRegWord s st ((o - 0x100) / 0x40) ((o - 0x100) % 0x40)
  else if 0x200 ≤ o && o < 0x800 then stallAreaWord s st o
  else 0

-- MON, PERF and DAYBOOK ----------------------------------------------------------------------------------------------

/-- A cause of part Hold that a monitor raises (12 R548). -/
def monCause : HoldCause → Bool
  | .supply | .clock _ | .glitch _ => true
  | _ => false

/-- Indices of MON that are never used (12 R548). -/
def monUnused (m : Nat) : Bool := (decide (9 ≤ m) && decide (m ≤ 23)) || m == 39 || decide (76 ≤ m)

/-- A MON entry (12 R548). -/
def monEntWord (e : MonEnt) (o : Nat) : Nat :=
  match o with
  | 0x0 => e.value.toNat + e.extreme.toNat * 2 ^ 16
  | 0x4 => e.userLimit % 2 ^ 16 + e.factoryLimit % 2 ^ 16 * 2 ^ 16
  | 0x8 => e.userFilter % 2 ^ 8 + e.factoryFilter % 2 ^ 8 * 2 ^ 8 + bitAt e.present 16 + bitAt e.alarm 17 + bitAt e.latched 18 +
      e.hyst % 2 ^ 8 * 2 ^ 20
  | _ => e.alarms % 2 ^ 32

/-- MON (12 R548). -/
def monBlockWord (s : State) (o : Nat) : Nat :=
  if o = 0x000 then
    bitAt (s.faults.holds.any monCause) 0 + bitAt s.mon.throttle 1 + bitAt s.mon.userApplied 2 + bitAt s.vigil.timeValid 3 +
      s.vigil.src % 4 * 2 ^ 4 + bitAt (sealValid s) 6 + bitAt (tamperActive s) 7
  else if o = 0x004 then s.mon.glitches % 2 ^ 32
  else if o = 0x008 then s.vigil.seconds.toNat
  else if o = 0x00C then s.vigil.fraction % 2 ^ 15
  else if o = 0x010 then s.vigil.tbuf.length % 2 ^ 7 + s.vigil.tbufOver % 2 ^ 16 * 2 ^ 8
  else if o = 0x014 then armedMask s % 2 ^ 12
  else if o = 0x018 then
    bitAt s.vigil.cellA.low 0 + bitAt s.vigil.cellB.low 1 + bitAt s.vigil.cellA.depleted 2 + bitAt s.vigil.cellB.depleted 3
  else if 0x100 ≤ o && !(monUnused ((o - 0x100) / 16)) then monEntWord (mon s ((o - 0x100) / 16)) (o % 16)
  else 0

/-- A PERF counter as the host sees it (15 R641, 09 R427). -/
def perfValue (s : State) (i : Nat) : Nat :=
  if s.worlds.hidden then (s.perf.held.getD []).getD i 0 else s.perf.ctrs.getD i 0

/-- PERF (15 R641). -/
def perfWord (s : State) (o : Nat) : Nat := if o < 8 * 18 then half (perfValue s (o / 8)) o else 0

/-- ROLL_OVERFLOW: Tally 3 minus 8,192 when positive (13 R593). -/
def rollOverflow (s : State) : Nat := min 0xFFFF ((tally s 3).value - 8192)

/-- The bytes a window record shows; zero for an empty slot (13 R593). -/
def winBytes (s : State) (k : Nat) : Bytes :=
  match s.day.winData.getD k none with
  | some r => dbBytes r
  | none => zeros 32

/-- Record-store fields of DAYBOOK once they are shown (13 R593); in a start that reads no Tally and makes no item of the
Rolls they read 0 (14 R682). -/
def storeWord (s : State) (o : Nat) : Nat :=
  if s.faults.skipStep4 then 0
  else if 0x020 ≤ o && o < 0x050 then wordAt (rollHead s) (o - 0x020)
  else if o = 0x050 || o = 0x054 then
    half ((tally s 0).value % 2 ^ 48 + (match bootEntry s with | some e => e.blocks.length + 1 | none => 0) % 2 ^ 7 * 2 ^ 48) o
  else if 0x058 ≤ o && o < 0x088 then wordAt (bootHead s) (o - 0x058)
  else if o = 0x090 || o = 0x094 then
    let t := tally s s.day.tallySel
    half (t.value % 2 ^ 48 + bitAt t.worn 62 + bitAt t.exhausted 63) o
  else 0

/-- DAYBOOK (13 R593). The fields that show the record store read 0 until the Admin ring first enters service. -/
def daybookWord (s : State) (o : Nat) : Nat :=
  let d := s.day
  let shown (v : Nat) : Nat := if d.shown then v else 0
  let anchored (v : Nat) : Nat := if d.shown && !s.faults.skipStep4 then v else 0
  if o = 0x000 then
    bitAt d.flushing 0 + anchored (bitAt (decide (8192 ≤ s.mram.troll.length)) 1) + bitAt d.bootOpen 2 +
      anchored (bitAt (s.mram.tallies.any (fun p => p.2.exhausted)) 3) + bitAt d.winValid 4
  else if o = 0x004 then shown (s.mram.nextSeq % 2 ^ 16) + d.buf.length % 2 ^ 8 * 2 ^ 16
  else if o = 0x008 then shown (s.mram.general.length % 2 ^ 13) + d.droppedReg % 2 ^ 16 * 2 ^ 16
  else if o = 0x00C then shown (hoursNow s)
  else if o = 0x010 then shown (pcyclesNow s)
  else if o = 0x014 then anchored (s.mram.troll.length % 2 ^ 14 + rollOverflow s * 2 ^ 16)
  else if o = 0x018 then d.winBase % 2 ^ 13
  else if o = 0x01C then bitAt d.winErr 0
  else if o = 0x088 then d.tallySel % 2 ^ 8
  else if 0x1000 ≤ o && o < 0x2000 then wordAt (winBytes s ((o - 0x1000) / 32)) (o % 32)
  else shown (storeWord s o)

-- PAIR, STACKS, ACU and SIDEBAND -------------------------------------------------------------------------------------

/-- PAIR (10 R485). -/
def pairWord (s : State) (o : Nat) : Nat :=
  let p := s.pair
  let pid := match s.mram.pairRec with | some r => if p.bound then fit 16 r.pairId else zeros 16 | none => zeros 16
  match o with
  | 0x000 => p.mode % 4 + bitAt p.bound 2 + p.side % 2 * 2 ^ 3 + p.role % 2 * 2 ^ 4 + p.state % 8 * 2 ^ 5 +
      bitAt (s.faults.holds.contains .pairQuiet) 8
  | 0x004 => p.lanes.toNat + p.splitLog2 % 16 * 2 ^ 8 + p.settleUs % 32 * 2 ^ 12
  | 0x008 | 0x00C => half p.arbAddr o
  | 0x010 | 0x014 => half p.arbValue o
  | 0x018 => p.sessionEpoch % 2 ^ 32
  | 0x01C => p.failovers % 2 ^ 32
  | 0x020 | 0x024 | 0x028 | 0x02C => wordAt pid (o - 0x020)
  | 0x030 => p.hbMisses % 2 ^ 16 + p.tagFails % 2 ^ 16 * 2 ^ 16
  | 0x034 => p.retransmits % 2 ^ 32
  | 0x038 => p.txns.length % 2 ^ 16 + p.rcptUnacked % 2 ^ 16 * 2 ^ 16
  | 0x03C => p.divergences % 2 ^ 16
  | 0x040 => p.resyncRecords % 2 ^ 32
  | 0x044 => p.lastLoss % 16
  | _ => 0

/-- Per-channel registers of STACKS (08 R396). -/
def chanWord (c : Chan) (o : Nat) : Nat :=
  match o with
  | 0x00 => c.ceCount % 2 ^ 32
  | 0x04 => c.caparRetry % 2 ^ 16 + c.wcrcRetry % 2 ^ 16 * 2 ^ 16
  | 0x08 => c.remapUsed % 2 ^ 17
  | 0x0C => c.scrubPasses % 2 ^ 32
  | 0x10 => c.tempCode % 8
  | 0x18 | 0x1C => half c.lastCe o
  | _ => 0

/-- STACKS (08 R396). -/
def stacksView (s : State) (o : Nat) : Nat :=
  let x := s.stk
  if o = 0x000 then x.popCode % 16 + bitAt x.trained 4 + bitAt x.catReady 5 + bitAt s.mon.stacksThrottle 6
  else if o = 0x008 || o = 0x00C then half (protBytes (channels s)) o
  else if o = 0x010 then storeLines s / 3 % 2 ^ 32
  else if o = 0x020 then x.ceRemapTh % 32
  else if o = 0x024 then x.ceNoteTh % 2 ^ 16
  else if o = 0x028 then x.scrubHours % 32
  else if o = 0x02C then bitAt x.cfgErr 0
  else if o = 0x030 || o = 0x034 then half (x.ctrHigh % 2 ^ 56) o
  else if 0x100 ≤ o && o < 0x200 then chanWord (x.chans.getD ((o - 0x100) / 0x80) Chan.reset) ((o - 0x100) % 0x80)
  else if o = 0x200 then
    bitAt x.ifValid 0 + x.ifKind % 16 * 2 ^ 4 + x.ifChannel % 2 * 2 ^ 8 + x.ifLevel % 8 * 2 ^ 12 + x.ifMaster % 2 ^ 16 * 2 ^ 16
  else if o = 0x208 || o = 0x20C then half x.ifAddr o
  else if o = 0x210 || o = 0x214 then half x.ifIndex o
  else 0

/-- A violation report entry as 32 bytes (09 R423). -/
def violEntry (v : Viol) : Bytes :=
  leBytes 8 v.addr ++
    leBytes 8 (v.space % 4 + v.kind % 4 * 2 ^ 2 + v.lenM1 % 1024 * 2 ^ 4 + v.master % 2 ^ 16 * 2 ^ 16 +
      (match v.region with | some r => r % 64 * 2 ^ 32 + 2 ^ 38 | none => 0) + v.deedType % 8 * 2 ^ 39 + v.cause % 16 * 2 ^ 44 +
      v.seq % 2 ^ 16 * 2 ^ 48) ++
    leBytes 8 v.start ++ leBytes 8 (v.dbkSeq % 2 ^ 16)

/-- ACU reports and debug status (09 R423; 15 R657). -/
def acuWord (s : State) (o : Nat) : Nat :=
  let w := s.worlds
  if o = 0x000 then w.violTotal % 2 ^ 32
  else if o = 0x004 then w.dbgRefused % 2 ^ 16 + w.deferrals % 2 ^ 16 * 2 ^ 16
  else if o = 0x008 then bitAt w.first.isSome 0
  else if o = 0x010 then w.logNext % 16 + bitAt w.logWrapped 4
  else if 0x020 ≤ o && o < 0x040 then
    match w.first with
    | some v => wordAt (violEntry v) (o - 0x020)
    | none => 0
  else if 0x100 ≤ o && o < 0x300 then wordAt (violEntry (w.log.getD ((o - 0x100) / 32) Viol.reset)) (o % 32)
  else if o = 0x800 then s.faults.debugLevel % 4 + dbgMax s.faults.lifecycle % 4 * 2 ^ 2 + s.dbg.tokenResult % 8 * 2 ^ 4
  else if o = 0x804 then s.dbg.tokensRefused % 2 ^ 16
  else 0

/-- Fields of a card port (15 R657). -/
def portWord (s : State) (p o : Nat) : Nat :=
  let x := s.side.ports.getD p Port.reset
  match o with
  | 0x00 => bitAt x.present 0 + bitAt x.powered 1 + bitAt x.session.isSome 2 + bitAt (pinKeeper s (.card p)) 3 + x.cls % 4 * 2 ^ 4
  | 0x04 => x.sessions % 2 ^ 16 + x.faults % 2 ^ 16 * 2 ^ 16
  | 0x10 | 0x14 | 0x18 | 0x1C => wordAt (fit 16 x.cardId) (o - 0x10)
  | _ => 0

/-- The bits of a GPIO field that the host sees: those of Shop-world pins (15 R653). -/
def gpioShown (s : State) (v : Nat) : Nat :=
  ((List.range 16).map (fun i => bitAt (bitOf v i && !(pinKeeper s (.gpio i))) i)).sum

/-- SIDEBAND (15 R657, R653). -/
def sidebandWord (s : State) (o : Nat) : Nat :=
  let x := s.side
  if o = 0x000 then x.dynAddr % 128 + bitAt x.dynValid 7 + 0x2E * 2 ^ 8 + bitAt x.smbus 15
  else if o = 0x004 then x.eid % 256 + bitAt x.eidValid 8
  else if o = 0x008 then x.hopDrops % 2 ^ 16 + x.pecErrs % 2 ^ 16 * 2 ^ 16
  else if o = 0x00C then 0x40 - x.hopper.length
  else if o = 0x010 then x.runBank % 2 + s.mram.bootBank % 2 * 2 + s.mram.bootTrial % 4 * 4 + bitAt x.flashBusy 4
  else if 0x100 ≤ o && o < 0x180 then portWord s ((o - 0x100) / 0x20) ((o - 0x100) % 0x20)
  else if o = 0x200 then gpioShown s x.gpioIn + s.worlds.gpioKeeper % 2 ^ 16 * 2 ^ 16
  else if o = 0x204 then gpioShown s x.gpioOut
  else if o = 0x208 then gpioShown s x.gpioOe
  else if o = 0x20C then x.gpioOd % 2 ^ 16
  else if o = 0x210 then x.gpioRise % 2 ^ 16 + x.gpioFall % 2 ^ 16 * 2 ^ 16
  else 0

-- The three BARs -----------------------------------------------------------------------------------------------------

/-- A word of BAR0 (00 R26). Before step 10 only IDENT and GCTL are readable (14 R600). -/
def bar0View (s : State) (off : Nat) : Nat :=
  if off < 0x1000 then identWord s off
  else if off < 0x2000 then gctlWord s (off - 0x1000)
  else if s.faults.phase ≠ .running then 0
  else if off < 0x3000 then adminWord s (off - 0x2000)
  else if off < 0x4000 then eventWord s (off - 0x3000)
  else if off < 0x10000 then 0
  else if off < 0x50000 then stallcfgWord (stall s ((off - 0x10000) / 64)) (off % 64)
  else if off < 0x60000 then monBlockWord s (off - 0x50000)
  else if off < 0x70000 then perfWord s (off - 0x60000)
  else if off < 0x80000 then daybookWord s (off - 0x70000)
  else if off < 0x90000 then pairWord s (off - 0x80000)
  else if off < 0xA0000 then stacksView s (off - 0x90000)
  else if off < 0xB0000 then acuWord s (off - 0xA0000)
  else if off < 0xC0000 then sidebandWord s (off - 0xB0000)
  else 0

/-- A word of BAR4 (15 R626; 02 R120): the MSI-X table and the pending bits. -/
def bar4View (s : State) (off : Nat) : Nat :=
  if off < 0x10000 then
    let e := off / 16
    let a := Tbl.getD s.pcie.msixTable e (0, 0)
    match off % 16 / 4 with
    | 0 => bits a.1 0 32
    | 1 => bits a.1 32 32
    | 2 => a.2 % 2 ^ 32
    | _ => bitAt (!(s.pcie.unmasked.contains e)) 0
  else if off < 0x10200 then
    ((List.range 32).map (fun i => bitAt (s.pcie.pba.contains (8 * (off - 0x10000) + i)) i)).sum
  else 0

/-- A word of a BAR. -/
def barWord (s : State) (space : RegSpace) (off : Nat) (tbit : Bool) : Nat :=
  match space with
  | .bar0 => bar0View s off
  | .stallPage => if s.faults.phase ≠ .running then 0 else stallPageWord s off tbit
  | .bar4 => bar4View s off

/-- What a read of the host is answered with (15 R627; 11 R495): none is Unsupported Request. A read of another size or
alignment returns zeros. Every BAR read is refused in Silence, and when no BAR is there: with the part off. -/
def hostRead (s : State) (space : RegSpace) (off size : Nat) (tbit : Bool) : Option Nat :=
  if s.faults.silent || s.faults.phase = .off then none
  else if !accessOk off size then some 0
  else if size = 4 then some (barWord s space off tbit)
  else some (barWord s space off tbit + barWord s space (off + 4) tbit * 2 ^ 32)

end Machine
end Sys2Proof
end

