-- ==== Sys2Proof/Safety.lean ====
section
/-!
DEFINITION. The words in which claims about the part are stated: when it serves, when an order is ready to run, what a
computed order leaves behind, and what an output may be. A part that is switched off, starting or Silent answers commands
too; what they do there is said with these words as well.
-/
namespace Sys2Proof
namespace Machine

/-- The part is in operation (14 R599). -/
def Serving (s : State) : Prop := s.faults.phase = .running

/-- The part is in operation and its egress checker passes everything (11 R495). -/
def Open (s : State) : Prop := s.faults.phase = .running ∧ s.faults.silent = false

/-- An order of an opcode has everything it needs, and its instances can start: the row of its opcode runs it (01 R45;
05 R244). -/
def Ready (s : State) (id op : Nat) (o : Order) : Prop :=
  s.faults.phase = .running ∧ order? s id = some o ∧ o.opcode = op ∧ o.stage = .ready ∧ staged? s o = false ∧ canBegin s o = true

/-- An output of `n` bytes fits the order's output cap (02 R75). -/
def Room (o : Order) (n : Nat) : Prop := capWord o n 0 = none

/-- The state in which an order has both copies of a result and nothing else has changed (01 R51). -/
def withResult (s : State) (id : Nat) (r : Result) : State :=
  { s with orders := s.orders.map (fun x => if x.id = id then { x with copyA := some r, copyB := some r, stage := .computed } else x) }

/-- The state after the shared draws of a first run: `n` fresh bytes are taken from the DRBG and counted (07 R360, 15 R641),
and the order keeps the place of its first byte. -/
def afterDraws (s : State) (id n : Nat) : State :=
  { s with
    orders := s.orders.map (fun x => if x.id = id then { x with draws := some s.drbg.next } else x)
    drbg := { s.drbg with next := s.drbg.next + n, requests := s.drbg.requests + 1 }
    perf := { s.perf with ctrs := modAt (· + n) s.perf.ctrs 15 } }

/-- The state in which the instances of an order have started it: prepared, with their keys and masks (04 R191; 05 R281). -/
def started (s : State) (id : Nat) : State :=
  match order? s id with
  | some o => begun o s
  | none => s

/-- A command starts an order and makes it end its computation with a result, and changes nothing else. -/
def Computes (c : Instr) (s : State) (id : Nat) (r : Result) : Prop := exec c s = .next (withResult (started s id) id r)

/-- A command makes an order end its computation with a result that depends on the order's shared draws: fresh ones at the
first run, the same ones at a re-execution, which takes nothing from the DRBG (11 R500). An order that draws nothing
(`n = 0`) leaves the DRBG alone. -/
def ComputesDrawn (c : Instr) (s : State) (id n : Nat) (o : Order) (r : Nat → Result) : Prop :=
  (∀ d, o.draws = some d → exec c s = .next (withResult (begun o s) id (r d))) ∧
  (o.draws = none → exec c s = .next
    (withResult (begun o (if n = 0 then s else afterDraws s id n)) id (r s.drbg.next)))

/-- A firmware order has everything it needs, the Keeper world answers, and its twin does not decide it: the row of its opcode
runs its handler (09 R431, R433; 10 R467). -/
def FwReady (s : State) (id op : Nat) (o : Order) (e : FwEnv) : Prop :=
  s.faults.phase = .running ∧ order? s id = some o ∧ o.opcode = op ∧ o.stage = .ready ∧ s.keeper.restarting = false ∧
    o.fwLost = false ∧ followOnly (tick e.t s) o = false

/-- A firmware row ends the decision of its order with a plan, the state being `u` by then: status, word, outputs and the
change that takes effect at the commit point (09 R431). What becomes of a plan is the statement PlansTakeEffect. -/
def Plans (c : Instr) (s : State) (id : Nat) (o : Order) (p : Plan) (u : State) : Prop :=
  exec c s = .next (gate s (planned id o (.done p, u)))

/-- A firmware row ends its order with a status and a word and no change, at the time the command brings. -/
def Fails (c : Instr) (s : State) (id : Nat) (o : Order) (e : FwEnv) (status word : Nat) : Prop :=
  Plans c s id o { status := status, word := word } (tick e.t s)

/-- The Quorum Gate passes an order for an Owner in the state `u`: the two decisions agree, both runs of each signature check
agree (04 R229), the list of approvals is enough, and `v` is the state with the passed decision on record (04 R225 to R230). -/
def Approved (u : State) (o : Order) (e : FwEnv) (g : GateArgs) (a : Approval) (v : State) : Prop :=
  e.agree = true ∧ e.copies = true ∧ ∃ masks, decideQuorum (holdClear .quorum u) o g = .pass masks ∧
    a = approvalOf (holdClear .quorum u) o g.owner ∧ v = recordPass (holdClear .quorum u) a masks

/-- An order goes on: with the approval of an Owner's quorum when `q` asks for one, without one and in the same state
otherwise. -/
def GoesOn (q : Bool) (u : State) (o : Order) (e : FwEnv) (owner : Nat) (ap : Option Approval) (v : State) : Prop :=
  if q then ∃ a, ap = some a ∧ Approved u o e (gateFor u o owner) a v else ap = none ∧ v = u

/-- The proposal of an order has not been executed before (04 R226). -/
def Fresh (q : Bool) (u : State) (o : Order) (owner : Nat) : Prop :=
  q = true → ifApplied u o (gateFor u o owner) = none

/-- An order owes the charge of a key it names (05 R260): the key keeps a ledger, is not Spent, and the order is not charged. -/
def Owes (o : Order) (k : KeyRec) : Prop := kLedger k.attrs = true ∧ k.attrs.kstate = 0 ∧ o.charged = false

/-- The charge that an order owes for its key A begins in the state `u` and leaves `v`. -/
def Charges (o : Order) (u v : State) : Prop := v = beginCharge o.id [o.keyA] u

/-- The order has its charge in `v`, and goes on. -/
def Charged (o : Order) (v : State) : Prop := ∃ x, order? v o.id = some x ∧ x.charged = true ∧ x.stage = .ready

/-- An order with key A goes on in the state `v`: at once when it owes nothing, else after its charge (05 R260, R261). -/
def Pays (o : Order) (k : KeyRec) (u v : State) : Prop :=
  (Owes o k ∧ Charges o u v ∧ Charged o v) ∨ (¬ Owes o k ∧ v = u)

/-- The charge that an order owes cannot be made at once: it waits, or it is refused, in the state `v`. -/
def PutsOff (o : Order) (k : KeyRec) (u v : State) : Prop := Owes o k ∧ Charges o u v ∧ ¬ Charged o v

/-- The result that an approved change keeps for a re-issue of its proposal (04 R226). -/
def keeps (ap : Option Approval) (word : Nat) : List Item :=
  match ap with
  | some a => [.keep a.owner a.seq word]
  | none => []

/-- The firmware rows: opcode, order and environment (09 R431). -/
def fwRow : Instr → Option (Nat × Nat × FwEnv)
  | .keyGenerate i e => some (0x0601, i, e) | .keyLoad i e => some (0x0602, i, e) | .keyUnload i e => some (0x0603, i, e)
  | .keyImport i e => some (0x0604, i, e) | .keyExport i e => some (0x0605, i, e) | .keyReplace i e => some (0x0606, i, e)
  | .keyRetire i e => some (0x0607, i, e) | .keyNarrow i e => some (0x0608, i, e) | .keyPublic i e => some (0x0609, i, e)
  | .blobRewrap i e => some (0x0610, i, e) | .masterRotate i e => some (0x0620, i, e)
  | .masterRetireOld i e => some (0x0621, i, e) | .masterBackup i e => some (0x0622, i, e)
  | .masterRestore i e => some (0x0623, i, e) | .custodianEnrol i e => some (0x0630, i, e)
  | .custodianRemove i e => some (0x0631, i, e) | .quorumSet i e => some (0x0632, i, e)
  | .quorumStatus i e => some (0x0633, i, e) | .hostMeasure i e => some (0x0701, i, e) | .bootClose i e => some (0x0702, i, e)
  | .rollExport i e => some (0x0710, i, e) | .genuine i e => some (0x0720, i, e) | .tallyRead i e => some (0x0730, i, e)
  | .tallyAdvance i e => some (0x0731, i, e) | .ownerCreate i e => some (0x0F01, i, e) | .ownerRetire i e => some (0x0F02, i, e)
  | .ownerLoad i e => some (0x0F03, i, e) | .ownerPolicy i e => some (0x0F04, i, e) | .stallBind i e => some (0x0F10, i, e)
  | .stallUnbind i e => some (0x0F11, i, e) | .stallReset i e => some (0x0F12, i, e) | .pairBind i e => some (0x0F20, i, e)
  | .pairUnbind i e => some (0x0F21, i, e) | .pairJoin i e => some (0x0F22, i, e) | .vigilSetTime i e => some (0x0F30, i, e)
  | .pdbApply i e => some (0x0F40, i, e) | .calibApply i e => some (0x0F41, i, e) | .lcCommission i e => some (0x0F50, i, e)
  | .lcDeploy i e => some (0x0F51, i, e) | .lcQuarantine i e => some (0x0F52, i, e) | .lcZeroize i e => some (0x0F53, i, e)
  | .lcRetire i e => some (0x0F54, i, e) | .lcRecommission i e => some (0x0F55, i, e) | .recordAdopt i e => some (0x0F56, i, e)
  | .fwWrite i e => some (0x0F60, i, e) | .fwActivate i e => some (0x0F61, i, e) | .fwFloor i e => some (0x0F62, i, e)
  | .debugUnlock i e => some (0x0F70, i, e)
  | _ => none

/-- A command leaves the part as it was. -/
def Ignores (c : Instr) (s : State) : Prop := exec c s = .next s

/-- A command has an effect that a relation between the two states says. -/
def Does (c : Instr) (s : State) (P : State → Prop) : Prop := ∃ t, exec c s = .next t ∧ P t

/-- Between two states nothing has changed but the evidence: the Daybook, the Tallies and the Tamper Roll, the event sources
with their messages, the counters, the outputs, and the frames that carry evidence to the twin (13 R552 to R583; 15 R638 to
R641; 10 R474). -/
def EvidenceOnly (s t : State) : Prop :=
  { t with
    day := s.day
    ev := s.ev
    out := s.out
    perf := s.perf
    side := { t.side with ibiArmed := s.side.ibiArmed }
    pcie := { t.pcie with pba := s.pcie.pba, heldMsgs := s.pcie.heldMsgs }
    pair := { t.pair with evidence := s.pair.evidence, txSeq := s.pair.txSeq, replay := s.pair.replay }
    mram := { t.mram with general := s.mram.general, protect := s.mram.protect, protCount := s.mram.protCount,
                          nextSeq := s.mram.nextSeq, tallies := s.mram.tallies, troll := s.mram.troll } } = s

/-- The Courier Link takes frames of a session, and `f` is the next in order on its channel (10 R444, R446). -/
def InOrder (s : State) (f : Frame) : Prop :=
  Open s ∧ accepting s = true ∧ f.epoch = s.pair.sessionEpoch ∧ f.seq = expected s f.ch

/-- The state in which a frame is counted as received at a time and its header has acknowledged, and nothing else has
changed. -/
def arrived (s : State) (f : Frame) (t : Nat) : State := takeFrame f (tick t s)

/-- A command takes a frame with the effect `v` and acknowledges it. -/
def Takes (c : Instr) (s : State) (f : Frame) (v : State) : Prop := exec c s = .next (sendAck f.ch false v)

/-- The row that a frame of a session comes in by its type (10 R447). -/
def sessionRow (f : Frame) (t : Nat) : Option Instr :=
  match f.body with
  | .heartbeat _ => some (.heartbeat f t)
  | .claim _ => some (.claim f t)
  | .delta d => match d.phase with
    | 1 => some (.deltaPrepare f t) | 2 => some (.deltaVoteYes f t) | 3 => some (.deltaVoteNo f t)
    | 4 => some (.deltaCommit f t) | 5 => some (.deltaCommitted f t) | 6 => some (.deltaAbort f t) | _ => none
  | .stallReset .. => some (.deltaPrepare f t)
  | .reserve k .. => match k with
    | 1 => some (.reserveRequest f t) | 2 => some (.reserveGrant f t) | 3 => some (.reserveNote f t)
    | 4 => some (.reserveNoted f t) | 5 => some (.reserveRefuse f t) | _ => none
  | .evidence .. => some (.evidence f t)
  | .other _ => some (.evidence f t)
  | .silence .. => some (.silenceFrame f t)
  | .resync _ => some (.resync f t)
  | .resyncEnd _ => some (.resync f t)
  | _ => none

/-- Orders in the window of a ring: posted and not yet taken (02 R66). -/
def Window (r : Ring) : Nat := (r.p - r.h).toNat

/-- A run of the part over the commands that wait in its queue. -/
def runs : Nat → State → Res
  | 0, s => .next s
  | n + 1, s => match step s with
    | .next t => runs n t
    | .fault f => .fault f
    | .refused r => .refused r

/-- Every state that the next `n` steps pass through is in Silence, the first one with them (11 R495). -/
def silentThrough : Nat → State → Bool
  | 0, s => s.faults.silent
  | n + 1, s => s.faults.silent && (match step s with | .next t => silentThrough n t | _ => false)

end Machine
end Sys2Proof
end

