-- ==== Sys2Proof/Certificates/Slice0/Obligations.lean ====
section
/-!
DEFINITION. The statements for the provers: what the commands of the part do, family by family, and what holds of every
step. Each docstring names the rules of the manual that it formalises.
-/
open Sys2Proof Sys2Proof.Machine

/-- Rows 0x0101 to 0x0132 (05 R247, R248): what each computes over the order's input, and that nothing else changes. -/
def Obligations.LoomCipherModes : Prop :=
  ∀ (s : State) (id op : Nat) (o : Order) (ka : KeyRec), Ready s id op o → o.recA = some ka → Room o o.inLen →
    let p := inputOf o
    let k := ka.material
    (op = 0x0101 → Computes (.aesEcbEnc id) s id (resOk 0 (ecb 16 (aesE k) p))) ∧
    (op = 0x0102 → Computes (.aesEcbDec id) s id (resOk 0 (ecb 16 (aesD k) p))) ∧
    (op = 0x0111 → Computes (.aesCbcEnc id) s id (resOk 0 (cbcEnc (aesE k) (slice o.inl 0 16) (chunks 16 p)))) ∧
    (op = 0x0112 → Computes (.aesCbcDec id) s id (resOk 0 (cbcDec (aesD k) (slice o.inl 0 16) (chunks 16 p)))) ∧
    (op = 0x0121 → Computes (.aesCtrEnc id) s id (resOk 0 (ctr (aesE k) (ctrBlock (slice o.inl 0 16)) p))) ∧
    (op = 0x0122 → Computes (.aesCtrDec id) s id (resOk 0 (ctr (aesE k) (ctrBlock (slice o.inl 0 16)) p))) ∧
    (∀ kb, o.recB = some kb →
      (op = 0x0131 → Computes (.aesXtsEnc id) s id
        (resOk 0 (xts true (aesE k) (aesE kb.material) (par o 0 8) (par o 8 4) p))) ∧
      (op = 0x0132 → Computes (.aesXtsDec id) s id
        (resOk 0 (xts false (aesD k) (aesE kb.material) (par o 0 8) (par o 8 4) p)))) ∧
    (let w := started s id
     w = { s with insts := w.insts, drbg := w.drbg, perf := w.perf, free := w.free, orders := w.orders } ∧
     (w.orders = s.orders ∨ w.orders = s.orders.map (fun x => if x.id = id then { x with staged := false } else x)))

/-- Rows 0x0180 to 0x0183 (05 R249, R250, R268). -/
def Obligations.TdeaRows : Prop :=
  ∀ (s : State) (id op : Nat) (o : Order) (ka : KeyRec), Ready s id op o → o.recA = some ka → Room o o.inLen →
    let p := inputOf o
    let k := ka.material
    let r (b : Bytes) : Result := if o.inLen % 8 = 0 then resOk 0 b else resFail 0x0110 0
    (op = 0x0180 → Computes (.tdeaEcbEnc id) s id (r (ecb 8 (tdeaE k) p))) ∧
    (op = 0x0181 → Computes (.tdeaEcbDec id) s id (r (ecb 8 (tdeaD k) p))) ∧
    (op = 0x0182 → Computes (.tdeaCbcEnc id) s id (r (cbcEnc (tdeaE k) (slice o.inl 0 8) (chunks 8 p)))) ∧
    (op = 0x0183 → Computes (.tdeaCbcDec id) s id (r (cbcDec (tdeaD k) (slice o.inl 0 8) (chunks 8 p))))

/-- Rows 0x0140, 0x0141 and 0x0170 (05 R247, R257). -/
def Obligations.AeadSealRows : Prop :=
  ∀ (s : State) (id op : Nat) (o : Order) (ka : KeyRec), Ready s id op o → o.recA = some ka →
    let p := inputOf o
    let k := ka.material
    let dn := gcmSeal k (fit 4 ka.kcv ++ beBytes 8 o.invIndex) (auxOf o) p
    let g := gcmSeal k (slice o.inl 0 12) (auxOf o) p
    let c := chachaSeal k (slice o.inl 0 12) (auxOf o) p
    (op = 0x0140 → Room o (o.inLen + 16) → Computes (.aesGcmSealDn id) s id (resOk o.invIndex (dn.1 ++ dn.2))) ∧
    (op = 0x0141 → Room o (o.inLen + par o 12 1) →
      Computes (.aesGcmSeal id) s id (resOk 0 (g.1 ++ g.2.take (par o 12 1)))) ∧
    (op = 0x0170 → Room o (o.inLen + 16) → Computes (.chachaSeal id) s id (resOk 0 (c.1 ++ c.2)))

/-- Rows 0x0142 and 0x0171 (05 R263 to R265). -/
def Obligations.AeadOpenRows : Prop :=
  ∀ (s : State) (id op : Nat) (o : Order) (ka : KeyRec), Ready s id op o → o.recA = some ka → Room o (o.inLen - openTag o) →
    let b := inputOf o
    let plain : Option Bytes :=
      if op = 0x0142 then gcmOpenT ka.material (slice o.inl 0 12) (auxOf o) b (par o 12 1)
      else chachaOpen ka.material (slice o.inl 0 12) (auxOf o) (b.take (b.length - 16)) (b.drop (b.length - 16))
    ∀ c : Instr, (op = 0x0142 ∧ c = .aesGcmOpen id ∨ op = 0x0171 ∧ c = .chachaOpen id) →
      (plain = none → Computes c s id (resFail 0x0112 0)) ∧
      (∀ x, plain = some x →
        (o.inLen - openTag o ≤ 65536 → Computes c s id (resOk 0 x)) ∧
        (65536 < o.inLen - openTag o → o.pass2 = none → s.faults.silent = false →
          exec c s = .next (firstPass id o (begun o s))) ∧
        (65536 < o.inLen - openTag o → ∀ b2, o.pass2 = some b2 →
          let j := changedChunk (loomOf s o).checks (chunkChecks (loomOf s o).checkKey (b2.take (o.inLen - openTag o)))
          (j = none → exec c s = .next (withResult s id (resOk 0 x))) ∧
          (∀ k, j = some k →
            exec c s = .next (withResult s id { status := 0x0119, word := k, out := x.take (32768 * k), aux := [] })))) ∧
      (let w := begun o s
       let v := firstPass id o w
       v = { w with out := w.out ++ rangeReqs w o.stall o.inIova o.inLen, insts := v.insts, free := w.free + 1,
                    orders := w.orders.map (fun y => if y.id = id then { y with stage := .waitInput } else y) })

/-- Rows 0x0150 to 0x0163 (05 R247, R263). -/
def Obligations.MacAndKeyWrapRows : Prop :=
  ∀ (s : State) (id op : Nat) (o : Order) (ka : KeyRec), Ready s id op o → o.recA = some ka →
    let p := inputOf o
    let k := ka.material
    let tag := (cmac (aesE k) p).take (par o 0 1)
    (op = 0x0150 → Room o (par o 0 1) → Computes (.aesCmac id) s id (resOk 0 tag)) ∧
    (op = 0x0151 → (tag = slice o.inl 8 (par o 0 1) → Computes (.aesCmacVerify id) s id (resOk 0 [])) ∧
      (tag ≠ slice o.inl 8 (par o 0 1) → Computes (.aesCmacVerify id) s id (resFail 0x0112 0))) ∧
    (op = 0x0160 → Room o (o.inLen + 8) → Computes (.aesKwWrap id) s id (resOk 0 (kwWrap k p))) ∧
    (op = 0x0162 → Room o (roundUp o.inLen 8 + 8) → Computes (.aesKwpWrap id) s id (resOk 0 (kwpWrap k p))) ∧
    (Room o (o.inLen - 8) →
      (op = 0x0161 → (∀ b, kwUnwrap k p = some b → Computes (.aesKwUnwrap id) s id (resOk 0 b)) ∧
        (kwUnwrap k p = none → Computes (.aesKwUnwrap id) s id (resFail 0x0112 0))) ∧
      (op = 0x0163 → (∀ b, kwpUnwrap k p = some b → Computes (.aesKwpUnwrap id) s id (resOk 0 b)) ∧
        (kwpUnwrap k p = none → Computes (.aesKwpUnwrap id) s id (resFail 0x0112 0))))

/-- Rows 0x0201 to 0x0203 (05 R270 to R278). -/
def Obligations.TranslateRows : Prop :=
  ∀ (s : State) (id op : Nat) (o : Order) (ka kb : KeyRec), Ready s id op o → o.recA = some ka → o.recB = some kb →
    s.drbg.up = true →
    (op = 0x0201 → Room o (pinBlock (par o 1 1)) →
      let f := pinOf (par o 0 1) (pinField (par o 0 1) ka.material (panDigits o) (inputOf o))
      (f = none → ComputesDrawn (.pinTranslate id) s id 16 o (fun _ => resFail 0x0113 0)) ∧
      (∀ pin, f = some pin → ComputesDrawn (.pinTranslate id) s id 16 o
        (fun d => resOk 0 (pinSeal (par o 1 1) kb.material (panDigits o) pin (drawn d 0 16))))) ∧
    (op = 0x0202 →
      let c : Instr := .keyblockTranslate id
      let inA := isAes ka.attrs.keyType
      let outA := isAes kb.attrs.keyType
      let known := par o 0 1 = 0 ∨ par o 0 1 = (if outA then 0x44 else 0x42)
      (¬ known → ComputesDrawn c s id 16 o (fun _ => resFail 0x0118 0)) ∧
      (known → parseKeyBlock inA (inputOf o) = none → ComputesDrawn c s id 16 o (fun _ => resFail 0x0114 0)) ∧
      (known → ∀ b, parseKeyBlock inA (inputOf o) = some b → Room o (kbLen outA b.header.length (b.field.length - 2)) →
        (openKeyBlock inA ka.material b = none → ComputesDrawn c s id 16 o (fun _ => resFail 0x0112 0)) ∧
        (∀ key, openKeyBlock inA ka.material b = some key →
          let barred := b.exportable = 0x4E ∨ kbStrong kb.attrs.keyType b.algorithm key.length = false
          let weak := outA = false ∧ tdeaMayEncrypt kb.attrs = false
          (barred → ComputesDrawn c s id 16 o (fun _ => resFail 0x0246 0)) ∧
          (¬ barred → weak → ComputesDrawn c s id 16 o (fun _ => resFail 0x0242 0)) ∧
          (¬ barred → ¬ weak → ComputesDrawn c s id 16 o
            (fun d => resOk 0 (sealKeyBlock outA kb.material b.header key (drawn d 0 16))))))) ∧
    (op = 0x0203 → Room o (ctPlain o + par o 3 1) →
      (ctOpen o = none → Computes (.cipherTranslate id) s id (resFail 0x0112 0)) ∧
      (∀ p, ctOpen o = some p →
        Computes (.cipherTranslate id) s id (resOk (if par o 1 1 = 4 then o.invIndex else 0) (ctSeal o p))))

/-- Rows 0x0301 to 0x0321 (06 R297 to R302, R309), with a key held or in the order. -/
def Obligations.ForgeCurveRows : Prop :=
  ∀ (s : State) (id op : Nat) (o : Order), Ready s id op o → s.drbg.up = true →
    let c := curveOf o
    let n := ecBytes c
    let x := auxOf o
    let dg := digestOf o (par o 0 1) (prehashed o 1)
    (op = 0x0301 → Room o (2 * n) → ComputesDrawn (.ecdsaSign id) s id 32 o (fun d =>
      validated (noAux o ++ digestFindings o (hashLen (par o 0 1)) (prehashed o 1))
        (resOk 0 (take (2 * n) (Config.ecdsaSign c (matA o) dg (drawn d 0 32)))))) ∧
    (op = 0x0302 →
      let pk := if inlineKey o then x.drop (2 * n) else matA o
      let sig := x.take (2 * n)
      Computes (.ecdsaVerify id) s id
        (validated ((if inlineKey o then finding (x.length < 2 * n) 0x0125 3 else finding (x.length != 2 * n) 0x0125 3) ++
            publicFindings c pk 2 ++ digestFindings o (hashLen (par o 0 1)) (prehashed o 1) ++
            integerFindings (ofBe (sig.take n)) (Config.curveN c) 3 ++ integerFindings (ofBe (slice sig n n)) (Config.curveN c) 4)
          (verdict (Config.ecdsaVerify c pk dg sig)))) ∧
    (op = 0x0311 → Room o (eddsaLen c) →
      (∀ f, eddsaContext o = some f → Computes (.eddsaSign id) s id (resFail f.1 f.2)) ∧
      (eddsaContext o = none → Computes (.eddsaSign id) s id
        (validated (digestFindings o 64 (prehashed o 1) ++ finding (o.auxLen != par o 2 1) 0x0125 1)
          (resOk 0 (take (eddsaLen c) (Config.eddsaSign c (par o 0 1) (matA o) (eddsaText o c) x)))))) ∧
    (op = 0x0312 →
      let sig := x.take (eddsaLen c)
      let pk := if inlineKey o then slice x (eddsaLen c) n else matA o
      let ctxAt := eddsaLen c + (if inlineKey o then n else 0)
      (∀ f, eddsaContext o = some f → Computes (.eddsaVerify id) s id (resFail f.1 f.2)) ∧
      (eddsaContext o = none → Computes (.eddsaVerify id) s id
        (validated (finding (x.length != ctxAt + par o 2 1) 0x0125 (if inlineKey o then 2 else 3) ++ publicFindings c pk 2 ++
            digestFindings o 64 (prehashed o 1) ++ edwardsFindings c (sig.take n) false 3 ++
            finding (decide (Config.curveN c ≤ ofLe (slice sig n n))) 0x0121 4)
          (verdict (Config.eddsaVerify c (par o 0 1) pk (eddsaText o c) (x.drop ctxAt) sig))))) ∧
    (op = 0x0321 →
      let a := parseAttrs (slice o.inl 0 64)
      let m := materialLen a.keyType a.keyBits
      let eph := if inlineKey o then ephemeralLen (par o 65 1) else 0
      let priv (d : Nat) : Bytes := if inlineKey o then take n (Config.genKey (0x0200 + c) (ecBits c) d) else matA o
      let head (d : Nat) : Bytes :=
        if inlineKey o then fit (roundUp (ecPoint c) 8) (take (ecPoint c) (Config.publicKey (0x0200 + c) (priv d))) else []
      let z (d : Nat) : Bytes := take (secretLen c) (Config.ecdh c (priv d) (inputOf o))
      Room o ((if inlineKey o then roundUp (ecPoint c) 8 else 0) + blobLen m) →
      ComputesDrawn (.ecdhDerive id) s id (eph + 12) o (fun d =>
        validated (finding (o.auxLen != par o 66 2 + par o 68 2) 0x0125 1 ++ publicFindings c (inputOf o) 2)
          (derivedBlob s o a (deriveBytes (par o 64 1) (z d) (x.take (par o 66 2)) (x.drop (par o 66 2)) m)
            (drawn d eph 12) (fun w b => resOk w (head d ++ b)))))

/-- Rows 0x0331 to 0x0343, with a key held or in the order (06 R303 to R311). -/
def Obligations.ForgeRsaRows : Prop :=
  ∀ (s : State) (id op : Nat) (o : Order), Ready s id op o → s.drbg.up = true →
    let k := modBytes o
    let x := auxOf o
    let held := matA o
    let pad := par o 0 1
    let h := par o 1 1
    let dg := digestOf o h (prehashed o 3)
    let own (b : Bytes) : Bytes := beBytes k (rsaPrivate k held (ofBe b))
    let pub (pk b : Bytes) : Nat := powMod (ofBe b) (rsaE k pk) (rsaN k pk)
    let text (pk : Bytes) := if pad = 3 then rsaFindings (inputOf o) k (rsaN k pk) 1 else digestFindings o (hashLen h) (prehashed o 3)
    (op = 0x0331 → Room o k → ComputesDrawn (.rsaSign id) s id (par o 2 1) o (fun d => validated (noAux o ++ text held)
      (resOk 0 (own (if pad = 3 then inputOf o else take k (Config.rsaEncode pad h (modBits o) dg (drawn d 0 (par o 2 1)))))))) ∧
    (op = 0x0332 →
      let pk := if inlineKey o then x.drop k else held
      let sig := x.take k
      Computes (.rsaVerify id) s id
        (validated ((if inlineKey o then finding (x.length != 2 * k + 8) 0x0125 2 ++ rsaKeyFindings k (modBits o) pk
                 else finding (x.length != k) 0x0125 3) ++ rsaFindings sig k (rsaN k pk) 3 ++ text pk)
          (verdict (if pad = 3 then pub pk sig == ofBe (inputOf o)
                   else if pad = 2 then beBytes k (pub pk sig) == take k (Config.rsaEncode 2 h (modBits o) dg [])
                   else Config.rsaEncodingOk 1 h (modBits o) (par o 2 1) dg (beBytes k (pub pk sig)))))) ∧
    (op = 0x0341 → Room o k →
      let at' := if inlineKey o then k + 8 else 0
      let pk := if inlineKey o then x.take (k + 8) else held
      ComputesDrawn (.rsaEncrypt id) s id (hashLen h) o (fun d =>
        validated (finding (x.length != at' + par o 2 2) 0x0125 (if inlineKey o then 2 else 1) ++
            (if inlineKey o then rsaKeyFindings k (modBits o) pk else []) ++
            (if pad = 3 then rsaFindings (inputOf o) k (rsaN k pk) 1 else finding (k < o.inLen + 2 * hashLen h + 2) 0x0127 1))
          (resOk 0 (beBytes k (pub pk (if pad = 3 then inputOf o
            else take k (Config.oaepEncode h k (x.drop at') (inputOf o) (drawn d 0 (hashLen h))))))))) ∧
    (op = 0x0342 → Room o (if pad = 3 then k else k - 2 * hashLen h - 2) → Computes (.rsaDecrypt id) s id
      (validated (rsaFindings (inputOf o) k (rsaN k held) 1)
        (if pad = 3 then resOk 0 (own (inputOf o))
         else match oaepOpen h k x (own (inputOf o)) with | some b => resOk 0 b | none => resFail 0x0128 0))) ∧
    (op = 0x0343 →
      let a := parseAttrs (slice o.inl 0 64)
      let n := materialLen a.keyType a.keyBits
      Room o (blobLen n) → ComputesDrawn (.rsaUnwrap id) s id 12 o (fun d =>
        validated (rsaFindings (inputOf o) k (rsaN k held) 1)
          (match oaepOpen (par o 64 1) k x (own (inputOf o)) with
           | some b => if b.length = n then derivedBlob s o a b (drawn d 0 12) resOk else resFail 0x0128 0
           | none => resFail 0x0128 0)))

/-- Rows 0x0401 to 0x0422, with a key held or in the order (07 R338 to R346). -/
def Obligations.KilnRows : Prop :=
  ∀ (s : State) (id op : Nat) (o : Order), Ready s id op o → s.drbg.up = true →
    let c := psetOf o
    let x := auxOf o
    let kdfAux := finding (o.auxLen != par o 66 2 + par o 68 2) 0x0125 1
    let signFound := finding (o.auxLen != par o 3 1) 0x0125 1 ++ pqDigestFindings o
    let det := bitOf (par o 2 1) 1
    let verifyFound (sigLen pkLen : Nat) : List Finding :=
      finding (x.length != sigLen + (if inlineKey o then pkLen else 0) + par o 3 1) 0x0125 (if inlineKey o then 2 else 3) ++
        pqDigestFindings o
    let pk (sigLen pkLen : Nat) : Bytes := if inlineKey o then slice x sigLen pkLen else matA o
    let ctx (sigLen pkLen : Nat) : Bytes := x.drop (sigLen + (if inlineKey o then pkLen else 0))
    (op = 0x0401 → Room o (kemCt c + targetBlobLen o) →
      let ek := if inlineKey o then inputOf o else matA o
      ComputesDrawn (.mlkemEncaps id) s id 44 o (fun d =>
        kilnValidated (kdfAux ++ kemKeyFindings c ek 2 ++ finding (!inlineKey o && o.inLen != 0) 0x0131 1)
          (kemBlob s o (take 32 (Config.kemShared c ek (drawn d 0 32))) (drawn d 32 12)
            (fun w b => resOk w (take (kemCt c) (Config.kemCipher c ek (drawn d 0 32)) ++ b))))) ∧
    (op = 0x0402 → Room o (targetBlobLen o) → ComputesDrawn (.mlkemDecaps id) s id 12 o (fun d =>
      kilnValidated (kdfAux ++ finding (o.inLen != kemCt c) 0x0131 1)
        (kemBlob s o (take 32 (Config.kemDecaps c (matA o) (inputOf o))) (drawn d 0 12) resOk))) ∧
    (op = 0x0411 → Room o (mldsaSig c) → ComputesDrawn (.mldsaSign id) s id (if det then 0 else 32) o (fun d =>
      let rnd := if det then zeros 32 else drawn d 0 32
      unlessBad (pqDigestCheck o true) <| kilnValidated signFound
        (if Config.mldsaStuck c (par o 0 1) (par o 1 1) (matA o) (pqText o) x rnd then resFail 0x0132 0
         else resOk 0 (take (mldsaSig c) (Config.mldsaSign c (par o 0 1) (par o 1 1) (matA o) (pqText o) x rnd))))) ∧
    (op = 0x0412 → Computes (.mldsaVerify id) s id
      (unlessBad (pqDigestCheck o true) <| kilnValidated (verifyFound (mldsaSig c) (mldsaPk c))
         (verdict (Config.mldsaVerify c (par o 0 1) (par o 1 1) (pk (mldsaSig c) (mldsaPk c)) (pqText o)
           (ctx (mldsaSig c) (mldsaPk c)) (x.take (mldsaSig c)))))) ∧
    (op = 0x0421 → Room o (slhSig c) → ComputesDrawn (.slhdsaSign id) s id (if det then 0 else slhN c) o (fun d =>
      unlessBad (pqDigestCheck o false) <| kilnValidated signFound
        (resOk 0 (take (slhSig c) (Config.slhSign c (par o 0 1) (par o 1 1) (matA o) (pqText o) x
          (if det then slice (matA o) (2 * slhN c) (slhN c) else drawn d 0 (slhN c))))))) ∧
    (op = 0x0422 → Computes (.slhdsaVerify id) s id
      (unlessBad (pqDigestCheck o false) <| kilnValidated (verifyFound (slhSig c) (2 * slhN c))
         (verdict (Config.slhVerify c (par o 0 1) (par o 1 1) (pk (slhSig c) (2 * slhN c)) (pqText o)
           (ctx (slhSig c) (2 * slhN c)) (x.take (slhSig c))))))

/-- Rows 0x0501 to 0x0541 (07 R354 to R358). -/
def Obligations.MillRows : Prop :=
  ∀ (s : State) (id op : Nat) (o : Order), Ready s id op o →
    (op = 0x0501 → Room o (hashOut o) →
      Computes (.hash id) s id (resOk 0 (take (hashOut o) (Config.hash (par o 0 1) (inputOf o))))) ∧
    (op = 0x0541 →
      (∀ st w, lmsForm (par o 0 1 == 2) (auxOf o) = .error (st, w) → Computes (.lmsVerify id) s id (resFail st w)) ∧
      (∀ n, lmsForm (par o 0 1 == 2) (auxOf o) = .ok n → Computes (.lmsVerify id) s id
        (verdict (Config.lmsVerify (par o 0 1 == 2) ((auxOf o).take n) (inputOf o) ((auxOf o).drop n))))) ∧
    (∀ ka, o.recA = some ka →
      let n := par o 1 1
      let hm := (take (hashLen (par o 0 1)) (Config.hmac (par o 0 1) ka.material (inputOf o))).take n
      let km := take n (if par o 0 1 = 1 then Config.kmac128 ka.material (inputOf o) n (auxOf o)
                        else Config.kmac256 ka.material (inputOf o) n (auxOf o))
      let judged (tag : Bytes) : Result := if tag = slice o.inl 8 n then resOk 0 [] else resFail 0x0112 0
      (op = 0x0511 → Room o n → Computes (.hmac id) s id (resOk 0 hm)) ∧
      (op = 0x0512 → Computes (.hmacVerify id) s id (judged hm)) ∧
      (op = 0x0521 → Room o n → Computes (.kmac id) s id (resOk 0 km)) ∧
      (op = 0x0522 → Computes (.kmacVerify id) s id (judged km)) ∧
      (op = 0x0531 → s.drbg.up = true → Room o (targetBlobLen o) → ComputesDrawn (.kdf id) s id 12 o (fun d =>
        if o.auxLen = par o 66 2 + par o 68 2 then kemBlob s o ka.material (drawn d 0 12) resOk else resFail 0x0125 1)))

/-- What keeps a firmware order from being decided on this part (09 R433; 10 R467, R468; 01 R41). -/
def Obligations.FirmwareRowsWait : Prop :=
  ∀ (c : Instr) (op id : Nat) (e : FwEnv) (s : State), fwRow c = some (op, id, e) → s.faults.phase = .running →
    let u := tick e.t s
    (order? s id = none → exec c s = .next u) ∧
    (∀ o, order? s id = some o →
      (o.opcode ≠ op ∨ o.stage ≠ .ready ∨ s.keeper.restarting = true ∨ o.fwLost = true → exec c s = .next u) ∧
      (followOnly u o = true → prepareFor u o = none → exec c s = .next u))

/-- The commit point (09 R431): `planned` is what every firmware row does with its plan. -/
def Obligations.PlansTakeEffect : Prop :=
  ∀ (u : State) (id : Nat) (o : Order) (p : Plan), order? u id = some o → isFirmware o.opcode = true → o.wfault = [] →
    let res : Result := { status := p.status, word := p.word, out := p.out, aux := p.aux }
    let t := planned id o (.done p, u)
    (p.items = [] → ∃ x, order? t id = some x ∧ x.stage = .done ∧ x.result = some res ∧ x.insts = [] ∧ x.outSent = true ∧
      t.mram = u.mram ∧ t.stalls = u.stalls ∧ t.keeper = u.keeper) ∧
    (p.items ≠ [] → o.commit = .none → (inlineOut o = true ∨ o.outSent = true) →
      u.egress.any (fun x => x.order == id) = false → overtaken u p.items = false → mirrored u = false → joining u = false →
      let w := applyItems id p.items (modOrder (modOrder (modOrder u id (fun x => { x with
        result := some res, items := p.items, stage := .waitCommit, compareAt := u.clock })) id (fun x => { x with outSent := true }))
        id (fun x => { x with commit := .pending, items := [] }))
      t = if p.items.any isHardReset then modOrder w id (fun x => { x with stage := .waitReset, commit := .done }) else w) ∧
    (p.items ≠ [] → o.commit = .none → inlineOut o = false → o.outSent = false → p.out ≠ [] →
      ∃ x, order? t id = some x ∧ x.stage = .waitCommit ∧ x.items = p.items ∧ x.result = some res ∧ x.commit = .none ∧
        t.mram = u.mram ∧ t.munim = u.munim ∧ t.stalls = u.stalls ∧ t.keeper = u.keeper ∧
        t.egress.any (fun y => y.order == id) = true)

/-- Items of a plan one by one (09 R431; 04 R198, R204, R213, R216, R226, R237; 14 R606, R608). -/
def Obligations.ItemEffects : Prop :=
  ∀ (s : State) (id : Nat),
    (∀ owner slot k,
      let t := applyItem id (.key owner slot k) s
      ∃ x, (keySlot t owner slot).key = some x ∧ x.gen = k.gen ∧ x.material = k.material ∧ x.kcv = k.kcv ∧ x.res = none ∧
        (kLedger k.attrs = false → x.attrs = { k.attrs with kstate := 0 }) ∧ (keySlot t owner slot).tomb = none ∧
        t.rings = s.rings ∧ t.stalls = s.stalls ∧ t.mram = s.mram) ∧
    (∀ owner slot next,
      let t := applyItem id (.keyGone owner slot none next) s
      keySlot t owner slot = KeySlot.reset ∧ t.rings = s.rings ∧ t.stalls = s.stalls ∧ t.mram = s.mram) ∧
    (∀ owner slot g next,
      let t := applyItem id (.keyGone owner slot (some g) next) s
      (keySlot t owner slot).tomb = some g ∧ (keySlot t owner slot).tombNext = next ∧
        (∀ x, (keySlot t owner slot).key = some x → x.gen ≠ g) ∧ t.rings = s.rings ∧ t.stalls = s.stalls ∧ t.mram = s.mram) ∧
    (∀ r, Tbl.find? (applyItem id (.ownerRec r) s).keeper.loaded r.owner = some r) ∧
    (∀ n, (∀ p ∈ s.worlds.deeds, ¬ (p.2 % 8 = 4 ∧ bits p.2 8 10 = n)) → applyItem id (.ownerGone n) s =
      { s with keeper := { s.keeper with loaded := Tbl.del s.keeper.loaded n } }) ∧
    (∀ owner seq word, applyItem id (.keep owner seq word) s = { s with keeper := { s.keeper with
      results := s.keeper.results.filter (fun r => r.1 != owner) ++ [(owner, seq, word)] } }) ∧
    (∀ b, applyItem id (.backup b) s = { s with munim := { s.munim with backup := b } }) ∧
    (∀ own r, applyItem id (.restore own r) s = { s with munim := { s.munim with
      restore := s.munim.restore.filter (fun x => x.owner != own) ++ r.toList } }) ∧
    (∀ bank trial, applyItem id (.bootRec bank trial) s = { s with mram := { s.mram with bootBank := bank, bootTrial := trial } }) ∧
    (∀ n v, applyItem id (.tallyUp n v) s = tallyAdd n v s) ∧
    (∀ svn, applyItem id (.floor svn) s = if (tally s 5).value < svn then tallyAdd 5 (svn - (tally s 5).value) s else s) ∧
    (∀ level, (applyItem id (.debugStage level) s).mram.dbgStaged = some level) ∧
    (∀ a d, let t := applyItem id (.flash a d) s
      t.mram.flash = memWrite Config.erasedByte s.mram.flash a d ∧ t.side.flashBusy = false ∧
        { t with mram := s.mram, side := s.side } = s)

/-- Rows 0x0602, 0x0603, 0x0608, 0x0609, 0x0610 (04 R195 to R211; 06 R315). -/
def Obligations.KeyRowsWithoutQuorum : Prop :=
  ∀ (s : State) (id op : Nat) (o : Order) (e : FwEnv), FwReady s id op o e →
    let u := tick e.t s
    let own := ownerOf u o
    let slot := hSlot o.keyA
    (op = 0x0603 →
      (∀ k v, named u o o.keyA anyType [] = .ok k →
        (Pays o k u v → Plans (.keyUnload id e) s id o { items := [.keyGone (hOwner o.keyA) slot none 0, .keyRecord o.keyA 3] } v) ∧
        (PutsOff o k u v → exec (.keyUnload id e) s = .next (gate s v))) ∧
      (∀ st w, named u o o.keyA anyType [] = .error (st, w) → Fails (.keyUnload id e) s id o e st w)) ∧
    (op = 0x0602 → ((ownerRec u own).isNone = true → Fails (.keyLoad id e) s id o e 0x0215 0) ∧
      (∀ b, (ownerRec u own).isSome = true → openBlob u 1 (inputOf o) = .ok b →
        let h := field (inputOf o) 8 8
        let a := { parseAttrs b.attrs with kstate := 0 }
        let held := ∃ k, (keySlot u (hOwner h) (hSlot h)).key = some k ∧ k.gen = hGen h
        (hOwner h ≠ own → Fails (.keyLoad id e) s id o e 0x0203 0) ∧
        (hOwner h = own → held → Plans (.keyLoad id e) s id o { word := h } u) ∧
        (hOwner h = own → ¬ held →
          firstBad [slotCheck u o.stall h, ledgerCheck u own (parseAttrs b.attrs), tdeaCheck u (parseAttrs b.attrs).keyType,
                    roomCheck u own (parseAttrs b.attrs)] = none →
          (unwrapOk b e = true → Plans (.keyLoad id e) s id o
            { word := h, items := [.key own (hSlot h) { gen := hGen h, attrs := a, material := b.body, kcv := b.kcv, res := none },
                                   .keyRecord h (usedUp u a)] } u) ∧
          (unwrapOk b e = false → exec (.keyLoad id e) s = .next (gate s (unwrapFault o u)))))) ∧
    (op = 0x0608 → ∀ old w x, named u o o.keyA anyType [] = .ok old → lockSlot o u = some w →
      let a := parseAttrs (params o)
      let a1 : Attrs := { a with ledgerBase := if kLedger old.attrs then old.attrs.ledgerBase else (bound x a).ledgerBase,
                                 predecessor := o.keyA }
      let k : KeyRec := { gen := old.gen + 1, attrs := a1, material := old.material, kcv := old.kcv, res := none }
      let h := mkHandle (hOwner o.keyA) slot (old.gen + 1)
      (old.gen = 0xFFFFFF → Plans (.keyNarrow id e) s id o { status := 0x0218 } w) ∧
      (old.gen ≠ 0xFFFFFF → widens old.attrs a = true → newAttrs w own a = none → Plans (.keyNarrow id e) s id o { status := 0x0213 } w) ∧
      (old.gen ≠ 0xFFFFFF → widens old.attrs a = false → newAttrs w own a = none → Room o (blobLen old.material.length) →
        (Pays o old w x → ∀ b, keyBlob (draw 12 x).2 h k (draw 12 x).1 = some b → Plans (.keyNarrow id e) s id o
          { word := h, out := b, items := [.key (hOwner o.keyA) slot k, .keyGone (hOwner o.keyA) slot (some (hGen o.keyA)) h,
                                           .keyRecord o.keyA 2, .keyRecord h (enterState x false a1)] } (draw 12 x).2) ∧
        (PutsOff o old w x → exec (.keyNarrow id e) s = .next (gate s x)))) ∧
    (op = 0x0609 → ∀ k v, named u o o.keyA (fun t => !(isAes t || isChacha t || isTdea t || keyFam t == some .secret)) [] = .ok k →
      Room o (publicOf k.attrs k.material).length →
      (Pays o k u v → Plans (.keyPublic id e) s id o { out := publicOf k.attrs k.material } v) ∧
      (PutsOff o k u v → exec (.keyPublic id e) s = .next (gate s v))) ∧
    (op = 0x0610 → ((ownerRec u own).isNone = true → Fails (.blobRewrap id e) s id o e 0x0215 0) ∧
      (∀ b omk, (ownerRec u own).isSome = true → openBlob u 1 (inputOf o) = .ok b → hOwner b.handle = own →
        omkOf u own (curEpoch u own) = some omk → Room o (blobLen b.body.length) →
        (unwrapOk b e = true → Plans (.blobRewrap id e) s id o
          { word := curEpoch u own, out := sealBlob omk 1 b.handle b.attrs b.kcv (curEpoch u own) b.body (draw 12 u).1 } (draw 12 u).2) ∧
        (unwrapOk b e = false → exec (.blobRewrap id e) s = .next (gate s (unwrapFault o u)))))

/-- Rows 0x0601, 0x0604 to 0x0607 (04 R199 to R206, R226; 05 R262). -/
def Obligations.KeyRowsWithQuorum : Prop :=
  ∀ (s : State) (id op : Nat) (o : Order) (e : FwEnv) (ap : Option Approval) (v : State), FwReady s id op o e →
    let u := tick e.t s
    let own := ownerOf u o
    let h := o.keyA
    let slot := hSlot h
    let a := parseAttrs (params o)
    let m := materialLen a.keyType a.keyBits
    let made (w : State) (mat : Bytes) : KeyRec := { gen := hGen h, attrs := bound w a, material := mat, kcv := kcvOf mat, res := none }
    let stored (w : State) (mat pub : Bytes) (b : Bytes) : Plan :=
      { word := h, out := b, aux := pub,
        items := [.key (hOwner h) slot (made w mat), .keyRecord h (usedUp (draw 12 w).2 (bound w a))] ++ seqItems (draw 12 w).2 ap ++
                 keeps ap h }
    let q := kQuorum a || hasUsage a uWrapOut
    (op = 0x0601 → Fresh q u o own →
      firstBad [slotCheck u o.stall h, newAttrs u own a, refuse (!generable a.keyType) 0x020A 0, tdeaCheck u a.keyType,
                roomCheck u own a] = none → GoesOn q u o e own ap v →
      capWord o (blobLen m) (if isPair a.keyType then publicLen a.keyType a.keyBits else 0) = none →
      let mat := newMaterial a v
      (e.testOk = false → Plans (.keyGenerate id e) s id o { status := 0x0511 } v) ∧
      (e.testOk = true → ∀ b, keyBlob (draw 12 mat.2).2 h (made mat.2 mat.1) (draw 12 mat.2).1 = some b → Plans (.keyGenerate id e) s id o
        (stored mat.2 mat.1 (if isPair a.keyType then publicOf a mat.1 else []) b) (draw 12 mat.2).2)) ∧
    (op = 0x0604 → Fresh true u o own → o.charged = true → ∀ kb mat,
      firstBad [slotCheck u o.stall h, newAttrs u own a, refuse (kDeviceNonce a) 0x0219 6, tdeaCheck u a.keyType,
                roomCheck u own a] = none →
      named u o o.keyB (wrapType (par o 64 1)) [uUnwrap] = .ok kb →
      firstBad [refuse (isTdea kb.attrs.keyType && kb.attrs.keyType != 0x0106) 0x0242 0, refuse (kDeviceNonce kb.attrs) 0x0240 0] = none →
      GoesOn true u o e own ap v → Room o (blobLen m) →
      unwrapInput o (par o 64 1) kb a = .ok mat → mat.length = m → importFindings a mat = none →
      ∀ b, keyBlob (draw 12 v).2 h (made v mat) (draw 12 v).1 = some b →
        Plans (.keyImport id e) s id o (stored v mat [] b) (draw 12 v).2) ∧
    (op = 0x0605 → Fresh true u o own → o.charged = true → ∀ ka kb,
      named u o h anyType [uWrapOut] = .ok ka → named u o o.keyB (wrapType (par o 0 1)) [uWrap] = .ok kb →
      kDeviceNonce kb.attrs = false → (isTdea kb.attrs.keyType && !tdeaMayEncrypt kb.attrs) = false →
      GoesOn true u o e own ap v →
      (par o 0 1 = 1 → Room o (roundUp ka.material.length 8 + 8) → Plans (.keyExport id e) s id o
        { out := kwpWrap kb.material ka.material, items := seqItems v ap ++ keeps ap 0 } v) ∧
      (∀ x, par o 0 1 = 2 → kbMapping ka.attrs = some x → Room o (kbLen (isAes kb.attrs.keyType) 16 ka.material.length) →
        Plans (.keyExport id e) s id o
          { out := sealKeyBlock (isAes kb.attrs.keyType) kb.material (kbHeader x) ka.material (draw 16 v).1,
            items := seqItems (draw 16 v).2 ap ++ keeps ap 0 } (draw 16 v).2)) ∧
    (op = 0x0606 → Fresh true u o own → ∀ old w, named u o h anyType [] = .ok old → lockSlot o u = some w → old.gen ≠ 0xFFFFFF →
      GoesOn (kQuorum old.attrs) w o e own ap v → Room o (blobLen old.material.length) → generable old.attrs.keyType = true →
      ledgerCheck v own old.attrs = none → ∀ y, (PutsOff o old v y → exec (.keyReplace id e) s = .next (gate s y)) ∧
      (Pays o old v y → e.testOk = true →
      let mat := newMaterial old.attrs y
      let k : KeyRec := { gen := old.gen + 1, attrs := bound mat.2 { old.attrs with kstate := 0, predecessor := h },
                          material := mat.1, kcv := kcvOf mat.1, res := none }
      let n := mkHandle (hOwner h) slot (old.gen + 1)
      let x := (draw 12 mat.2).2
      ∀ b, keyBlob x n k (draw 12 mat.2).1 = some b → Plans (.keyReplace id e) s id o
        { word := n, out := b,
          items := [.key (hOwner h) slot k, .keyGone (hOwner h) slot (some (hGen h)) n] ++ seqItems x ap ++
                   [.keyRecord h 2, .keyRecord n (enterState x false k.attrs)] ++ keeps ap n } x)) ∧
    (op = 0x0607 → Fresh true u o own → ∀ old w, named u o h anyType [] = .ok old →
      (lockSlot o u = none → Fails (.keyRetire id e) s id o e 0x0217 0) ∧
      (lockSlot o u = some w → GoesOn (kQuorum old.attrs) w o e own ap v → ∀ y,
        (Pays o old v y → Plans (.keyRetire id e) s id o
          { items := [.keyGone own slot (some old.gen) 0] ++ seqItems y ap ++ [.keyRecord h 2] ++ keeps ap 0 } y) ∧
        (PutsOff o old v y → exec (.keyRetire id e) s = .next (gate s y))))

/-- Rows 0x0620 to 0x0623 (04 R209 to R217). -/
def Obligations.MasterKeyRows : Prop :=
  ∀ (s : State) (id op : Nat) (o : Order) (e : FwEnv) (r : OwnerRec), FwReady s id op o e →
    let u := tick e.t s
    let own := ownerOf u o
    let ix := par o 1 1
    ownerRec u own = some r →
    (op = 0x0620 → Fresh true u o own → ∀ i m a v img, validSlots u (4 * own) = [(i, m)] → GoesOn true u o e own (some a) v →
      (e.testOk = false → Plans (.masterRotate id e) s id o { status := 0x0511 } (draw 32 v).2) ∧
      (e.testOk = true →
        masterImg (draw 32 v).2 own (draw 32 v).1 (m.epoch + 1) a.seq own (nextWcount (draw 32 v).2 (4 * own)) a.pdigest = some img →
        Plans (.masterRotate id e) s id o
          { word := m.epoch + 1, items := [.mram (4 * own) (1 - i) (some img), .keep a.owner a.seq (m.epoch + 1)] } (draw 32 v).2)) ∧
    (op = 0x0621 → ∀ a v, GoesOn true u o e own (some a) v →
      (∀ p, prevSlot v own = some p → Plans (.masterRetireOld id e) s id o
        { word := p.2.epoch, items := [.mram (4 * own) p.1 none, seqItem v a, .keep a.owner a.seq p.2.epoch] } v) ∧
      (prevSlot v own = none → Plans (.masterRetireOld id e) s id o { items := [seqItem v a, .keep a.owner a.seq 0] } v)) ∧
    (op = 0x0622 → u.munim.backup = none → (u.munim.backupLost.contains own = false ∨ parseApprovals (auxOf o) ≠ .absent) →
      portCheck u o own = none → o.cardData = none → ∀ m omk a v, masterSlot u own = some m → unwrapOmk u own m.2 = some omk →
      GoesOn true u o e own (some a) v →
      ((holders r).length < r.m → Plans (.masterBackup id e) s id o { status := 0x0726 } v) ∧
      (r.m ≤ (holders r).length →
        exec (.masterBackup id e) s = .next (gate s (askCard id (.put (par o 0 1) own ix) (openBackup own r m.2 omk a v))))) ∧
    (op = 0x0622 → ∀ b, u.munim.backup = some b →
      (b.owner ≠ own → Fails (.masterBackup id e) s id o e 0x0221 0) ∧
      (b.owner = own → portCheck u o own = none → ∀ d, o.cardData = some d →
        let given := if b.given.contains ix then b.given else b.given ++ [ix]
        let hs := (holders r).map (fun c => c.index)
        (hs.all (fun i => given.contains i) = false → Plans (.masterBackup id e) s id o
          { status := 2, word := given.length, items := [.backup (some { b with given := given })] } u) ∧
        (hs.all (fun i => given.contains i) = true → Plans (.masterBackup id e) s id o
          { word := given.length,
            items := [anchorItem u (4 * own + 2) 3 own b.epoch (some { owner := own, seq := b.seq, pdigest := b.pdigest })
                        (b.shareId ++ leBytes 1 b.m ++ leBytes 1 hs.length ++ leBytes 2 (maskOf hs) ++ kcvOf b.omk), .backup none] } u))) ∧
    (op = 0x0623 → ∀ c, currentSlot u (4 * own + 2) = some c →
      (∀ omk, anyOmk u own = some omk →
        (holdsOmk u own (slice c.2.payload 20 8) = true →
          Fails (.masterRestore id e) s id o e 0x0001 (field c.2.payload 16 1 + c.2.epoch * 2 ^ 32)) ∧
        (holdsOmk u own (slice c.2.payload 20 8) = false → Fails (.masterRestore id e) s id o e 0x0221 0)) ∧
      (anyOmk u own = none → ∀ d, portCheck u o own = none →
        let x := heldShares u own
        x.shares.any (fun p => p.1 == ix) = false → o.cardData = some d → d.take 16 = c.2.payload.take 16 → d.length = 49 →
        let shares := x.shares ++ [(ix, field d 16 1, slice d 17 32)]
        (shares.length < field c.2.payload 16 1 → Plans (.masterRestore id e) s id o
          { status := 2, word := shares.length, items := [.restore own (some { x with shares := shares })] } u) ∧
        (field c.2.payload 16 1 ≤ shares.length → kcvOf (combine shares) ≠ slice c.2.payload 20 8 →
          Plans (.masterRestore id e) s id o { status := 0x0724, word := ix } (setRestore own none u)) ∧
        (field c.2.payload 16 1 ≤ shares.length → kcvOf (combine shares) = slice c.2.payload 20 8 → ∀ img,
          masterImg u own (combine shares) c.2.epoch 0 0xFFFF 1 (zeros 16) = some img → Plans (.masterRestore id e) s id o
            { word := shares.length + c.2.epoch * 2 ^ 32,
              items := [.mram (4 * own) 0 none, .mram (4 * own) 1 none, .mram (4 * own) 0 (some img), .restore own none] } u)))

/-- Rows 0x0630 to 0x0633 (04 R203, R218, R219). -/
def Obligations.RosterRows : Prop :=
  ∀ (s : State) (id op : Nat) (o : Order) (e : FwEnv), FwReady s id op o e →
    let u := tick e.t s
    let own := ownerOf u o
    (ownerRec u own = none → Fresh true u o own →
      (op = 0x0630 → Fails (.custodianEnrol id e) s id o e 0x0215 0) ∧ (op = 0x0631 → Fails (.custodianRemove id e) s id o e 0x0215 0) ∧
      (op = 0x0632 → Fails (.quorumSet id e) s id o e 0x0215 0) ∧ (op = 0x0633 → Fails (.quorumStatus id e) s id o e 0x0215 0)) ∧
    (∀ r, ownerRec u own = some r →
      (∀ a v, Fresh true u o own → GoesOn true u o e own (some a) v →
        let outcome (c : Instr) (bad : Verdict) (n : OwnerRec) : Prop :=
          (∀ f, bad = some f → Plans c s id o { status := f.1, word := f.2 } v) ∧
          (bad = none → Room o (blobLen (ownerBody n).length) → ∀ omk, omkOf v n.owner (curEpoch v n.owner) = some omk →
            let w := (draw 12 v).2
            Plans c s id o { word := n.version, out := ownerBlob omk (curEpoch w n.owner) n (draw 12 v).1,
                             items := [.ownerRec n, recordItem w n (some a), .keep a.owner a.seq n.version] } w)
        let c := parseCustodian (opAux o)
        let ix := par o 0 1
        (op = 0x0630 → outcome (.custodianEnrol id e)
          (firstBad [refuse (!custodianOk (opAux o)) 0x0125 1,
                     refuse (decide (16 ≤ r.n) || r.custodians.any (fun x => x.index == c.index)) 0x0722 0])
          { r with custodians := insertCustodian c r.custodians, n := r.n + 1, version := r.version + 1 }) ∧
        (op = 0x0631 → outcome (.custodianRemove id e)
          (firstBad [refuse (!r.custodians.any (fun x => x.index == ix)) 0x0706 ix, refuse (r.n - 1 < r.m) 0x0723 0])
          { r with custodians := r.custodians.filter (fun x => x.index != ix), n := r.n - 1, version := r.version + 1 }) ∧
        (op = 0x0632 → outcome (.quorumSet id e) (refuse (ix < 2 || r.n < ix) 0x0721 0) { r with m := ix, version := r.version + 1 })) ∧
      (op = 0x0633 → Room o 64 → ∀ prev share,
        prev = (match prevSlot u own with | some p => p.2.epoch | none => 0) →
        share = (match currentSlot u (4 * own + 2) with | some p => p.2.epoch | none => 0) →
        Plans (.quorumStatus id e) s id o
          { word := (lastDone u own).1,
            out := leBytes 8 (lastDone u own).1 ++ leBytes 4 u.vigil.seconds.toNat ++ [if u.vigil.timeValid then 1 else 0] ++
              leBytes 1 r.m ++ leBytes 1 r.n ++ [0] ++ leBytes 2 (maskOf (r.custodians.map (fun c => c.index))) ++ zeros 2 ++
              leBytes 4 (curEpoch u own) ++ leBytes 4 prev ++ leBytes 4 share ++ fit 16 (lastDone u own).2 ++ zeros 16 } u))

/-- Rows 0x0701 to 0x0731 (13 R576 to R588; 04 R239). -/
def Obligations.RecordRows : Prop :=
  ∀ (s : State) (id op : Nat) (o : Order) (e : FwEnv), FwReady s id op o e →
    let u := tick e.t s
    let n := par o 0 2
    (op = 0x0701 →
      (pushCheck u true n = none → Plans (.hostMeasure id e) s id o
        { word := hostIndex u, items := [.bootBlk 0x10 (hostIndex u) n (par o 4 4) (slice o.inl 16 48)] } u) ∧
      (∀ st w, pushCheck u true n = some (st, w) → Fails (.hostMeasure id e) s id o e st w)) ∧
    (op = 0x0702 →
      ((tally u 0).exhausted = true → Fails (.bootClose id e) s id o e 0x0345 (oldestBoot u)) ∧
      ((tally u 0).exhausted = false → u.day.bootOpen = false → Fails (.bootClose id e) s id o e 0x0342 (bootNumber u)) ∧
      ((tally u 0).exhausted = false → u.day.bootOpen = true →
        Plans (.bootClose id e) s id o { word := bootNumber u, items := [.bootClose 1] } u)) ∧
    (op = 0x0730 →
      (s.faults.skipStep4 = true → Fails (.tallyRead id e) s id o e 0x0353 s.faults.lifecycle) ∧
      (s.faults.skipStep4 = false → tallyCheck u o true = none →
        Plans (.tallyRead id e) s id o { word := tallyWord (tally u n) } u)) ∧
    (op = 0x0731 → tallyCheck u o false = none →
      (par o 8 8 = 0 → Fails (.tallyAdvance id e) s id o e 0x0118 8) ∧
      (par o 8 8 ≠ 0 → (tally u n).exhausted = true → Fails (.tallyAdvance id e) s id o e 0x0340 (tallyWord (tally u n))) ∧
      (par o 8 8 ≠ 0 → (tally u n).exhausted = false →
        let after := tally (tallyAdd n (par o 8 8) u) n
        Plans (.tallyAdvance id e) s id o
          { status := if after.worn then 0x0340 else if after.exhausted then 0x0003 else 0, word := tallyWord after,
            items := [.tallyUp n (par o 8 8)] } u)) ∧
    (op = 0x0720 →
      (s.faults.skipStep4 = true → Fails (.genuine id e) s id o e 0x0353 s.faults.lifecycle) ∧
      (∀ k, s.faults.skipStep4 = false → recognition u = some k → Room o 48 → Plans (.genuine id e) s id o
        { out := take 48 (Config.hmac 2 k (ascii "UT-GENUINE" ++ serial ++ params o)) } u)) ∧
    (op = 0x0710 →
      (s.faults.skipStep4 = true → Fails (.rollExport id e) s id o e 0x0353 s.faults.lifecycle) ∧
      (s.faults.skipStep4 = false → u.munim.ids = true → par o 0 1 = 1 → exportSide u (par o 1 1) = none →
        (rollEntry? u (par o 8 8) = none → Fails (.rollExport id e) s id o e 0x0345 (oldestRoll u)) ∧
        (∀ x, rollEntry? u (par o 8 8) = some x → rollTagOk u x = false → Plans (.rollExport id e) s id o
          { status := 0x0346, word := x.number } (note 0x01 17 u)) ∧
        (∀ x ec pq, rollEntry? u (par o 8 8) = some x → rollTagOk u x = true → idClassical u = some ec → idPostQuantum u = some pq →
          Room o (64 + exportTail) →
          let st := exportStatement 1 0 (x.number + (tally u 3).value % 2 ^ 32 * 2 ^ 32) (sha384 (rollBytes x)) (rollHead u) (slice o.inl 16 32)
          Plans (.rollExport id e) s id o
            { word := x.number,
              out := rollBytes x ++ st ++ (take 96 (Config.ecdsaP384Sign ec (sha384 st)) ++
                     take 3309 (Config.mldsa65Sign pq st (ascii "UT-ROLL"))) } u)) ∧
      (s.faults.skipStep4 = false → u.munim.ids = true → par o 0 1 = 2 → exportSide u (par o 1 1) = none →
        (bootEntry? u (par o 8 8) = none → Fails (.rollExport id e) s id o e 0x0345 (oldestBoot u)) ∧
        (∀ x, bootEntry? u (par o 8 8) = some x → bootTagsOk u x = false → Plans (.rollExport id e) s id o
          { status := 0x0346, word := x.boot } (note 0x01 17 u)) ∧
        (∀ x ec pq, bootEntry? u (par o 8 8) = some x → bootTagsOk u x = true → idClassical u = some ec → idPostQuantum u = some pq →
          let b := bootHeader x ++ (x.blocks.map bootBlock).flatten
          Room o (b.length + exportTail) →
          let st := exportStatement 2 (if u.day.bootCur = some x.boot then 1 else 0) x.boot (bootM x) (bootHead u) (slice o.inl 16 32)
          Plans (.rollExport id e) s id o
            { word := x.boot,
              out := b ++ st ++ (take 96 (Config.ecdsaP384Sign ec (sha384 st)) ++
                     take 3309 (Config.mldsa65Sign pq st (ascii "UT-ROLL"))) } u)))

/-- Rows 0x0F01 to 0x0F04 (04 R234 to R237). -/
def Obligations.OwnerRows : Prop :=
  ∀ (s : State) (id op : Nat) (o : Order) (e : FwEnv), FwReady s id op o e →
    let u := tick e.t s
    let n := par o 0 2 % 1024
    (op = 0x0F01 → Fresh true u o 0 → (∀ l, approvalsOf o ≠ .good l) → e.agree = true → e.copies = true →
      let w := holdClear .quorum u
      ∀ st x, decideQuorum w o (gateFor u o 0) = .fail st x →
        Plans (.ownerCreate id e) s id o { status := st, word := x } (recordFail w o 0 st x)) ∧
    (op = 0x0F01 → Fresh true u o 0 → (∃ l, approvalsOf o = .good l) → ∀ cs a v img, newRoster (opAux o) (par o 20 1) (par o 21 1) = some cs →
      let r := blockOwner o 1 cs
      firstBad [refuse (n = 0 || ownerState u n != 0) 0x0328 0, refuse (allotmentBad u n r.tallyFirst r.tallyCount) 0x0214 0,
                ownerFields o] = none →
      GoesOn true u o e 0 (some a) v → Room o (blobLen (ownerBody r).length) →
      let w := (draw 12 (draw 32 v).2).2
      masterImg w n (draw 32 v).1 1 0 0xFFFF 1 (zeros 16) = some img → Plans (.ownerCreate id e) s id o
        { word := n, out := ownerBlob (draw 32 v).1 1 r (draw 12 (draw 32 v).2).1,
          items := [.mram (4 * n) 0 (some img), .mram (4 * n) 1 none, anchorItem w (4 * n + 3) 4 n 0 none [], .ownerRec r,
                    recordItem w r (some a), .keep a.owner a.seq n] } w) ∧
    (op = 0x0F02 → Fresh true u o 0 →
      (n = 0 → Fails (.ownerRetire id e) s id o e 0x0329 0) ∧
      (n ≠ 0 → ownerActive u n = true → (stallsOf u n).isEmpty = false → Fails (.ownerRetire id e) s id o e 0x0326 0) ∧
      (n ≠ 0 → ownerActive u n = true → (stallsOf u n).isEmpty = true → ∀ m a v, currentSlot u (4 * n + 1) = some m →
        GoesOn true u o e 0 (some a) v → Plans (.ownerRetire id e) s id o
          { items := [retiringItem v n m.2 (some a), .ownerGone n] ++ eraseEntry (4 * n) ++ eraseEntry (4 * n + 2) ++
                     eraseEntry (4 * n + 3) ++ eraseEntry (4 * n + 1) ++ [.keep a.owner a.seq 0] } v)) ∧
    (op = 0x0F03 → ∀ x y, openBlob u 2 (inputOf o) = .ok x →
      let k := hOwner (field (inputOf o) 8 8)
      (currentSlot u (4 * k + 1) = none → Fails (.ownerLoad id e) s id o e 0x0220 0) ∧
      (currentSlot u (4 * k + 1) = some y →
        let vouches := retiringMark y.2 = false ∧ bits x.handle 0 24 = y.2.epoch ∧ sha384 x.body = y.2.payload.take 48
        (vouches → Plans (.ownerLoad id e) s id o { word := k, items := [.ownerBlob (inputOf o)] } u) ∧
        (¬ vouches → Fails (.ownerLoad id e) s id o e 0x0220 y.2.epoch))) ∧
    (op = 0x0F04 →
      let g : GateArgs := { gateFor u o n with
        required := if n = 0 then [(0, ownerRec u 0)] else [(n, ownerRec u n), (0, ownerRec u 0)] }
      ifApplied u o g = none →
      (ownerActive u n = false → Fails (.ownerPolicy id e) s id o e 0x0324 0) ∧
      (∀ old a v omk, ownerActive u n = true → ownerRec u n = some old →
        let r := blockOwner o (old.version + 1) old.custodians
        firstBad [refuse (r.m ≠ old.m || r.n ≠ old.n) 0x0721 0, refuse (allotmentBad u n r.tallyFirst r.tallyCount) 0x0214 0,
                  ownerFields o] = none →
        Approved u o e g a v → Room o (blobLen (ownerBody r).length) → omkOf v r.owner (curEpoch v r.owner) = some omk →
        let w := (draw 12 v).2
        Plans (.ownerPolicy id e) s id o
          { out := ownerBlob omk (curEpoch w r.owner) r (draw 12 v).1,
            items := [.ownerRec r, recordItem w r (some a), .keep a.owner a.seq 0] } w))

/-- Rows 0x0F10 to 0x0F12 (03 R133 to R137, R681). -/
def Obligations.StallRows : Prop :=
  ∀ (s : State) (id op : Nat) (o : Order) (e : FwEnv), FwReady s id op o e →
    let u := tick e.t s
    let b := bindBlk o
    let st := par o 0 2
    (op = 0x0F10 → ∀ r, ownerRec u b.owner = some r → Fresh (r.bindRule == 0) u o b.owner →
      (∀ f, bindFields b = some f → Fails (.stallBind id e) s id o e f.1 f.2) ∧
      (bindFields b = none → ownerActive u b.owner = false → Fails (.stallBind id e) s id o e 0x0324 0) ∧
      (bindFields b = none → ownerActive u b.owner = true → ∀ f, bindChecks u b r = some f →
        Fails (.stallBind id e) s id o e f.1 f.2) ∧
      (bindFields b = none → ownerActive u b.owner = true → bindChecks u b r = none → ∀ ap v,
        GoesOn (r.bindRule == 0) u o e b.owner ap v →
        let gen := (stall v b.stall).gen + 1
        Plans (.stallBind id e) s id o
          { word := gen.toNat, items := [.bind b gen] ++ seqItems v ap ++ keeps ap gen.toNat } v)) ∧
    (∀ free c, (op = 0x0F11 ∧ free = true ∧ c = .stallUnbind id e ∨ op = 0x0F12 ∧ free = false ∧ c = .stallReset id e) →
      (4095 < st → Fails c s id o e 0x0118 0) ∧
      (st = 0 → Fails c s id o e 0x0325 0) ∧
      (0 < st → st ≤ 4095 → (stall u st).state = .free → Fails c s id o e 0x0320 0) ∧
      (0 < st → st ≤ 4095 → (stall u st).state ≠ .free → Plans c s id o { items := [.hardReset st free] } u))

/-- Rows 0x0F20 to 0x0F22, 0x0F30, 0x0F40, 0x0F41 (10 R439, R479, R482; 12 R527; 14 R611, R613). -/
def Obligations.PairAndPlatformRows : Prop :=
  ∀ (s : State) (id op : Nat) (o : Order) (e : FwEnv), FwReady s id op o e →
    let u := tick e.t s
    let side := par o 0 1
    let v0 := par o 0 4
    (op = 0x0F20 → Fresh true u o 0 → ∀ a v,
      firstBad [
        refuse (1 < side) 0x0118 0,
        refuse (u.mram.pairRec.isSome || (u.faults.lifecycle != 2 && u.faults.lifecycle != 3) || (twinNamed u).isNone) 0x0330 0,
        refuse (side = 1 && (u.keeper.loaded.any (fun p => p.1 != 0) || (List.range 1024).any (fun n => n != 0 && ownerState u n != 0) ||
          (boundStalls u).any (fun b => b.1 != 0))) 0x0332 0,
        refuse ((ownerRec u 0).isNone) 0x0215 0] = none →
      GoesOn true u o e 0 (some a) v →
      exec (.pairBind id e) s = .next (gate s (helloBoth (startHandshake 1
        { modOrder v id (fun x => { x with stage := .waitPair }) with pair := { v.pair with hsOrder := some id, hsPurpose := 1 } })))) ∧
    (op = 0x0F21 → Fresh true u o 0 →
      (u.mram.pairRec = none → Fails (.pairUnbind id e) s id o e 0x0330 0) ∧
      (u.mram.pairRec.isSome = true → (ownerRec u 0).isSome = true → ∀ a v, GoesOn true u o e 0 (some a) v →
        Plans (.pairUnbind id e) s id o { items := [seqItem v a, .pairGone, .keep a.owner a.seq 0] } v)) ∧
    (op = 0x0F22 →
      let waiting := u.pair.state = psSole ∧ u.pair.session = true ∧ (u.pair.twinState = psWaiting ∨ u.pair.twinState = psJoining) ∧
        u.pair.joinOrder = none
      (¬ waiting → Fails (.pairJoin id e) s id o e 0x0330 0) ∧
      (waiting → exec (.pairJoin id e) s = .next (gate s (sendStream
        { modOrder u id (fun x => { x with stage := .waitPair }) with
          pair := { u.pair with joinOrder := some id, joinTries := 1, resyncRecords := 0 } })))) ∧
    (op = 0x0F30 →
      let g : GateArgs := { gateFor u o 0 with window := u.vigil.timeValid }
      let cur := u.vigil.seconds.toNat
      ifApplied u o g = none →
      (u.vigil.timeValid = true → v0 + 300 < cur → Fails (.vigilSetTime id e) s id o e 0x0118 0) ∧
      (∀ a v, (u.vigil.timeValid = false ∨ cur ≤ v0 + 300) → Approved u o e g a v → Plans (.vigilSetTime id e) s id o
        { word := cur + (if v.vigil.timeValid then 2 ^ 32 else 0),
          items := [seqItem v a, .vigilTime v0, .keep a.owner a.seq (cur + (if v.vigil.timeValid then 2 ^ 32 else 0))] } v)) ∧
    (op = 0x0F40 → Fresh true u o 0 → (ownerRec u 0).isSome = true → (∃ l, approvalsOf o = .good l) →
      (∀ f, checkPdb u (opAux o) = .error f → Fails (.pdbApply id e) s id o e f.1 f.2) ∧
      (∀ p a v, checkPdb u (opAux o) = .ok p → GoesOn true u o e 0 (some a) v → Plans (.pdbApply id e) s id o
        { word := p.version, items := [seqItem v a, .pdb p, .keep a.owner a.seq p.version] } v)) ∧
    (op = 0x0F41 → Fresh true u o 0 → (ownerRec u 0).isSome = true → (∃ l, approvalsOf o = .good l) →
      let b := opAux o
      ((calibForm b = false ∨ field b 8 4 ≤ calibVersion u) → Fails (.calibApply id e) s id o e 0x0352 0) ∧
      (∀ a v, calibForm b = true → calibVersion u < field b 8 4 → GoesOn true u o e 0 (some a) v →
        let n := (applyCalib b v).1
        Plans (.calibApply id e) s id o { word := n, items := [seqItem v a, .calib b, .keep a.owner a.seq n] } v))

/-- Rows 0x0F50 to 0x0F56 (14 R616 to R623). -/
def Obligations.LifecycleRows : Prop :=
  ∀ (s : State) (id op : Nat) (o : Order) (e : FwEnv), FwReady s id op o e →
    let u := tick e.t s
    let aux := opAux o
    (∀ dst c, (op = 0x0F51 ∧ dst = 3 ∧ c = .lcDeploy id e ∨ op = 0x0F52 ∧ dst = 4 ∧ c = .lcQuarantine id e) →
      Fresh true u o 0 → (ownerRec u 0).isSome = true → ∀ a v, Approved u o e (gateFor u o 0) a v →
      Plans c s id o { items := [.lifecycle dst a.seq a.pdigest, .keep a.owner a.seq 0] } (transition dst v)) ∧
    (op = 0x0F50 → (∃ l, approvalsOf o = .good l) → ∀ p cs, checkPdb u (aux.take 96) = .ok p → newRoster (aux.drop 96) (par o 20 1) (par o 21 1) = some cs →
      let r := blockOwner o 1 cs
      let all : OwnerRec := { r with m := r.n }
      let g : GateArgs := { gateFor u o 0 with required := [(0, some all)], owner0 := some all, window := false }
      firstBad [refuse (par o 0 2 % 1024 ≠ 0) 0x0118 0, refuse (allotmentBad u 0 r.tallyFirst r.tallyCount) 0x0214 0,
                ownerFields o] = none →
      Room o (blobLen (ownerBody r).length) → ∀ a v, Approved u o e g a v →
      let x := takeSeed (setVigilTime (par o 32 4) v)
      (x.1 = false → Plans (.lcCommission id e) s id o { status := 0x0354 } x.2) ∧
      (x.1 = true → ∀ img,
        let y := draw 32 x.2
        let z := draw 12 y.2
        masterImg (withRoot z.2) 0 y.1 1 0 0xFFFF 1 (zeros 16) = some img → Plans (.lcCommission id e) s id o
          { out := ownerBlob y.1 1 r z.1,
            items := [.rootCheck, .pdb p, .mram 0 0 (some img), .mram 0 1 none, anchorItem z.2 3 4 0 0 none [], .ownerRec r,
                      recordItem z.2 r (some a), .lifecycle 2 a.seq a.pdigest, .keep a.owner a.seq 0] } (transition 2 z.2))) ∧
    (op = 0x0F53 →
      (u.faults.lifecycle = 5 → Fails (.lcZeroize id e) s id o e 0x0001 0) ∧
      (u.faults.lifecycle ≠ 5 → (ownerRec u 0).isSome = true → ∀ a v, Approved u o e (gateFor u o 0) a v →
        Plans (.lcZeroize id e) s id o { items := [.zeroize 0x0206, .keep a.owner a.seq 0] } (transition 5 v))) ∧
    (op = 0x0F54 →
      (u.faults.lifecycle = 6 → Fails (.lcRetire id e) s id o e 0x0001 0) ∧
      (u.faults.lifecycle = 1 → par o 0 4 ≠ 0 → Fails (.lcRetire id e) s id o e 0x0118 0) ∧
      (u.faults.lifecycle = 1 → par o 0 4 = 0 →
        Plans (.lcRetire id e) s id o { items := [.fuseR, .zeroize 0x0206] } (transition 6 u))) ∧
    (∀ r, vouched u 0 aux = .ok r → (∃ l, approvalsOf o = .good l) →
      let g : GateArgs := { gateFor u o 0 with required := [(0, some r)], owner0 := some r, window := u.vigil.timeValid }
      (u.vigil.timeValid = false ∨ par o 0 4 = 0) → ∀ a v, Approved u o e g a v →
      let w := if v.vigil.timeValid then v else setVigilTime (par o 0 4) v
      (op = 0x0F54 → u.faults.lifecycle ≠ 6 → u.faults.lifecycle ≠ 1 →
        Plans (.lcRetire id e) s id o { items := [.fuseR, .zeroize 0x0206, .keep a.owner a.seq 0] } (transition 6 w)) ∧
      (op = 0x0F55 →
        ((takeSeed w).1 = false → Plans (.lcRecommission id e) s id o { status := 0x0354 } (takeSeed w).2) ∧
        ((takeSeed w).1 = true →
          let x := (takeSeed w).2
          Plans (.lcRecommission id e) s id o
            { items := [.rootCheck] ++ (deadMasters (withRoot x)).map (fun p => .mram p.1 p.2 none) ++
                       [.lifecycle 2 a.seq a.pdigest, .ownerRec r, .keep a.owner a.seq 0] } (transition 2 x)))) ∧
    (op = 0x0F56 →
      let n := field (inputOf o) 0 2 % 1024
      ((anyOmk u n).isSome = true → Fails (.recordAdopt id e) s id o e 0x0221 0) ∧
      (anyOmk u n = none → ∀ k, vouched u n (inputOf o) = .error k → Fails (.recordAdopt id e) s id o e 0x0220 k) ∧
      (anyOmk u n = none → ∀ r, vouched u n (inputOf o) = .ok r →
        Plans (.recordAdopt id e) s id o { word := n, items := [.ownerRec r] } u))

/-- Rows 0x0F60 to 0x0F62 and 0x0F70 (14 R605 to R608, R616; 15 R660): each answers a next state under conditions on state and
order alone, and where the commit-point write is made at once that state holds the effect (09 R431). -/
def Obligations.FirmwareImageRows : Prop :=
  ∀ (s : State) (id op : Nat) (o : Order) (e : FwEnv), FwReady s id op o e →
    let u := tick e.t s
    let bank := par o 0 1
    let off := par o 4 4
    let b := inputOf o
    let q := u.faults.lifecycle != 1
    let ends (c : Instr) (p : Plan) (v : State) : Prop := exec c s = .next (gate s (planned id o (.done p, v)))
    let fails (c : Instr) (status word : Nat) : Prop := ends c { status := status, word := word } u
    let atOnce (v : State) (its : List Item) : Prop := o.commit = .none ∧ o.wfault = [] ∧ inlineOut o = true ∧ mirrored v = false ∧
      joining v = false ∧ v.egress.any (fun x => x.order == id) = false ∧ overtaken v its = false
    let writing (x : State) : Prop := ∃ y, order? x id = some y ∧ y.stage = .waitCommit ∧ y.commit = .pending
    (op = 0x0F60 →
      (1 < bank → fails (.fwWrite id e) 0x0118 0) ∧
      (bank ≤ 1 → bank = s.side.runBank → fails (.fwWrite id e) 0x0355 bank) ∧
      (bank ≤ 1 → bank ≠ s.side.runBank → 65536 < b.length → fails (.fwWrite id e) 0x0116 0) ∧
      (bank ≤ 1 → bank ≠ s.side.runBank → b.length ≤ 65536 → b.length % 4096 ≠ 0 → fails (.fwWrite id e) 0x0110 0) ∧
      (bank ≤ 1 → bank ≠ s.side.runBank → b.length ≤ 65536 → b.length % 4096 = 0 → (off % 4096 ≠ 0 ∨ 0x400000 < off + b.length) →
        fails (.fwWrite id e) 0x0118 4) ∧
      (bank ≤ 1 → bank ≠ s.side.runBank → b.length ≤ 65536 → b.length % 4096 = 0 → off % 4096 = 0 → off + b.length ≤ 0x400000 →
        ends (.fwWrite id e) { items := [.flash (bank * 0x400000 + off) b] } { u with side := { u.side with flashBusy := true } } ∧
        (atOnce u [] → ∃ x, exec (.fwWrite id e) s = .next x ∧ writing x ∧ x.side.flashBusy = false ∧
          x.mram.flash = memWrite Config.erasedByte s.mram.flash (bank * 0x400000 + off) b))) ∧
    (op = 0x0F61 → Fresh q u o 0 →
      let bad := imageCheck u bank u.faults.lifecycle true
      (1 < bank → fails (.fwActivate id e) 0x0118 0) ∧
      (bank ≤ 1 → (q = true → (ownerRec u 0).isSome = true) →
        (bad = 6 → fails (.fwActivate id e) 0x0357 (tally u 5).value) ∧
        (bad ≠ 6 → bad ≠ 0 → fails (.fwActivate id e) 0x0356 bad) ∧
        (bad = 0 → ∀ ap v, GoesOn q u o e 0 ap v →
          let w := imgField v bank 8 3
          let trial := if bank = v.side.runBank then 0 else 1
          ends (.fwActivate id e) { word := w, items := seqItems v ap ++ [.bootRec bank trial] ++ keeps ap w } v ∧
          (atOnce v (keeps ap w) → ∃ x, exec (.fwActivate id e) s = .next x ∧ writing x ∧ x.mram.bootBank = bank ∧
            x.mram.bootTrial = trial)))) ∧
    (op = 0x0F62 → Fresh q u o 0 → (q = true → (ownerRec u 0).isSome = true) → ∀ ap v, GoesOn q u o e 0 ap v →
      let svn := imgField u u.side.runBank 12 4
      let t := tally v 5
      let new := if t.value < svn then (tally (tallyAdd 5 (svn - t.value) v) 5).value else t.value
      ends (.fwFloor id e) { word := new, items := seqItems v ap ++ [.floor svn] ++ keeps ap new } v ∧
      (atOnce v (keeps ap new) → ∃ x, exec (.fwFloor id e) s = .next x ∧ writing x ∧ (tally x 5).value = new)) ∧
    (op = 0x0F70 → Fresh true u o 0 → bank ≠ 0 → bank ≤ 3 → (ownerRec u 0).isSome = true →
      let refusedOnce := { u with dbg := { u.dbg with tokensRefused := satAdd 16 u.dbg.tokensRefused 1 } }
      (dbgMax u.faults.lifecycle < bank →
        ends (.debugUnlock id e) { status := 0x0360, word := dbgMax u.faults.lifecycle } refusedOnce) ∧
      (bank ≤ dbgMax u.faults.lifecycle → ∀ a v, GoesOn true u o e 0 (some a) v →
        ends (.debugUnlock id e) { word := bank, items := [seqItem v a, .debugStage bank, .keep a.owner a.seq bank] } v ∧
        (atOnce v (keeps (some a) bank) → ∃ x, exec (.debugUnlock id e) s = .next x ∧ writing x ∧
          x.mram.dbgStaged = some bank)))

/-- What the Gate does when it does not pass an order (04 R225 to R230). -/
def Obligations.QuorumGateOutcomes : Prop :=
  ∀ (s : State) (id op : Nat) (o : Order) (e : FwEnv) (c : Instr), FwReady s id op o e →
    (op = 0x0F51 ∧ c = .lcDeploy id e ∨ op = 0x0F52 ∧ c = .lcQuarantine id e) →
    let u := tick e.t s
    let g := gateFor u o 0
    let w := holdClear .quorum u
    (decideQuorum u o g = .applied →
      (∀ x, appliedWord u o 0 = some x → Fails c s id o e 0x0001 x) ∧
      (appliedWord u o 0 = none → Fails c s id o e 0x0711 0)) ∧
    (decideQuorum u o g ≠ .applied → (ownerRec u 0).isSome = true →
      (e.agree = false → exec c s = .next (gate s (clerksDiffer id o u))) ∧
      (e.agree = true → e.copies = false → restsOnVerify (decideQuorum w o g) = true →
        exec c s = .next (gate s (verifyDiffers id o w))) ∧
      (e.agree = true → ∀ st x, decideQuorum w o g = .fail st x → (e.copies = true ∨ restsOnVerify (.fail st x) = false) →
        Plans c s id o { status := st, word := x } (recordFail w o 0 st x)))

/-- Fields of a ring position that a write switches (02 R61, R64, R68, R91; 03 R145). -/
def Obligations.RingSwitchRows : Prop :=
  ∀ (s : State) (st q t : Nat) (tb : Bool), Serving s → st < 4096 → q < 4 →
    let u := tick t s
    let r := ring s st q
    let x := stall s st
    let room (both : Bool) : Prop := both = true → r.cwEn = true → r.ordLog2 ≤ 12
    let good (both : Bool) : Prop := (6 ≤ r.ordLog2 ∧ r.ordLog2 ≤ 16) ∧ (6 ≤ r.rcpLog2 ∧ r.rcpLog2 ≤ 16) ∧ x.state = .bound ∧
      x.tdi ≠ .locked ∧ room both ∧ (s.pair.state = psWaiting → st = 0 ∧ q = 0)
    let on (p0 : BitVec 32) (both : Bool) : Ring :=
      { r with enabled := true, p := p0, h := p0, asm := p0, rd := p0, w := 0, c := 0, fetched := [], cwBytes := [],
               cwRanges := [], reserved := 0, noticeCount := 0, noticeDue := false, shared := both,
               commits := [], twinCommits := [], twinDone := [], privCopy := [] }
    (pageTakes x tb = false → ∀ (twin : Option (BitVec 32)) (n : BitVec 32), ∀ c ∈ [Instr.ringEnable st q twin ⟨t, tb⟩,
        .ringDisable st q ⟨t, tb⟩, .cwEnable st q ⟨t, tb⟩, .cwDisable st q ⟨t, tb⟩, .ringFlush st q ⟨t, tb⟩, .ringResume st q ⟨t, tb⟩,
        .rcpHeadWrite st q n ⟨t, tb⟩],
      exec c s = .next (if x.tdi = .run then setRing u st q { r with cwDrops := satAdd 16 r.cwDrops 1 } else u)) ∧
    (pageTakes x tb = true →
      (∀ twin, r.enabled = false →
        let both := mirrored s && twin.isSome
        (good both → mirrored s = false → exec (.ringEnable st q twin ⟨t, tb⟩) s = .next (setRing u st q (on 0 false))) ∧
        (good both → mirrored s = true → s.faults.silent = false → exec (.ringEnable st q twin ⟨t, tb⟩) s =
          .next (claim st q (.ring st q x.gen r.rcpLog2 r.rcpBase) (setRing u st q (on (twin.getD 0) both)))) ∧
        (¬ good both → exec (.ringEnable st q twin ⟨t, tb⟩) s = .next (setRing u st q { r with cfgErr := true }))) ∧
      (∀ twin, r.enabled = true → exec (.ringEnable st q twin ⟨t, tb⟩) s = .next u) ∧
      (r.enabled = true → r.cwEn = false → x.state = .bound → exec (.cwEnable st q ⟨t, tb⟩) s = .next (setRing u st q
        (if 2048 ≤ cwHeld s ∨ (r.shared = true ∧ 12 < r.ordLog2) then { r with cfgErr := true }
         else { r with cwEn := true, cwBytes := [] }))) ∧
      (r.enabled = false ∨ r.cwEn = true ∨ x.state ≠ .bound → exec (.cwEnable st q ⟨t, tb⟩) s = .next u) ∧
      exec (.cwDisable st q ⟨t, tb⟩) s = .next (dropProv st (cwName q) (setRing u st q { r with cwEn := false, cwBytes := [] })) ∧
      (∀ c : BitVec 32, exec (.rcpHeadWrite st q c ⟨t, tb⟩) s = .next (setRing u st q
        (if (c - r.c).toNat ≤ (r.w - r.c).toNat then { r with c := c } else { r with cfgErr := true }))) ∧
      (let w := dropProv st q (setRing u st q { r with stopped := false, stopCode := 0, fetched := [], rd := r.asm })
       r.stopped = true → x.state = .bound →
        (s.faults.silent = false → exec (.ringResume st q ⟨t, tb⟩) s = .next (fetchSlots st q w)) ∧
        (r.cwRanges = [] → r.p = r.asm → exec (.ringResume st q ⟨t, tb⟩) s = .next w)) ∧
      (r.stopped = false ∨ x.state ≠ .bound → exec (.ringResume st q ⟨t, tb⟩) s = .next u))

/-- Flush and disable (02 R63, R64, R93, R116). -/
def Obligations.FlushRows : Prop :=
  ∀ (s : State) (st q t : Nat) (tb : Bool), Serving s → st < 4096 → q < 4 → pageTakes (stall s st) tb = true →
    let u := tick t s
    let r := ring s st q
    let hit (o : Order) : Bool := o.stall == st && o.ring == q && (o.stage == .committed && !o.intakeErr)
    let flushed := s.orders.map (fun o => if s.orders.any (fun y => y.id == o.id && hit y) then
      { o with stage := .done, result := some { status := 0x0310, word := 0, out := [], aux := [] }, copyA := none,
               copyB := none, insts := [], compareAt := u.clock } else o)
    let left (v : State) (r' : Ring) : Prop := v.orders = flushed ∧ ring v st q = r' ∧
      (∀ st' q', rix st' q' ≠ rix st q → ring v st' q' = ring s st' q') ∧
      v.munim.cache = (dropProv st (cwName q) (dropProv st q s)).munim.cache ∧
      { v with orders := u.orders, rings := u.rings, munim := { v.munim with keys := u.munim.keys, cache := u.munim.cache } } = u
    (∃ v, exec (.ringFlush st q ⟨t, tb⟩) s = .next v ∧
      left v { r with h := r.p, asm := r.p, rd := r.p, fetched := [], cwBytes := [], cwRanges := [] }) ∧
    (r.enabled = true → ∃ v, exec (.ringDisable st q ⟨t, tb⟩) s = .next v ∧
      left v { r with enabled := false, cwEn := false, cwBytes := [], fetched := [], rd := r.asm, shared := false }) ∧
    (r.enabled = false → exec (.ringDisable st q ⟨t, tb⟩) s = .next u)

/-- Doorbells (02 R80 to R82; 15 R630). -/
def Obligations.DoorbellRows : Prop :=
  ∀ (s : State) (st q : Nat) (tbit : Bool), Open s → st < 4096 → q < 4 →
    let r := ring s st q
    let x := stall s st
    let stale := setRing s st q { r with staleDbs := satAdd 16 r.staleDbs 1 }
    let free := ordSize r - (r.p - r.h).toNat
    (∀ (v : BitVec 32) (gen : BitVec 16) (width : Nat),
      (pageTakes x tbit = true →
        (r.enabled = false ∨ r.stopped = true ∨ refusesDoorbell s st q = true ∨ x.state ≠ .bound ∨ width ≠ 8 ∨ gen ≠ x.gen ∨
          v = r.p ∨ 2 ^ 31 ≤ (v - r.p).toNat → exec (.doorbellWrite st q v gen width tbit) s = .next stale) ∧
        (r.enabled = true → r.stopped = false → refusesDoorbell s st q = false → x.state = .bound → width = 8 → gen = x.gen →
          v ≠ r.p → (v - r.p).toNat < 2 ^ 31 →
          (free < (v - r.p).toNat → exec (.doorbellWrite st q v gen width tbit) s =
            .next (setRing s st q { r with overrun := true, stopped := true, stopCode := 0x0108 })) ∧
          ((v - r.p).toNat ≤ free → exec (.doorbellWrite st q v gen width tbit) s =
            .next (assemble st q (setRing s st q { r with p := v }))) ∧
          ((v - r.p).toNat ≤ free → r.fetched = [] → r.cwRanges = [] → r.asm = r.p → r.rd = r.p → r.h = r.p →
            x.ats = false → r.p.toNat % 4 + (v - r.p).toNat ≤ 4 → exec (.doorbellWrite st q v gen width tbit) s =
            .next { setRing s st q { r with p := v, rd := v } with
              out := s.out ++ [.readReq st (pasidOf s st) (slotIova r r.p) (64 * (v - r.p).toNat) (x.tdi == .run)] }))) ∧
      (pageTakes x tbit = false → exec (.doorbellWrite st q v gen width tbit) s =
        .next (if x.tdi = .run then setRing s st q { r with cwDrops := satAdd 16 r.cwDrops 1 } else s))) ∧
    (∀ cmp swap : BitVec 64,
      (mirrored s = true ∧ r.shared = true →
        exec (.doorbellCas st q cmp swap tbit) s = .next { s with out := s.out ++ [.unsupported] }) ∧
      (¬ (mirrored s = true ∧ r.shared = true) →
        (cmp ≠ doorbellValue s st q →
          exec (.doorbellCas st q cmp swap tbit) s = .next { s with out := s.out ++ [.casDone (doorbellValue s st q)] }) ∧
        (cmp = doorbellValue s st q → ∃ w,
          exec (.doorbellWrite st q (swap.truncate 32) ((swap >>> 32).truncate 16) 8 tbit) s = .next w ∧
          exec (.doorbellCas st q cmp swap tbit) s = .next { w with out := w.out ++ [.casDone (doorbellValue s st q)] })))

/-- Orders of one slot come in (02 R82 to R90, R112, R116). -/
def Obligations.IntakeRows : Prop :=
  ∀ (s : State) (st q t : Nat), Serving s → st < 4096 → q < 4 → mirrored s = false →
    (ring s st q).enabled = true → (ring s st q).stopped = false →
    let u := tick t s
    let r := ring s st q
    let committed (r' : Ring) (o : Order) (kept : State) : State :=
      { setRing u st q r' with orders := s.orders ++ [o], nextId := s.nextId + 1, munim := kept.munim,
                               perf := { s.perf with ctrs := modAt (· + 1) s.perf.ctrs 0 } }
    (∀ (o : Nat) (bytes : List (Option Byte)) (tbit : Bool), pageTakes (stall s st) tbit = true → r.cwEn = true →
      (stall s st).state = .bound → o < 512 →
      let m := cwMerge r.cwBytes o bytes
      let c := Instr.counterWindowWrite st (0x800 + 512 * q + o) bytes tbit t
      (512 < o + bytes.length → exec c s = .next (setRing u st q { r with cwDrops := satAdd 16 r.cwDrops 1 })) ∧
      (o + bytes.length ≤ 512 → cwTake m 64 = none → exec c s = .next (setRing u st q { r with cwBytes := m })) ∧
      (∀ b, o + bytes.length ≤ 512 → cwTake m 64 = some b → field b 3 1 = 1 → intakeCheck b = 0 →
        (r.p - r.h).toNat + 1 ≤ ordSize r → ∃ y : Order,
          y = parseOrder u st q r.p true b ∧ y.tag = field b 4 4 ∧ y.opcode = field b 0 2 ∧ y.stage = .committed ∧
          exec c s = .next (committed { r with p := r.p + 1, cwBytes := [], cwRanges := r.cwRanges ++ [(r.p.toNat, 1)] } y
            (dropProv st (cwName q) (keepProv st (cwName q) 0 s))))) ∧
    (r.fetched = [] → r.cwRanges = [] → r.rd = r.asm + 1 → r.p = r.asm + 1 → (stall s st).state = .bound →
      (s.faults.silent = false ∨ s.pcie.invs = []) →
      (∀ b : Bytes, b.length = 64 → field b 3 1 = 1 → intakeCheck b = 0 → ∃ y : Order,
        y = parseOrder u st q r.asm false b ∧ y.tag = field b 4 4 ∧ y.opcode = field b 0 2 ∧ y.stage = .committed ∧
        exec (.slotReadCompletion st q r.asm (.data b) t) s =
          .next (finishInvs (committed { r with asm := r.asm + 1 } y (keepProv st q r.asm s)))) ∧
      (∀ b : Bytes, b.length = 64 → field b 3 1 = 1 → intakeCheck b = 0x0101 →
        exec (.slotReadCompletion st q r.asm (.data b) t) s = .next (finishInvs
          { setRing u st q { r with rd := r.asm, stopped := true, stopCode := 0x0101, intakeErrs := satAdd 16 r.intakeErrs 1 } with
            orders := s.orders ++ [intakeRcpt u st q (field b 4 4) 0x0101 r.asm.toNat false], nextId := s.nextId + 1,
            munim := (dropProv st q s).munim })) ∧
      (∀ rr code a, readStatus rr = some (code, a) →
        exec (.slotReadCompletion st q r.asm rr t) s = .next (finishInvs
          { setRing u st q { r with rd := r.asm, stopped := true, stopCode := code } with munim := (dropProv st q s).munim })))

/-- The scheduler, and opcode 0 (01 R45; 02 R79, R97, R98; 03 R147, R152; 11 R488). -/
def Obligations.DispatchRows : Prop :=
  ∀ (s : State) (k : Option EngKind) (t : Nat), Serving s →
    let u := tick t s
    let c := clearIdles u
    (u.faults.holdCovered = true → exec (.dispatch k t) s = .next u) ∧
    (u.faults.holdCovered = false → chooseOrder k c = none → Does (.dispatch k t) s (fun v => v.orders = s.orders)) ∧
    (∀ o, (headOf c 0 0).filter (dispatchable c) = some o → chooseOrder k c = some (o, c)) ∧
    (∀ o v l, u.faults.holdCovered = false → chooseOrder k c = some (o, v) → instsFor v o = some l → o.stage = .committed →
      order? u o.id = some o →
      (∀ st w, classify u (withInline o) = some (st, w) → Does (.dispatch k t) s (fun v => ∃ x, order? v o.id = some x ∧
        x.stage = .done ∧ x.result = some { status := st, word := w, out := [], aux := [] } ∧ x.rsv = rcptNeed o ∧
        x.runs = o.runs + 1 ∧ x.tag = o.tag)) ∧
      (classify u (withInline o) = none → o.opcode = 0 → Does (.dispatch k t) s (fun v => ∃ x, order? v o.id = some x ∧
        x.stage = .ready ∧ x.rsv = rcptNeed o ∧ x.runs = o.runs + 1 ∧ x.dispatchAt = u.clock ∧ x.tag = o.tag))) ∧
    (∀ id o, order? s id = some o → o.opcode = 0 → o.stage = .ready → Does (.noOperation id) s (fun v =>
      order? v id = some { o with stage := .done, result := some { status := 0, word := 0, out := [], aux := [] },
                                  copyA := none, copyB := none, insts := [], compareAt := s.clock, outSent := true } ∧
      { v with orders := s.orders, munim := { v.munim with keys := s.munim.keys } } = s))

/-- What an order waits for arrives (02 R112, R113; 04 R192; 05 R244; 08 R387). -/
def Obligations.OrderInputRows : Prop :=
  ∀ (s : State) (t : Nat), Serving s →
    let u := tick t s
    (∀ id part rr o, order? s id = some o → o.stage = .waitInput → wantsPart o part = true →
      (s.faults.silent = false ∨ s.pcie.invs = []) →
      (∀ b, rr = .data b →
        let o1 := putPart part (fit (partLen o part) b) o
        ∃ v, exec (.inputReadCompletion id part rr t) s = .next (finishInvs v) ∧
          order? v id = some { o1 with stage := if o1.input.isSome && o1.aux.isSome then inputReady s o1 else .waitInput } ∧
          stall v o.stall = { stall s o.stall with bytesIn := (stall s o.stall).bytesIn + partLen o part } ∧
          (∀ n, n ≠ o.stall → stall v n = stall s n) ∧
          v.insts = (if o1.input.isSome && o1.aux.isSome then fillHalf o1 s else s).insts ∧
          { v with orders := u.orders, stalls := u.stalls, perf := u.perf, insts := u.insts } = u) ∧
      (∀ st w, readStatus rr = some (st, w) → ∃ v, exec (.inputReadCompletion id part rr t) s = .next (finishInvs v) ∧
          order? v id = some { o with stage := .done, result := some { status := st, word := w, out := [], aux := [] },
                                      copyA := none, copyB := none, insts := [], compareAt := u.clock } ∧
          { v with orders := u.orders, munim := { v.munim with keys := u.munim.keys } } = u)) ∧
    (∀ id o, order? s id = some o → o.stage = .waitFill →
      (o.charged = true → dnOnA o = false → dnOnB o = false → o.input.isSome = true → o.aux.isSome = true →
        Does (.keyCacheFillDone id true true t) s (fun v => ∃ x, order? v id = some x ∧ x.stage = .ready ∧ x.insts = o.insts ∧
          v.munim = { s.munim with fillBufs := s.munim.fillBufs.filter (fun i => i != id) })) ∧
      (∀ copies words, (copies && words) = false → o.intakeErr = false → o.commit = .none → o.runs < 4 →
        Does (.keyCacheFillDone id copies words t) s (fun v => ∃ x, order? v id = some x ∧ x.stage = .redo ∧ x.reexec = true ∧
          x.insts = [] ∧ x.result = none ∧ v.munim.fillBufs = s.munim.fillBufs.filter (fun i => i != id) ∧
          v.munim.keys = s.munim.keys))) ∧
    (∀ st page rd wr, (stall s st).ats = true → (stall s st).state ≠ .free →
      Does (.atsTranslationCompletion st page rd wr t) s (fun v =>
        trans? v st page = some { stall := st, page := page, valid := rd || wr, rd := rd, wr := wr } ∧
        (∀ st' page', (st' ≠ st ∨ page' ≠ page) → trans? v st' page' = trans? s st' page') ∧ v.stalls = s.stalls ∧
        ((stall s st).state ≠ .bound → v.rings = s.rings))) ∧
    (∀ st page rd wr, (stall s st).ats = false ∨ (stall s st).state = .free →
      exec (.atsTranslationCompletion st page rd wr t) s = .next u) ∧
    (∀ i, s.drbg.up = true → (inst s .loom i).needReseed = true → exec (.loomReseedArrival i) s =
      .next { modInst s .loom i (fun x => { x with needReseed := false }) with
        orders := s.orders.map (fun o => if o.stage == .waitSeed && o.insts.contains (.loom, i) then { o with stage := .ready } else o)
        drbg := { s.drbg with next := s.drbg.next + 64, requests := s.drbg.requests + 1 }
        perf := { s.perf with ctrs := modAt (· + 64) s.perf.ctrs 15 } }) ∧
    (∀ i, s.drbg.up = false ∨ (inst s .loom i).needReseed = false → Ignores (.loomReseedArrival i) s) ∧
    (∀ k i, exec (.workingKeyIdleExpiry k i) s =
      .next (if load s k i = 0 then modInst s k i (fun x => { x with wregs := [] }) else s))

/-- The consumer count (02 R68). -/
def Obligations.RcpHeadRule : Prop :=
  ∀ (s : State) (st q t : Nat) (c : BitVec 32) (tb : Bool), Serving s → st < 4096 → q < 4 → pageTakes (stall s st) tb = true →
    let r := ring s st q
    ((c - r.c).toNat ≤ (r.w - r.c).toNat → Does (.rcpHeadWrite st q c ⟨t, tb⟩) s (fun v => ring v st q = { r with c := c } ∧
      (∀ st' q', rix st' q' ≠ rix st q → ring v st' q' = ring s st' q') ∧ { v with rings := s.rings } = tick t s)) ∧
    (¬ (c - r.c).toNat ≤ (r.w - r.c).toNat → Does (.rcpHeadWrite st q c ⟨t, tb⟩) s (fun v => ring v st q = { r with cfgErr := true } ∧
      (∀ st' q', rix st' q' ≠ rix st q → ring v st' q' = ring s st' q') ∧ { v with rings := s.rings } = tick t s))

/-- From the compare to the receipt (01 R45 to R51; 02 R98, R106; 09 R431). -/
def Obligations.ReleaseRows : Prop :=
  ∀ (s : State) (t : Nat), Open s →
    let u := tick t s
    (∀ id o r, order? s id = some o → o.stage = .computed → o.copyA = some r → o.copyB = some r → o.wfault = [] →
      o.withheld = none → o.outWait = [] →
      let tl := if o.outSent || inlineOut o then [] else
        (outPieces r.out.length.succ o.outIova r.out).map (mkTlp s o .output (ring s o.stall o.ring).outRlx) ++
        (outPieces r.aux.length.succ o.auxIova r.aux).map (mkTlp s o .aux (ring s o.stall o.ring).outRlx)
      let n := if classKind o.opcode = some .loom then fitAhead (16384 - queuedAhead s id) tl else tl.length
      ∃ v, exec (.compareAndRelease id .none t) s = .next v ∧
      order? v id = some { o with stage := .done, result := some r, copyA := none, copyB := none, insts := [],
                                  compareAt := u.clock, engTime := u.clock - o.dispatchAt, outSent := true, outWait := tl.drop n } ∧
      v.egress = s.egress ++ tl.take n ∧ v.rings = s.rings ∧ v.stalls = s.stalls ∧ v.mram = s.mram ∧ v.out = s.out) ∧
    (∀ f, s.egress = [] ∨ s.faults.holdCovered = true → exec (.egressCheck f t) s = .next (finishInvs u)) ∧
    (∀ x rest, s.egress = x :: rest → s.faults.holdCovered = false →
      (∀ f, x.gen ≠ (stall s x.stall).gen → exec (.egressCheck f t) s = .next (finishInvs { u with egress := rest })) ∧
      (x.gen = (stall s x.stall).gen → (stall s x.stall).ats = false → releaseCrcs x.data = x.crcs →
        permitted s x x.addr x.data.length = true → x.kind = .rcptCont → exec (.egressCheck .none t) s = .next (finishInvs
          { u with egress := rest, out := s.out ++ [.memWrite x.stall (pasidOf s x.stall) x.addr x.data x.relaxed x.tbit x.kind] })) ∧
      (x.gen = (stall s x.stall).gen → (stall s x.stall).ats = false → releaseCrcs x.data = x.crcs →
        permitted s x x.addr x.data.length = true → x.kind = .output ∨ x.kind = .aux →
        ∀ o, order? s x.order = some o → o.stage ≠ .waitCommit →
          let n := fitAhead (16384 - queuedAhead { s with egress := rest } x.order) o.outWait
          ∃ v, exec (.egressCheck .none t) s = .next (finishInvs v) ∧
          v.egress = rest ++ o.outWait.take n ∧ order? v x.order = some { o with outWait := o.outWait.drop n } ∧
          v.out = s.out ++ [.memWrite x.stall (pasidOf s x.stall) x.addr x.data x.relaxed x.tbit x.kind] ∧
          stall v x.stall = { stall s x.stall with bytesOut := (stall s x.stall).bytesOut + x.data.length } ∧
          { v with egress := s.egress, orders := s.orders, out := s.out, stalls := s.stalls, perf := s.perf } = u) ∧
      (∀ b, x.gen = (stall s x.stall).gen → (stall s x.stall).ats = false → releaseCrcs b ≠ x.crcs → s.faults.crcTimes = [] →
        Does (.egressCheck (.readBack b) t) s (fun v => v.faults.holdCovered = true ∧ v.faults.silent = false ∧
          HoldCause.releaseCrc ∈ v.faults.holds ∧ (order? s x.order ≠ none → ∀ y ∈ v.egress, y.order ≠ x.order) ∧
          (∀ y ∈ v.egress, y ∈ rest)))) ∧
    (∀ id o, order? s id = some o → o.commit = .pending →
      Does (.commitWriteDone id true t) s (fun v =>
        order? v id = some { o with commit := .done, stage := if o.stage = .waitCommit then .done else o.stage } ∧
        (∀ w ∈ v.mram.writing, w.1 ≠ id ∧ w ∈ s.mram.writing) ∧
        { v with orders := u.orders, mram := { v.mram with writing := s.mram.writing },
                 munim := { v.munim with keys := s.munim.keys } } = u) ∧
      Does (.commitWriteDone id false t) s (fun v => v.faults.silent = true ∧ v.faults.phase = .silent ∧
        v.faults.lastCause = 0x000A ∧ v.faults.lastLevel = 1 ∧ v.egress = [])) ∧
    (∀ id o x, order? s id = some o → o.stage = .done → o.result = some x → o.rcptQueued = false → o.commit ≠ .pending →
      s.egress = [] → 0 < o.rsv → o.outSent = true → mirrored s = false → (stall s o.stall).ats = false →
      Does (.receiptRelease id t) s (fun v => v.egress = receiptTlps s o x ∧
        order? v id = some { o with rcptQueued := true } ∧ (∀ st q, ring v st q = ring s st q) ∧
        { v with orders := u.orders, egress := u.egress, rings := u.rings } = u))

/-- Completion notices (02 R118 to R121). -/
def Obligations.NoticeRows : Prop :=
  ∀ (s : State) (t : Nat), Open s →
    let u := tick t s
    (∀ st q, st < 4096 → q < 4 →
      let r := ring s st q
      let n := (stall s st).vecBase + r.vecOff
      let w := setRing u st q { r with noticeCount := 0, noticeDue := false }
      let due := r.noticeDue = true ∧ r.vecEn = true ∧ r.vecOff < (stall s st).vecCount ∧
        r.noticeAt + 100 * max 1 r.coalTime ≤ u.clock
      (due → n ∈ s.pcie.unmasked → s.faults.holdCovered = false → exec (.coalTimeExpiry st q t) s = .next
        { w with out := s.out ++ [.msix n], perf := { s.perf with ctrs := modAt (· + 1) s.perf.ctrs 14 } }) ∧
      (due → n ∈ s.pcie.unmasked → s.faults.holdCovered = true → exec (.coalTimeExpiry st q t) s = .next
        { w with pcie := { s.pcie with heldMsgs := s.pcie.heldMsgs ++ [n] } }) ∧
      (due → n ∉ s.pcie.unmasked → exec (.coalTimeExpiry st q t) s = .next
        { w with pcie := { s.pcie with pba := if n ∈ s.pcie.pba then s.pcie.pba else s.pcie.pba ++ [n] } }) ∧
      (¬ due → exec (.coalTimeExpiry st q t) s = .next u)) ∧
    (∀ n, n < 4096 → s.faults.holdCovered = false →
      let p := { s.pcie with unmasked := if n ∈ s.pcie.unmasked then s.pcie.unmasked else s.pcie.unmasked ++ [n]
                             pba := s.pcie.pba.filter (fun x => x != n) }
      (n ∈ s.pcie.pba → exec (.vectorUnmask n) s = .next { s with
        pcie := p, out := s.out ++ [.msix n], perf := { s.perf with ctrs := modAt (· + 1) s.perf.ctrs 14 } }) ∧
      (n ∉ s.pcie.pba → exec (.vectorUnmask n) s = .next { s with pcie := p }))

/-- Requests that act on a Stall as a whole (03 R129, R131, R139, R140, R155 to R163). -/
def Obligations.StallRequestRows : Prop :=
  ∀ (s : State) (st t : Nat) (tb : Bool), Serving s →
    let u := tick t s
    let x := stall s st
    (st ≠ 0 → st < 4096 → x.state = .bound → mirrored s = false →
      (pageTakes x tb = true → Does (.stallSelfReset st ⟨t, tb⟩) s (fun v => (stall v st).state = .resetting ∧ (stall v st).gen = x.gen + 1 ∧
        (stall v st).lastCause = 1 ∧ (stall v st).hardReset = false ∧ (stall v st).owner = x.owner ∧
        (∀ n, n ≠ st → stall v n = stall s n) ∧ (∀ q, q < 4 → (ring v st q).fetched = [] ∧ (ring v st q).cwBytes = []))) ∧
      Does (.stallcfgHardReset st t) s (fun v => (stall v st).state = .resetting ∧ (stall v st).gen = x.gen + 1 ∧
        (stall v st).lastCause = 2 ∧ (stall v st).hardReset = true ∧
        (stall v st).tdi = (if x.tdi = .locked ∨ x.tdi = .run then .error else x.tdi) ∧
        (∀ n, n ≠ st → stall v n = stall s n) ∧ (∀ o ∈ v.orders, o.stall ≠ st) ∧ (∀ o ∈ v.orders, o ∈ s.orders))) ∧
    (4096 ≤ st ∨ (st = 0 ∨ x.state = .free) ∧ pageTakes x tb = true → exec (.stallSelfReset st ⟨t, tb⟩) s = .next u) ∧
    (st < 4096 → pageTakes x tb = false → exec (.stallSelfReset st ⟨t, tb⟩) s = .next (if x.tdi = .run then
      setRing u st 0 { ring s st 0 with cwDrops := satAdd 16 (ring s st 0).cwDrops 1 } else u)) ∧
    (st = 0 ∨ 4096 ≤ st → exec (.stallcfgHardReset st t) s = .next u) ∧
    (st < 4096 → ∀ f v, exec (.stallcfgQuotaWrite st f v) s = .next (setStall s st
      (if x.state ≠ .free ∧ quotaInRange f v = true ∧ weightTooHigh s st f v = false then withQuota f v x
       else { x with cfgErr := true }))) ∧
    (∀ rid reg, Does (.configWrite rid reg t) s (fun v => v.pcie.rid = rid % 2 ^ 16 ∧
      v.pcie.atsEn = (match reg with | .atsEnable on => on | _ => s.pcie.atsEn) ∧
      v.pcie.atomicEn = (match reg with | .atomicRequester on => on | _ => s.pcie.atomicEn) ∧
      v.pcie.aerFatal = (match reg with | .clearFatal => false | _ => s.pcie.aerFatal) ∧
      (∀ n, (n, stall s n) ∈ s.stalls → (stall s n).state ≠ .free → stall v n = { stall s n with rid := rid % 2 ^ 16 }) ∧
      (∀ n, (∀ p ∈ s.stalls, p.1 ≠ n) → stall v n = stall s n) ∧
      { v with stalls := u.stalls, pcie := u.pcie } = u)) ∧
    (s.faults.silent = false → s.pcie.invs = [] → ∀ pasid page count,
      let hit (y : Trans) : Bool := invTarget s pasid == some y.stall && decide (page ≤ y.page) && decide (y.page < page + count)
      let gone := (s.pcie.trans.filter hit).map (fun y => y.page)
      let st := (invTarget s pasid).getD 0
      let p := { s.pcie with trans := s.pcie.trans.filter (fun y => !hit y) }
      exec (.atsInvalidation pasid page count) s = .next (if gone.any (usesPage s st) then
        { s with pcie := { p with invs := [{ pasid := pasid, stall := st, pages := gone }] } }
        else { s with pcie := p, out := s.out ++ [.atsInvDone pasid] }))

/-- The end of resets (03 R155 to R162; 14 R597). -/
def Obligations.StallEndRows : Prop :=
  ∀ (s : State) (st t : Nat), Serving s →
    let u := tick t s
    let x := stall s st
    (∀ twin, x.state = .resetting → canWriteOwed s st = false → (∀ y ∈ s.egress, y.stall ≠ st) → (mirrored s = true → twin = true) →
      x.resetOrder = [] → Does (.stallResetComplete st twin t) s (fun v =>
        (stall v st).state = (if x.freeAfter then .free else .bound) ∧ (stall v st).gen = x.gen ∧ (stall v st).resetDone = true ∧
        (stall v st).abandoned = x.newAbandoned ∧ (stall v st).reports = x.newReports ∧
        (stall v st).resets = satAdd 16 x.resets 1 ∧ (stall v st).orders = 0 ∧ (stall v st).bytesIn = 0 ∧ (stall v st).bytesOut = 0 ∧
        (∀ n, n ≠ st → stall v n = stall s n) ∧ (∀ q, q < 4 → ring v st q = Ring.reset) ∧
        (∀ y ∈ v.pcie.trans, y.stall ≠ st) ∧ (∀ o ∈ v.orders, ¬ (o.stall = st ∧ o.abandoned.isSome = true)))) ∧
    (∀ twin, x.state ≠ .resetting → exec (.stallResetComplete st twin t) s = .next u) ∧
    (∀ c, Does (.functionReset c t) s (fun v => v.pcie.unmasked = [] ∧ v.pcie.trans = [] ∧ v.pcie.msixTable = [] ∧
      (∀ p ∈ s.stalls, p.2.state ≠ .free → (stall v p.1).state = if p.1 = 0 then .bound else .free)))

/-- The Hold's limit (11 R490). -/
def Obligations.HoldTimeoutRule : Prop :=
  ∀ (s : State) (t : Nat), alive s = true → s.faults.silent = false → s.faults.holdCovered = true →
    let u := tick t s
    (s.faults.holdAt + 10000000 ≤ u.clock → Does (.holdTimeout t) s (fun v => v.faults.silent = true ∧
      v.faults.phase = .silent ∧ v.faults.lastCause = 0x0001 ∧ v.faults.lastLevel = 1)) ∧
    (u.clock < s.faults.holdAt + 10000000 → exec (.holdTimeout t) s = .next u)

/-- Holds end; queues are lost (11 R488 to R494; 01 R41, R42, R47). -/
def Obligations.HoldRows : Prop :=
  ∀ (s : State) (t : Nat),
    let u := tick t s
    (alive s = true → s.faults.holdCovered = true → s.faults.holds = [] → Does (.holdEnd t) s (fun v =>
      v.faults.holdCovered = false ∧ v.faults.holdTaint = false ∧ v.pcie.heldMsgs = [] ∧ v.stalls = s.stalls ∧ v.mram = s.mram)) ∧
    (alive s = true → s.faults.holdCovered = false ∨ s.faults.holds ≠ [] → exec (.holdEnd t) s = .next u) ∧
    (Open s → HoldCause.releaseCrc ∈ s.faults.holds →
      exec (.transmitBufferSelftestDone true t) s = .next { u with
        faults := { s.faults with holds := s.faults.holds.filter (fun x => x != .releaseCrc) } } ∧
      Does (.transmitBufferSelftestDone false t) s (fun v => v.faults.silent = true ∧ v.faults.lastCause = 0x0002 ∧
        v.faults.lastLevel = 1)) ∧
    (Open s → s.faults.queueTimes = [] →
      let w := { u with faults := { u.faults with queueTimes := u.faults.queueTimes ++ [(2, u.clock)] } }
      Does (.queuePointerMismatch .courier t) s (fun v => EvidenceOnly w v) ∧
      Does (.queuePointerMismatch .hopper t) s (fun v => v.side.hopper = [] ∧
        v.side.hopDrops = satAdd 16 s.side.hopDrops 1 ∧ v.orders = s.orders ∧ v.rings = s.rings) ∧
      (∀ c, Does (.queuePointerMismatch (.clerkControl c) t) s (fun v => v.orders = s.orders.map (fun o =>
        if isFirmware o.opcode && o.stage == .ready && !o.intakeErr then { o with fwLost := true } else o) ∧
        v.rings = s.rings ∧ v.stalls = s.stalls))) ∧
    (Open s → ∀ a b, s.faults.queueTimes = [(2, a), (2, b)] → u.clock < a + 1000000000 → u.clock < b + 1000000000 →
      Does (.queuePointerMismatch .courier t) s (fun v => v.faults.silent = true ∧ v.faults.lastCause = 0x0004)) ∧
    (Serving s → ∀ id, exec (.firmwareRequestTimeout id t) s = .next { u with
      orders := s.orders.map (fun o => if o.id = id then { o with fwLost := false } else o) })

/-- Instances and their tests (01 R35; 11 R499 to R504; 06 R325). -/
def Obligations.InstanceRows : Prop :=
  ∀ (s : State) (k : EngKind) (i t : Nat), Serving s → i < (instsOf s k).length →
    let u := tick t s
    let st := (inst s k i).status
    let retired (v : State) : Prop := (inst v k i).status = .retired
    (st = .active ∨ st = .spare → Does (.periodicKat k i false t) s retired) ∧
    exec (.periodicKat k i true t) s = .next u ∧
    (st = .active ∨ st = .suspect → Does (.progressWatchdogExpiry k i t) s retired) ∧
    (st = .spare ∨ st = .retired → exec (.progressWatchdogExpiry k i t) s = .next u) ∧
    (st = .suspect → instEmpty s k i = true → Does (.suspectSelftestDone k i false t) s retired ∧
      Does (.suspectSelftestDone k i true t) s (fun v => (inst v k i).status = .active ∧
        EvidenceOnly (modInst u k i (fun x => { x with status := .active })) v)) ∧
    (∀ ok, st ≠ .suspect ∨ instEmpty s k i = false → exec (.suspectSelftestDone k i ok t) s = .next u) ∧
    (st = .spare → Does (.sparePromotion k i false t) s retired) ∧
    (st = .spare → ∀ j, (withStatus u k .retired).find? (fun j => groupOf k j == groupOf k i &&
        !((instsOf u k).any (fun x => x.replaces == some j))) = some j →
      Does (.sparePromotion k i true t) s (fun v => (inst v k i).status = .active ∧ (inst v k i).gated = false ∧
        (inst v k i).replaces = some j ∧
        EvidenceOnly (modInst u k i (fun x => { x with status := .active, gated := false, replaces := some j })) v)) ∧
    (∀ ok, st ≠ .spare → exec (.sparePromotion k i ok t) s = .next u) ∧
    (∀ region, exec (.scrubRegion k i region) s = .next
      (if region < 8 ∧ (k = .forge ∨ k = .kiln) then modInst s k i (fun x => { x with dirty := x.dirty - 1 }) else s))

/-- The random source (07 R359 to R362). -/
def Obligations.RandomSourceRows : Prop :=
  ∀ (s : State) (t : Nat), Open s →
    let u := tick t s
    let silent (v : State) : Prop := v.faults.silent = true ∧ v.faults.phase = .silent ∧ v.faults.lastCause = 0x000B ∧ v.faults.lastLevel = 1
    (∀ id o, Ready s id 0x0551 o → s.drbg.up = true → bitOf (par o 4 1) 0 = false → Room o (par o 0 4) →
      ComputesDrawn (.random id) s id (par o 0 4) o (fun d => resOk 0 (drawn d 0 (par o 0 4)))) ∧
    (∀ id o, Ready s id 0x0551 o → s.drbg.up = false → exec (.random id) s = .next { s with
      drbg := { s.drbg with waiting := s.drbg.waiting ++ [id] }
      orders := s.orders.map (fun x => if x.id = id then { x with stage := .waitDrbg } else x) }) ∧
    (∀ id o, order? s id = some o → o.stage = .waitDrbg → Does (.randomWaitTimeout id t) s (fun v =>
      order? v id = some { o with stage := .done, result := some { status := 0x0530, word := 0, out := [], aux := [] },
                                  copyA := none, copyB := none, insts := [], compareAt := u.clock } ∧
      v.drbg.waiting = s.drbg.waiting.filter (fun i => i != id))) ∧
    exec (.drbgReseed t) s = .next (if s.drbg.up then { u with drbg := { s.drbg with requests := 0, reseedAt := u.clock } } else u) ∧
    exec (.drbgKat true t) s = .next u ∧
    (s.drbg.up = true → Does (.drbgKat false t) s silent) ∧
    (∀ src, src < 4 → src ∉ s.drbg.bad → let w := { u with drbg := { s.drbg with bad := s.drbg.bad ++ [src] } }
      (s.drbg.bad.length ≤ 1 → Does (.healthTestFailure src t) s (fun v => EvidenceOnly w v)) ∧
      (2 < s.drbg.bad.length + 1 → Does (.healthTestFailure src t) s silent)) ∧
    (s.faults.drbgTimes = [] → s.faults.holdCovered = false → Does (.drbgMismatch t) s (fun v => v.drbg.up = false ∧
      v.drbg.reinst = true ∧ v.faults.holdCovered = true ∧ HoldCause.drbg ∈ v.faults.holds ∧ v.faults.silent = false)) ∧
    ((∃ x ∈ s.faults.drbgTimes, u.clock < x + 1000000000) → Does (.drbgMismatch t) s silent) ∧
    (s.drbg.reinst = true → exec (.drbgReinstantiated true t) s = .next { u with
      drbg := { s.drbg with up := true, reinst := false, waiting := [], requests := 0, reseedAt := u.clock }
      orders := s.orders.map (fun o => if o.stage == .waitDrbg then { o with stage := .ready } else o)
      faults := { s.faults with holds := s.faults.holds.filter (fun x => x != .drbg) } }) ∧
    (s.drbg.reinst = true → Does (.drbgReinstantiated false t) s silent)

/-- Writes of register fields (15 R627 and the tables of the fields). -/
def Obligations.RegisterFieldWrites : Prop :=
  ∀ (s : State) (w : BitVec 64) (tb : Bool) (t : Nat), Serving s →
    let u := tick t s
    let n := bits w.toNat 0 32
    let bar0 (off : Nat) := exec (.registerWrite .bar0 off 4 w tb t) s
    (∀ off size, (size ≠ 4 ∧ size ≠ 8) ∨ off % size ≠ 0 → exec (.registerWrite .bar0 off size w tb t) s = .next { u with
      faults := { s.faults with accessErr := true } }) ∧
    bar0 0x1010 = .next { u with faults := { s.faults with accessErr := s.faults.accessErr && !bitOf n 0 } } ∧
    bar0 0x3000 = .next { u with ev := { s.ev with en := bitOf n 0 } } ∧
    bar0 0x7001C = .next { u with day := { s.day with winErr := s.day.winErr && !bitOf n 0 } } ∧
    bar0 0x70088 = .next { u with day := { s.day with tallySel := bits n 0 8 } } ∧
    (∀ k, k < 384 → Does (.registerWrite .bar0 (0x3400 + 4 * k) 4 w tb t) s (fun v =>
      (∀ i, i < 4 → evRoute v (4 * k + i) = bits n (8 * i) 4) ∧
      (∀ x, x < 4 * k ∨ 4 * k + 4 ≤ x → evRoute v x = evRoute s x) ∧ { v with ev := { v.ev with route := s.ev.route } } = u)) ∧
    (∀ st, st < 4096 → bar0 (0x10000 + 64 * st + 0x28) = .next (setStall u st { stall s st with
      cfgErr := (stall s st).cfgErr && !bitOf n 0 })) ∧
    (∀ e, e < 76 → bar0 (0x50000 + 0x100 + 16 * e + 8) = .next (if bitOf n 18 then { u with mon := { s.mon with
      ents := s.mon.ents.map (fun p => if p.1 = e then (p.1, { p.2 with latched := false }) else p) } } else u)) ∧
    (∀ off, off % 4 = 0 → off ≠ 0x1010 → off ≠ 0x3000 → ¬ (0x3400 ≤ off ∧ off < 0x3A00) → ¬ (0x10000 ≤ off ∧ off < 0x60000) →
      off ≠ 0x7001C → off ≠ 0x70088 → ¬ (0x90000 ≤ off ∧ off < 0xA0000) → ¬ (0xB0000 ≤ off ∧ off < 0xC0000) → bar0 off = .next u) ∧
    (∀ st q r, st < 4096 → q < 4 → r < 0x40 → r % 4 = 0 →
      let x := ring s st q
      let page := exec (.registerWrite .stallPage (4096 * st + 0x100 + 0x40 * q + r) 4 w tb t) s
      (pageTakes (stall s st) tb = false → page = .next (if (stall s st).tdi = .run then
        setRing u st q { x with cwDrops := satAdd 16 x.cwDrops 1 } else u)) ∧
      (pageTakes (stall s st) tb = true →
        (r < 0x10 → x.enabled = true → page = .next (setRing u st q { x with cfgErr := true })) ∧
        (r < 8 → x.enabled = false → page = .next (setRing u st q { x with ordBase := baseField (putHalf x.ordBase (r == 4) n) })) ∧
        (8 ≤ r → r < 0x10 → x.enabled = false →
          page = .next (setRing u st q { x with rcpBase := baseField (putHalf x.rcpBase (r == 12) n) })) ∧
        (r = 0x18 → page = .next (setRing u st q { x with
          cfgErr := x.cfgErr && !bitOf n 4, overrun := x.overrun && !bitOf n 6 })) ∧
        (r = 0x2C → page = .next (setRing u st q { x with coalCount := bits n 0 16, coalTime := bits n 16 16 })) ∧
        (r = 0x30 → page = .next (setRing u st q { x with vecOff := bits n 0 12 })))) ∧
    (∀ e, e < 4096 →
      exec (.registerWrite .bar4 (16 * e + 8) 4 w tb t) s = .next { u with pcie := { s.pcie with
        msixTable := Tbl.put (0, 0) s.pcie.msixTable e ((Tbl.getD s.pcie.msixTable e (0, 0)).1, n) } } ∧
      (bitOf n 0 = true → exec (.registerWrite .bar4 (16 * e + 12) 4 w tb t) s = .next { u with pcie := { s.pcie with
        unmasked := s.pcie.unmasked.filter (fun x => x != e) } }))

/-- Register rows (15 R636 to R641, R653; 13 R593, R594; 08 R397; 09 R424). -/
def Obligations.RegisterRows : Prop :=
  ∀ (s : State), 
    (Serving s →
      exec .causeAck s = .next { s with faults := { s.faults with lastCause := 0, lastLevel := 0, startFail := 0, failStep := 0 } } ∧
      exec .firstAck s = .next { s with worlds := { s.worlds with first := none } } ∧
      exec .ifAck s = .next { s with stk := { s.stk with ifValid := false, ifKind := 0, ifChannel := 0, ifLevel := 0, ifMaster := 0,
                                                         ifAddr := 0, ifIndex := 0 } } ∧
      exec .perfClear s = .next { s with perf := { s.perf with ctrs := List.replicate 18 0,
                                                               held := s.perf.held.map (fun _ => List.replicate 18 0) } } ∧
      (∀ g m, g < 48 → Does (.eventStatusClear g m 0) s (fun v => evStatus v g = evStatus s g &&& ~~~m ∧
        (∀ x, x ≠ g → evStatus v x = evStatus s x) ∧ v.ev.enable = s.ev.enable ∧ EvidenceOnly s v)) ∧
      (∀ g i, g < 48 → i < 32 → sourceExists (32 * g + i) = true →
        Does (.eventStatusClear g ((1 : BitVec 32) <<< i) ((1 : BitVec 32) <<< i)) s (fun v => (evStatus v g).getLsbD i = true ∧
          v.ev.enable = s.ev.enable ∧ EvidenceOnly s v)) ∧
      (∀ g m meet, 48 ≤ g → exec (.eventStatusClear g m meet) s = .next s) ∧
      (∀ g x, g < 48 → Does (.eventEnableWrite g false x) s (fun v => evEnable v g = x ∧ v.ev.status = s.ev.status ∧
        v.ev.bmc = s.ev.bmc ∧ EvidenceOnly s v)) ∧
      (∀ g x, g < 48 → Does (.eventEnableWrite g true x) s (fun v => evBmc v g = x ∧ v.ev.status = s.ev.status ∧
        v.ev.enable = s.ev.enable ∧ EvidenceOnly s v)) ∧
      (∀ g b x, 48 ≤ g → exec (.eventEnableWrite g b x) s = .next s) ∧
      (∀ x, x < 2 ^ 13 → exec (.winBaseWrite x) s = .next (if 5504 < x then { s with day := { s.day with winErr := true } }
        else { s with day := { s.day with winBase := x, winValid := false, winBusy := true,
                                          winData := (List.range 128).map (fun k => viewRec s (x + k)) } })) ∧
      exec .winSnapshotDone s = .next (if s.day.winBusy then { s with day := { s.day with winBusy := false, winValid := true } }
        else s)) ∧
    (∀ pin level t, pin < 16 →
      let w := { tick t s with side := { s.side with gpioIn := setBit s.side.gpioIn pin level } }
      (bitOf s.side.gpioIn pin = level ∨ (if level then bitOf s.side.gpioRise pin else bitOf s.side.gpioFall pin) = false →
        exec (.gpioEdge pin level t) s = .next w) ∧
      (bitOf s.side.gpioIn pin ≠ level → (if level then bitOf s.side.gpioRise pin else bitOf s.side.gpioFall pin) = true →
        bitOf s.worlds.gpioKeeper pin = false → (∀ y ∈ s.worlds.pinMoving, y.1 ≠ pin) →
        Does (.gpioEdge pin level t) s (fun v => (evStatus v ((148 + pin) / 32)).getLsbD ((148 + pin) % 32) = true ∧
          EvidenceOnly w v)))

/-- The SPDM responder (13 R590 to R592). -/
def Obligations.SpdmRows : Prop :=
  ∀ (s : State) (q : SpdmReq), Open s →
    let sends (c : Instr) (b : Bytes) (v : State) : Prop := exec c s = .next (spdmSend q b v)
    let ver : Byte := BitVec.ofNat 8 q.version
    let fine : Prop := (q.session = none ∨ ∃ k, q.session = some k ∧ sessionUp s k = true) ∧ s.spdm.version = some q.version
    let settled : Prop := s.spdm.caps = true ∧ s.spdm.algs = true
    let all : List Instr := [.getDigests q, .getCertificate q, .challenge q, .getMeasurements q, .keyExchange q, .endSession q,
      .keyUpdate q, .spdmHeartbeat q]
    exec .spdmGetVersion s = .next { s with
      out := s.out ++ [.doe [0x10, 0x04, 0, 0, 0, 2, 0x00, 0x12, 0x00, 0x13]]
      spdm := { s.spdm with version := none, caps := false, algs := false, handshake := none, certLog := [], measLog := [],
                            transcript := [0x10, 0x84, 0, 0, 0x10, 0x04, 0, 0, 0, 2, 0x00, 0x12, 0x00, 0x13] } } ∧
    (q.version = 0x12 ∨ q.version = 0x13 → s.spdm.caps = false → s.spdm.transcript ≠ [] →
      let rsp : Bytes := [ver, 0x61, 0, 0, 0, Config.spdmCt, 0, 0] ++ leBytes 4 spdmFlags ++ leBytes 4 Config.spdmTransferSize ++
        leBytes 4 Config.spdmMessageSize
      sends (.spdmGetCapabilities q) rsp { s with spdm := { s.spdm with
        version := some q.version, caps := true, transcript := s.spdm.transcript ++ reqBytes 0xE1 q ++ rsp } }) ∧
    (q.version ≠ 0x12 → q.version ≠ 0x13 → sends (.spdmGetCapabilities q) (spdmError eVersion s) s) ∧
    (fine → s.spdm.caps = true → s.spdm.algs = false → bitOf (ofLe (slice q.data 4 4)) 7 = true →
      bitOf (ofLe (slice q.data 8 4)) 1 = true → ∃ rsp, sends (.negotiateAlgorithms q) rsp { s with spdm := { s.spdm with
        algs := true, transcript := s.spdm.transcript ++ reqBytes 0xE3 q ++ rsp, certLog := [], measLog := [] } } ∧
        slice rsp 0 2 = [ver, 0x63] ∧ slice rsp 12 8 = leBytes 4 0x80 ++ leBytes 4 0x02) ∧
    (fine → settled →
      (let rsp : Bytes := [ver, 0x01, 0, 1] ++ sha384 (certChain s)
       sends (.getDigests q) rsp { s with spdm := { s.spdm with certLog := s.spdm.certLog ++ reqBytes 0x81 q ++ rsp } }) ∧
      (let off := ofLe (slice q.data 0 2)
       let part := ((certChain s).drop off).take (ofLe (slice q.data 2 2))
       let rsp : Bytes := [ver, 0x02, 0, 0] ++ leBytes 2 part.length ++ leBytes 2 ((certChain s).length - off - part.length) ++ part
       q.param1 % 16 = 0 → off < (certChain s).length →
         sends (.getCertificate q) rsp { s with spdm := { s.spdm with certLog := s.spdm.certLog ++ reqBytes 0x82 q ++ rsp } }) ∧
      (let d := draw 32 s
       let asked := if q.param2 = 0 then [] else if q.param2 = 0xFF then measurements s
         else (measurements s).filter (fun m => m.1 == q.param2)
       let recs := (asked.map measBlock).flatten
       let body : Bytes := [ver, 0x60, BitVec.ofNat 8 (if q.param2 = 0 then (measurements s).length else 0), 0,
         BitVec.ofNat 8 asked.length] ++ leBytes 3 recs.length ++ recs ++ d.1 ++ [0, 0] ++ reqContext 0 q
       bitOf q.param1 0 = false → q.param2 = 0 ∨ asked ≠ [] → sends (.getMeasurements q) body { d.2 with spdm := { s.spdm with
         measLog := s.spdm.measLog ++ reqBytes 0xE0 q ++ body } }) ∧
      (let d := draw 32 s
       let body : Bytes := [ver, 0x03, 0, 1] ++ sha384 (certChain s) ++ d.1 ++ measSummary q.param2 s ++ [0, 0] ++ reqContext 32 q
       let sig := spdmSign "responder-challenge_auth signing" (s.spdm.transcript ++ s.spdm.certLog ++ reqBytes 0x83 q ++ body) s
       q.param1 = 0 → (∀ x, sig = some x → sends (.challenge q) (body ++ x) { d.2 with spdm := { s.spdm with certLog := [] } }) ∧
         (idClassical s = none → sends (.challenge q) (spdmError eUnspecified s) s)) ∧
      (q.session = none → q.param2 = 0 → 132 ≤ q.data.length → (weierFindings 2 (0x04 :: slice q.data 36 96) 0).isEmpty = true →
        (∀ k, idClassical s = some k → ∃ b hs th, sends (.keyExchange q) b { (draw 32 (draw 56 s).2).2 with spdm := { s.spdm with
          nextSession := (s.spdm.nextSession + 1) % 65536
          handshake := some (ofLe (slice q.data 0 2) + s.spdm.nextSession % 65536 * 65536, hs, th) } }) ∧
        (idClassical s = none → sends (.keyExchange q) (spdmError eUnspecified s) s)) ∧
      (∀ k, q.session = some k →
        sends (.endSession q) [ver, 0x6C, 0, 0] { s with spdm := { s.spdm with
          sessions := s.spdm.sessions.filter (fun x => x.1 != k) } } ∧
        (q.param1 = 1 ∨ q.param1 = 2 → sends (.keyUpdate q) [ver, 0x69, BitVec.ofNat 8 q.param1, BitVec.ofNat 8 q.param2]
          { s with spdm := { s.spdm with sessions := s.spdm.sessions.map (fun x =>
            if x.1 = k then (x.1, spdmExpand s x.2.1 "traffic upd" [], x.2.2 + 1) else x) } }) ∧
        sends (.spdmHeartbeat q) [ver, 0x68, 0, 0] s) ∧
      (q.session = none → ∀ c ∈ [Instr.endSession q, .keyUpdate q, .spdmHeartbeat q], sends c (spdmError eSessionRequired s) s)) ∧
    (∀ k hs th, s.spdm.handshake = some (k, hs, th) → q.session = some k →
      let mac := verifyData s hs "req hs data" (th.take (th.length - 48))
        (th ++ [ver, 0xE5, BitVec.ofNat 8 q.param1, BitVec.ofNat 8 q.param2])
      (q.data = mac → sends (.finish q) [spdmVer s, 0x65, 0, 0] { s with spdm := { s.spdm with
        handshake := none
        sessions := s.spdm.sessions.filter (fun x => x.1 != k) ++
          [(k, hmacOf 2 (spdmExpand s hs "derived" []) (zeros 48), 0)] } }) ∧
      (q.data ≠ mac → sends (.finish q) (spdmError eDecrypt s) { s with spdm := { s.spdm with handshake := none } })) ∧
    (s.spdm.handshake = none → sends (.finish q) (spdmError eUnexpected s) s) ∧
    (∀ c ∈ .negotiateAlgorithms q :: all,
      (∀ k, q.session = some k → sessionUp s k = false → sends c (spdmError eSession s) s) ∧
      (q.session = none → ∀ x, s.spdm.version = some x → x ≠ q.version → sends c (spdmError eVersion s) s) ∧
      (q.session = none → s.spdm.version = none → sends c (spdmError eUnexpected s) s)) ∧
    (fine → ¬ settled → ∀ c ∈ all, sends c (spdmError eUnexpected s) s)

/-- TDISP and IDE (03 R143 to R146; 15 R631). -/
def Obligations.TdispAndIdeRows : Prop :=
  ∀ (s : State) (t : Nat), Open s →
    let tells (c : Instr) (b : Bytes) (v : State) : Prop := exec c s = .next (emit (.doe b) v)
    (∀ q : TdispReq,
      let x := stall s q.stall
      let rows : List Instr := [.tdispGetVersion q, .tdispGetCapabilities q, .lockInterfaceRequest q t, .getDeviceInterfaceReport q,
        .getDeviceInterfaceState q, .startInterfaceRequest q t, .stopInterfaceRequest q t]
      let tdi : Prop := q.func = s.pcie.rid ∧ q.stall < 4096 ∧ x.tdi ≠ .none
      (secured s q.session = false → ∀ c ∈ rows, tells c (spdmError eSessionRequired s) s) ∧
      (secured s q.session = true → q.version ≠ 0x10 → ∀ c ∈ rows, tells c (vendorRsp s (tdispError tVersion q)) s) ∧
      (secured s q.session = true → q.version = 0x10 → ¬ tdi → ∀ c ∈ rows, tells c (vendorRsp s (tdispError tInterface q)) s) ∧
      (secured s q.session = true → q.version = 0x10 → tdi →
        tells (.tdispGetVersion q) (vendorRsp s (tdispHead 0x01 q ++ [1, 0x10])) s ∧
        tells (.tdispGetCapabilities q) (vendorRsp s (tdispHead 0x02 q ++ take 4 Config.tdispCaps ++ fit 16 [0xFE] ++
          take 8 (fun i => Config.tdispCaps (i + 4)))) s ∧
        (let r := tdiReport q.stall
         tells (.getDeviceInterfaceReport q) (vendorRsp s (if x.tdi = .locked ∨ x.tdi = .run then
           tdispHead 0x04 q ++ leBytes 2 r.length ++ leBytes 2 0 ++ r else tdispError tState q)) s) ∧
        tells (.getDeviceInterfaceState q) (vendorRsp s (tdispHead 0x05 q ++ [tdiCode x.tdi])) s ∧
        (x.tdi = .unlocked → q.stream < 8 → q.stream ∈ s.spdm.ideSecure → x.state = .bound → mirrored s = false →
          Does (.lockInterfaceRequest q t) s (fun v => (stall v q.stall).tdi = .locked ∧ (stall v q.stall).state = .resetting ∧
            (stall v q.stall).gen = x.gen + 1 ∧ (stall v q.stall).hardReset = true ∧ (stall v q.stall).stream = some q.stream ∧
            (stall v q.stall).tdiNonce = some s.drbg.next ∧ v.drbg.next = s.drbg.next + 32 ∧
            (∀ n, n ≠ q.stall → stall v n = stall s n) ∧
            v.out = s.out ++ [.doe (vendorRsp s (tdispHead 0x03 q ++ take 32 (fun i => Config.drbg (s.drbg.next + i))))])) ∧
        (x.tdi ≠ .unlocked → tells (.lockInterfaceRequest q t) (vendorRsp s (tdispError tState q)) s) ∧
        (x.tdi = .unlocked → 8 ≤ q.stream ∨ q.stream ∉ s.spdm.ideSecure →
          tells (.lockInterfaceRequest q t) (vendorRsp s (tdispError tConfig q)) s) ∧
        (x.tdi = .locked → ∀ n, x.tdiNonce = some n → if q.nonce = take 32 (fun i => Config.drbg (n + i)) then
            tells (.startInterfaceRequest q t) (vendorRsp s (tdispHead 0x06 q))
              (modStall (tick t s) q.stall (fun y => { y with tdi := .run, tdiNonce := none }))
          else tells (.startInterfaceRequest q t) (vendorRsp s (tdispError tNonce q)) s) ∧
        (x.tdi ≠ .locked → tells (.startInterfaceRequest q t) (vendorRsp s (tdispError tState q)) s) ∧
        tells (.stopInterfaceRequest q t) (vendorRsp s (tdispHead 0x07 q))
          (modStall (tick t s) q.stall (fun y => { y with tdi := .unlocked, stream := none, tdiNonce := none })))) ∧
    (∀ (q : SpdmReq) (c : Instr) (n : Byte), q.mctp = false → slice q.data 0 5 = [3, 0, 2, 1, 0] → q.data.getD 7 0 = 1 →
      (q.data.drop 8).getD 1 0 = n → let r := parseTdisp q.session (q.data.drop 8)
      (n, c) ∈ [((0x81 : Byte), Instr.tdispGetVersion r), (0x82, .tdispGetCapabilities r), (0x83, .lockInterfaceRequest r 0),
        (0x84, .getDeviceInterfaceReport r), (0x85, .getDeviceInterfaceState r), (0x86, .startInterfaceRequest r 0),
        (0x87, .stopInterfaceRequest r 0)] → exec (.vendorDefinedRequest q) s = exec c s) ∧
    (∀ q : SpdmReq, slice q.data 0 5 ≠ [3, 0, 2, 1, 0] → exec (.vendorDefinedRequest q) s =
      .next (spdmSend q [spdmVer s, 0x7F, 0x07, 0x7E] s)) ∧
    (∀ q : SpdmReq, q.mctp = true → slice q.data 0 5 = [3, 0, 2, 1, 0] → q.data.getD 7 0 = 1 →
      exec (.vendorDefinedRequest q) s = .next (spdmSend q (spdmError eSessionRequired s) s)) ∧
    (∀ stream i, Does (.ideStreamFailure stream i t) s (fun v => stream ∉ v.spdm.ideSecure ∧
      (∀ k, k ≠ stream → (k ∈ v.spdm.ideSecure ↔ k ∈ s.spdm.ideSecure)) ∧
      (∀ n, (n, stall s n) ∈ s.stalls → (stall s n).stream = some stream → (stall s n).tdi = .locked ∨ (stall s n).tdi = .run →
        (stall v n).tdi = .error))) ∧
    (∀ (k : Option Nat) m, secured s k = false → tells (.ideKmMessage k m) (spdmError eSessionRequired s) s) ∧
    (∀ (k : Option Nat), secured s k = true →
      (∀ p, tells (.ideKmMessage k (.query p)) (ideRsp s (1 :: 0 :: BitVec.ofNat 8 p :: Config.ideQuery p)) s) ∧
      (∀ st ks d sub, st < 9 → tells (.ideKmMessage k (.keyProg st ks d sub))
        (ideRsp s [3, 0, 0, BitVec.ofNat 8 st, 0, ideSel ks d sub, 0])
        { s with spdm := { s.spdm with ideKeys := s.spdm.ideKeys.filter (fun i => i != st) ++ [st] } }) ∧
      (∀ st ks d sub, tells (.ideKmMessage k (.goSet st ks d sub)) (ideRsp s [6, 0, 0, BitVec.ofNat 8 st, 0, ideSel ks d sub, 0])
        (if st ∈ s.spdm.ideKeys then
          { s with spdm := { s.spdm with ideSecure := s.spdm.ideSecure.filter (fun i => i != st) ++ [st] } } else s)) ∧
      (∀ st ks d sub, Does (.ideKmMessage k (.stop st ks d sub)) s (fun v => st ∉ v.spdm.ideSecure)))

/-- The card rows (15 R650 to R652; 04 R212 to R216). -/
def Obligations.CardRows : Prop :=
  ∀ (s : State) (p t : Nat), Open s → p < 4 → s.side.ports.length = 4 →
    let u := tick t s
    let x := port s p
    let idle (v : State) (n : Nat) : Prop := (port v p).session = none ∧ (port v p).cstep = .idle ∧ (port v p).skey = none ∧
      (port v p).powered = false ∧ (port v p).faults = n
    let ended (v : State) (id : Nat) (o : Order) (status word : Nat) : Prop := order? v id = some { o with
      stage := .done, result := some { status := status, word := word, out := [], aux := [] }, copyA := none, copyB := none,
      insts := [], compareAt := u.clock }
    let quiet : Prop := x.queue = [] ∧ ∀ y ∈ s.worlds.pinDeferred, y.1 ≠ p
    (x.session = none → (∀ r, exec (.cardResponse p r t) s = .next u) ∧ exec (.cardTimeout p t) s = .next u ∧
      exec (.blockWaitingTimeExpiry p t) s = .next u) ∧
    (∀ id o w, x.session = some id → order? s id = some o → o.stage = .waitCard → o.want = some w → wantPort w = p →
      let own := (wantWho w).1
      let ix := (wantWho w).2
      let taken (f : Order → Order) (v : State) : State := emit (.card p .close []) (modPort p (fun y => { y with cstep := .close })
        { v with orders := v.orders.map (fun y => if y.id = id then { f y with stage := .ready, want := none } else y) })
      (∀ c, x.cstep = .atr → c ≠ 0 → exec (.cardResponse p (.atr c) t) s = .next (emit (.card p .select cardAid)
        (modPort p (fun y => { y with cls := c % 4, cstep := .select }) u))) ∧
      (x.cstep = .select → exec (.cardResponse p .ok t) s = .next (emit (.card p .identity [])
        (modPort p (fun y => { y with cstep := .identity }) u))) ∧
      (∀ cid kt pk c, x.cstep = .identity → custodian? s own ix = some c → c.cardId = cid → c.ktype = kt → c.pk = pk →
        Does (.cardResponse p (.identity cid kt pk) t) s (fun v => (port v p).cstep = .open ∧ (port v p).cardId = fit 16 cid ∧
          (port v p).opener = s.drbg.next ∧ v.drbg.next = s.drbg.next + 80 ∧ v.orders = s.orders ∧
          v.out = s.out ++ [.card p .open (openData s s.drbg.next)])) ∧
      (∀ sig e po ow i pr, x.cstep = .sign → w = .sign e po ow i pr → exec (.cardResponse p (.signature sig) t) s =
        .next (taken (fun y => { y with sigs := y.sigs ++ [(e, sig)] }) u)) ∧
      (x.cstep = .put → exec (.cardResponse p .ok t) s = .next (taken (fun y => { y with cardData := some [] }) u)) ∧
      (∀ k enc b, x.cstep = .get → x.skey = some k → openShare k x.msgs enc = some b →
        exec (.cardResponse p (.share enc) t) s = .next (taken (fun y => { y with cardData := some b })
          (modPort p (fun y => { y with msgs := y.msgs + 1 }) u))) ∧
      (quiet → (∀ e po ow i pr, w ≠ .sign e po ow i pr) → x.cstep ≠ .close →
        Does (.cardTimeout p t) s (fun v => idle v x.faults ∧ ended v id o 0x0709 p) ∧
        Does (.blockWaitingTimeExpiry p t) s (fun v => idle v (satAdd 16 x.faults 1) ∧ ended v id o 0x0709 p) ∧
        Does (.cardResponse p .error t) s (fun v => idle v (satAdd 16 x.faults 1) ∧ ended v id o 0x0709 p) ∧
        (x.present = true → Does (.cardPresenceChange p false t) s (fun v => idle v (satAdd 16 x.faults 1) ∧
          ended v id o 0x0709 p ∧ (port v p).present = false)) ∧
        (x.cstep = .atr → Does (.cardResponse p (.atr 0) t) s (fun v => idle v x.faults ∧ ended v id o 0x0724 ix)))) ∧
    (∀ id, x.session = some id → x.cstep = .close → quiet → Does (.cardResponse p .ok t) s (fun v => idle v x.faults ∧
      v.orders = s.orders ∧ v.out = s.out ∧ v.munim = s.munim)) ∧
    (∀ b, x.session = none → x.present ≠ b → Does (.cardPresenceChange p b t) s (fun v => (port v p).present = b ∧
      (port v p).cls = 0 ∧ (port v p).cardId = [] ∧ (evStatus v ((140 + p) / 32)).getLsbD ((140 + p) % 32) = true ∧
      v.orders = s.orders)) ∧
    exec (.cardPresenceChange p x.present t) s = .next u ∧
    exec (.ceremonyTimeout t) s = .next (match s.munim.backup with
      | none => u
      | some b => { u with munim := { s.munim with
          backup := none, backupLost := s.munim.backupLost.filter (fun n => n != b.owner) ++ [b.owner] } }) ∧
    exec (.restoreSharesExpiry t) s = .next { u with munim := { s.munim with restore := s.munim.restore.filter (fun r => decide (u.clock < r.firstAt + 600 * 1000000000)) } }

/-- Frames of the Courier Link (10 R443 to R447, R474). -/
def Obligations.LinkRows : Prop :=
  ∀ (s : State) (t : Nat), Open s →
    let u := tick t s
    (∀ f c, sessionRow f t = some c →
      (accepting s = false ∨ f.epoch ≠ s.pair.sessionEpoch → exec c s = .next u) ∧
      (accepting s = true → f.epoch = s.pair.sessionEpoch → f.seq < expected s f.ch → exec c s = .next (sendAck f.ch false u)) ∧
      (accepting s = true → f.epoch = s.pair.sessionEpoch → expected s f.ch < f.seq → exec c s = .next (sendAck f.ch true u)) ∧
      (InOrder s f → bodyPermitted s f.body = false → Takes c s f (pairNote pnFrame (arrived s f t)))) ∧
    (∀ f k n b, f.body = .evidence k n b → InOrder s f → Does (.evidence f t) s (fun v => EvidenceOnly (arrived s f t) v)) ∧
    (∀ f nak, f.body = .ack nak →
      (accepting s = false ∨ f.epoch ≠ s.pair.sessionEpoch → exec (.ack f t) s = .next u) ∧
      (accepting s = true → f.epoch = s.pair.sessionEpoch →
        (f.seq < expected s f.ch → exec (.ack f t) s = .next u) ∧
        (expected s f.ch < f.seq → exec (.ack f t) s = .next (sendAck f.ch true u)) ∧
        (f.seq = expected s f.ch → exec (.ack f t) s =
          .next (if nak then resend f.ch (arrived s f t) else arrived s f t)))) ∧
    (∀ f n, f.ack = some n → f.ch = 1 → arrived s f t = { u with pair := { s.pair with
        rxSeq := modAt (· + 1) s.pair.rxSeq 1
        replay := s.pair.replay.filter (fun x => !(x.1 == 1 && decide (x.2.1 ≤ n)))
        evidence := s.pair.evidence.filter (fun e => !(s.pair.replay.any (fun x => x.1 == 1 && decide (x.2.1 ≤ n) &&
          x.2.2.body == .evidence e.1 e.2.1 e.2.2)))
        rcptUnacked := s.pair.pendRcpts.length } }) ∧
    (∀ f, f.ack = none → arrived s f t = { u with pair := { s.pair with rxSeq := modAt (· + 1) s.pair.rxSeq f.ch } }) ∧
    (∀ ch nak q n, s.faults.silent = false → s.pair.session = true → s.pair.txSeq[ch]? = some q → s.pair.rxSeq[ch]? = some (n + 1) →
      let g : Frame := { ch := ch, epoch := s.pair.sessionEpoch, seq := q, ack := some n, body := .ack nak }
      sendAck ch nak s = { s with out := s.out ++ [.frame g], pair := { s.pair with
        txSeq := modAt (· + 1) s.pair.txSeq ch, replay := s.pair.replay ++ [(ch, q, g)] } }) ∧
    (∀ ch k, accepting s = false → exec (.frameError ch k t) s = .next u) ∧
    (∀ ch k, accepting s = true → k ≠ .tag → exec (.frameError ch k t) s = .next (sendAck ch true u)) ∧
    (∀ ch, accepting s = true → Does (.frameError ch .tag t) s (fun v => v.pair.tagFails = satAdd 16 s.pair.tagFails 1 ∧
      v.pair.tagTimes = within 1000000 s.pair.tagTimes u.clock ∧
      v.pair.closedRx = decide (64 ≤ (within 1000000 s.pair.tagTimes u.clock).length) ∧ v.pair.session = true ∧ v.orders = s.orders)) ∧
    (∀ lane, lane < 8 → s.pair.lanes.getLsbD lane = true →
      let w := { u with pair := { s.pair with lanes := s.pair.lanes &&& ~~~((1 : BitVec 8) <<< lane) } }
      (linkUp w = true → Does (.courierLaneFail lane t) s (fun v => EvidenceOnly w v)) ∧
      (linkUp w = false → Does (.courierLaneFail lane t) s (fun v => EvidenceOnly { w with
        pair := { w.pair with session := false, sessionKey := none, frameKeys := none, ptk := none, hsStep := 0 } } v))) ∧
    (∀ lane, 8 ≤ lane ∨ s.pair.lanes.getLsbD lane = false → exec (.courierLaneFail lane t) s = .next u)

/-- The handshake of the pair (10 R439 to R442). -/
def Obligations.HandshakeRows : Prop :=
  ∀ (s : State) (t : Nat) (f : Frame), Open s →
    let u := tick t s
    let p := s.pair
    let finished (v : State) : Prop := v.pair.hsStep = 0 ∧ v.pair.hsPurpose = 0 ∧ v.pair.hsSecret = none ∧ v.pair.session = p.session ∧
      v.orders = s.orders
    (p.bound = true → p.side = 0 → p.pairSecret.isSome = true → Does (.courierLinkUp t) s (fun v => v.pair.lanes = 0xFF ∧
      v.pair.session = false ∧ v.pair.sessionKey = none ∧ v.pair.hsPurpose = 2 ∧ v.pair.hsStep = 1 ∧ v.pair.hsDraw = s.drbg.next ∧
      v.drbg.next = s.drbg.next + 128)) ∧
    (p.bound = false → bindOrder s = none → Does (.courierLinkUp t) s (fun v => EvidenceOnly { u with pair := { p with
      lanes := 0xFF, session := false, sessionKey := none, frameKeys := none, ptk := none } } v)) ∧
    (∀ e n pk pq, f.body = .hello 1 e n pk pq → p.bound = true → exec (.hello f t) s = .next u) ∧
    (∀ e n pk pq, f.body = .hello 1 e n pk pq → p.bound = false → p.hsPurpose ≠ 1 → exec (.hello f t) s = .next { u with
      pair := { p with hsPeer := n ++ pk ++ pq } }) ∧
    (∀ e n pk pq, f.body = .hello 2 e n pk pq → n.length = 32 → e < 2 ^ 32 → p.bound = true → p.pairSecret.isSome = true →
      (p.side = 0 → p.hsPurpose = 2 → p.hsStep = 1 → Does (.hello f t) s (fun v => v.pair.hsStep = 3 ∧
        v.pair.hsEpoch = max p.hsEpoch e ∧ v.pair.hsPeer = n ++ leBytes 4 e ∧
        ∃ ek x a b, v.out = s.out ++ [.frame { ch := 0, epoch := 0, seq := 0, ack := none, body := .kex ek x a b }])) ∧
      (p.side = 1 → Does (.hello f t) s (fun v => v.pair.hsStep = 2 ∧ v.pair.hsPurpose = 2 ∧ v.drbg.next = s.drbg.next + 128 ∧
        v.pair.hsEpoch = max (match s.mram.pairRec with | some r => r.epoch + 1 | none => 0) e ∧
        ∃ e' n', v.out = s.out ++ [.frame { ch := 0, epoch := 0, seq := 0, ack := none, body := .hello 2 e' n' [] [] }]))) ∧
    (∀ ek x a b, f.body = .kex ek x a b →
      (p.hsStep ≠ 2 → p.hsStep ≠ 3 → exec (.kex f t) s = .next u) ∧
      (p.hsStep = 2 → hsVerify s (sha384 (p.hsTranscript ++ ek ++ x)) a b = true → Does (.kex f t) s (fun v => v.pair.hsStep = 4 ∧
        v.pair.hsSecret.isSome = true ∧ v.pair.session = p.session ∧ v.orders = s.orders ∧
        ∃ ct ox oa ob, v.out = s.out ++ [.frame { ch := 0, epoch := 0, seq := 0, ack := none, body := .kexReply ct ox oa ob },
          .frame { ch := 0, epoch := 0, seq := 0, ack := none, body := .confirm (confirmTag v) }])) ∧
      (p.hsStep = 2 → p.hsPurpose = 2 → hsVerify s (sha384 (p.hsTranscript ++ ek ++ x)) a b = false → Does (.kex f t) s finished)) ∧
    (∀ ct x a b, f.body = .kexReply ct x a b →
      (p.hsStep ≠ 3 → exec (.kexReply f t) s = .next u) ∧
      (p.hsStep = 3 → hsVerify s (sha384 (p.hsTranscript ++ ct ++ x)) a b = true → Does (.kexReply f t) s (fun v =>
        v.pair.hsStep = 4 ∧ v.pair.hsSecret.isSome = true ∧ v.pair.session = p.session ∧ v.orders = s.orders ∧
        v.out = s.out ++ [.frame { ch := 0, epoch := 0, seq := 0, ack := none, body := .confirm (confirmTag v) }])) ∧
      (p.hsStep = 3 → p.hsPurpose = 2 → hsVerify s (sha384 (p.hsTranscript ++ ct ++ x)) a b = false →
        Does (.kexReply f t) s finished)) ∧
    (∀ tag, f.body = .confirm tag →
      (p.hsStep ≠ 4 → exec (.confirm f t) s = .next u) ∧
      (p.hsStep = 4 → p.hsPurpose = 2 → tag ≠ confirmTag s → Does (.confirm f t) s finished) ∧
      (p.hsStep = 4 → p.hsPurpose = 2 → tag = confirmTag s → p.mode = 1 → p.evidence = [] → Does (.confirm f t) s (fun v =>
        v.pair.session = true ∧ v.pair.sessionKey = p.hsSecret ∧ v.pair.frameKeys = p.hsSecret.map frameKeysOf ∧
        v.pair.ptk = p.hsSecret.map ptkOf ∧ v.pair.sessionEpoch = p.hsEpoch ∧ v.pair.txSeq = [0, 0] ∧
        v.pair.rxSeq = [0, 0] ∧ v.pair.replay = [] ∧ v.pair.closedRx = false ∧ v.pair.hsStep = 0 ∧
        v.pair.decideDue = decide (p.state = psLinking) ∧ v.out = s.out))) ∧
    (∀ o, bindOrder s = some o → Does (.pairBindTimeout t) s (fun v => v.pair.hsStep = 0 ∧ v.pair.hsPurpose = 0 ∧
      v.pair.hsSecret = none ∧ v.pair.session = p.session ∧
      order? v o.id = some { o with stage := .done, result := some { status := 0x0331, word := 0, out := [], aux := [] },
                                    copyA := none, copyB := none, insts := [], compareAt := u.clock })) ∧
    (bindOrder s = none → exec (.pairBindTimeout t) s = .next u)

/-- What the twin's frames do in Mirror mode (10 R455 to R472). -/
def Obligations.TwinCommitRows : Prop :=
  ∀ (s : State) (t : Nat) (f : Frame), InOrder s f → s.pair.mode = 1 →
    let w := arrived s f t
    let raised (n v : Nat) : State := { w with mram := { s.mram with
      tallies := Tbl.put Tally.reset s.mram.tallies n { tally s n with value := v, writes := (tally s n).writes + 1 } } }
    (∀ n st q gen count crc, f.body = .claim [.commit n st q gen count crc] → ringExists st q = true →
      (gen ≠ (stall s st).gen → Takes (.claim f t) s f w) ∧
      (gen = (stall s st).gen → (ring s st q).shared = true → (count - (ring s st q).h).toNat < 2 ^ 31 →
        let r := { ring s st q with twinCommits := (ring s st q).twinCommits ++ [(count.toNat, n, crc)] }
        (divergence r = none → Takes (.claim f t) s f (setRing w st q r)) ∧
        (divergence r ≠ none → r.stopCode ≠ 0x0140 → Does (.claim f t) s (fun v => ring v st q = { r with
          stopped := true, stopCode := 0x0140 } ∧ v.pair.divergences = satAdd 16 s.pair.divergences 1)))) ∧
    (∀ st q gen lg base, f.body = .claim [.ring st q gen lg base] → ringExists st q = true → gen = (stall s st).gen →
      (ring s st q).enabled = true → (ring s st q).shared = true → Takes (.claim f t) s f (setRing w st q { ring s st q with
        twinRcpBase := base, twinRcpLog2 := lg, twinW := 0, shared := true })) ∧
    (∀ d, f.body = .delta d →
      (d.phase = 1 → d.apply = false → d.gen = (stall s d.stall).gen → s.pair.txns.length < 64 →
        Takes (.deltaPrepare f t) s f { w with pair := { w.pair with txns := s.pair.txns ++ [followTxn s d] } }) ∧
      (d.phase = 1 → d.apply = true → d.items = [] → deltaOrder s d = none → Takes (.deltaPrepare f t) s f
        (replyDelta d 5 { w with pair := { w.pair with txns := s.pair.txns.filter (fun x => x.lead || x.num != d.txn) } })) ∧
      (d.phase = 2 → ∀ x, s.pair.txns = [x] → x.lead = true → x.num = d.txn → x.phase = 1 → x.own = [] →
        Does (.deltaVoteYes f t) s (fun v => v.pair.txns = [{ x with phase := 4 }] ∧
          (∀ o, order? s x.order = some o → order? v x.order = some { o with commit := .pending, items := [] }))) ∧
      (d.phase = 3 → ∀ x, s.pair.txns = [x] → x.lead = true → x.num = d.txn → x.phase = 1 → Does (.deltaVoteNo f t) s (fun v =>
        v.pair.txns = [] ∧ (∀ o, order? s x.order = some o → order? v x.order = some { o with
          items := [], stage := .done, result := some { status := 0x0541, word := 0, out := [], aux := [] }
          copyA := none, copyB := none, insts := [], compareAt := w.clock }))) ∧
      (d.phase = 4 → ∀ x, txnOf s false d.txn = some x → x.phase = 2 → x.items = [] → x.own = [] →
        Takes (.deltaCommit f t) s f (replyDelta d 5 { w with
          pair := { w.pair with txns := s.pair.txns.filter (fun y => y.lead != false || y.num != d.txn) }
          orders := s.orders.map (fun o => if o.id = x.order then { o with commit := .pending, items := [] } else o) })) ∧
      (d.phase = 5 → ∀ x, txnOf s true d.txn = some x → x.phase = 4 → Takes (.deltaCommitted f t) s f { w with
        pair := { w.pair with txns := s.pair.txns.filter (fun y => y.lead != true || y.num != d.txn) }
        orders := s.orders.map (fun o => if o.id = x.order then (if o.stage == .waitTwin then
          { o with stage := if o.commit == .pending then .waitCommit else .done } else o) else o) }) ∧
      (d.phase = 6 → ∀ x, txnOf s false d.txn = some x → Takes (.deltaAbort f t) s f { w with
        pair := { w.pair with txns := s.pair.txns.filter (fun y => y.lead != false || y.num != d.txn) }
        orders := s.orders.map (fun o => if o.id = x.order then (if o.stage == .waitTwin && o.commit == .none then
          { o with stage := .ready, result := none, outSent := false } else o) else o) }) ∧
      (d.phase = 2 → txnOf s true d.txn = none → Takes (.deltaVoteYes f t) s f w) ∧
      (d.phase = 3 → txnOf s true d.txn = none → Takes (.deltaVoteNo f t) s f w) ∧
      (d.phase = 4 → txnOf s false d.txn = none → Takes (.deltaCommit f t) s f w) ∧
      (d.phase = 5 → txnOf s true d.txn = none → Takes (.deltaCommitted f t) s f w) ∧
      (d.phase = 6 → txnOf s false d.txn = none → Takes (.deltaAbort f t) s f w)) ∧
    (∀ n rid v h, f.body = .reserve 1 n rid v h →
      (isLead s = false → Takes (.reserveRequest f t) s f w) ∧
      (isLead s = true → heldKey s h = none →
        Takes (.reserveRequest f t) s f (sendFrame 0 (.reserve 5 n rid (tally s n).value h) w)) ∧
      (isLead s = true → ∀ k, heldKey s h = some k → k.attrs.kstate = 0 → (tally s n).exhausted = false →
        (tally s n).writes < 8000000000 → (tally s n).value < tallyMax → s.faults.skipStep4 = false →
        beyond k.attrs ((tally s n).value - k.attrs.ledgerBase) = false → Takes (.reserveRequest f t) s f
          (sendFrame 0 (.reserve 2 n rid ((tally s n).value + 1) h) (raised n ((tally s n).value + 1))))) ∧
    (∀ n rid v h x, (∀ y ∈ s.pair.reserveWait, y.1 = rid ↔ y = x) → x ∈ s.pair.reserveWait → x.1 = rid → x.2.1 = h →
      (∃ y ∈ s.pair.reserveWait, y ≠ x ∧ y.2.2 = x.2.2) →
      (f.body = .reserve 2 n rid v h → (tally s n).value < v → Does (.reserveGrant f t) s (fun y =>
        y.pair.reserveWait = s.pair.reserveWait.filter (fun z => z.1 != rid) ∧ (tally y n).value = v ∧
        (∀ o, order? s x.2.2 = some o → order? y x.2.2 = some (if o.firstGrant = 0 then { o with firstGrant := v } else o)))) ∧
      (f.body = .reserve 4 n rid v h → Takes (.reserveNoted f t) s f { w with pair := { w.pair with
        reserveWait := s.pair.reserveWait.filter (fun z => z.1 != rid) } })) ∧
    (∀ n rid v h, (∀ y ∈ s.pair.reserveWait, y.1 ≠ rid) →
      (f.body = .reserve 2 n rid v h → Takes (.reserveGrant f t) s f w) ∧
      (f.body = .reserve 4 n rid v h → Takes (.reserveNoted f t) s f w) ∧
      (f.body = .reserve 5 n rid v h → heldKey s h = none → Takes (.reserveRefuse f t) s f w) ∧
      (f.body = .reserve 5 n rid v h → ∀ k, heldKey s h = some k → k.attrs.kstate = 0 → Does (.reserveRefuse f t) s (fun y =>
        heldKey y h = some { k with attrs := { k.attrs with kstate := 1 }, res := none } ∧ y.orders = s.orders))) ∧
    (∀ n rid v h, f.body = .reserve 3 n rid v h →
      ((tally s n).exhausted = false ∨ v ≤ (tally s n).value → Takes (.reserveNote f t) s f
        (sendFrame 0 (.reserve 4 n rid v h) (if (tally s n).value < v then raised n v else w))) ∧
      ((tally s n).exhausted = true → (tally s n).value < v → Does (.reserveNote f t) s (fun y =>
        (tally y n).value = v ∧ y.orders = s.orders)))

/-- The rows of Mirror mode (10 R449 to R451, R475 to R482). -/
def Obligations.MirrorRows : Prop :=
  ∀ (s : State) (t : Nat) (f : Frame), Open s →
    let u := tick t s
    let p := s.pair
    let w := arrived s f t
    let quiet := ∀ o ∈ s.orders, o.stage ≠ .waitCharge
    let ask : Out := .casReq p.arbAddr (recArbiter s) (soleWord s)
    let lost (v : State) : Prop := v.faults.silent = true ∧ v.faults.lastCause = 0x000F
    let most (n x : Nat) (v : State) : Prop := (tally v n).value = max x (tally s n).value
    (p.session = false → exec (.heartbeatSend t) s = .next u) ∧
    (p.session = true → exec (.heartbeatSend t) s = .next (sendFrame 0 (.heartbeat (beatNow u))
      { u with pair := { p with beat := (p.beat + 1) % 2 ^ 32 } })) ∧
    (∀ b, f.body = .heartbeat b → InOrder s f → quiet → p.decideDue = false → b.restarts ≤ p.twinRestarts → s.faults.holds = [] →
      Does (.heartbeat f t) s (fun v => EvidenceOnly { w with pair := { w.pair with
        missRun := 0, twinState := b.state, twinArbiter := b.arbiter, twinRestarts := b.restarts, reserveWait := [] } } v)) ∧
    (p.bound = false ∨ p.casPending ≠ 0 ∨ p.settling = true → exec (.heartbeatMiss t) s = .next u) ∧
    (p.bound = true → p.casPending = 0 → p.settling = false → p.mode = 1 → p.state = psPaired →
      (p.missRun = 0 → Does (.heartbeatMiss t) s (fun v => v.pair.missRun = 1 ∧ v.pair.hbMisses = satAdd 16 p.hbMisses 1 ∧
        .pairQuiet ∈ v.faults.holds ∧ v.faults.holdCovered = true ∧ v.pair.session = p.session)) ∧
      (p.missRun = 2 → s.pcie.atomicEn = true → Does (.heartbeatMiss t) s (fun v => v.pair.twinDeclared = true ∧
        v.pair.session = false ∧ v.pair.failovers = satAdd 32 p.failovers 1 ∧ v.pair.casPending = 1 ∧ ask ∈ v.out)) ∧
      (p.missRun = 2 → s.pcie.atomicEn = false → p.arbOnStart = false → Does (.heartbeatMiss t) s lost)) ∧
    (∀ a b c, f.body = .silence a b c → InOrder s f → p.mode = 1 → p.state = psPaired → Does (.silenceFrame f t) s (fun v =>
      v.pair.role = 0 ∧ v.pair.settling = true ∧ v.pair.twinDeclared = true ∧ v.pair.session = false ∧
      .arbWrite p.arbAddr (soleWord s) ∈ v.out ∧ v.mram.pairRec = s.mram.pairRec.map (fun r => { r with arbiter := soleWord s }))) ∧
    (p.casPending = 0 → (∀ r, exec (.arbiterCasCompletion r t) s = .next u) ∧ exec (.arbiterCasTimeout t) s = .next u) ∧
    (p.casPending ≠ 0 → p.arbOnStart = false →
      exec (.arbiterCasCompletion (.value (recArbiter s)) t) s = .next { u with
        orders := s.orders.map (fun o => if twinsOrder s o then { o with byTwin := true } else o)
        mram := { s.mram with pairRec := s.mram.pairRec.map (fun r => { r with arbiter := soleWord s }) }
        pair := { p with
          arbValue := soleWord s, casPending := 0, casFailed := false, arbOnStart := false, role := 0, settling := true } } ∧
      (∀ x, x ≠ recArbiter s → bits x 48 16 = field (recPairId s) 0 2 → arbHolder x = 1 - p.side →
        Does (.arbiterCasCompletion (.value x) t) s lost) ∧
      (∀ x, x ≠ recArbiter s → bits x 48 16 ≠ field (recPairId s) 0 2 → p.casFailed = false →
        exec (.arbiterCasCompletion (.value x) t) s = .next (emit ask { u with pair := { p with arbValue := x, casFailed := true } })) ∧
      (p.casFailed = false → exec (.arbiterCasCompletion .error t) s = .next (emit ask { u with pair := { p with casFailed := true } })) ∧
      (p.casFailed = true → Does (.arbiterCasCompletion .error t) s lost) ∧
      Does (.arbiterCasTimeout t) s lost) ∧
    (p.casPending ≠ 0 → p.arbOnStart = true → Does (.arbiterCasCompletion (.value (recArbiter s)) t) s (fun v =>
      v.pair.state = psSole ∧ v.pair.role = 0 ∧ v.pair.casPending = 0 ∧ v.orders = s.orders)) ∧
    (p.settling = false → exec (.settleExpiry t) s = .next u) ∧
    (p.settling = true → p.txns = [] →
      (sharedRings s = [] → quiet → Does (.settleExpiry t) s (fun v => v.pair.state = psSole ∧ v.pair.settling = false ∧
        .pairQuiet ∉ v.faults.holds)) ∧
      (sharedRings s ≠ [] → exec (.settleExpiry t) s = .next (emits ((sharedRings s).map (scanReads u)).flatten { u with
        faults := { s.faults with holds := s.faults.holds.filter (fun x => x != .pairQuiet) }
        pair := { p with settling := false, txns := [], scanning := sharedRings s } }))) ∧
    (∀ st q slots, ringExists st q = false ∨ p.scanning.contains (rix st q) = false →
      exec (.takeoverScanCompletion st q slots t) s = .next u) ∧
    (∀ st q h, ringExists st q = true → p.scanning = [rix st q] → quiet →
      field (fit 32 h) 6 1 % 2 ≠ (if (ring s st q).twinW.toNat / 2 ^ (ring s st q).twinRcpLog2 % 2 = 0 then 1 else 0) →
      Does (.takeoverScanCompletion st q [h] t) s (fun v => v.pair.state = psSole ∧ v.pair.scanning = [] ∧
        ∀ a b, (ring v a b).shared = false)) ∧
    (p.mode = 1 → p.state = psLinking → p.bound = true → p.session = false → p.casPending = 0 → s.pcie.atomicEn = true →
      exec (.sessionFormTimeout t) s = .next (emit ask { u with pair := { p with
        arbOnStart := true, casPending := 1, casFailed := false } })) ∧
    (p.session = true ∨ p.state ≠ psLinking → exec (.sessionFormTimeout t) s = .next u) ∧
    (p.mode = 1 → InOrder s f →
      (∀ its, f.body = .resync its → p.state = psPaired → Takes (.resync f t) s f w) ∧
      (∀ n x, f.body = .resync [.tally n x] → p.state = psSole → 32 ≤ n → Does (.resync f t) s (fun v =>
        most n x v ∧ v.orders = s.orders ∧ ((tally s n).exhausted = false → v.munim = s.munim))) ∧
      (∀ n x, f.body = .resync [.tally n x] → p.state = psWaiting → p.joinTries = 0 → Does (.resync f t) s (fun v =>
        v.pair.state = psJoining ∧ v.pair.joinTries = 1 ∧ v.pair.resyncRecords = 1 ∧ v.munim.keys = [] ∧ v.keeper.loaded = [] ∧
        v.mram.master = [] ∧ most n x v)) ∧
      (f.body = .resyncEnd (joinDigest s) → p.state = psJoining → Does (.resync f t) s (fun v =>
        v.pair.state = psPaired ∧ v.pair.role = 1 ∧ v.pair.joinTries = 0)) ∧
      (∀ d, f.body = .resyncEnd d → d ≠ joinDigest s → p.state = psJoining → Takes (.resync f t) s f
        (let v := sendFrame 1 (.resyncEnd (joinDigest s)) w
         { v with pair := { v.pair with joinTries := 0 } })) ∧
      (∀ i o, f.body = .resyncEnd (joinDigest s) → p.state = psSole → p.joinOrder = some i → order? s i = some o →
        Does (.resync f t) s (fun v => v.pair.state = psPaired ∧ v.pair.role = 0 ∧ v.pair.joinOrder = none ∧
          order? v i = some { o with stage := .done, result := some { status := 0, word := 0, out := [], aux := [] },
                                     copyA := none, copyB := none, insts := [], compareAt := w.clock })))

/-- Access checks and what they guard (09 R402 to R418; 11 R499). -/
def Obligations.AccessRows : Prop :=
  ∀ (s : State) (t : Nat), alive s = true → s.faults.silent = false →
    let u := tick t s
    let sram (a n : Nat) : Bytes := memRead 0 s.worlds.sram a n
    let stored (a : Nat) (b : Bytes) (v : State) : State := { v with worlds := { v.worlds with sram := memWrite 0 s.worlds.sram a b } }
    let lost (v : State) : Prop := v.faults.silent = true ∧ v.faults.lastCause = 0x0009
    (∀ w a n k, violationOf u ⟨w, 0, a, n, k⟩ = none →
      let c : Instr := .accessCheck ⟨w, 0, a, n, k⟩ 0 t
      (k = .read ∨ k = .fetch → exec c s = .next (emit (.clerkData (sram a n)) u)) ∧
      (∀ b, k = .write b → exec c s = .next (stored a (fit n b) u)) ∧
      (∀ b, k = .atomic b → exec c s = .next (stored a (fit n b) (emit (.clerkData (sram a n)) u))) ∧
      (∀ d, k = .copy 0 d → exec c s = .next (stored d (sram a n) u))) ∧
    (∀ q i v, violationOf u q = some v → q.who = .clerk i false ∨ q.who = .clerk i true → inKeeper (clerk s i) = false →
      Does (.accessCheck q 0 t) s (fun x => x.worlds.sram = s.worlds.sram ∧ x.worlds.violTotal = satAdd 32 s.worlds.violTotal 1 ∧
        x.worlds.first.isSome = true ∧ .refused ∈ x.out ∧ x.orders = s.orders ∧ x.faults = u.faults)) ∧
    (∀ i a n k, inKeeper (clerk s i) = false → deedKey s 0 (a / 4096) = some k →
      Does (.accessCheck ⟨.clerk i false, 0, a, n, .read⟩ 1 t) s (fun x => .deed ∈ x.faults.holds ∧ x.faults.holdCovered = true ∧
        x.worlds.sram = s.worlds.sram) ∧
      Does (.accessCheck ⟨.clerk i false, 0, a, n, .read⟩ 2 t) s lost) ∧
    (∀ q, (∀ x ∈ s.faults.acuTimes, x + 1000000000 ≤ u.clock) → Does (.acuCheckerDisagreement q t) s (fun x =>
      .acuChecker ∈ x.faults.holds ∧ x.faults.holdCovered = true ∧ x.worlds.violTotal = satAdd 32 s.worlds.violTotal 1 ∧
        x.worlds.sram = s.worlds.sram)) ∧
    (∀ q, (∃ x ∈ s.faults.acuTimes, u.clock < x + 1000000000) → Does (.acuCheckerDisagreement q t) s lost) ∧
    (∀ ok, s.faults.holds.contains .acuChecker = false → exec (.acuSelftestDone ok t) s = .next u) ∧
    (s.faults.holds.contains .acuChecker = true →
      exec (.acuSelftestDone true t) s = .next { u with faults := { s.faults with
        holds := s.faults.holds.filter (fun x => x != .acuChecker) } } ∧
      Does (.acuSelftestDone false t) s lost) ∧
    (∀ core space page entry, core < 8 → (clerk s core).level = 0 →
      (deedSetOk s space page entry.toNat = false → exec (.deedSet core space page entry t) s = .next (emit .refused u)) ∧
      (∀ k, deedSetOk s space page entry.toNat = true → deedKey s space page = some k → Tbl.getD s.worlds.deeds k 0 % 8 = 0 →
        exec (.deedSet core space page entry t) s = .next { u with worlds := { s.worlds with
          deedPend := s.worlds.deedPend ++ [⟨space, page, cleanEntry entry.toNat⟩] } })) ∧
    (∀ core space page entry, core < 8 → (clerk s core).level = 1 →
      exec (.deedSet core space page entry t) s = .next (emit .refused u)) ∧
    (∀ core space page entry, core < 8 → 2 ≤ (clerk s core).level → Does (.deedSet core space page entry t) s (fun x =>
      x.worlds.deeds = s.worlds.deeds ∧ x.worlds.deedPend = s.worlds.deedPend ∧
        x.worlds.violTotal = satAdd 32 s.worlds.violTotal 1)) ∧
    (∀ space page p k, s.worlds.deedPend.find? (fun p => p.space == space && p.page == page) = some p →
      deedKey s space page = some k → pageBusy s space page = false → exec (.deedSetDone space page) s = .next { s with
        worlds := { s.worlds with deeds := Tbl.put 0 s.worlds.deeds k p.entry
                                  deedPend := s.worlds.deedPend.filter (fun x => !(x.space == space && x.page == page)) } }) ∧
    (∀ space page, s.worlds.deedPend.find? (fun p => p.space == space && p.page == page) = none →
      Ignores (.deedSetDone space page) s) ∧
    (∀ space page k, deedKey s space page = some k →
      (Tbl.getD s.worlds.deedBad k 0 ≠ 1 → exec (.deedEntryRestored space page t) s = .next u) ∧
      (Tbl.getD s.worlds.deedBad k 0 = 1 → exec (.deedEntryRestored space page t) s = .next
        (let v := { u with worlds := { s.worlds with deedBad := Tbl.del s.worlds.deedBad k } }
         if v.worlds.deedBad.isEmpty then holdClear .deed v else v))) ∧
    (∀ i f x, i < 64 →
      (∀ r, regionWrite (s.worlds.regions.getD i Region.reset) f x = some r → exec (.acuRegionWrite 0 i f x t) s = .next { u with
        worlds := { s.worlds with regions := modAt (fun _ => r) s.worlds.regions i } }) ∧
      (∀ l, l ≠ 0 ∨ regionWrite (s.worlds.regions.getD i Region.reset) f x = none → Does (.acuRegionWrite l i f x t) s (fun v =>
        EvidenceOnly u v ∧ .refused ∈ v.out))) ∧
    (let w := { u with dbg := { s.dbg with ir := 0x12, pins := .functional } }
     (∀ a b, violationOf w ⟨.debug, 0, a, b.length, .write b⟩ = none → exec (.dbgAccess (.write 0 a b) t) s = .next
       (stored a b w)) ∧
     (∀ a n, violationOf w ⟨.debug, 0, a, n, .read⟩ = none → exec (.dbgAccess (.read 0 a n) t) s = .next
       (emit (.clerkData (sram a n)) w)) ∧
     (∀ i op, i < 8 → s.faults.debugLevel < 2 → Does (.dbgAccess (.run i op) t) s (fun v => v.worlds.clerks = s.worlds.clerks ∧
       v.worlds.dbgRefused = satAdd 16 s.worlds.dbgRefused 1 ∧ .refused ∈ v.out)) ∧
     (∀ i, i < 8 → 2 ≤ s.faults.debugLevel → inKeeper (clerk s i) = false → exec (.dbgAccess (.run i .halt) t) s = .next
       (modClerk i (fun c => { c with halted := true }) w)))

/-- Worlds and what belongs to them (09 R400, R420 to R433). -/
def Obligations.WorldRows : Prop :=
  ∀ (s : State) (t : Nat), s.faults.phase = .running → s.faults.silent = false →
    let u := tick t s
    let lost (v : State) : Prop := v.faults.silent = true ∧ v.faults.lastCause = 0x0007
    let gated (b : Nat) (g : Gate) : State := setGate b g u
    (∀ i, 8 ≤ i ∨ inKeeper (clerk s i) = true ∨ (clerk s i).halted = true ∨ s.keeper.waitGate.contains i = true →
      exec (.worldGateCall i t) s = .next u) ∧
    (∀ i c, i < 8 → s.worlds.clerks.length = 8 → clerk s i = c → inKeeper c = false → c.halted = false → s.keeper.waitGate = [] →
      (keeperClerks s < 4 → s.keeper.restarting = false → Does (.worldGateCall i t) s (fun v =>
        clerk v i = { c with level := 0, saved := some c.level, savedRegs := c.shopRegs, shopRegs := [], keeperRegs := [],
                             callAt := u.clock } ∧
        v.worlds.hidden = true ∧ v.keeper.waitGate = [] ∧ ∀ j, j ≠ i → clerk v j = clerk s j)) ∧
      (4 ≤ keeperClerks s → exec (.worldGateCall i t) s = .next { u with keeper := { s.keeper with waitGate := [i] } })) ∧
    (∀ i, s.keeper.waitGate = [] → exec (.worldGateReturn i t) s = .next { u with
      worlds := { s.worlds with clerks := modAt leaveKeeper s.worlds.clerks i } }) ∧
    (0 < keeperClerks s → exec (.perfHoldRelease t) s = .next u) ∧
    (keeperClerks s = 0 → exec (.perfHoldRelease t) s = .next { u with
      worlds := { s.worlds with hidden := false }
      perf := { s.perf with held := none }
      stalls := (s.stalls.map (fun p => (p.1, { p.2 with held := none }))).filter (fun p => p.2 != Stall.reset) }) ∧
    (∀ i k, i < 16 →
      (pinKeeper s (.gpio i) = k → exec (.pinWorldSet (.gpio i) k t) s = .next u) ∧
      (pinKeeper s (.gpio i) ≠ k → exec (.pinWorldSet (.gpio i) k t) s = .next { u with
        side := { s.side with
          gpioOut := setBit s.side.gpioOut i false, gpioOe := setBit s.side.gpioOe i false
          gpioOd := setBit s.side.gpioOd i false, gpioRise := setBit s.side.gpioRise i false
          gpioFall := setBit s.side.gpioFall i false }
        worlds := { s.worlds with pinMoving := s.worlds.pinMoving.filter (fun y => y.1 != i) ++ [(i, k)] } }) ∧
      (s.worlds.pinMoving = [(i, k)] → exec (.pinWorldTakeover (.gpio i)) s = .next { s with worlds := { s.worlds with
        pinMoving := [], gpioKeeper := setBit s.worlds.gpioKeeper i k } }) ∧
      (s.worlds.pinMoving = [] → Ignores (.pinWorldTakeover (.gpio i)) s)) ∧
    (∀ l c k o, l ≠ 0 → exec (.dmaChannelBind l c k o t) s = .next (emit .refused s)) ∧
    (∀ c k o, c < 32 →
      ((dmaCh s c).busy = true → Does (.dmaChannelBind 0 c k o t) s (fun v => EvidenceOnly u v)) ∧
      ((dmaCh s c).busy = false → exec (.dmaChannelBind 0 c k o t) s = .next { u with worlds := { s.worlds with
        dma := modAt (fun d => { d with keeper := k, owner := o.map (· % 1024), desc := [], halted := false }) s.worlds.dma c } })) ∧
    (∀ b, b < 97 →
      let g := gateOf s b
      exec (.claimSet b t) s = .next (gated b { g with claimed := true }) ∧
      exec (.claimRelease b t) s = .next (gated b { g with
        claimed := false, gatedReq := g.pendingReq.getD g.gatedReq, pendingReq := none, deferred := false }) ∧
      exec (.gatingRequest b false t) s = .next (gated b { g with gatedReq := false, pendingReq := none }) ∧
      (g.claimed = false → exec (.gatingRequest b true t) s = .next (gated b { g with gatedReq := true })) ∧
      (g.claimed = true → Does (.gatingRequest b true t) s (fun v => gateOf v b = { g with pendingReq := some true, deferred := true } ∧
        v.worlds.deferrals = satAdd 16 s.worlds.deferrals 1 ∧ v.insts = (gated b { g with deferred := true }).insts))) ∧
    (∀ b g, 97 ≤ b → exec (.claimSet b t) s = .next u ∧ exec (.claimRelease b t) s = .next u ∧
      exec (.gatingRequest b g t) s = .next u) ∧
    (∀ i, 8 ≤ i ∨ inKeeper (clerk s i) = false ∨ s.keeper.restarting = true → exec (.keeperWatchdogExpiry i t) s = .next u) ∧
    (∀ i, i < 8 → inKeeper (clerk s i) = true → s.keeper.restarting = false →
      (s.keeper.restartAt = [] → Does (.keeperWatchdogExpiry i t) s (fun v => v.keeper.restarting = true ∧ v.keeper.trigger = 3 ∧
        v.keeper.restarts = satAdd 16 s.keeper.restarts 1 ∧ v.keeper.waitGate = [] ∧ v.keeper.loaded = s.keeper.loaded)) ∧
      ((∃ x ∈ s.keeper.restartAt, u.clock < x + 1000000000) → Does (.keeperWatchdogExpiry i t) s lost)) ∧
    (s.keeper.restarting = true →
      (∀ k, s.keeper.restartFrom + 10000000 < u.clock → Does (.keeperRestart k true t) s lost) ∧
      (∀ k, Does (.keeperRestart k false t) s lost) ∧
      (∀ k, u.clock ≤ s.keeper.restartFrom + 10000000 → s.keeper.waitGate = [] → Does (.keeperRestart k true t) s (fun v =>
        v.keeper.restarting = false ∧ v.munim.policyStale = false ∧ v.faults.silent = false ∧ v.munim.keys = s.munim.keys)) ∧
      Does (.keeperRestartTimeout t) s lost) ∧
    (s.keeper.restarting = false → exec (.keeperRestartTimeout t) s = .next u)

/-- The environment monitors (11 R499, R506 to R509; 12 R541 to R545). -/
def Obligations.EnvironmentRows : Prop :=
  ∀ (s : State) (t : Nat), s.faults.silent = false →
    let u := tick t s
    let holds (c : HoldCause) (v : State) : Prop := c ∈ v.faults.holds ∧ v.faults.holdCovered = true
    let cleared (c : HoldCause) : List HoldCause := s.faults.holds.filter (fun x => x != c)
    let lost (n : Nat) (v : State) : Prop := v.faults.silent = true ∧ v.faults.lastCause = n
    let gone (n : Nat) (v : State) : Prop := lost n v ∧ v.faults.lastLevel = 2 ∧ v.faults.zeroizeLine = true ∧ v.munim.deviceRoot = none ∧
      v.vigil.seed = 0 ∧ v.vigil.seedInv = 0
    (s.faults.railsUp = false → ∀ r a b, Ignores (.supplyWarning r a t) s ∧ Ignores (.supplyRecovered t) s ∧ Ignores (.dipTimeout t) s ∧
      Ignores (.supplyBelowReset r a t) s ∧ Ignores (.supplyOvervoltage r a t) s ∧ Ignores (.glitchAlarm r t) s ∧
      Ignores (.glitchHoldEnd t) s ∧ Ignores (.lightAlarm r t) s ∧ Ignores (.tempSample r b t) s ∧ Ignores (.clockWindow r b t) s ∧
      Ignores (.pllLockLoss r t) s) ∧
    (s.faults.railsUp = true →
      (∀ r mv, 6 ≤ r ∨ (mon s r).userLimit ≤ mv → exec (.supplyWarning r mv t) s = .next u) ∧
      (∀ r mv, r < 6 → mv < (mon s r).userLimit →
        (∀ d, (mon s r).dipAt = some d → Does (.supplyWarning r mv t) s (fun v => (mon v r).dipMin = min (mon s r).dipMin mv ∧
          v.faults = u.faults)) ∧
        ((mon s r).dipAt = none → (within 1000000000 s.mon.dipTimes u.clock).length < 16 → Does (.supplyWarning r mv t) s (fun v =>
          holds .supply v ∧ (mon v r).dipAt = some u.clock ∧ (mon v r).dipMin = mv ∧ (mon v r).alarm = true)) ∧
        ((mon s r).dipAt = none → 16 ≤ (within 1000000000 s.mon.dipTimes u.clock).length →
          Does (.supplyWarning r mv t) s (lost 0x000E))) ∧
      Does (.supplyRecovered t) s (fun v => v.faults.holds = cleared .supply ∧ ∀ r, r < 6 → (mon v r).dipAt = none) ∧
      ((∀ r, r < 6 → ∀ d, (mon s r).dipAt = some d → u.clock ≤ d + 1000000) → exec (.dipTimeout t) s = .next u) ∧
      (∀ r d, r < 6 → (mon s r).dipAt = some d → d + 1000000 < u.clock → Does (.dipTimeout t) s (lost 0x000E)) ∧
      (∀ r mv, 6 ≤ r ∨ railReset r ≤ mv → exec (.supplyBelowReset r mv t) s = .next u) ∧
      (∀ r mv, r < 6 → mv < railReset r → Does (.supplyBelowReset r mv t) s (fun v => v.faults.phase = .off ∧
        v.faults.railsUp = false ∧ v.munim.deviceRoot = none ∧ v.pair.pairSecret = none ∧ v.faults.lastCause = 0x000E ∧
        v.vigil.power = (if s.vigil.src = 0 then 1 else 2))) ∧
      (∀ r mv, 6 ≤ r ∨ mv ≤ railUpper r → exec (.supplyOvervoltage r mv t) s = .next u) ∧
      (∀ r mv, r < 6 → railUpper r < mv → Does (.supplyOvervoltage r mv t) s (gone 0x0203)) ∧
      (∀ i, i < 8 →
        ((within 1000000000 s.mon.glitchTimes u.clock).length < 4 → Does (.glitchAlarm i t) s (fun v => holds (.glitch i) v ∧
          v.mon.glitches = satAdd 32 s.mon.glitches 1)) ∧
        (4 ≤ (within 1000000000 s.mon.glitchTimes u.clock).length → Does (.glitchAlarm i t) s (gone 0x0205))) ∧
      (∀ i, 8 ≤ i → exec (.glitchAlarm i t) s = .next u) ∧
      ((∃ x ∈ s.mon.glitchTimes, u.clock < x + 10000) → exec (.glitchHoldEnd t) s = .next u) ∧
      ((∀ x ∈ s.mon.glitchTimes, x + 10000 ≤ u.clock) → Does (.glitchHoldEnd t) s (fun v => ∀ i, i < 8 →
        .glitch i ∉ v.faults.holds ∧ (mon v (40 + i)).alarm = false)) ∧
      (∀ i, i < 16 → Does (.lightAlarm i t) s (gone 0x0202)) ∧
      (∀ i, 16 ≤ i → exec (.lightAlarm i t) s = .next u) ∧
      (∀ i x, 8 ≤ i → exec (.tempSample i x t) s = .next u) ∧
      (∀ i x, i < 8 →
        let e := mon s (24 + i)
        (x < -100 → e.runLow = 3 → Does (.tempSample i x t) s (gone 0x0204)) ∧
        (460 < x → e.runFactory = 3 → Does (.tempSample i x t) s (fun v => lost 0x000D v ∧ v.mon.thermAlert = true)) ∧
        (-100 ≤ x → (e.userLimit : Int) < x → x ≤ 460 → e.runUser + 1 = e.userFilter → e.userFilter ≤ 255 → e.alarm = false →
          s.mon.throttle = false → Does (.tempSample i x t) s (fun v => v.mon.throttle = true ∧ v.mon.thermAlert = true ∧
            (mon v (24 + i)).alarm = true ∧ v.faults = u.faults)) ∧
        (-100 ≤ x → x ≤ (e.userLimit : Int) → x ≤ 460 → e.userFilter ≠ 0 → s.mon.throttle = false →
          Does (.tempSample i x t) s (fun v => v.faults = u.faults ∧ v.mon.throttle = false ∧ (mon v (24 + i)).value = i16 x ∧
            (mon v (24 + i)).alarm = false))) ∧
      (∀ c x, 7 ≤ c → exec (.clockWindow c x t) s = .next u) ∧
      (∀ c x, c < 7 →
        let e := mon s (32 + c)
        (outside c x e.factoryLimit = true → e.runFactory + 1 = e.factoryFilter → e.factoryFilter ≤ 255 →
          Does (.clockWindow c x t) s (lost 0x000C)) ∧
        (outside c x e.factoryLimit = false → outside c x e.userLimit = true → e.factoryFilter ≠ 0 → e.runUser + 1 = e.userFilter →
          e.userFilter ≤ 255 → Does (.clockWindow c x t) s (holds (.clock c))) ∧
        (outside c x e.factoryLimit = false → outside c x e.userLimit = false → e.factoryFilter ≠ 0 → e.userFilter ≠ 0 →
          Does (.clockWindow c x t) s (fun v => v.faults.holds = cleared (.clock c) ∧ (mon v (32 + c)).alarm = false))) ∧
      (∀ p, Does (.pllLockLoss p t) s (lost 0x000C)))

/-- The Vigil domain (12 R518 to R540). -/
def Obligations.VigilRows : Prop :=
  ∀ (s : State) (t : Nat), s.faults.silent = false →
    let u := tick t s
    let g := s.vigil
    let gone (v : State) : Prop := v.faults.silent = true ∧ v.faults.lastCause = 0x0201 ∧ v.faults.zeroizeLine = true ∧
      v.vigil.seed = 0 ∧ v.vigil.seedInv = 0
    (∀ i x, 12 ≤ i ∨ (tamperIn s i).armed = false ∨ (tamperIn s i).driverOff = true ∨ g.power = 3 →
      exec (.tamperSample i x t) s = .next u) ∧
    (∀ i x b n, i < 12 → i < g.inputs.length → (tamperIn s i).armed = true → (tamperIn s i).driverOff = false → g.power ≠ 3 →
      sampleOf (tamperIn s i) x = (b, n) →
      let y := tamperIn s i
      (y.alarm = false → b = false → Does (.tamperSample i x t) s (fun v => (tamperIn v i).alarmRun = 0 ∧
        (tamperIn v i).alarm = false ∧ v.faults = u.faults)) ∧
      (y.alarm = false → b = true → y.alarmRun + 1 < filterCount y.filter → Does (.tamperSample i x t) s (fun v =>
        (tamperIn v i).alarmRun = y.alarmRun + 1 ∧ (tamperIn v i).alarm = false ∧ v.faults = u.faults)) ∧
      (y.alarm = false → b = true → filterCount y.filter ≤ y.alarmRun + 1 → s.faults.railsUp = true →
        Does (.tamperSample i x t) s gone) ∧
      (y.alarm = false → b = true → filterCount y.filter ≤ y.alarmRun + 1 → s.faults.railsUp = false →
        Does (.tamperSample i x t) s (fun v => v.vigil.seed = 0 ∧ v.vigil.seedInv = 0 ∧ (tamperIn v i).alarm = true ∧
          v.faults = u.faults)) ∧
      (y.alarm = true → b = false → filterCount y.filter ≤ y.cleanRun + 1 → Does (.tamperSample i x t) s (fun v =>
        (tamperIn v i).alarm = false ∧ (tamperIn v i).armed = true ∧ v.faults = u.faults))) ∧
    (∀ m, m < 4 → 8 + m < g.inputs.length → (tamperIn s (8 + m)).armed = true → g.power ≠ 3 → (tamperIn s (8 + m)).alarm = false →
      s.faults.railsUp = true → Does (.meshExcursionTimeout m t) s (fun v => gone v ∧ (tamperIn v (8 + m)).driverOff = true)) ∧
    (∀ m, 4 ≤ m ∨ (tamperIn s (8 + m)).armed = false ∨ g.power = 3 → exec (.meshExcursionTimeout m t) s = .next u) ∧
    (∀ d a b, g.power ≠ 3 → g.src = 0 → (1620 ≤ d → exec (.vigilSourceChange d a b t) s = .next (measureCells d a b u)) ∧
      (d < 1620 → pickCell a b = none → Does (.vigilSourceChange d a b t) s (fun v => v.vigil.power = 3)) ∧
      (∀ k, d < 1620 → pickCell a b = some k → Does (.vigilSourceChange d a b t) s (fun v => v.vigil.src = k ∧
        v.vigil.power = (if g.power = 0 then 0 else if k = 0 then 1 else 2) ∧ v.faults = u.faults))) ∧
    (∀ d a b, g.power ≠ 3 → g.src ≠ 0 →
      let own := if g.src = 1 then a else b
      let other := if g.src = 1 then b else a
      (own + 50 ≤ other → 2500 ≤ other → Does (.vigilSourceChange d a b t) s (fun v => v.vigil.src = 3 - g.src ∧ v.faults = u.faults)) ∧
      (own < 2200 → other < 2500 → Does (.vigilSourceChange d a b t) s (fun v => v.vigil.power = 3)) ∧
      (2200 ≤ own → other < own + 50 → exec (.vigilSourceChange d a b t) s = .next (measureCells d a b u))) ∧
    (∀ d, g.power = 3 ∨ g.src = 0 ∨ d ≤ 1680 → exec (.vigilSourceReturn d t) s = .next u) ∧
    (∀ d, g.power ≠ 3 → g.src ≠ 0 → 1680 < d → Does (.vigilSourceReturn d t) s (fun v => v.vigil.src = 0 ∧
      v.vigil.power = (if g.power = 0 then 0 else 1) ∧ v.faults = u.faults)) ∧
    (∀ d a b, g.power = 3 → exec (.cellMeasure d a b t) s = .next u) ∧
    (∀ d a b, g.power ≠ 3 → Does (.cellMeasure d a b t) s (fun v =>
      v.vigil.cellA = { g.cellA with mv := a, low := decide (a < 2600), depleted := decide (a < 2500) } ∧
      v.vigil.cellB = { g.cellB with mv := b, low := decide (b < 2600), depleted := decide (b < 2500) } ∧
      v.vigil.vddVigilMv = d ∧ v.faults = u.faults)) ∧
    (g.power ≠ 3 → exec (.vigilPowerOn t) s = .next u) ∧
    (g.power = 3 → Does (.vigilPowerOn t) s (fun v => v.vigil.power = (if s.faults.railsUp then 0 else if g.src = 0 then 1 else 2) ∧
      v.vigil.timeValid = false ∧ v.vigil.seconds = BitVec.ofNat 32 (Config.freeValue s.free) ∧ v.free = s.free + 1 ∧
      v.vigil.seed = 0 ∧ v.vigil.seedInv = 0 ∧ v.vigil.inputs = List.replicate 12 TamperIn.reset)) ∧
    (g.power = 3 ∨ g.timeValid = false → exec (.oscStop t) s = .next u) ∧
    (g.power ≠ 3 → g.timeValid = true → Does (.oscStop t) s (fun v => v.vigil.timeValid = false ∧ v.vigil.seconds = u.vigil.seconds ∧
      v.faults = u.faults)) ∧
    (∀ l a b, s.faults.railsUp = false → Ignores (.sealWrite l a b t) s) ∧
    (∀ l a b, s.faults.railsUp = true →
      (g.power = 3 → exec (.sealWrite l a b t) s = .next u) ∧
      (g.power ≠ 3 → sealRefusal l s = 0 → Does (.sealWrite l a b t) s (fun v => v.vigil.seed = a ∧ v.vigil.seedInv = b ∧
        v.mram = s.mram)) ∧
      (g.power ≠ 3 → sealRefusal l s ≠ 0 → Does (.sealWrite l a b t) s (EvidenceOnly u))) ∧
    (s.faults.phase ≠ .running → Ignores (.tamperTransfer t) s) ∧
    (s.faults.phase = .running → s.faults.skipStep4 = true → exec (.tamperTransfer t) s = .next u) ∧
    (s.faults.phase = .running → s.faults.skipStep4 = false → Does (.tamperTransfer t) s (fun v =>
      EvidenceOnly { u with vigil := { u.vigil with tbuf := [], tbufOver := 0 } } v)) ∧
    (g.power = 3 → exec (.vigilReachesDead t) s = .next u) ∧
    (g.power ≠ 3 → exec (.vigilReachesDead t) s = .next { u with vigil := { u.vigil with
      power := 3, seed := 0, seedInv := 0, clearing := false, timeValid := false
      inputs := List.replicate 12 TamperIn.reset, tbuf := [], tbufOver := 0, lastMove := [] } })

/-- How the part starts (14 R596 to R602, R618; 04 R165 to R167; 08 R378; 11 R510 to R512). -/
def Obligations.StartRows : Prop :=
  ∀ (s : State) (t : Nat) (e : StartEnv) (w : WmEnv) (m : ProvMsg),
    let u := tick t s
    let c := tick e.t s
    let fails (code at_ : Nat) (v : State) : Prop := v.faults.silent = true ∧ v.faults.lastCause = 0x0011 ∧
      v.faults.silenceLatched = true ∧ v.faults.startFail = code ∧ v.faults.failStep = at_
    let emptied (v : State) : Prop := v.orders = [] ∧ v.rings = [] ∧ v.egress = [] ∧ v.keeper.loaded = [] ∧ v.munim.keys = [] ∧
      v.worlds.sram = []
    let stores (v : State) : Prop := (s.mram.writing = [] → v.mram.master = s.mram.master ∧ v.mram.writing = []) ∧ { v.mram with
      master := s.mram.master
      writing := s.mram.writing
      retired := s.mram.retired
      general := s.mram.general
      protect := s.mram.protect
      protCount := s.mram.protCount
      nextSeq := s.mram.nextSeq
      tallies := s.mram.tallies
      troll := s.mram.troll } = s.mram
    let domain (x y : Vigil) : Prop := y = { x with power := if x.power = 3 then 3 else 0, sealRead := false }
    let blank : Prop := s.mram.fuseR = false ∧ s.mram.fuseP = false
    let runsFour : Prop := (s.mram.fuseR = true ∨ s.mram.fuseP = true) ∧ ¬ (s.mram.dbgStaged = some 3 ∧ s.mram.fuseR = true)
    let starts (row : Instr) (kind : Nat) (enough : Prop) (more : State → Prop) : Prop :=
      (e.otpAgree = false → Does row s (fails 1 2)) ∧
      (e.otpAgree = true → e.romOk = false → Does row s (fails 2 2)) ∧
      (e.otpAgree = true → e.romOk = true → e.entropyOk = false → Does row s (fails 3 3)) ∧
      (e.otpAgree = true → e.romOk = true → e.entropyOk = true → runsFour → e.watermarkOk = false → Does row s (fun v =>
        v.faults.phase = .starting ∧ v.faults.silent = false ∧ v.faults.step = 4 ∧ v.faults.startKind = kind ∧
        v.faults.startAt = c.clock ∧ v.clock = c.clock + e.took ∧ v.munim.wmTries = 1 ∧ v.drbg.up = true ∧ emptied v ∧ stores v ∧ more v)) ∧
      (e.otpAgree = true → e.romOk = true → e.entropyOk = true → blank → e.failed = [] → enough → imageCheck s 0 0 false = 0 →
        Does row s (fun v => v.faults.phase = .waitProv ∧ v.faults.silent = false ∧ v.faults.lifecycle = 0 ∧ v.side.runBank = 0 ∧
          v.faults.startKind = kind ∧ v.munim.watermark = none))
    -- PERST# and the two starts
    (s.faults.railsUp = false → exec (.perstAssert t) s = .next { u with faults := { s.faults with perst := true } }) ∧
    (s.faults.railsUp = true → Does (.perstAssert t) s (fun v => v.faults.phase = .off ∧ v.faults.perst = true ∧
      v.faults.silent = false ∧ emptied v ∧ v.munim.deviceRoot = none ∧ stores v ∧ domain u.vigil v.vigil ∧ v.clock = u.clock)) ∧
    (s.faults.phase ≠ .off → Ignores (.coldStart e) s) ∧
    (s.faults.phase = .off → starts (.coldStart e) 1 True (fun v => v.insts = State.reset.insts ∧ v.faults.silences = [])) ∧
    (s.faults.phase ≠ .silent ∨ s.faults.silenceLatched = true ∨ c.clock < s.faults.silentAt + 1000000 →
      exec (.warmReset e) s = .next c) ∧
    (s.faults.phase = .silent → s.faults.silenceLatched = false → s.faults.silentAt + 1000000 ≤ c.clock →
      starts (.warmReset e) 2 (s.insts.length = 4 ∧ ∀ k, minActive k ≤ ((instsOf s k).filter (fun x => x.status == .active)).length)
        (fun v => v.insts = s.insts.map (fun l => l.map warmInst) ∧
        v.faults.silences = s.faults.silences ∧ v.faults.lastCause = s.faults.lastCause ∧ v.keeper.restarts = s.keeper.restarts ∧
        v.pcie.rid = s.pcie.rid ∧ v.pcie.atomicEn = s.pcie.atomicEn ∧ v.ev.enable = s.ev.enable ∧ v.ev.status = [] ∧
        v.side.eid = s.side.eid ∧ v.side.dynAddr = s.side.dynAddr ∧ v.worlds.violTotal = s.worlds.violTotal)) ∧
    -- the waits of a start
    (∀ ok, s.faults.phase ≠ .starting ∨ s.faults.holdCovered = true →
      Ignores (.watermarkRetry w t) s ∧ Ignores (.dramTrainingDone ok t) s ∧ Ignores (.catInitDone t) s) ∧
    (s.faults.phase = .starting → s.faults.holdCovered = false → s.faults.silent = false →
      let rested : Prop := s.munim.pufOffAt + 10000000 ≤ u.clock
      (s.faults.step ≠ 4 ∨ s.munim.wmTries = 0 ∨ ¬ rested → exec (.watermarkRetry w t) s = .next u) ∧
      (s.faults.step = 4 → s.munim.wmTries ≠ 0 → rested → w.ok = false →
        (s.munim.wmTries < 3 → exec (.watermarkRetry w t) s = .next { u with munim := { s.munim with
          wmTries := s.munim.wmTries + 1, puf := .off, pufOffAt := u.clock } }) ∧
        (3 ≤ s.munim.wmTries → Does (.watermarkRetry w t) s (fails 4 4))) ∧
      (s.faults.step = 4 → s.munim.wmTries ≠ 0 → rested → w.ok = true →
        let x : State := { u with clock := u.clock + w.took, vigil := (tick (u.clock + w.took) u).vigil }
        ∃ y, EvidenceOnly { x with
            munim := { s.munim with
              watermark := some (take 32 Config.watermarkByte)
              anchorKey := some (kdf (take 32 Config.watermarkByte) "UT-ANCHOR" otpSalt 32)
              storeKey := some (take 32 (fun i => Config.drbg (s.drbg.next + 8192 + i)))
              ids := true
              wmTries := 0
              puf := .off
              pufOffAt := x.clock }
            drbg := { s.drbg with next := s.drbg.next + 8224, requests := s.drbg.requests + 2 } } y ∧
          exec (.watermarkRetry w t) s = .next (gate s (fromFive w.failed (formRoot y)))) ∧
      (∀ ok, s.faults.step ≠ 8 ∨ s.stk.trained = true → exec (.dramTrainingDone ok t) s = .next u) ∧
      (s.faults.step = 8 → s.stk.trained = false →
        Does (.dramTrainingDone false t) s (fails 8 8) ∧
        exec (.dramTrainingDone true t) s = .next (let d := (draw 128 u).2
          { d with
            stk := { s.stk with
              trained := true
              keysFormed := true
              keysAt := s.drbg.next
              roots := List.replicate (28 * channels s) 0
              nodes := []
              tagLines := [] }
            out := s.out ++ (List.range (channels s)).map .dramInit })) ∧
      (s.faults.step ≠ 8 ∨ s.stk.trained = false ∨ s.stk.catReady = true → exec (.catInitDone t) s = .next u) ∧
      (s.faults.step = 8 → s.stk.trained = true → s.stk.catReady = false →
        (s.faults.skipStep4 = true ∨ s.mram.tallyTorn = [] → Does (.catInitDone t) s (fun v =>
          v.faults.phase = .running ∧ v.faults.silent = false ∧ v.faults.ready = true ∧ v.faults.step = 0 ∧ v.stk.catReady = true ∧
          v.orders = s.orders)) ∧
        (s.faults.skipStep4 = false → s.mram.tallyTorn ≠ [] → Does (.catInitDone t) s (fails 7 9)))) ∧
    (s.faults.phase ≠ .starting ∨ u.clock < s.faults.startAt + 1000000000 → exec (.startTimeout t) s = .next u) ∧
    (s.faults.phase = .starting → s.faults.startAt + 1000000000 ≤ u.clock → s.faults.silent = false →
      Does (.startTimeout t) s (fails 9 s.faults.step)) ∧
    -- the provisioning exchange
    (s.faults.phase ≠ .waitProv ∨ s.faults.lifecycle ≠ 0 ∨ provSigned m = false → exec (.provisioningExchange m t) s = .next u) ∧
    (s.faults.phase = .waitProv → s.faults.lifecycle = 0 → provSigned m = true → s.faults.silent = false →
      let answers (b : Bytes) (v : State) : Prop := exec (.provisioningExchange m t) s = .next { v with out := s.out ++ [.jtag b] }
      (∀ d, m.body = .helper d → exec (.provisioningExchange m t) s = .next { u with mram := { s.mram with helper := some d } }) ∧
      (∀ d, m.body = .chain d → exec (.provisioningExchange m t) s = .next { u with mram := { s.mram with certChain := some d } }) ∧
      (m.body = .identities → ∃ b, answers b u) ∧
      (m.body = .recognition → s.mram.recogSent = true → exec (.provisioningExchange m t) s = .next u) ∧
      (m.body = .recognition → s.mram.recogSent = false → ∃ b, b.length = 1632 ∧
        answers b { (draw 32 u).2 with mram := { s.mram with recogSent := true } }) ∧
      (m.body = .finish → Does (.provisioningExchange m t) s (fun v => v.mram.fuseP = true ∧ v.mram.dbgStaged = none ∧
        v.mram.fuseR = s.mram.fuseR ∧ v.faults = { s.faults with lifecycle := 1 })))

/-- Record store timers (13 R556, R577, R582) and the Bindery (08 R381 to R391, R687). -/
def Obligations.RecordTimersAndStacksRows : Prop :=
  ∀ (s : State) (t : Nat),
    let u := tick t s
    let lost (c : Nat) (v : State) : Prop := v.faults.silent = true ∧ v.faults.lastCause = c
    -- the record store
    (s.faults.phase = .off → ∀ ok, Ignores (.daybookFlushTimer t) s ∧ Ignores (.daybookFlushDone ok t) s ∧
      Ignores (.operatingTimeTick t) s) ∧
    (s.faults.phase ≠ .off →
      (s.day.buf = [] → s.day.dropped + s.day.replaced = 0 → exec (.daybookFlushTimer t) s = .next u) ∧
      (s.day.buf ≠ [] ∨ s.day.dropped + s.day.replaced ≠ 0 → exec (.daybookFlushTimer t) s = .next
        (if s.day.flushing then { u with day := { s.day with flushAgain := true } }
         else { u with day := { s.day with flushing := true } })) ∧
      (∀ ok, s.day.flushing = false → exec (.daybookFlushDone ok t) s = .next u) ∧
      (s.day.flushing = true → s.faults.silent = false → Does (.daybookFlushDone false t) s (lost 0x000A)) ∧
      (s.day.flushing = true → Does (.daybookFlushDone true t) s (fun v => v.day.buf = [] ∧ v.day.flushing = false ∧
        v.day.flushAgain = false ∧ EvidenceOnly u v ∧
        (∀ r, s.day.buf = [r] → s.day.dropped + s.day.replaced = 0 →
          (isProt r = false → s.mram.general.length < 4096 →
            v.mram.general = Tbl.ins s.mram.general s.mram.general.length r) ∧
          (isProt r = true → s.mram.protCount.getD (protIx r) 0 < 256 →
            Tbl.find? v.mram.protect (512 * protIx r + s.mram.protCount.getD (protIx r) 0) = some r)))) ∧
      (s.munim.anchorKey = none ∨ s.faults.skipStep4 = true ∨ (tally s 2).exhausted = true →
        exec (.operatingTimeTick t) s = .next u) ∧
      (let x := tally s 2
       s.munim.anchorKey.isSome = true → s.faults.skipStep4 = false → x.exhausted = false → x.writes < 8000000000 →
         x.value + 1 ≤ tallyMax → exec (.operatingTimeTick t) s = .next { u with mram := { s.mram with
           tallies := Tbl.put Tally.reset s.mram.tallies 2 { x with value := x.value + 1, writes := x.writes + 1 } } })) ∧
    (s.faults.phase ≠ .running → Ignores (.bootCloseTimer t) s) ∧
    (s.faults.phase = .running → s.faults.pdbStart = none ∨ s.day.bootOpen = false → exec (.bootCloseTimer t) s = .next u) ∧
    (s.faults.phase = .running → s.faults.pdbStart.isSome = true → s.day.bootOpen = true → Does (.bootCloseTimer t) s (fun v =>
      v.day.bootOpen = false ∧ v.mram.broll = (bootAppend 0x30 0 2 (missingMask u) [] u).mram.broll)) ∧
    -- the Bindery
    (s.faults.phase ≠ .running → ∀ q b i d c e w bad codes ok,
      ∀ r ∈ [Instr.binderyRead q t, .binderyWrite q b t, .dramReadCompletion i d t, .patrolRead c e w t, .remapDone c bad t,
             .dramTempPoll c codes t, .dramCmdError c i d.lines.length ok t, .dramTimeout c t], Ignores r s) ∧
    (Open s →
      (∀ q b, bindReqOk q = false → exec (.binderyRead q t) s = .next u ∧ exec (.binderyWrite q b t) s = .next u) ∧
      (∀ q b, bindReqOk q = true →
        exec (.binderyRead q t) s = exec (.accessCheck ⟨q.who, 1, q.sla, q.len, .read⟩ 0 t) s ∧
        exec (.binderyWrite q b t) s = exec (.accessCheck ⟨q.who, 1, q.sla, q.len, .write (fit q.len b)⟩ 0 t) s) ∧
      (∀ q, bindReqOk q = true → violationOf u ⟨q.who, 1, q.sla, q.len, .read⟩ = none → s.stk.catReady = true → s.stk.reqs = [] →
        (∀ ch, (chan s ch).remapping = []) →
        let r : BReq := { id := s.nextId, write := none, sla := q.sla, len := q.len, who := q.who, issued := true, plan := [],
                          retried := false, lost := 0, dest := none }
        let pl := planOf s r
        (pl ≠ [] → exec (.binderyRead q t) s = .next { u with
          nextId := s.nextId + 1
          stk := { s.stk with reqs := [{ r with plan := pl }] }
          out := s.out ++ pl.map (fun p =>
            let a := planAddr (channels s) (q.sla / 512) p
            .dramRead r.id a.1 (physical s a.1 a.2)) }) ∧
        (pl = [] → versionOf s 0 (q.sla / 512) = some 0 → q.who ≠ .none → Does (.binderyRead q t) s (fun v =>
          .clerkData (slice (zeros 512) (q.sla % 512) q.len) ∈ v.out ∧ v.stk.reqs = [] ∧ v.nextId = s.nextId + 1 ∧
          v.stk.roots = s.stk.roots ∧ v.faults = u.faults))) ∧
      (∀ i d, s.stk.reqs.find? (fun r => r.id == i && r.issued) = none → exec (.dramReadCompletion i d t) s = .next u) ∧
      (∀ i d r, s.stk.reqs = [r] → r.id = i → r.issued = true →
        (d.lines.length ≠ r.plan.length → exec (.dramReadCompletion i d t) s = .next u) ∧
        (d.lines.length = r.plan.length → d.storeBad = true → Does (.dramReadCompletion i d t) s (lost 0x0107)) ∧
        (d.lines.length = r.plan.length → d.storeBad = false → d.differ = true →
          ((∃ x ∈ s.faults.binderyTimes, u.clock < x + 1000000000) ∨ r.retried = true →
            Does (.dramReadCompletion i d t) s (lost 0x0108)) ∧
          ((∀ x ∈ s.faults.binderyTimes, x + 1000000000 ≤ u.clock) → r.retried = false → r.write = none →
            Does (.dramReadCompletion i d t) s (fun v => .bindery ∈ v.faults.holds ∧ v.faults.holdCovered = true))) ∧
        (∀ l b v tags, r.plan = [(0, l)] → d = ⟨[(.clean, b)], false, false⟩ → r.write = none → r.dest = none → r.who ≠ .none →
          r.retried = false → s.stk.nodes.length ≤ 32768 → versionOf s 0 (reqSector r) = some v → v ≠ 0 →
          tagsOf s (reqSector r) = some tags →
          let good := lineTag s (reqSector r) l v (fit 64 b)
          (slice tags (8 * l) 8 = good → Does (.dramReadCompletion i d t) s (fun x =>
            .clerkData (slice (decryptSector s (reqSector r) (((List.range 8).map (fun k =>
              if k = l then fit 64 b else zeros 64)).flatten)) (r.sla % 512) r.len) ∈ x.out ∧ x.stk.reqs = [] ∧
            x.faults = u.faults)) ∧
          (slice tags (8 * l) 8 ≠ good → Does (.dramReadCompletion i d t) s (fun x => lost 0x0104 x ∧ x.stk.reqs = [] ∧
            (s.stk.ifValid = false → x.stk.ifKind = 4 ∧ x.stk.ifIndex = reqSector r))))) ∧
      (∀ c e w, channels s ≤ c ∨ s.stk.catReady = false → exec (.patrolRead c e w t) s = .next u) ∧
      (∀ c w, c < channels s → s.stk.catReady = true → c < s.stk.chans.length →
        let a := (chan s c).patrolAt
        let next (x : Chan) : Chan := { x with
          patrolAt := if channelEnd ≤ a + 64 then 0 else a + 64
          scrubPasses := if channelEnd ≤ a + 64 then x.scrubPasses + 1 else x.scrubPasses }
        exec (.patrolRead c .clean w t) s = .next (modChan c next u) ∧
        (∀ p n l, heldAt s c a = some p → itemAt (channels s) c p = .line n l → lineWritten s n w = true →
          Does (.patrolRead c .bad w t) s (lost 0x0101)) ∧
        (∀ p, heldAt s c a = some p → s.stk.ceNoteTh = 0 → 1 < s.stk.ceRemapTh → (chan s c).blockErrs = [] →
          Does (.patrolRead c (.corrected 1) w t) s (fun v => (chan v c).ceCount = satAdd 32 (chan s c).ceCount 1 ∧
            (chan v c).lastCe = p ∧ v.faults = u.faults))) ∧
      (∀ c bad, (chan s c).remapping = [] → exec (.remapDone c bad t) s = .next u) ∧
      (∀ c p rest, (chan s c).remapping = p :: rest → c < s.stk.chans.length → s.stk.reqs = [] →
        Does (.remapDone c none t) s (fun v => (chan v c).remapping = rest ∧ p ∈ (chan v c).remap ∧
          (chan v c).remapUsed = min 65536 ((chan s c).remapUsed + 1) ∧ v.faults = u.faults)) ∧
      (∀ c codes, channels s ≤ c ∨ s.stk.trained = false ∨ codes = [] → exec (.dramTempPoll c codes t) s = .next u) ∧
      (∀ c codes, c < channels s → s.stk.trained = true → codes ≠ [] → c < s.stk.chans.length →
        let k := hottest codes % 8
        (heatOf k = 2 → Does (.dramTempPoll c codes t) s (lost 0x010C)) ∧
        (heatOf k = 1 → Does (.dramTempPoll c codes t) s (fun v => v.mon.stacksThrottle = true ∧ (chan v c).tempCode = k ∧
          (chan v c).coolAt = none ∧ v.faults = u.faults)) ∧
        (heatOf k = 0 → s.mon.stacksThrottle = false → exec (.dramTempPoll c codes t) s = .next
          (modChan c (fun x => { x with tempCode := k, coolAt := if x.coolAt.isSome then x.coolAt else some u.clock }) u)) ∧
        (heatOf k = 0 → (∀ j < channels s, ∃ x, (chan s j).coolAt = some x ∧ x + 1000000000 ≤ u.clock) →
          Does (.dramTempPoll c codes t) s (fun v => v.mon.stacksThrottle = false))) ∧
      (∀ c i a w, channels s ≤ c → exec (.dramCmdError c i a w t) s = .next u ∧ exec (.dramTimeout c t) s = .next u) ∧
      (∀ c i a w, c < channels s →
        (s.stk.cmdErrs = [] → Does (.dramCmdError c i a w t) s (fun v => v.stk.cmdErrs = [(i, a, 1)] ∧
          EvidenceOnly (modChan c (fun x => if w then { x with wcrcRetry := satAdd 16 x.wcrcRetry 1 }
            else { x with caparRetry := satAdd 16 x.caparRetry 1 }) { u with stk := { s.stk with cmdErrs := [(i, a, 1)] } }) v)) ∧
        (s.stk.cmdErrs = [(i, a, 2)] → Does (.dramCmdError c i a w t) s (lost 0x010A)) ∧
        Does (.dramTimeout c t) s (lost 0x010B)))

/-- The I3C rows (15 R642 to R648; bus form: log entries 66, 67). -/
def Obligations.I3cRows : Prop :=
  ∀ (s : State) (a v t : Nat) (e : BitVec 8) (b : Bytes) (ok : Bool),
    let d := s.side
    let i : Sideband := { d with smbus := false }
    let now (x : Sideband) (l : List Out) : State := { s with side := x, out := s.out ++ l }
    let bit := e.getLsbD 0
    (s.faults.railsUp = false → ∀ c ∈ [Instr.entdaa a, .setdasa a, .rstdaa, .enec e, .disec e, .getpid, .getbcr, .getdcr, .getstatus,
      .getmwl, .setmwl v, .getmrl, .setmrl v, .i3cPrivateWrite b ok t], Ignores c s) ∧
    (s.faults.railsUp = true →
      (d.dynValid = true → exec (.entdaa a) s = .next (now i []) ∧ exec (.setdasa a) s = .next (now i [])) ∧
      (d.dynValid = false →
        exec (.entdaa a) s = .next (now { i with dynAddr := a % 128, dynValid := true }
          [.i3c (provisionalId ++ [Config.i3cBcr, Config.i3cDcr])]) ∧
        exec (.setdasa a) s = .next (now { i with dynAddr := a % 128, dynValid := true } [])) ∧
      exec .rstdaa s = .next (now { i with dynAddr := 0, dynValid := false } []) ∧
      exec (.disec e) s = .next (now { i with ibiEn := d.ibiEn && !bit } []) ∧
      ((∀ g < 48, evStatus s g &&& evBmc s g = 0) →
        exec (.enec e) s = .next (now { i with ibiEn := d.ibiEn || bit, ibiArmed := true } [])) ∧
      (∀ g < 48, (∀ j < g, evStatus s j &&& evBmc s j = 0) → evStatus s g &&& evBmc s g ≠ 0 →
        (((d.ibiEn || bit) && d.ibiArmed) = true → exec (.enec e) s = .next (now { i with ibiEn := true, ibiArmed := false }
          [.ibi [0xA0, BitVec.ofNat 8 g]])) ∧
        (((d.ibiEn || bit) && d.ibiArmed) = false → exec (.enec e) s = .next (now { i with ibiEn := d.ibiEn || bit } []))) ∧
      exec .getpid s = .next (now i [.i3c provisionalId]) ∧
      exec .getbcr s = .next (now i [.i3c [Config.i3cBcr]]) ∧
      exec .getdcr s = .next (now i [.i3c [Config.i3cDcr]]) ∧
      exec .getmwl s = .next (now i [.i3c (beBytes 2 d.mwl)]) ∧
      exec .getmrl s = .next (now i [.i3c (beBytes 2 d.mrl ++ [Config.i3cIbiMax])]) ∧
      (∃ x, x.length = 2 ∧ exec .getstatus s = .next { now i [.i3c x] with free := s.free + 1 }) ∧
      (16 ≤ v ∧ v ≤ 256 → exec (.setmwl v) s = .next (now { i with mwl := v } []) ∧
        exec (.setmrl v) s = .next (now { i with mrl := v } [])) ∧
      (v < 16 ∨ 256 < v → exec (.setmwl v) s = .next (now i []) ∧ exec (.setmrl v) s = .next (now i [])) ∧
      (let u := tick t s
       let sm := d.smbus || !d.dynValid
       let errs := if sm && !ok then satAdd 16 d.pecErrs 1 else d.pecErrs
       (s.faults.phase ≠ .running → d.hopper.length + (d.mwl + 7) / 8 ≤ 64 → exec (.i3cPrivateWrite b ok t) s = .next { u with
         side := { d with smbus := sm, hopper := d.hopper ++ hopperWords (!ok) (b.take d.mwl), pecErrs := errs }
         out := s.out ++ [.i3cAck true] }) ∧
       (s.faults.phase ≠ .running → 64 < d.hopper.length + (d.mwl + 7) / 8 → exec (.i3cPrivateWrite b ok t) s = .next { u with
         side := { d with smbus := sm }
         out := s.out ++ [.i3cAck false] }) ∧
       (s.faults.phase = .running → d.hopper = [] → d.mwl ≤ 256 → exec (.i3cPrivateWrite b ok t) s = .next { u with
         side := { d with smbus := sm, pecErrs := errs, hopDrops := satAdd 16 d.hopDrops (if ok || (b.take d.mwl).isEmpty then 0 else 1) }
         out := s.out ++ [.i3cAck true] })))

/-- MCTP, Weleren messages, JTAG and debug tokens (15 R643 to R645, R654 to R660). -/
def Obligations.MctpAndJtagRows : Prop :=
  ∀ (s : State) (n t : Nat) (p cells : Bytes) (mask meet : BitVec 32),
    let u := tick t s
    let sends (v : State) (b : Bytes) : State := { v with
      out := s.out ++ ((if s.side.ibiEn && !s.side.smbus then [.ibi [0xAE]] else []) ++ [.mctp b]) }
    let says_ (cmd : Byte) (status : Nat) (x : Bytes) : Bytes := [cmd] ++ leBytes 2 status ++ x
    let selects (ir : BitVec 8) (pins : JPins) (dr : Bytes) (v : State) : State := { v with
      dbg := { v.dbg with ir := ir, pins := pins, dr := dr }
      out := s.out ++ [.jtag dr] }
    -- MCTP control messages
    (s.faults.phase ≠ .running → ∀ c ∈ [Instr.setEndpointId n t, .getEndpointId n, .getMctpVersionSupport n, .getMessageTypeSupport n,
      .getVendorDefinedMsgSupport n], Ignores c s) ∧
    (s.faults.phase = .running →
      (n ≤ 1 → 8 ≤ t → t ≤ 254 → exec (.setEndpointId n t) s = .next (sends { s with side := { s.side with eid := t, eidValid := true } }
        [0x01, 0x00, 0x00, BitVec.ofNat 8 t, 0x00])) ∧
      (1 < n ∨ t < 8 ∨ 254 < t → exec (.setEndpointId n t) s = .next (sends s [0x01, 0x02])) ∧
      exec (.getEndpointId n) s = .next (sends s [0x02, 0x00, BitVec.ofNat 8 s.side.eid, 0x00, 0x00]) ∧
      (n ∈ [0xFF, 0, 5, 0x7E] → exec (.getMctpVersionSupport n) s = .next (sends s ([0x04, 0x00, 0x01] ++ take 4 (Config.mctpVersion n)))) ∧
      (n ∉ [0xFF, 0, 5, 0x7E] → exec (.getMctpVersionSupport n) s = .next (sends s [0x04, 0x80])) ∧
      exec (.getMessageTypeSupport n) s = .next (sends s [0x05, 0x00, 0x02, 0x05, 0x7E]) ∧
      (n = 0 → exec (.getVendorDefinedMsgSupport n) s = .next (sends s
        ([0x06, 0x00, 0xFF, 0x00] ++ beBytes 2 (Config.vendorId % 65536) ++ take 2 Config.mctpVendorVersion))) ∧
      (n ≠ 0 → exec (.getVendorDefinedMsgSupport n) s = .next (sends s [0x06, 0x02]))) ∧
    -- without power
    (s.faults.railsUp = false → ∀ c ∈ [Instr.getStatus, .mctpHostMeasure p t, .eventRead n, .eventClear n mask meet, .extest cells,
      .samplePreload cells, .idcode, .clamp cells, .highz cells, .bypass, .dbgChallenge t, .dbgToken p t], Ignores c s) ∧
    (s.faults.railsUp = true →
      -- Weleren messages
      exec .getStatus s = .next (sends s (says_ 0x01 0 (gctlBytes s ++ leBytes 6 (bmcPending s)))) ∧
      (s.faults.ready = false →
        exec (.mctpHostMeasure p t) s = .next (sends u (says_ 0x02 0x0353 [])) ∧
        exec (.eventRead n) s = .next (sends s (says_ 0x03 0x0353 [])) ∧
        exec (.eventClear n mask meet) s = .next (sends s (says_ 0x04 0x0353 []))) ∧
      (s.faults.ready = true →
        (48 ≤ n → exec (.eventRead n) s = .next (sends s (says_ 0x03 0x0118 [])) ∧
          exec (.eventClear n mask meet) s = .next (sends s (says_ 0x04 0x0118 []))) ∧
        (n < 48 → exec (.eventRead n) s = .next (sends s (says_ 0x03 0 (leBytes 4 (evStatus s n &&& evBmc s n).toNat)))) ∧
        (n < 48 → mask &&& meet = 0 → Does (.eventClear n mask meet) s (fun v => evStatus v n = evStatus s n &&& ~~~mask ∧
          (∀ j, j ≠ n → evStatus v j = evStatus s j) ∧ .mctp (says_ 0x04 0 []) ∈ v.out ∧ EvidenceOnly s v)) ∧
        (let good : Bool := p.length == 64 && allZero (slice p 2 2) && allZero (slice p 8 8)
         (good = false → exec (.mctpHostMeasure p t) s = .next (sends u (says_ 0x02 0x0103 []))) ∧
         (good = true → ∀ x, pushCheck u false (field p 0 2) = some x →
           exec (.mctpHostMeasure p t) s = .next (sends u (says_ 0x02 x.1 []))) ∧
         (good = true → pushCheck u false (field p 0 2) = none → exec (.mctpHostMeasure p t) s = .next
           (sends (bootAppend 0x10 (hostIndex u) (field p 0 2) (field p 4 4) (slice p 16 48) u)
             (says_ 0x02 0 [BitVec.ofNat 8 (hostIndex u)]))))) ∧
      -- JTAG
      exec .idcode s = .next (selects 0x02 .functional (leBytes 4 idcode) s) ∧
      exec (.clamp cells) s = .next (selects 0x03 (.clamp (driven s false cells)) [0] s) ∧
      exec (.highz cells) s = .next (selects 0x04 .highz [0] s) ∧
      exec .bypass s = .next (selects 0xFF .functional [0] s) ∧
      (∃ x, x.length = cells.length ∧ exec (.extest cells) s = .next (selects 0x00 (.extest (driven s true cells)) x { s with free := s.free + cells.length }) ∧
        exec (.samplePreload cells) s = .next (selects 0x01 .functional x { s with free := s.free + cells.length })) ∧
      -- debug challenge and token
      (let served := debugServed s
       (served = false ∨ s.drbg.up = false → exec (.dbgChallenge t) s = .next { u with
         dbg := { s.dbg with ir := 0x10, pins := .functional } }) ∧
       (served = true → s.drbg.up = true →
         let d := draw 32 u
         let c := challengeBytes d.1 d.2
         exec (.dbgChallenge t) s = .next (selects 0x10 .functional c { d.2 with dbg := { s.dbg with challenge := some (c, u.clock) } })) ∧
       (served = false → exec (.dbgToken p t) s = .next { u with dbg := { s.dbg with ir := 0x11, pins := .functional } }) ∧
       (served = true → tokenCheck p u = 1 → Does (.dbgToken p t) s (fun v => v.mram.dbgStaged = some (field p 4 1) ∧
         v.dbg.tokenResult = 1 ∧ v.dbg.tokensRefused = s.dbg.tokensRefused ∧ v.faults = s.faults)) ∧
       (served = true → tokenCheck p u ≠ 1 → Does (.dbgToken p t) s (fun v => v.mram.dbgStaged = s.mram.dbgStaged ∧
         v.dbg.tokenResult = tokenCheck p u ∧ v.dbg.tokensRefused = satAdd 16 s.dbg.tokensRefused 1 ∧ v.faults = s.faults)) ∧
       (2 ≤ s.faults.lifecycle → s.faults.lifecycle ≤ 4 → tokenCheck p u = 4)))

/-- The queue of commands (the model's choice, log entry 1). -/
def Obligations.StepRunsFront : Prop :=
  (∀ (c : Instr) (rest : List Instr) (s : State), step { s with pending := c :: rest } = exec c { s with pending := rest }) ∧
  (∀ s : State, s.pending = [] → step s = .next s)

/-- What reset leaves (14 R596; 15 R633 to R641; unstated values: log entry 86). -/
def Obligations.ResetState : Prop :=
  let s := State.reset
  s.pending = [] ∧ s.faults.phase = .off ∧ s.faults.silent = false ∧ s.faults.holds = [] ∧ s.orders = [] ∧ s.egress = [] ∧
  (∀ st q, ring s st q = Ring.reset) ∧ (∀ n, n ≠ 0 → stall s n = Stall.reset) ∧
  (∀ k i, (inst s k i).status = .off) ∧
  (∀ g, evStatus s g = 0 ∧ evEnable s g = 0) ∧ bmcPending s = 0 ∧ (∀ n, (tally s n).value = 0) ∧
  gctlStatus s = 0 ∧ gctlCause s = 0 ∧ gctlTimes s = 0 ∧ (∀ i, perfValue s i = 0) ∧
  Tbl.wf 0 s.worlds.sram = true ∧ Tbl.wf Config.erasedByte s.mram.flash = true ∧ step s = .next s

/-- Nothing ends a run, and Silence closes the egress (11 R495; 00 R16). -/
def Obligations.SilenceClosesEgress : Prop :=
  (∀ (c : Instr) (s : State), ∃ v l, exec c s = .next v ∧ v.pending = s.pending ∧ v.out = s.out ++ l ∧
    (s.faults.silent = true → v.faults.silent = true → ∀ o ∈ l, o.pcie = false)) ∧
  (∀ s : State, ∃ v, runs s.pending.length s = .next v ∧ v.pending = []) ∧
  (∀ (n : Nat) (s v : State), silentThrough n s = true → runs n s = .next v →
    ∃ l, v.out = s.out ++ l ∧ ∀ o ∈ l, o.pcie = false)

/-- How Silence ends (11 R497, R509, R510, R512; 14 R598). -/
def Obligations.SilenceLasts : Prop :=
  let quiet (s : State) : Prop := s.faults.phase = .silent ∧ s.faults.silent = true
  (∀ (c : Instr) (s v : State), quiet s → exec c s = .next v →
    (quiet v ∧ (s.faults.silenceLatched = true → v.faults.silenceLatched = true)) ∨
    (∃ t, c = .perstAssert t) ∨ (∃ r m t, c = .supplyBelowReset r m t) ∨
    (∃ e, c = .warmReset e ∧ s.faults.silenceLatched = false ∧ s.faults.silentAt + 1000000 ≤ (tick e.t s).clock)) ∧
  (∀ s v : State,
    let kept (x : State) : Prop := quiet x ∧ x.faults.silenceLatched = true ∧
      ∀ c ∈ x.pending, (∀ t, c ≠ .perstAssert t) ∧ (∀ r m t, c ≠ .supplyBelowReset r m t)
    kept s → step s = .next v → kept v)
end

