-- ==== Sys2Proof/Laws/Act.lean ====
section
/-!
SUPPORT. What the wrappers of the commands do: the egress gate, the phases in which a command has its effect, and the run
of an engine order. Later proofs cite these and do not unfold the wrappers.
-/
namespace Sys2Proof
namespace Machine

@[simp] theorem gate_pending (s t : State) : (gate s t).pending = s.pending := rfl
@[simp] theorem gate_faults (s t : State) : (gate s t).faults = t.faults := rfl
@[simp] theorem gate_orders (s t : State) : (gate s t).orders = t.orders := rfl
@[simp] theorem gate_rings (s t : State) : (gate s t).rings = t.rings := rfl
@[simp] theorem gate_stalls (s t : State) : (gate s t).stalls = t.stalls := rfl

/-- Outside Silence the gate passes what a command puts out. -/
theorem gate_loud (s t : State) (h : s.faults.silent = false) :
    gate s t = { t with pending := s.pending, out := s.out ++ t.out.drop s.out.length } := by
  simp [gate, h]

/-- A command that puts nothing out passes the gate unchanged. -/
theorem gate_quiet (s t : State) (ho : t.out = s.out) (hp : t.pending = s.pending) : gate s t = t := by
  cases t; simp_all [gate]

/-- A command that appends outputs passes the gate unchanged outside Silence. -/
theorem gate_appends (s t : State) (l : List Out) (h : s.faults.silent = false) (ho : t.out = s.out ++ l)
    (hp : t.pending = s.pending) : gate s t = t := by
  cases t; simp_all [gate]

theorem act_eq (f : State → State) (s : State) : act f s = .next (gate s (f s)) := rfl

theorem coreAct_running (f : State → State) (s : State) (h : s.faults.phase = .running) :
    coreAct f s = .next (gate s (f s)) := by simp [coreAct, act, h]

theorem hostAct_running (f : State → State) (s : State) (h : s.faults.phase = .running) :
    hostAct f s = .next (gate s (f s)) := by simp [hostAct, act, h]

/-- Outside operation the commands of the core and of the host have no effect. -/
theorem coreAct_idle (f : State → State) (s : State) (h : s.faults.phase ≠ .running) : coreAct f s = .next s := by
  simp [coreAct, act, h, gate_quiet]

theorem hostAct_idle (f : State → State) (s : State) (h : s.faults.phase ≠ .running) : hostAct f s = .next s := by
  simp [hostAct, act, h, gate_quiet]

theorem powered_up (f : State → State) (s : State) (h : s.faults.railsUp = true) :
    powered f s = .next (gate s (f s)) := by simp [powered, act, h]

theorem busAct_up (f : State → State) (s : State) (h : s.faults.railsUp = true) :
    busAct f s = .next (gate s (f s)) := by simp [busAct, act, h]

theorem worldAct_alive (f : State → State) (s : State) (h : alive s = true) :
    worldAct f s = .next (gate s (f s)) := by simp [worldAct, act, h]

theorem storeAct_on (f : State → State) (s : State) (h : s.faults.phase ≠ .off) :
    storeAct f s = .next (gate s (f s)) := by simp [storeAct, act, h]

theorem startAct_starting (f : State → State) (s : State) (h : s.faults.phase = .starting) (hh : s.faults.holdCovered = false) :
    startAct f s = .next (gate s (f s)) := by simp [startAct, act, h, hh]

/-- What every step of a fold keeps, the fold keeps. -/
theorem foldl_keeps {α β : Type} (g : State → β) (f : State → α → State) (h : ∀ s a, g (f s a) = g s) (l : List α) (s : State) :
    g (l.foldl f s) = g s := by
  induction l generalizing s with
  | nil => rfl
  | cons a l ih => rw [List.foldl_cons, ih, h]

theorem startOn_out (o : Order) (s : State) (p : EngKind × Nat) : (startOn o s p).out = s.out := by
  unfold startOn; dsimp only; split <;> rfl
theorem startOn_pending (o : Order) (s : State) (p : EngKind × Nat) : (startOn o s p).pending = s.pending := by
  unfold startOn; dsimp only; split <;> rfl
theorem loadReg_out (o : Order) (p : EngKind × Nat) (s : State) (i : Nat) : (loadReg o p s i).out = s.out := by
  unfold loadReg; dsimp only; split
  · rfl
  · split <;> rfl
theorem loadReg_pending (o : Order) (p : EngKind × Nat) (s : State) (i : Nat) : (loadReg o p s i).pending = s.pending := by
  unfold loadReg; dsimp only; split
  · rfl
  · split <;> rfl

/-- The start of an order puts nothing out. -/
theorem begun_out (o : Order) (s : State) : (begun o s).out = s.out := by
  unfold begun; split
  · rfl
  · rw [loadWorking, foldl_keeps State.out _ (fun s p => foldl_keeps State.out _ (loadReg_out o p) _ s),
      foldl_keeps State.out _ (startOn_out o)]
    rfl

/-- The start of an order leaves the commands that wait. -/
theorem begun_pending (o : Order) (s : State) : (begun o s).pending = s.pending := by
  unfold begun; split
  · rfl
  · rw [loadWorking, foldl_keeps State.pending _ (fun s p => foldl_keeps State.pending _ (loadReg_pending o p) _ s),
      foldl_keeps State.pending _ (startOn_pending o)]
    rfl

/-- The parts of the state that the start of an order may change, taken from another state. -/
def startParts (t s : State) : State :=
  { s with insts := t.insts, drbg := t.drbg, perf := t.perf, free := t.free, orders := t.orders }

theorem startOn_parts (t : State) (o : Order) (s : State) (p : EngKind × Nat) :
    startParts t (startOn o s p) = startParts t s := by unfold startOn; dsimp only; split <;> rfl
theorem loadReg_parts (t : State) (o : Order) (p : EngKind × Nat) (s : State) (i : Nat) :
    startParts t (loadReg o p s i) = startParts t s := by
  unfold loadReg; dsimp only; split
  · rfl
  · split <;> rfl

/-- The start of an order changes instances, DRBG, performance counters, the masking counter and orders, and nothing else. -/
theorem begun_parts (t : State) (o : Order) (s : State) : startParts t (begun o s) = startParts t s := by
  unfold begun; split
  · rfl
  · rw [loadWorking, foldl_keeps (startParts t) _ (fun s p => foldl_keeps (startParts t) _ (loadReg_parts t o p) _ s),
      foldl_keeps (startParts t) _ (startOn_parts t o)]
    rfl

theorem startOn_orders (o : Order) (s : State) (p : EngKind × Nat) : (startOn o s p).orders = s.orders := by
  unfold startOn; dsimp only; split <;> rfl
theorem loadReg_orders (o : Order) (p : EngKind × Nat) (s : State) (i : Nat) : (loadReg o p s i).orders = s.orders := by
  unfold loadReg; dsimp only; split
  · rfl
  · split <;> rfl

/-- A started order is no longer staged; the orders change in nothing else. -/
theorem begun_orders (o : Order) (s : State) : (begun o s).orders = s.orders ∨
    (begun o s).orders = s.orders.map (fun x => if x.id = o.id then { x with staged := false } else x) := by
  unfold begun; split
  · exact .inl rfl
  · right
    rw [loadWorking, foldl_keeps State.orders _ (fun s p => foldl_keeps State.orders _ (loadReg_orders o p) _ s),
      foldl_keeps State.orders _ (startOn_orders o)]
    rfl

theorem computed_eq (id : Nat) (r : Result) (s : State) : computed id r s = withResult s id r := rfl

/-- The run of an engine order whose draws are taken or not needed. -/
theorem runEngine_ready (op : Nat) (n : Order → Nat) (f : Engine) (id : Nat) (s : State) (o : Order)
    (h : Ready s id op o) (hu : n o = 0 ∨ s.drbg.up = true) :
    runEngine op n f id s =
      .next (gate s (withResult (begun o (sharedDraws id (n o) o s).2) id (f o (sharedDraws id (n o) o s).1 s))) := by
  obtain ⟨hp, ho, hop, hst, hs, hb⟩ := h
  rw [runEngine, coreAct_running _ _ hp]
  have hd : (n o != 0 && !s.drbg.up) = false := by rcases hu with h | h <;> simp [h]
  simp [runOrder, ho, hop, hst, hs, hb, hd, computed_eq]

/-- The result of a started order puts nothing out. -/
theorem gate_begun (o : Order) (s t : State) (id : Nat) (r : Result) (ho : t.out = s.out) (hp : t.pending = s.pending) :
    gate s (withResult (begun o t) id r) = withResult (begun o t) id r :=
  gate_quiet s _ ((begun_out o t).trans ho) ((begun_pending o t).trans hp)

/-- An engine that draws nothing. -/
theorem runEngine_plain (op : Nat) (f : Engine) (id : Nat) (s : State) (o : Order) (r : Result)
    (h : Ready s id op o) (hf : ∀ d, f o d s = r) : runEngine op noDraw f id s = .next (withResult (started s id) id r) := by
  rw [runEngine_ready op noDraw f id s o h (.inl rfl)]
  have e : (sharedDraws id (noDraw o) o s).2 = s := by
    simp only [sharedDraws, noDraw]; split <;> rfl
  rw [e, hf, gate_begun o s s id r rfl rfl, started, h.2.1]

/-- An engine that draws: fresh bytes at its first run, the same ones at a re-execution. -/
theorem runEngine_drawn (c : Instr) (op : Nat) (n : Order → Nat) (k : Nat) (f : Engine) (id : Nat) (s : State) (o : Order)
    (r : Nat → Result) (hc : exec c s = runEngine op n f id s) (hk : n o = k)
    (h : Ready s id op o) (hu : s.drbg.up = true) (hf : ∀ d, f o d s = r d) :
    ComputesDrawn c s id k o r := by
  subst hk
  constructor
  · intro d hd
    rw [hc, runEngine_ready op n f id s o h (.inr hu)]
    simp only [sharedDraws, hd]
    rw [hf, gate_begun o s s id _ rfl rfl]
  · intro hd
    rw [hc, runEngine_ready op n f id s o h (.inr hu)]
    simp only [sharedDraws, hd]
    by_cases hz : n o = 0
    · simp only [hz, if_true]
      rw [hf, gate_begun o s s id _ rfl rfl]
    · simp only [hz, if_false]
      rw [hf, gate_begun o s (draw (n o) (modOrder s id fun x => { x with draws := some s.drbg.next })).2 id _ rfl rfl]
      rfl

end Machine
end Sys2Proof
end

