-- ==== Sys2Proof/Laws/Evidence.lean ====
section
/-!
SUPPORT. What the evidence operations may change: events, Daybook records, Tallies and Roll entries leave everything but the
evidence as it was. Later proofs cite these and do not unfold the operations.
-/
namespace Sys2Proof
namespace Machine

theorem EvidenceOnly.refl (s : State) : EvidenceOnly s s := rfl

theorem EvidenceOnly.trans {s t u : State} (h1 : EvidenceOnly s t) (h2 : EvidenceOnly t u) : EvidenceOnly s u := by
  unfold EvidenceOnly at *
  rw [← h2] at h1
  exact h1

/-- Transitivity with the later change first. -/
theorem EvidenceOnly.after {s t u : State} (h2 : EvidenceOnly t u) (h1 : EvidenceOnly s t) : EvidenceOnly s u := h1.trans h2

theorem EvidenceOnly.pending {s t : State} (h : EvidenceOnly s t) : t.pending = s.pending := by
  have e := congrArg State.pending h; exact e
theorem EvidenceOnly.clock {s t : State} (h : EvidenceOnly s t) : t.clock = s.clock := by
  have e := congrArg State.clock h; exact e
theorem EvidenceOnly.free {s t : State} (h : EvidenceOnly s t) : t.free = s.free := by
  have e := congrArg State.free h; exact e
theorem EvidenceOnly.nextId {s t : State} (h : EvidenceOnly s t) : t.nextId = s.nextId := by
  have e := congrArg State.nextId h; exact e
theorem EvidenceOnly.rings {s t : State} (h : EvidenceOnly s t) : t.rings = s.rings := by
  have e := congrArg State.rings h; exact e
theorem EvidenceOnly.stalls {s t : State} (h : EvidenceOnly s t) : t.stalls = s.stalls := by
  have e := congrArg State.stalls h; exact e
theorem EvidenceOnly.orders {s t : State} (h : EvidenceOnly s t) : t.orders = s.orders := by
  have e := congrArg State.orders h; exact e
theorem EvidenceOnly.egress {s t : State} (h : EvidenceOnly s t) : t.egress = s.egress := by
  have e := congrArg State.egress h; exact e
theorem EvidenceOnly.cursors {s t : State} (h : EvidenceOnly s t) : t.cursors = s.cursors := by
  have e := congrArg State.cursors h; exact e
theorem EvidenceOnly.insts {s t : State} (h : EvidenceOnly s t) : t.insts = s.insts := by
  have e := congrArg State.insts h; exact e
theorem EvidenceOnly.munim {s t : State} (h : EvidenceOnly s t) : t.munim = s.munim := by
  have e := congrArg State.munim h; exact e
theorem EvidenceOnly.keeper {s t : State} (h : EvidenceOnly s t) : t.keeper = s.keeper := by
  have e := congrArg State.keeper h; exact e
theorem EvidenceOnly.vigil {s t : State} (h : EvidenceOnly s t) : t.vigil = s.vigil := by
  have e := congrArg State.vigil h; exact e
theorem EvidenceOnly.mon {s t : State} (h : EvidenceOnly s t) : t.mon = s.mon := by
  have e := congrArg State.mon h; exact e
theorem EvidenceOnly.faults {s t : State} (h : EvidenceOnly s t) : t.faults = s.faults := by
  have e := congrArg State.faults h; exact e
theorem EvidenceOnly.worlds {s t : State} (h : EvidenceOnly s t) : t.worlds = s.worlds := by
  have e := congrArg State.worlds h; exact e
theorem EvidenceOnly.stk {s t : State} (h : EvidenceOnly s t) : t.stk = s.stk := by
  have e := congrArg State.stk h; exact e
theorem EvidenceOnly.dbg {s t : State} (h : EvidenceOnly s t) : t.dbg = s.dbg := by
  have e := congrArg State.dbg h; exact e
theorem EvidenceOnly.spdm {s t : State} (h : EvidenceOnly s t) : t.spdm = s.spdm := by
  have e := congrArg State.spdm h; exact e
theorem EvidenceOnly.drbg {s t : State} (h : EvidenceOnly s t) : t.drbg = s.drbg := by
  have e := congrArg State.drbg h; exact e

theorem sendMsix_frame (v : Nat) (s : State) : EvidenceOnly s (sendMsix v s) := by
  unfold sendMsix; repeat (first | rfl | split)

theorem ibiCheck_frame (s : State) : EvidenceOnly s (ibiCheck s) := by
  unfold ibiCheck; repeat (first | rfl | split)

theorem event_frame (src : Nat) (s : State) : EvidenceOnly s (event src s) := by
  unfold event; dsimp only; split
  · rfl
  · refine EvidenceOnly.trans ?_ (ibiCheck_frame _)
    split
    · exact (sendMsix_frame _ _).after rfl
    · rfl

theorem emit_frame (o : Out) (s : State) : EvidenceOnly s (emit o s) := rfl

theorem emits_frame (l : List Out) (s : State) : EvidenceOnly s (emits l s) := rfl

theorem perfAdd_frame (i n : Nat) (s : State) : EvidenceOnly s (perfAdd i n s) := rfl

theorem placeRec_frame (s : State) (r : DbRec) : EvidenceOnly s (placeRec s r) := by
  unfold placeRec; dsimp only; split
  · rfl
  · split
    · rfl
    · split
      · rfl
      · split <;> rfl

theorem placeAll_frame (l : List DbRec) (s : State) : EvidenceOnly s (l.foldl placeRec s) := by
  induction l generalizing s with
  | nil => rfl
  | cons r l ih => exact (placeRec_frame s r).trans (ih _)

theorem flushAll_frame (s : State) : EvidenceOnly s (flushAll s) :=
  (placeAll_frame (s.day.buf ++ dropRec s) _).after rfl

theorem beginFlush_frame (s : State) : EvidenceOnly s (beginFlush s) := by
  unfold beginFlush; split <;> rfl

theorem enterRec_frame (r : DbRec) (s : State) : EvidenceOnly s (enterRec r s) := by
  unfold enterRec; dsimp only
  split
  · split
    · exact (beginFlush_frame _).after rfl
    · rfl
  · split
    · split
      · exact (beginFlush_frame _).after ((event_frame _ _).after rfl)
      · split
        · exact (beginFlush_frame _).after (EvidenceOnly.trans ((flushAll_frame { s with mram := { s.mram with
            nextSeq := (s.mram.nextSeq + 1) % 2 ^ 16 } }).after rfl) rfl)
        · exact (event_frame _ _).after rfl
    · exact (event_frame _ _).after rfl

theorem recordWith_frame (enter : DbRec → State → State) (he : ∀ r s, EvidenceOnly s (enter r s)) (sub : Bool)
    (code sev p0 p1 p2 : Nat) (s : State) : EvidenceOnly s (recordWith enter sub code sev p0 p1 p2 s) := by
  unfold recordWith; split
  · split
    · rfl
    · exact (he _ _).after rfl
  · exact he _ _

theorem note_frame (cls which : Nat) (s : State) : EvidenceOnly s (note cls which s) :=
  recordWith_frame _ enterRec_frame _ _ _ _ _ _ _

theorem sendFrame_frame (ch : Nat) (b : FrameBody) (s : State) : EvidenceOnly s (sendFrame ch b s) := by
  unfold sendFrame; split <;> rfl

theorem queueEvidence_frame (kind seq : Nat) (b : Bytes) (s : State) : EvidenceOnly s (queueEvidence kind seq b s) := by
  unfold queueEvidence; split
  · dsimp only
    refine EvidenceOnly.trans ?_ (sendFrame_frame _ _ _)
    split
    · exact (note_frame _ _ _).after rfl
    · rfl
  · rfl

theorem enterOwn_frame (r : DbRec) (s : State) : EvidenceOnly s (enterOwn r s) := by
  unfold enterOwn; dsimp only; split
  · exact (enterRec_frame r s).trans (queueEvidence_frame _ _ _ _)
  · exact enterRec_frame r s

/-- A Daybook record changes nothing but the evidence. -/
theorem record_frame (code sev p0 p1 p2 : Nat) (s : State) : EvidenceOnly s (record code sev p0 p1 p2 s) :=
  recordWith_frame _ enterOwn_frame _ _ _ _ _ _ _

theorem recordThrough_frame (code sev p0 p1 p2 : Nat) (s : State) : EvidenceOnly s (recordThrough code sev p0 p1 p2 s) :=
  (record_frame _ _ _ _ _ s).trans (flushAll_frame _)

/-- Advancing a Tally changes nothing but the evidence. -/
theorem tallyAdd_frame (n k : Nat) (s : State) : EvidenceOnly s (tallyAdd n k s) := by
  have exh : ∀ (why v : Nat) (u : State), EvidenceOnly u (match tallyOwner u n with
      | some o => if 32 ≤ n then event (512 + o) (event 12 (record 0x0C02 sevNote n why v u))
                  else event 12 (record 0x0C02 sevNote n why v u)
      | none => event 12 (record 0x0C02 sevNote n why v u)) := by
    intro why v u
    have h := (record_frame 0x0C02 sevNote n why v u).trans (event_frame 12 _)
    split
    · split
      · exact h.trans (event_frame _ _)
      · exact h
    · exact h
  unfold tallyAdd; dsimp only; split
  · rfl
  · split
    · exact (exh _ _ _).after rfl
    · split
      · exact (exh _ _ _).after rfl
      · rfl

/-- A Tamper Roll entry changes nothing but the evidence. -/
theorem rollAppend_frame (kind : Nat) (body : Bytes) (s : State) : EvidenceOnly s (rollAppend kind body s).2 := by
  unfold rollAppend; dsimp only; split
  · exact tallyAdd_frame _ _ _
  · have h : ∀ (e : RollEntry) (b : Bytes) (n : Nat), EvidenceOnly s (queueEvidence 1 n b (event 10 { tallyAdd 3 1 s with
        mram := { (tallyAdd 3 1 s).mram with troll := (tallyAdd 3 1 s).mram.troll ++ [e] } })) := fun e b n =>
      (tallyAdd_frame 3 1 s).trans ((queueEvidence_frame _ _ _ _).after ((event_frame 10 _).after rfl))
    split
    · exact (event_frame _ _).after (h _ _ _)
    · exact h _ _ _

-- Outputs: what evidence puts out comes after everything put out before -----------------------------------------------------

/-- A step that puts nothing out, before one that appends. -/
theorem out_after {s t : State} {l : List Out} (h2 : t.out <+: l) (h : t.out = s.out) : s.out <+: l := h ▸ h2

theorem sendMsix_out (v : Nat) (s : State) : s.out <+: (sendMsix v s).out := by
  unfold sendMsix; repeat (first | exact List.prefix_rfl | exact List.prefix_append _ _ | split)

theorem ibiCheck_out (s : State) : s.out <+: (ibiCheck s).out := by
  unfold ibiCheck; repeat (first | exact List.prefix_rfl | exact List.prefix_append _ _ | split)

theorem event_out (src : Nat) (s : State) : s.out <+: (event src s).out := by
  unfold event; dsimp only; split
  · exact List.prefix_rfl
  · refine List.IsPrefix.trans ?_ (ibiCheck_out _)
    split
    · exact out_after (sendMsix_out _ _) rfl
    · exact List.prefix_rfl

theorem placeRec_out (s : State) (r : DbRec) : (placeRec s r).out = s.out := by
  unfold placeRec; dsimp only; split
  · rfl
  · split
    · rfl
    · split
      · rfl
      · split <;> rfl

theorem placeAll_out (l : List DbRec) (s : State) : (l.foldl placeRec s).out = s.out := by
  induction l generalizing s with
  | nil => rfl
  | cons r l ih => exact (ih _).trans (placeRec_out s r)

theorem flushAll_out (s : State) : (flushAll s).out = s.out := (placeAll_out _ _).trans rfl

theorem beginFlush_out (s : State) : (beginFlush s).out = s.out := by unfold beginFlush; split <;> rfl

theorem enterRec_out (r : DbRec) (s : State) : s.out <+: (enterRec r s).out := by
  unfold enterRec; dsimp only
  split
  · split
    · rw [beginFlush_out]
    · exact List.prefix_rfl
  · split
    · split
      · rw [beginFlush_out]; exact out_after (event_out 9 _) rfl
      · split
        · rw [beginFlush_out]
          show _ <+: (flushAll _).out
          rw [flushAll_out]
        · exact out_after (event_out 9 _) rfl
    · exact out_after (event_out 9 _) rfl

theorem recordWith_out (enter : DbRec → State → State) (he : ∀ r s, s.out <+: (enter r s).out) (sub : Bool)
    (code sev p0 p1 p2 : Nat) (s : State) : s.out <+: (recordWith enter sub code sev p0 p1 p2 s).out := by
  unfold recordWith; split
  · split
    · exact List.prefix_rfl
    · exact out_after (he _ _) rfl
  · exact he _ _

theorem note_out (cls which : Nat) (s : State) : s.out <+: (note cls which s).out :=
  recordWith_out _ enterRec_out _ _ _ _ _ _ _

theorem sendFrame_out (ch : Nat) (b : FrameBody) (s : State) : s.out <+: (sendFrame ch b s).out := by
  unfold sendFrame; split
  · exact List.prefix_append _ _
  · exact List.prefix_rfl

theorem queueEvidence_out (kind seq : Nat) (b : Bytes) (s : State) : s.out <+: (queueEvidence kind seq b s).out := by
  unfold queueEvidence; split
  · dsimp only
    refine List.IsPrefix.trans ?_ (sendFrame_out _ _ _)
    split
    · exact out_after (note_out _ _ _) rfl
    · exact List.prefix_rfl
  · exact List.prefix_rfl

theorem enterOwn_out (r : DbRec) (s : State) : s.out <+: (enterOwn r s).out := by
  unfold enterOwn; dsimp only; split
  · exact (enterRec_out r s).trans (queueEvidence_out _ _ _ _)
  · exact enterRec_out r s

/-- A Daybook record puts out only after what was put out before. -/
theorem record_out (code sev p0 p1 p2 : Nat) (s : State) : s.out <+: (record code sev p0 p1 p2 s).out :=
  recordWith_out _ enterOwn_out _ _ _ _ _ _ _

theorem recordThrough_out (code sev p0 p1 p2 : Nat) (s : State) : s.out <+: (recordThrough code sev p0 p1 p2 s).out := by
  unfold recordThrough; rw [flushAll_out]; exact record_out _ _ _ _ _ _

end Machine
end Sys2Proof
end

