-- ==== Sys2Proof/Laws/State.lean ====
section
/-!
SUPPORT. What each named update of the state leaves of each field: one lemma for a field and an update, true by
definition, so that no proof opens a record update.
-/
namespace Sys2Proof
namespace Machine

/-! ### setRing -/

@[simp] theorem setRing_pending (s : State) (st q : Nat) (r : Ring) : (setRing s st q r).pending = s.pending := rfl
@[simp] theorem setRing_clock (s : State) (st q : Nat) (r : Ring) : (setRing s st q r).clock = s.clock := rfl
@[simp] theorem setRing_free (s : State) (st q : Nat) (r : Ring) : (setRing s st q r).free = s.free := rfl
@[simp] theorem setRing_nextId (s : State) (st q : Nat) (r : Ring) : (setRing s st q r).nextId = s.nextId := rfl
@[simp] theorem setRing_out (s : State) (st q : Nat) (r : Ring) : (setRing s st q r).out = s.out := rfl
@[simp] theorem setRing_rings (s : State) (st q : Nat) (r : Ring) : (setRing s st q r).rings = Tbl.put Ring.reset s.rings (rix st q) r := rfl
@[simp] theorem setRing_stalls (s : State) (st q : Nat) (r : Ring) : (setRing s st q r).stalls = s.stalls := rfl
@[simp] theorem setRing_orders (s : State) (st q : Nat) (r : Ring) : (setRing s st q r).orders = s.orders := rfl
@[simp] theorem setRing_egress (s : State) (st q : Nat) (r : Ring) : (setRing s st q r).egress = s.egress := rfl
@[simp] theorem setRing_cursors (s : State) (st q : Nat) (r : Ring) : (setRing s st q r).cursors = s.cursors := rfl
@[simp] theorem setRing_insts (s : State) (st q : Nat) (r : Ring) : (setRing s st q r).insts = s.insts := rfl
@[simp] theorem setRing_munim (s : State) (st q : Nat) (r : Ring) : (setRing s st q r).munim = s.munim := rfl
@[simp] theorem setRing_mram (s : State) (st q : Nat) (r : Ring) : (setRing s st q r).mram = s.mram := rfl
@[simp] theorem setRing_keeper (s : State) (st q : Nat) (r : Ring) : (setRing s st q r).keeper = s.keeper := rfl
@[simp] theorem setRing_day (s : State) (st q : Nat) (r : Ring) : (setRing s st q r).day = s.day := rfl
@[simp] theorem setRing_vigil (s : State) (st q : Nat) (r : Ring) : (setRing s st q r).vigil = s.vigil := rfl
@[simp] theorem setRing_mon (s : State) (st q : Nat) (r : Ring) : (setRing s st q r).mon = s.mon := rfl
@[simp] theorem setRing_faults (s : State) (st q : Nat) (r : Ring) : (setRing s st q r).faults = s.faults := rfl
@[simp] theorem setRing_worlds (s : State) (st q : Nat) (r : Ring) : (setRing s st q r).worlds = s.worlds := rfl
@[simp] theorem setRing_pair (s : State) (st q : Nat) (r : Ring) : (setRing s st q r).pair = s.pair := rfl
@[simp] theorem setRing_stk (s : State) (st q : Nat) (r : Ring) : (setRing s st q r).stk = s.stk := rfl
@[simp] theorem setRing_side (s : State) (st q : Nat) (r : Ring) : (setRing s st q r).side = s.side := rfl
@[simp] theorem setRing_dbg (s : State) (st q : Nat) (r : Ring) : (setRing s st q r).dbg = s.dbg := rfl
@[simp] theorem setRing_spdm (s : State) (st q : Nat) (r : Ring) : (setRing s st q r).spdm = s.spdm := rfl
@[simp] theorem setRing_ev (s : State) (st q : Nat) (r : Ring) : (setRing s st q r).ev = s.ev := rfl
@[simp] theorem setRing_pcie (s : State) (st q : Nat) (r : Ring) : (setRing s st q r).pcie = s.pcie := rfl
@[simp] theorem setRing_drbg (s : State) (st q : Nat) (r : Ring) : (setRing s st q r).drbg = s.drbg := rfl
@[simp] theorem setRing_perf (s : State) (st q : Nat) (r : Ring) : (setRing s st q r).perf = s.perf := rfl

/-! ### modRing -/

@[simp] theorem modRing_pending (s : State) (st q : Nat) (f : Ring → Ring) : (modRing s st q f).pending = s.pending := rfl
@[simp] theorem modRing_clock (s : State) (st q : Nat) (f : Ring → Ring) : (modRing s st q f).clock = s.clock := rfl
@[simp] theorem modRing_free (s : State) (st q : Nat) (f : Ring → Ring) : (modRing s st q f).free = s.free := rfl
@[simp] theorem modRing_nextId (s : State) (st q : Nat) (f : Ring → Ring) : (modRing s st q f).nextId = s.nextId := rfl
@[simp] theorem modRing_out (s : State) (st q : Nat) (f : Ring → Ring) : (modRing s st q f).out = s.out := rfl
@[simp] theorem modRing_stalls (s : State) (st q : Nat) (f : Ring → Ring) : (modRing s st q f).stalls = s.stalls := rfl
@[simp] theorem modRing_orders (s : State) (st q : Nat) (f : Ring → Ring) : (modRing s st q f).orders = s.orders := rfl
@[simp] theorem modRing_egress (s : State) (st q : Nat) (f : Ring → Ring) : (modRing s st q f).egress = s.egress := rfl
@[simp] theorem modRing_cursors (s : State) (st q : Nat) (f : Ring → Ring) : (modRing s st q f).cursors = s.cursors := rfl
@[simp] theorem modRing_insts (s : State) (st q : Nat) (f : Ring → Ring) : (modRing s st q f).insts = s.insts := rfl
@[simp] theorem modRing_munim (s : State) (st q : Nat) (f : Ring → Ring) : (modRing s st q f).munim = s.munim := rfl
@[simp] theorem modRing_mram (s : State) (st q : Nat) (f : Ring → Ring) : (modRing s st q f).mram = s.mram := rfl
@[simp] theorem modRing_keeper (s : State) (st q : Nat) (f : Ring → Ring) : (modRing s st q f).keeper = s.keeper := rfl
@[simp] theorem modRing_day (s : State) (st q : Nat) (f : Ring → Ring) : (modRing s st q f).day = s.day := rfl
@[simp] theorem modRing_vigil (s : State) (st q : Nat) (f : Ring → Ring) : (modRing s st q f).vigil = s.vigil := rfl
@[simp] theorem modRing_mon (s : State) (st q : Nat) (f : Ring → Ring) : (modRing s st q f).mon = s.mon := rfl
@[simp] theorem modRing_faults (s : State) (st q : Nat) (f : Ring → Ring) : (modRing s st q f).faults = s.faults := rfl
@[simp] theorem modRing_worlds (s : State) (st q : Nat) (f : Ring → Ring) : (modRing s st q f).worlds = s.worlds := rfl
@[simp] theorem modRing_pair (s : State) (st q : Nat) (f : Ring → Ring) : (modRing s st q f).pair = s.pair := rfl
@[simp] theorem modRing_stk (s : State) (st q : Nat) (f : Ring → Ring) : (modRing s st q f).stk = s.stk := rfl
@[simp] theorem modRing_side (s : State) (st q : Nat) (f : Ring → Ring) : (modRing s st q f).side = s.side := rfl
@[simp] theorem modRing_dbg (s : State) (st q : Nat) (f : Ring → Ring) : (modRing s st q f).dbg = s.dbg := rfl
@[simp] theorem modRing_spdm (s : State) (st q : Nat) (f : Ring → Ring) : (modRing s st q f).spdm = s.spdm := rfl
@[simp] theorem modRing_ev (s : State) (st q : Nat) (f : Ring → Ring) : (modRing s st q f).ev = s.ev := rfl
@[simp] theorem modRing_pcie (s : State) (st q : Nat) (f : Ring → Ring) : (modRing s st q f).pcie = s.pcie := rfl
@[simp] theorem modRing_drbg (s : State) (st q : Nat) (f : Ring → Ring) : (modRing s st q f).drbg = s.drbg := rfl
@[simp] theorem modRing_perf (s : State) (st q : Nat) (f : Ring → Ring) : (modRing s st q f).perf = s.perf := rfl

/-! ### setStall -/

@[simp] theorem setStall_pending (s : State) (n : Nat) (x : Stall) : (setStall s n x).pending = s.pending := rfl
@[simp] theorem setStall_clock (s : State) (n : Nat) (x : Stall) : (setStall s n x).clock = s.clock := rfl
@[simp] theorem setStall_free (s : State) (n : Nat) (x : Stall) : (setStall s n x).free = s.free := rfl
@[simp] theorem setStall_nextId (s : State) (n : Nat) (x : Stall) : (setStall s n x).nextId = s.nextId := rfl
@[simp] theorem setStall_out (s : State) (n : Nat) (x : Stall) : (setStall s n x).out = s.out := rfl
@[simp] theorem setStall_rings (s : State) (n : Nat) (x : Stall) : (setStall s n x).rings = s.rings := rfl
@[simp] theorem setStall_stalls (s : State) (n : Nat) (x : Stall) : (setStall s n x).stalls = Tbl.put Stall.reset s.stalls n x := rfl
@[simp] theorem setStall_orders (s : State) (n : Nat) (x : Stall) : (setStall s n x).orders = s.orders := rfl
@[simp] theorem setStall_egress (s : State) (n : Nat) (x : Stall) : (setStall s n x).egress = s.egress := rfl
@[simp] theorem setStall_cursors (s : State) (n : Nat) (x : Stall) : (setStall s n x).cursors = s.cursors := rfl
@[simp] theorem setStall_insts (s : State) (n : Nat) (x : Stall) : (setStall s n x).insts = s.insts := rfl
@[simp] theorem setStall_munim (s : State) (n : Nat) (x : Stall) : (setStall s n x).munim = s.munim := rfl
@[simp] theorem setStall_mram (s : State) (n : Nat) (x : Stall) : (setStall s n x).mram = s.mram := rfl
@[simp] theorem setStall_keeper (s : State) (n : Nat) (x : Stall) : (setStall s n x).keeper = s.keeper := rfl
@[simp] theorem setStall_day (s : State) (n : Nat) (x : Stall) : (setStall s n x).day = s.day := rfl
@[simp] theorem setStall_vigil (s : State) (n : Nat) (x : Stall) : (setStall s n x).vigil = s.vigil := rfl
@[simp] theorem setStall_mon (s : State) (n : Nat) (x : Stall) : (setStall s n x).mon = s.mon := rfl
@[simp] theorem setStall_faults (s : State) (n : Nat) (x : Stall) : (setStall s n x).faults = s.faults := rfl
@[simp] theorem setStall_worlds (s : State) (n : Nat) (x : Stall) : (setStall s n x).worlds = s.worlds := rfl
@[simp] theorem setStall_pair (s : State) (n : Nat) (x : Stall) : (setStall s n x).pair = s.pair := rfl
@[simp] theorem setStall_stk (s : State) (n : Nat) (x : Stall) : (setStall s n x).stk = s.stk := rfl
@[simp] theorem setStall_side (s : State) (n : Nat) (x : Stall) : (setStall s n x).side = s.side := rfl
@[simp] theorem setStall_dbg (s : State) (n : Nat) (x : Stall) : (setStall s n x).dbg = s.dbg := rfl
@[simp] theorem setStall_spdm (s : State) (n : Nat) (x : Stall) : (setStall s n x).spdm = s.spdm := rfl
@[simp] theorem setStall_ev (s : State) (n : Nat) (x : Stall) : (setStall s n x).ev = s.ev := rfl
@[simp] theorem setStall_pcie (s : State) (n : Nat) (x : Stall) : (setStall s n x).pcie = s.pcie := rfl
@[simp] theorem setStall_drbg (s : State) (n : Nat) (x : Stall) : (setStall s n x).drbg = s.drbg := rfl
@[simp] theorem setStall_perf (s : State) (n : Nat) (x : Stall) : (setStall s n x).perf = s.perf := rfl

/-! ### modStall -/

@[simp] theorem modStall_pending (s : State) (n : Nat) (f : Stall → Stall) : (modStall s n f).pending = s.pending := rfl
@[simp] theorem modStall_clock (s : State) (n : Nat) (f : Stall → Stall) : (modStall s n f).clock = s.clock := rfl
@[simp] theorem modStall_free (s : State) (n : Nat) (f : Stall → Stall) : (modStall s n f).free = s.free := rfl
@[simp] theorem modStall_nextId (s : State) (n : Nat) (f : Stall → Stall) : (modStall s n f).nextId = s.nextId := rfl
@[simp] theorem modStall_out (s : State) (n : Nat) (f : Stall → Stall) : (modStall s n f).out = s.out := rfl
@[simp] theorem modStall_rings (s : State) (n : Nat) (f : Stall → Stall) : (modStall s n f).rings = s.rings := rfl
@[simp] theorem modStall_orders (s : State) (n : Nat) (f : Stall → Stall) : (modStall s n f).orders = s.orders := rfl
@[simp] theorem modStall_egress (s : State) (n : Nat) (f : Stall → Stall) : (modStall s n f).egress = s.egress := rfl
@[simp] theorem modStall_cursors (s : State) (n : Nat) (f : Stall → Stall) : (modStall s n f).cursors = s.cursors := rfl
@[simp] theorem modStall_insts (s : State) (n : Nat) (f : Stall → Stall) : (modStall s n f).insts = s.insts := rfl
@[simp] theorem modStall_munim (s : State) (n : Nat) (f : Stall → Stall) : (modStall s n f).munim = s.munim := rfl
@[simp] theorem modStall_mram (s : State) (n : Nat) (f : Stall → Stall) : (modStall s n f).mram = s.mram := rfl
@[simp] theorem modStall_keeper (s : State) (n : Nat) (f : Stall → Stall) : (modStall s n f).keeper = s.keeper := rfl
@[simp] theorem modStall_day (s : State) (n : Nat) (f : Stall → Stall) : (modStall s n f).day = s.day := rfl
@[simp] theorem modStall_vigil (s : State) (n : Nat) (f : Stall → Stall) : (modStall s n f).vigil = s.vigil := rfl
@[simp] theorem modStall_mon (s : State) (n : Nat) (f : Stall → Stall) : (modStall s n f).mon = s.mon := rfl
@[simp] theorem modStall_faults (s : State) (n : Nat) (f : Stall → Stall) : (modStall s n f).faults = s.faults := rfl
@[simp] theorem modStall_worlds (s : State) (n : Nat) (f : Stall → Stall) : (modStall s n f).worlds = s.worlds := rfl
@[simp] theorem modStall_pair (s : State) (n : Nat) (f : Stall → Stall) : (modStall s n f).pair = s.pair := rfl
@[simp] theorem modStall_stk (s : State) (n : Nat) (f : Stall → Stall) : (modStall s n f).stk = s.stk := rfl
@[simp] theorem modStall_side (s : State) (n : Nat) (f : Stall → Stall) : (modStall s n f).side = s.side := rfl
@[simp] theorem modStall_dbg (s : State) (n : Nat) (f : Stall → Stall) : (modStall s n f).dbg = s.dbg := rfl
@[simp] theorem modStall_spdm (s : State) (n : Nat) (f : Stall → Stall) : (modStall s n f).spdm = s.spdm := rfl
@[simp] theorem modStall_ev (s : State) (n : Nat) (f : Stall → Stall) : (modStall s n f).ev = s.ev := rfl
@[simp] theorem modStall_pcie (s : State) (n : Nat) (f : Stall → Stall) : (modStall s n f).pcie = s.pcie := rfl
@[simp] theorem modStall_drbg (s : State) (n : Nat) (f : Stall → Stall) : (modStall s n f).drbg = s.drbg := rfl
@[simp] theorem modStall_perf (s : State) (n : Nat) (f : Stall → Stall) : (modStall s n f).perf = s.perf := rfl

/-! ### modOrder -/

@[simp] theorem modOrder_pending (s : State) (id : Nat) (f : Order → Order) : (modOrder s id f).pending = s.pending := rfl
@[simp] theorem modOrder_clock (s : State) (id : Nat) (f : Order → Order) : (modOrder s id f).clock = s.clock := rfl
@[simp] theorem modOrder_free (s : State) (id : Nat) (f : Order → Order) : (modOrder s id f).free = s.free := rfl
@[simp] theorem modOrder_nextId (s : State) (id : Nat) (f : Order → Order) : (modOrder s id f).nextId = s.nextId := rfl
@[simp] theorem modOrder_out (s : State) (id : Nat) (f : Order → Order) : (modOrder s id f).out = s.out := rfl
@[simp] theorem modOrder_rings (s : State) (id : Nat) (f : Order → Order) : (modOrder s id f).rings = s.rings := rfl
@[simp] theorem modOrder_stalls (s : State) (id : Nat) (f : Order → Order) : (modOrder s id f).stalls = s.stalls := rfl
@[simp] theorem modOrder_orders (s : State) (id : Nat) (f : Order → Order) : (modOrder s id f).orders = s.orders.map (fun o => if o.id = id then f o else o) := rfl
@[simp] theorem modOrder_egress (s : State) (id : Nat) (f : Order → Order) : (modOrder s id f).egress = s.egress := rfl
@[simp] theorem modOrder_cursors (s : State) (id : Nat) (f : Order → Order) : (modOrder s id f).cursors = s.cursors := rfl
@[simp] theorem modOrder_insts (s : State) (id : Nat) (f : Order → Order) : (modOrder s id f).insts = s.insts := rfl
@[simp] theorem modOrder_munim (s : State) (id : Nat) (f : Order → Order) : (modOrder s id f).munim = s.munim := rfl
@[simp] theorem modOrder_mram (s : State) (id : Nat) (f : Order → Order) : (modOrder s id f).mram = s.mram := rfl
@[simp] theorem modOrder_keeper (s : State) (id : Nat) (f : Order → Order) : (modOrder s id f).keeper = s.keeper := rfl
@[simp] theorem modOrder_day (s : State) (id : Nat) (f : Order → Order) : (modOrder s id f).day = s.day := rfl
@[simp] theorem modOrder_vigil (s : State) (id : Nat) (f : Order → Order) : (modOrder s id f).vigil = s.vigil := rfl
@[simp] theorem modOrder_mon (s : State) (id : Nat) (f : Order → Order) : (modOrder s id f).mon = s.mon := rfl
@[simp] theorem modOrder_faults (s : State) (id : Nat) (f : Order → Order) : (modOrder s id f).faults = s.faults := rfl
@[simp] theorem modOrder_worlds (s : State) (id : Nat) (f : Order → Order) : (modOrder s id f).worlds = s.worlds := rfl
@[simp] theorem modOrder_pair (s : State) (id : Nat) (f : Order → Order) : (modOrder s id f).pair = s.pair := rfl
@[simp] theorem modOrder_stk (s : State) (id : Nat) (f : Order → Order) : (modOrder s id f).stk = s.stk := rfl
@[simp] theorem modOrder_side (s : State) (id : Nat) (f : Order → Order) : (modOrder s id f).side = s.side := rfl
@[simp] theorem modOrder_dbg (s : State) (id : Nat) (f : Order → Order) : (modOrder s id f).dbg = s.dbg := rfl
@[simp] theorem modOrder_spdm (s : State) (id : Nat) (f : Order → Order) : (modOrder s id f).spdm = s.spdm := rfl
@[simp] theorem modOrder_ev (s : State) (id : Nat) (f : Order → Order) : (modOrder s id f).ev = s.ev := rfl
@[simp] theorem modOrder_pcie (s : State) (id : Nat) (f : Order → Order) : (modOrder s id f).pcie = s.pcie := rfl
@[simp] theorem modOrder_drbg (s : State) (id : Nat) (f : Order → Order) : (modOrder s id f).drbg = s.drbg := rfl
@[simp] theorem modOrder_perf (s : State) (id : Nat) (f : Order → Order) : (modOrder s id f).perf = s.perf := rfl

/-! ### dropOrder -/

@[simp] theorem dropOrder_pending (s : State) (id : Nat) : (dropOrder s id).pending = s.pending := rfl
@[simp] theorem dropOrder_clock (s : State) (id : Nat) : (dropOrder s id).clock = s.clock := rfl
@[simp] theorem dropOrder_free (s : State) (id : Nat) : (dropOrder s id).free = s.free := rfl
@[simp] theorem dropOrder_nextId (s : State) (id : Nat) : (dropOrder s id).nextId = s.nextId := rfl
@[simp] theorem dropOrder_out (s : State) (id : Nat) : (dropOrder s id).out = s.out := rfl
@[simp] theorem dropOrder_rings (s : State) (id : Nat) : (dropOrder s id).rings = s.rings := rfl
@[simp] theorem dropOrder_stalls (s : State) (id : Nat) : (dropOrder s id).stalls = s.stalls := rfl
@[simp] theorem dropOrder_orders (s : State) (id : Nat) : (dropOrder s id).orders = s.orders.filter (fun o => o.id != id) := rfl
@[simp] theorem dropOrder_egress (s : State) (id : Nat) : (dropOrder s id).egress = s.egress := rfl
@[simp] theorem dropOrder_cursors (s : State) (id : Nat) : (dropOrder s id).cursors = s.cursors := rfl
@[simp] theorem dropOrder_insts (s : State) (id : Nat) : (dropOrder s id).insts = s.insts := rfl
@[simp] theorem dropOrder_mram (s : State) (id : Nat) : (dropOrder s id).mram = s.mram := rfl
@[simp] theorem dropOrder_keeper (s : State) (id : Nat) : (dropOrder s id).keeper = s.keeper := rfl
@[simp] theorem dropOrder_day (s : State) (id : Nat) : (dropOrder s id).day = s.day := rfl
@[simp] theorem dropOrder_vigil (s : State) (id : Nat) : (dropOrder s id).vigil = s.vigil := rfl
@[simp] theorem dropOrder_mon (s : State) (id : Nat) : (dropOrder s id).mon = s.mon := rfl
@[simp] theorem dropOrder_faults (s : State) (id : Nat) : (dropOrder s id).faults = s.faults := rfl
@[simp] theorem dropOrder_worlds (s : State) (id : Nat) : (dropOrder s id).worlds = s.worlds := rfl
@[simp] theorem dropOrder_pair (s : State) (id : Nat) : (dropOrder s id).pair = s.pair := rfl
@[simp] theorem dropOrder_stk (s : State) (id : Nat) : (dropOrder s id).stk = s.stk := rfl
@[simp] theorem dropOrder_side (s : State) (id : Nat) : (dropOrder s id).side = s.side := rfl
@[simp] theorem dropOrder_dbg (s : State) (id : Nat) : (dropOrder s id).dbg = s.dbg := rfl
@[simp] theorem dropOrder_spdm (s : State) (id : Nat) : (dropOrder s id).spdm = s.spdm := rfl
@[simp] theorem dropOrder_ev (s : State) (id : Nat) : (dropOrder s id).ev = s.ev := rfl
@[simp] theorem dropOrder_pcie (s : State) (id : Nat) : (dropOrder s id).pcie = s.pcie := rfl
@[simp] theorem dropOrder_drbg (s : State) (id : Nat) : (dropOrder s id).drbg = s.drbg := rfl
@[simp] theorem dropOrder_perf (s : State) (id : Nat) : (dropOrder s id).perf = s.perf := rfl

/-! ### modInst -/

@[simp] theorem modInst_pending (s : State) (k : EngKind) (i : Nat) (f : Inst → Inst) : (modInst s k i f).pending = s.pending := rfl
@[simp] theorem modInst_clock (s : State) (k : EngKind) (i : Nat) (f : Inst → Inst) : (modInst s k i f).clock = s.clock := rfl
@[simp] theorem modInst_free (s : State) (k : EngKind) (i : Nat) (f : Inst → Inst) : (modInst s k i f).free = s.free := rfl
@[simp] theorem modInst_nextId (s : State) (k : EngKind) (i : Nat) (f : Inst → Inst) : (modInst s k i f).nextId = s.nextId := rfl
@[simp] theorem modInst_out (s : State) (k : EngKind) (i : Nat) (f : Inst → Inst) : (modInst s k i f).out = s.out := rfl
@[simp] theorem modInst_rings (s : State) (k : EngKind) (i : Nat) (f : Inst → Inst) : (modInst s k i f).rings = s.rings := rfl
@[simp] theorem modInst_stalls (s : State) (k : EngKind) (i : Nat) (f : Inst → Inst) : (modInst s k i f).stalls = s.stalls := rfl
@[simp] theorem modInst_orders (s : State) (k : EngKind) (i : Nat) (f : Inst → Inst) : (modInst s k i f).orders = s.orders := rfl
@[simp] theorem modInst_egress (s : State) (k : EngKind) (i : Nat) (f : Inst → Inst) : (modInst s k i f).egress = s.egress := rfl
@[simp] theorem modInst_cursors (s : State) (k : EngKind) (i : Nat) (f : Inst → Inst) : (modInst s k i f).cursors = s.cursors := rfl
@[simp] theorem modInst_munim (s : State) (k : EngKind) (i : Nat) (f : Inst → Inst) : (modInst s k i f).munim = s.munim := rfl
@[simp] theorem modInst_mram (s : State) (k : EngKind) (i : Nat) (f : Inst → Inst) : (modInst s k i f).mram = s.mram := rfl
@[simp] theorem modInst_keeper (s : State) (k : EngKind) (i : Nat) (f : Inst → Inst) : (modInst s k i f).keeper = s.keeper := rfl
@[simp] theorem modInst_day (s : State) (k : EngKind) (i : Nat) (f : Inst → Inst) : (modInst s k i f).day = s.day := rfl
@[simp] theorem modInst_vigil (s : State) (k : EngKind) (i : Nat) (f : Inst → Inst) : (modInst s k i f).vigil = s.vigil := rfl
@[simp] theorem modInst_mon (s : State) (k : EngKind) (i : Nat) (f : Inst → Inst) : (modInst s k i f).mon = s.mon := rfl
@[simp] theorem modInst_faults (s : State) (k : EngKind) (i : Nat) (f : Inst → Inst) : (modInst s k i f).faults = s.faults := rfl
@[simp] theorem modInst_worlds (s : State) (k : EngKind) (i : Nat) (f : Inst → Inst) : (modInst s k i f).worlds = s.worlds := rfl
@[simp] theorem modInst_pair (s : State) (k : EngKind) (i : Nat) (f : Inst → Inst) : (modInst s k i f).pair = s.pair := rfl
@[simp] theorem modInst_stk (s : State) (k : EngKind) (i : Nat) (f : Inst → Inst) : (modInst s k i f).stk = s.stk := rfl
@[simp] theorem modInst_side (s : State) (k : EngKind) (i : Nat) (f : Inst → Inst) : (modInst s k i f).side = s.side := rfl
@[simp] theorem modInst_dbg (s : State) (k : EngKind) (i : Nat) (f : Inst → Inst) : (modInst s k i f).dbg = s.dbg := rfl
@[simp] theorem modInst_spdm (s : State) (k : EngKind) (i : Nat) (f : Inst → Inst) : (modInst s k i f).spdm = s.spdm := rfl
@[simp] theorem modInst_ev (s : State) (k : EngKind) (i : Nat) (f : Inst → Inst) : (modInst s k i f).ev = s.ev := rfl
@[simp] theorem modInst_pcie (s : State) (k : EngKind) (i : Nat) (f : Inst → Inst) : (modInst s k i f).pcie = s.pcie := rfl
@[simp] theorem modInst_drbg (s : State) (k : EngKind) (i : Nat) (f : Inst → Inst) : (modInst s k i f).drbg = s.drbg := rfl
@[simp] theorem modInst_perf (s : State) (k : EngKind) (i : Nat) (f : Inst → Inst) : (modInst s k i f).perf = s.perf := rfl

/-! ### modInsts -/

@[simp] theorem modInsts_pending (s : State) (f : Inst → Inst) : (modInsts s f).pending = s.pending := rfl
@[simp] theorem modInsts_clock (s : State) (f : Inst → Inst) : (modInsts s f).clock = s.clock := rfl
@[simp] theorem modInsts_free (s : State) (f : Inst → Inst) : (modInsts s f).free = s.free := rfl
@[simp] theorem modInsts_nextId (s : State) (f : Inst → Inst) : (modInsts s f).nextId = s.nextId := rfl
@[simp] theorem modInsts_out (s : State) (f : Inst → Inst) : (modInsts s f).out = s.out := rfl
@[simp] theorem modInsts_rings (s : State) (f : Inst → Inst) : (modInsts s f).rings = s.rings := rfl
@[simp] theorem modInsts_stalls (s : State) (f : Inst → Inst) : (modInsts s f).stalls = s.stalls := rfl
@[simp] theorem modInsts_orders (s : State) (f : Inst → Inst) : (modInsts s f).orders = s.orders := rfl
@[simp] theorem modInsts_egress (s : State) (f : Inst → Inst) : (modInsts s f).egress = s.egress := rfl
@[simp] theorem modInsts_cursors (s : State) (f : Inst → Inst) : (modInsts s f).cursors = s.cursors := rfl
@[simp] theorem modInsts_insts (s : State) (f : Inst → Inst) : (modInsts s f).insts = s.insts.map (·.map f) := rfl
@[simp] theorem modInsts_munim (s : State) (f : Inst → Inst) : (modInsts s f).munim = s.munim := rfl
@[simp] theorem modInsts_mram (s : State) (f : Inst → Inst) : (modInsts s f).mram = s.mram := rfl
@[simp] theorem modInsts_keeper (s : State) (f : Inst → Inst) : (modInsts s f).keeper = s.keeper := rfl
@[simp] theorem modInsts_day (s : State) (f : Inst → Inst) : (modInsts s f).day = s.day := rfl
@[simp] theorem modInsts_vigil (s : State) (f : Inst → Inst) : (modInsts s f).vigil = s.vigil := rfl
@[simp] theorem modInsts_mon (s : State) (f : Inst → Inst) : (modInsts s f).mon = s.mon := rfl
@[simp] theorem modInsts_faults (s : State) (f : Inst → Inst) : (modInsts s f).faults = s.faults := rfl
@[simp] theorem modInsts_worlds (s : State) (f : Inst → Inst) : (modInsts s f).worlds = s.worlds := rfl
@[simp] theorem modInsts_pair (s : State) (f : Inst → Inst) : (modInsts s f).pair = s.pair := rfl
@[simp] theorem modInsts_stk (s : State) (f : Inst → Inst) : (modInsts s f).stk = s.stk := rfl
@[simp] theorem modInsts_side (s : State) (f : Inst → Inst) : (modInsts s f).side = s.side := rfl
@[simp] theorem modInsts_dbg (s : State) (f : Inst → Inst) : (modInsts s f).dbg = s.dbg := rfl
@[simp] theorem modInsts_spdm (s : State) (f : Inst → Inst) : (modInsts s f).spdm = s.spdm := rfl
@[simp] theorem modInsts_ev (s : State) (f : Inst → Inst) : (modInsts s f).ev = s.ev := rfl
@[simp] theorem modInsts_pcie (s : State) (f : Inst → Inst) : (modInsts s f).pcie = s.pcie := rfl
@[simp] theorem modInsts_drbg (s : State) (f : Inst → Inst) : (modInsts s f).drbg = s.drbg := rfl
@[simp] theorem modInsts_perf (s : State) (f : Inst → Inst) : (modInsts s f).perf = s.perf := rfl

/-! ### tick -/

@[simp] theorem tick_pending (s : State) (t : Nat) : (tick t s).pending = s.pending := rfl
@[simp] theorem tick_clock (s : State) (t : Nat) : (tick t s).clock = max s.clock t := rfl
@[simp] theorem tick_free (s : State) (t : Nat) : (tick t s).free = s.free := rfl
@[simp] theorem tick_nextId (s : State) (t : Nat) : (tick t s).nextId = s.nextId := rfl
@[simp] theorem tick_out (s : State) (t : Nat) : (tick t s).out = s.out := rfl
@[simp] theorem tick_rings (s : State) (t : Nat) : (tick t s).rings = s.rings := rfl
@[simp] theorem tick_stalls (s : State) (t : Nat) : (tick t s).stalls = s.stalls := rfl
@[simp] theorem tick_orders (s : State) (t : Nat) : (tick t s).orders = s.orders := rfl
@[simp] theorem tick_egress (s : State) (t : Nat) : (tick t s).egress = s.egress := rfl
@[simp] theorem tick_cursors (s : State) (t : Nat) : (tick t s).cursors = s.cursors := rfl
@[simp] theorem tick_insts (s : State) (t : Nat) : (tick t s).insts = s.insts := rfl
@[simp] theorem tick_munim (s : State) (t : Nat) : (tick t s).munim = s.munim := rfl
@[simp] theorem tick_mram (s : State) (t : Nat) : (tick t s).mram = s.mram := rfl
@[simp] theorem tick_keeper (s : State) (t : Nat) : (tick t s).keeper = s.keeper := rfl
@[simp] theorem tick_day (s : State) (t : Nat) : (tick t s).day = s.day := rfl
@[simp] theorem tick_mon (s : State) (t : Nat) : (tick t s).mon = s.mon := rfl
@[simp] theorem tick_faults (s : State) (t : Nat) : (tick t s).faults = s.faults := rfl
@[simp] theorem tick_worlds (s : State) (t : Nat) : (tick t s).worlds = s.worlds := rfl
@[simp] theorem tick_pair (s : State) (t : Nat) : (tick t s).pair = s.pair := rfl
@[simp] theorem tick_stk (s : State) (t : Nat) : (tick t s).stk = s.stk := rfl
@[simp] theorem tick_side (s : State) (t : Nat) : (tick t s).side = s.side := rfl
@[simp] theorem tick_dbg (s : State) (t : Nat) : (tick t s).dbg = s.dbg := rfl
@[simp] theorem tick_spdm (s : State) (t : Nat) : (tick t s).spdm = s.spdm := rfl
@[simp] theorem tick_ev (s : State) (t : Nat) : (tick t s).ev = s.ev := rfl
@[simp] theorem tick_pcie (s : State) (t : Nat) : (tick t s).pcie = s.pcie := rfl
@[simp] theorem tick_drbg (s : State) (t : Nat) : (tick t s).drbg = s.drbg := rfl
@[simp] theorem tick_perf (s : State) (t : Nat) : (tick t s).perf = s.perf := rfl

/-! ### emit -/

@[simp] theorem emit_pending (s : State) (o : Out) : (emit o s).pending = s.pending := rfl
@[simp] theorem emit_clock (s : State) (o : Out) : (emit o s).clock = s.clock := rfl
@[simp] theorem emit_free (s : State) (o : Out) : (emit o s).free = s.free := rfl
@[simp] theorem emit_nextId (s : State) (o : Out) : (emit o s).nextId = s.nextId := rfl
@[simp] theorem emit_out (s : State) (o : Out) : (emit o s).out = s.out ++ [o] := rfl
@[simp] theorem emit_rings (s : State) (o : Out) : (emit o s).rings = s.rings := rfl
@[simp] theorem emit_stalls (s : State) (o : Out) : (emit o s).stalls = s.stalls := rfl
@[simp] theorem emit_orders (s : State) (o : Out) : (emit o s).orders = s.orders := rfl
@[simp] theorem emit_egress (s : State) (o : Out) : (emit o s).egress = s.egress := rfl
@[simp] theorem emit_cursors (s : State) (o : Out) : (emit o s).cursors = s.cursors := rfl
@[simp] theorem emit_insts (s : State) (o : Out) : (emit o s).insts = s.insts := rfl
@[simp] theorem emit_munim (s : State) (o : Out) : (emit o s).munim = s.munim := rfl
@[simp] theorem emit_mram (s : State) (o : Out) : (emit o s).mram = s.mram := rfl
@[simp] theorem emit_keeper (s : State) (o : Out) : (emit o s).keeper = s.keeper := rfl
@[simp] theorem emit_day (s : State) (o : Out) : (emit o s).day = s.day := rfl
@[simp] theorem emit_vigil (s : State) (o : Out) : (emit o s).vigil = s.vigil := rfl
@[simp] theorem emit_mon (s : State) (o : Out) : (emit o s).mon = s.mon := rfl
@[simp] theorem emit_faults (s : State) (o : Out) : (emit o s).faults = s.faults := rfl
@[simp] theorem emit_worlds (s : State) (o : Out) : (emit o s).worlds = s.worlds := rfl
@[simp] theorem emit_pair (s : State) (o : Out) : (emit o s).pair = s.pair := rfl
@[simp] theorem emit_stk (s : State) (o : Out) : (emit o s).stk = s.stk := rfl
@[simp] theorem emit_side (s : State) (o : Out) : (emit o s).side = s.side := rfl
@[simp] theorem emit_dbg (s : State) (o : Out) : (emit o s).dbg = s.dbg := rfl
@[simp] theorem emit_spdm (s : State) (o : Out) : (emit o s).spdm = s.spdm := rfl
@[simp] theorem emit_ev (s : State) (o : Out) : (emit o s).ev = s.ev := rfl
@[simp] theorem emit_pcie (s : State) (o : Out) : (emit o s).pcie = s.pcie := rfl
@[simp] theorem emit_drbg (s : State) (o : Out) : (emit o s).drbg = s.drbg := rfl
@[simp] theorem emit_perf (s : State) (o : Out) : (emit o s).perf = s.perf := rfl

/-! ### emits -/

@[simp] theorem emits_pending (s : State) (l : List Out) : (emits l s).pending = s.pending := rfl
@[simp] theorem emits_clock (s : State) (l : List Out) : (emits l s).clock = s.clock := rfl
@[simp] theorem emits_free (s : State) (l : List Out) : (emits l s).free = s.free := rfl
@[simp] theorem emits_nextId (s : State) (l : List Out) : (emits l s).nextId = s.nextId := rfl
@[simp] theorem emits_out (s : State) (l : List Out) : (emits l s).out = s.out ++ l := rfl
@[simp] theorem emits_rings (s : State) (l : List Out) : (emits l s).rings = s.rings := rfl
@[simp] theorem emits_stalls (s : State) (l : List Out) : (emits l s).stalls = s.stalls := rfl
@[simp] theorem emits_orders (s : State) (l : List Out) : (emits l s).orders = s.orders := rfl
@[simp] theorem emits_egress (s : State) (l : List Out) : (emits l s).egress = s.egress := rfl
@[simp] theorem emits_cursors (s : State) (l : List Out) : (emits l s).cursors = s.cursors := rfl
@[simp] theorem emits_insts (s : State) (l : List Out) : (emits l s).insts = s.insts := rfl
@[simp] theorem emits_munim (s : State) (l : List Out) : (emits l s).munim = s.munim := rfl
@[simp] theorem emits_mram (s : State) (l : List Out) : (emits l s).mram = s.mram := rfl
@[simp] theorem emits_keeper (s : State) (l : List Out) : (emits l s).keeper = s.keeper := rfl
@[simp] theorem emits_day (s : State) (l : List Out) : (emits l s).day = s.day := rfl
@[simp] theorem emits_vigil (s : State) (l : List Out) : (emits l s).vigil = s.vigil := rfl
@[simp] theorem emits_mon (s : State) (l : List Out) : (emits l s).mon = s.mon := rfl
@[simp] theorem emits_faults (s : State) (l : List Out) : (emits l s).faults = s.faults := rfl
@[simp] theorem emits_worlds (s : State) (l : List Out) : (emits l s).worlds = s.worlds := rfl
@[simp] theorem emits_pair (s : State) (l : List Out) : (emits l s).pair = s.pair := rfl
@[simp] theorem emits_stk (s : State) (l : List Out) : (emits l s).stk = s.stk := rfl
@[simp] theorem emits_side (s : State) (l : List Out) : (emits l s).side = s.side := rfl
@[simp] theorem emits_dbg (s : State) (l : List Out) : (emits l s).dbg = s.dbg := rfl
@[simp] theorem emits_spdm (s : State) (l : List Out) : (emits l s).spdm = s.spdm := rfl
@[simp] theorem emits_ev (s : State) (l : List Out) : (emits l s).ev = s.ev := rfl
@[simp] theorem emits_pcie (s : State) (l : List Out) : (emits l s).pcie = s.pcie := rfl
@[simp] theorem emits_drbg (s : State) (l : List Out) : (emits l s).drbg = s.drbg := rfl
@[simp] theorem emits_perf (s : State) (l : List Out) : (emits l s).perf = s.perf := rfl

/-! ### perfAdd -/

@[simp] theorem perfAdd_pending (s : State) (i n : Nat) : (perfAdd i n s).pending = s.pending := rfl
@[simp] theorem perfAdd_clock (s : State) (i n : Nat) : (perfAdd i n s).clock = s.clock := rfl
@[simp] theorem perfAdd_free (s : State) (i n : Nat) : (perfAdd i n s).free = s.free := rfl
@[simp] theorem perfAdd_nextId (s : State) (i n : Nat) : (perfAdd i n s).nextId = s.nextId := rfl
@[simp] theorem perfAdd_out (s : State) (i n : Nat) : (perfAdd i n s).out = s.out := rfl
@[simp] theorem perfAdd_rings (s : State) (i n : Nat) : (perfAdd i n s).rings = s.rings := rfl
@[simp] theorem perfAdd_stalls (s : State) (i n : Nat) : (perfAdd i n s).stalls = s.stalls := rfl
@[simp] theorem perfAdd_orders (s : State) (i n : Nat) : (perfAdd i n s).orders = s.orders := rfl
@[simp] theorem perfAdd_egress (s : State) (i n : Nat) : (perfAdd i n s).egress = s.egress := rfl
@[simp] theorem perfAdd_cursors (s : State) (i n : Nat) : (perfAdd i n s).cursors = s.cursors := rfl
@[simp] theorem perfAdd_insts (s : State) (i n : Nat) : (perfAdd i n s).insts = s.insts := rfl
@[simp] theorem perfAdd_munim (s : State) (i n : Nat) : (perfAdd i n s).munim = s.munim := rfl
@[simp] theorem perfAdd_mram (s : State) (i n : Nat) : (perfAdd i n s).mram = s.mram := rfl
@[simp] theorem perfAdd_keeper (s : State) (i n : Nat) : (perfAdd i n s).keeper = s.keeper := rfl
@[simp] theorem perfAdd_day (s : State) (i n : Nat) : (perfAdd i n s).day = s.day := rfl
@[simp] theorem perfAdd_vigil (s : State) (i n : Nat) : (perfAdd i n s).vigil = s.vigil := rfl
@[simp] theorem perfAdd_mon (s : State) (i n : Nat) : (perfAdd i n s).mon = s.mon := rfl
@[simp] theorem perfAdd_faults (s : State) (i n : Nat) : (perfAdd i n s).faults = s.faults := rfl
@[simp] theorem perfAdd_worlds (s : State) (i n : Nat) : (perfAdd i n s).worlds = s.worlds := rfl
@[simp] theorem perfAdd_pair (s : State) (i n : Nat) : (perfAdd i n s).pair = s.pair := rfl
@[simp] theorem perfAdd_stk (s : State) (i n : Nat) : (perfAdd i n s).stk = s.stk := rfl
@[simp] theorem perfAdd_side (s : State) (i n : Nat) : (perfAdd i n s).side = s.side := rfl
@[simp] theorem perfAdd_dbg (s : State) (i n : Nat) : (perfAdd i n s).dbg = s.dbg := rfl
@[simp] theorem perfAdd_spdm (s : State) (i n : Nat) : (perfAdd i n s).spdm = s.spdm := rfl
@[simp] theorem perfAdd_ev (s : State) (i n : Nat) : (perfAdd i n s).ev = s.ev := rfl
@[simp] theorem perfAdd_pcie (s : State) (i n : Nat) : (perfAdd i n s).pcie = s.pcie := rfl
@[simp] theorem perfAdd_drbg (s : State) (i n : Nat) : (perfAdd i n s).drbg = s.drbg := rfl

/-! ### withResult -/

@[simp] theorem withResult_pending (s : State) (id : Nat) (r : Result) : (withResult s id r).pending = s.pending := rfl
@[simp] theorem withResult_clock (s : State) (id : Nat) (r : Result) : (withResult s id r).clock = s.clock := rfl
@[simp] theorem withResult_free (s : State) (id : Nat) (r : Result) : (withResult s id r).free = s.free := rfl
@[simp] theorem withResult_nextId (s : State) (id : Nat) (r : Result) : (withResult s id r).nextId = s.nextId := rfl
@[simp] theorem withResult_out (s : State) (id : Nat) (r : Result) : (withResult s id r).out = s.out := rfl
@[simp] theorem withResult_rings (s : State) (id : Nat) (r : Result) : (withResult s id r).rings = s.rings := rfl
@[simp] theorem withResult_stalls (s : State) (id : Nat) (r : Result) : (withResult s id r).stalls = s.stalls := rfl
@[simp] theorem withResult_egress (s : State) (id : Nat) (r : Result) : (withResult s id r).egress = s.egress := rfl
@[simp] theorem withResult_cursors (s : State) (id : Nat) (r : Result) : (withResult s id r).cursors = s.cursors := rfl
@[simp] theorem withResult_insts (s : State) (id : Nat) (r : Result) : (withResult s id r).insts = s.insts := rfl
@[simp] theorem withResult_munim (s : State) (id : Nat) (r : Result) : (withResult s id r).munim = s.munim := rfl
@[simp] theorem withResult_mram (s : State) (id : Nat) (r : Result) : (withResult s id r).mram = s.mram := rfl
@[simp] theorem withResult_keeper (s : State) (id : Nat) (r : Result) : (withResult s id r).keeper = s.keeper := rfl
@[simp] theorem withResult_day (s : State) (id : Nat) (r : Result) : (withResult s id r).day = s.day := rfl
@[simp] theorem withResult_vigil (s : State) (id : Nat) (r : Result) : (withResult s id r).vigil = s.vigil := rfl
@[simp] theorem withResult_mon (s : State) (id : Nat) (r : Result) : (withResult s id r).mon = s.mon := rfl
@[simp] theorem withResult_faults (s : State) (id : Nat) (r : Result) : (withResult s id r).faults = s.faults := rfl
@[simp] theorem withResult_worlds (s : State) (id : Nat) (r : Result) : (withResult s id r).worlds = s.worlds := rfl
@[simp] theorem withResult_pair (s : State) (id : Nat) (r : Result) : (withResult s id r).pair = s.pair := rfl
@[simp] theorem withResult_stk (s : State) (id : Nat) (r : Result) : (withResult s id r).stk = s.stk := rfl
@[simp] theorem withResult_side (s : State) (id : Nat) (r : Result) : (withResult s id r).side = s.side := rfl
@[simp] theorem withResult_dbg (s : State) (id : Nat) (r : Result) : (withResult s id r).dbg = s.dbg := rfl
@[simp] theorem withResult_spdm (s : State) (id : Nat) (r : Result) : (withResult s id r).spdm = s.spdm := rfl
@[simp] theorem withResult_ev (s : State) (id : Nat) (r : Result) : (withResult s id r).ev = s.ev := rfl
@[simp] theorem withResult_pcie (s : State) (id : Nat) (r : Result) : (withResult s id r).pcie = s.pcie := rfl
@[simp] theorem withResult_drbg (s : State) (id : Nat) (r : Result) : (withResult s id r).drbg = s.drbg := rfl
@[simp] theorem withResult_perf (s : State) (id : Nat) (r : Result) : (withResult s id r).perf = s.perf := rfl

/-! ### gate -/

@[simp] theorem gate_clock (s t : State) : (gate s t).clock = t.clock := rfl
@[simp] theorem gate_free (s t : State) : (gate s t).free = t.free := rfl
@[simp] theorem gate_nextId (s t : State) : (gate s t).nextId = t.nextId := rfl
@[simp] theorem gate_egress (s t : State) : (gate s t).egress = t.egress := rfl
@[simp] theorem gate_cursors (s t : State) : (gate s t).cursors = t.cursors := rfl
@[simp] theorem gate_insts (s t : State) : (gate s t).insts = t.insts := rfl
@[simp] theorem gate_munim (s t : State) : (gate s t).munim = t.munim := rfl
@[simp] theorem gate_mram (s t : State) : (gate s t).mram = t.mram := rfl
@[simp] theorem gate_keeper (s t : State) : (gate s t).keeper = t.keeper := rfl
@[simp] theorem gate_day (s t : State) : (gate s t).day = t.day := rfl
@[simp] theorem gate_vigil (s t : State) : (gate s t).vigil = t.vigil := rfl
@[simp] theorem gate_mon (s t : State) : (gate s t).mon = t.mon := rfl
@[simp] theorem gate_worlds (s t : State) : (gate s t).worlds = t.worlds := rfl
@[simp] theorem gate_pair (s t : State) : (gate s t).pair = t.pair := rfl
@[simp] theorem gate_stk (s t : State) : (gate s t).stk = t.stk := rfl
@[simp] theorem gate_side (s t : State) : (gate s t).side = t.side := rfl
@[simp] theorem gate_dbg (s t : State) : (gate s t).dbg = t.dbg := rfl
@[simp] theorem gate_spdm (s t : State) : (gate s t).spdm = t.spdm := rfl
@[simp] theorem gate_ev (s t : State) : (gate s t).ev = t.ev := rfl
@[simp] theorem gate_pcie (s t : State) : (gate s t).pcie = t.pcie := rfl
@[simp] theorem gate_drbg (s t : State) : (gate s t).drbg = t.drbg := rfl
@[simp] theorem gate_perf (s t : State) : (gate s t).perf = t.perf := rfl

/-! ### freeVal -/

@[simp] theorem freeVal_pending (s : State) : (freeVal s).2.pending = s.pending := rfl
@[simp] theorem freeVal_clock (s : State) : (freeVal s).2.clock = s.clock := rfl
@[simp] theorem freeVal_free (s : State) : (freeVal s).2.free = s.free + 1 := rfl
@[simp] theorem freeVal_nextId (s : State) : (freeVal s).2.nextId = s.nextId := rfl
@[simp] theorem freeVal_out (s : State) : (freeVal s).2.out = s.out := rfl
@[simp] theorem freeVal_rings (s : State) : (freeVal s).2.rings = s.rings := rfl
@[simp] theorem freeVal_stalls (s : State) : (freeVal s).2.stalls = s.stalls := rfl
@[simp] theorem freeVal_orders (s : State) : (freeVal s).2.orders = s.orders := rfl
@[simp] theorem freeVal_egress (s : State) : (freeVal s).2.egress = s.egress := rfl
@[simp] theorem freeVal_cursors (s : State) : (freeVal s).2.cursors = s.cursors := rfl
@[simp] theorem freeVal_insts (s : State) : (freeVal s).2.insts = s.insts := rfl
@[simp] theorem freeVal_munim (s : State) : (freeVal s).2.munim = s.munim := rfl
@[simp] theorem freeVal_mram (s : State) : (freeVal s).2.mram = s.mram := rfl
@[simp] theorem freeVal_keeper (s : State) : (freeVal s).2.keeper = s.keeper := rfl
@[simp] theorem freeVal_day (s : State) : (freeVal s).2.day = s.day := rfl
@[simp] theorem freeVal_vigil (s : State) : (freeVal s).2.vigil = s.vigil := rfl
@[simp] theorem freeVal_mon (s : State) : (freeVal s).2.mon = s.mon := rfl
@[simp] theorem freeVal_faults (s : State) : (freeVal s).2.faults = s.faults := rfl
@[simp] theorem freeVal_worlds (s : State) : (freeVal s).2.worlds = s.worlds := rfl
@[simp] theorem freeVal_pair (s : State) : (freeVal s).2.pair = s.pair := rfl
@[simp] theorem freeVal_stk (s : State) : (freeVal s).2.stk = s.stk := rfl
@[simp] theorem freeVal_side (s : State) : (freeVal s).2.side = s.side := rfl
@[simp] theorem freeVal_dbg (s : State) : (freeVal s).2.dbg = s.dbg := rfl
@[simp] theorem freeVal_spdm (s : State) : (freeVal s).2.spdm = s.spdm := rfl
@[simp] theorem freeVal_ev (s : State) : (freeVal s).2.ev = s.ev := rfl
@[simp] theorem freeVal_pcie (s : State) : (freeVal s).2.pcie = s.pcie := rfl
@[simp] theorem freeVal_drbg (s : State) : (freeVal s).2.drbg = s.drbg := rfl
@[simp] theorem freeVal_perf (s : State) : (freeVal s).2.perf = s.perf := rfl

end Machine
end Sys2Proof
end

