-- ==== Sys2Proof/Laws/Orders.lean ====
section
/-!
SUPPORT. The form of every command's answer, the outputs it may add, and the list of orders under the updates of one order.
-/
namespace Sys2Proof
namespace Machine

/-- Every command answers a next state, and it passes the egress gate. -/
theorem exec_gate (c : Instr) (s : State) : ∃ v : State, exec c s = .next (gate s v) := by
  cases c <;> exact ⟨_, rfl⟩

/-- Inside Silence the gate adds no output of the PCIe core. -/
theorem gate_out_pcie (s v : State) (hs : s.faults.silent = true) (hv : v.faults.silent = true) (o : Out)
    (ho : o ∈ (gate s v).out) : o ∈ s.out ∨ o.pcie = false := by
  simp only [gate, hs, hv, Bool.and_self, if_true, List.mem_append, List.mem_filter] at ho
  rcases ho with h | ⟨_, h⟩
  · exact .inl h
  · exact .inr (by simpa using h)

/-- A meaning of the host in operation that puts nothing out. -/
theorem hostAct_quiet {f : State → State} {s t : State} (h : s.faults.phase = .running) (hf : f s = t) (ho : t.out = s.out)
    (hp : t.pending = s.pending) : hostAct f s = .next t := by
  rw [hostAct_running f s h, hf, gate_quiet s t ho hp]

/-- A meaning of the core in operation that puts nothing out. -/
theorem coreAct_quiet {f : State → State} {s t : State} (h : s.faults.phase = .running) (hf : f s = t) (ho : t.out = s.out)
    (hp : t.pending = s.pending) : coreAct f s = .next t := by
  rw [coreAct_running f s h, hf, gate_quiet s t ho hp]

/-- A meaning without a phase that puts nothing out. -/
theorem act_quiet {f : State → State} {s t : State} (hf : f s = t) (ho : t.out = s.out) (hp : t.pending = s.pending) :
    act f s = .next t := by
  rw [act_eq f s, hf, gate_quiet s t ho hp]

/-- A meaning without a phase that adds outputs outside Silence. -/
theorem act_appends {f : State → State} {s t : State} (l : List Out) (hl : s.faults.silent = false) (hf : f s = t)
    (ho : t.out = s.out ++ l) (hp : t.pending = s.pending) : act f s = .next t := by
  rw [act_eq f s, hf, gate_appends s t l hl ho hp]

/-- An order found by a name has that name. -/
theorem order?_id {s : State} {id : Nat} {o : Order} (h : order? s id = some o) : o.id = id := by
  have := List.find?_some h
  simpa using this

/-- Looking up an order after an update of one order that keeps its name. -/
theorem order?_modOrder (s : State) (id : Nat) (f : Order → Order) (hf : ∀ o, (f o).id = o.id) (i : Nat) :
    order? (modOrder s id f) i = (order? s i).map (fun o => if o.id = id then f o else o) := by
  simp only [order?, modOrder, List.find?_map]
  congr 1
  have : ((fun o : Order => o.id == i) ∘ fun o => if o.id = id then f o else o) = (fun o => o.id == i) := by
    funext o
    simp only [Function.comp]
    split <;> simp [hf]
  rw [this]

end Machine
end Sys2Proof
end

