-- ==== Sys2Proof/Laws/Tables.lean ====
section
/-!
SUPPORT. The laws of the sparse tables: what a key reads after a write, and that every operation keeps the canonical form.
-/
namespace Sys2Proof
namespace Machine

theorem Tbl.find?_ins_same {α : Type} (t : Tbl α) (i : Nat) (v : α) : Tbl.find? (Tbl.ins t i v) i = some v := by
  induction t with
  | nil => simp [Tbl.ins, Tbl.find?]
  | cons p r ih =>
    obtain ⟨k, w⟩ := p
    simp only [Tbl.ins]
    split
    · simp [Tbl.find?]
    · split <;> simp_all [Tbl.find?]

theorem Tbl.find?_ins_other {α : Type} (t : Tbl α) (i j : Nat) (v : α) (h : j ≠ i) :
    Tbl.find? (Tbl.ins t i v) j = Tbl.find? t j := by
  induction t with
  | nil => simp [Tbl.ins, Tbl.find?, h]
  | cons p r ih =>
    obtain ⟨k, w⟩ := p
    simp only [Tbl.ins]
    split
    · simp_all [Tbl.find?]
    · split <;> simp_all [Tbl.find?]

theorem Tbl.find?_del_same {α : Type} (t : Tbl α) (i : Nat) : Tbl.find? (Tbl.del t i) i = none := by
  induction t with
  | nil => rfl
  | cons p r ih =>
    by_cases h : p.1 = i
    · simpa [Tbl.del, h] using ih
    · have h' : i ≠ p.1 := fun e => h e.symm
      simpa [Tbl.del, h, Tbl.find?, h'] using ih

theorem Tbl.find?_del_other {α : Type} (t : Tbl α) (i j : Nat) (h : j ≠ i) : Tbl.find? (Tbl.del t i) j = Tbl.find? t j := by
  induction t with
  | nil => rfl
  | cons p r ih =>
    by_cases hp : p.1 = i
    · simpa [Tbl.del, hp, Tbl.find?, h] using ih
    · by_cases hj : j = p.1
      · simp [Tbl.del, hp, Tbl.find?, hj]
      · simpa [Tbl.del, hp, Tbl.find?, hj] using ih

/-- What is put at a key is read there. -/
@[simp] theorem Tbl.getD_put_same {α : Type} [DecidableEq α] (d : α) (t : Tbl α) (i : Nat) (v : α) :
    Tbl.getD (Tbl.put d t i v) i d = v := by
  unfold Tbl.put Tbl.getD; split
  · simp_all [Tbl.find?_del_same]
  · simp [Tbl.find?_ins_same]

/-- Every other key reads what it read. -/
theorem Tbl.getD_put_other {α : Type} [DecidableEq α] (d : α) (t : Tbl α) (i j : Nat) (v : α) (h : j ≠ i) :
    Tbl.getD (Tbl.put d t i v) j d = Tbl.getD t j d := by
  unfold Tbl.put Tbl.getD; split
  · rw [Tbl.find?_del_other t i j h]
  · rw [Tbl.find?_ins_other t i j v h]

theorem Tbl.wfFrom_lower {α : Type} [DecidableEq α] (d : α) (t : Tbl α) (a b : Option Nat)
    (hab : ∀ l, b = some l → ∃ m, a = some m ∧ l ≤ m) (h : Tbl.wfFrom d a t = true) : Tbl.wfFrom d b t = true := by
  cases t with
  | nil => rfl
  | cons p r =>
    obtain ⟨k, v⟩ := p
    simp only [Tbl.wfFrom, Bool.and_eq_true] at h ⊢
    refine ⟨⟨?_, h.1.2⟩, h.2⟩
    cases b with
    | none => rfl
    | some l =>
      obtain ⟨m, rfl, hm⟩ := hab l rfl
      have := h.1.1
      simp only [decide_eq_true_eq] at this ⊢
      omega

theorem Tbl.wfFrom_del {α : Type} [DecidableEq α] (d : α) (t : Tbl α) (i : Nat) (lo : Option Nat)
    (h : Tbl.wfFrom d lo t = true) : Tbl.wfFrom d lo (Tbl.del t i) = true := by
  induction t generalizing lo with
  | nil => rfl
  | cons p r ih =>
    obtain ⟨k, v⟩ := p
    simp only [Tbl.wfFrom, Bool.and_eq_true] at h
    by_cases hk : k = i
    · have : Tbl.del ((k, v) :: r) i = Tbl.del r i := by simp [Tbl.del, hk]
      rw [this]
      refine ih lo (Tbl.wfFrom_lower d r (some k) lo ?_ h.2)
      rintro l rfl
      exact ⟨k, rfl, le_of_lt (by simpa using h.1.1)⟩
    · have : Tbl.del ((k, v) :: r) i = (k, v) :: Tbl.del r i := by simp [Tbl.del, hk]
      rw [this]
      simp only [Tbl.wfFrom, Bool.and_eq_true]
      exact ⟨h.1, ih (some k) h.2⟩

theorem Tbl.wfFrom_ins {α : Type} [DecidableEq α] (d : α) (t : Tbl α) (i : Nat) (v : α) (lo : Option Nat) (hv : v ≠ d)
    (hlo : ∀ l, lo = some l → l < i) (h : Tbl.wfFrom d lo t = true) : Tbl.wfFrom d lo (Tbl.ins t i v) = true := by
  induction t generalizing lo with
  | nil =>
    cases lo with
    | none => simp [Tbl.ins, Tbl.wfFrom, hv]
    | some l => simp [Tbl.ins, Tbl.wfFrom, hv, hlo l rfl]
  | cons p r ih =>
    obtain ⟨k, w⟩ := p
    have h0 := h
    simp only [Tbl.wfFrom, Bool.and_eq_true] at h
    simp only [Tbl.ins]
    split
    · rename_i hk; subst hk
      simp only [Tbl.wfFrom, Bool.and_eq_true]
      exact ⟨⟨h.1.1, by simpa using hv⟩, h.2⟩
    · split
      · rename_i hlt
        simp only [Tbl.wfFrom, Bool.and_eq_true, decide_eq_true_eq]
        refine ⟨⟨?_, by simpa using hv⟩, ⟨hlt, by simpa using h.1.2⟩, h.2⟩
        cases lo with
        | none => rfl
        | some l => simpa using hlo l rfl
      · rename_i hne hge
        simp only [Tbl.wfFrom, Bool.and_eq_true]
        exact ⟨h.1, ih (some k) (by rintro l ⟨rfl⟩; omega) h.2⟩

/-- A write keeps the canonical form. -/
theorem Tbl.wf_put {α : Type} [DecidableEq α] (d : α) (t : Tbl α) (i : Nat) (v : α) (h : Tbl.wf d t = true) :
    Tbl.wf d (Tbl.put d t i v) = true := by
  unfold Tbl.wf Tbl.put at *; split
  · exact Tbl.wfFrom_del d t i none h
  · exact Tbl.wfFrom_ins d t i v none (by assumption) (by simp) h

/-- Writing bytes keeps the canonical form of a memory: the Clerk SRAM (09 R402) and the flash banks (14 R603). -/
theorem memWrite_wf (d : Byte) (m : Tbl Byte) (a : Nat) (b : Bytes) (h : Tbl.wf d m = true) : Tbl.wf d (memWrite d m a b) = true := by
  induction b generalizing m a with
  | nil => exact h
  | cons x xs ih => exact ih _ _ (Tbl.wf_put d m a x h)

/-- A byte outside a write reads what it read. -/
theorem memWrite_other (d : Byte) (m : Tbl Byte) (a : Nat) (b : Bytes) (x : Nat) (h : x < a ∨ a + b.length ≤ x) :
    Tbl.getD (memWrite d m a b) x d = Tbl.getD m x d := by
  induction b generalizing m a with
  | nil => rfl
  | cons y ys ih =>
    simp only [List.length_cons] at h
    rw [memWrite, ih _ _ (by omega), Tbl.getD_put_other _ _ _ _ _ (by omega)]

/-- A byte inside a write reads what was written. -/
theorem memWrite_same (d : Byte) (m : Tbl Byte) (a : Nat) (b : Bytes) (i : Nat) (h : i < b.length) :
    Tbl.getD (memWrite d m a b) (a + i) d = b.getD i 0 := by
  induction b generalizing m a i with
  | nil => simp at h
  | cons y ys ih =>
    cases i with
    | zero => rw [memWrite, memWrite_other _ _ _ _ _ (by omega)]; simp
    | succ i =>
      simp only [List.length_cons] at h
      have : a + (i + 1) = a + 1 + i := by omega
      rw [memWrite, this, ih _ _ _ (by omega)]; simp

/-- The memories of the part after reset are in canonical form. -/
theorem reset_memories_wf : Tbl.wf 0 State.reset.worlds.sram = true ∧ Tbl.wf Config.erasedByte State.reset.mram.flash = true :=
  ⟨rfl, rfl⟩

/-- A ring position reads what was set. -/
theorem ring_setRing_same (s : State) (st q : Nat) (r : Ring) : ring (setRing s st q r) st q = r := by
  simp [ring, setRing]

/-- Every other ring position reads what it read. -/
theorem ring_setRing_other (s : State) (st q st' q' : Nat) (r : Ring) (h : rix st' q' ≠ rix st q) :
    ring (setRing s st q r) st' q' = ring s st' q' := by
  simp [ring, setRing, Tbl.getD_put_other _ _ _ _ _ h]

theorem stall_setStall_same (s : State) (n : Nat) (x : Stall) : stall (setStall s n x) n = x := by simp [stall, setStall]

theorem stall_setStall_other (s : State) (n m : Nat) (x : Stall) (h : m ≠ n) : stall (setStall s n x) m = stall s m := by
  simp [stall, setStall, Tbl.getD_put_other _ _ _ _ _ h]

end Machine
end Sys2Proof
end

