-- ==== Sys2Proof/Machine/Wire.lean ====
section
/-!
DEFINITION. The bytes of a Courier Link frame (10 R444 to R447, R449, R458, R464, R466, R472, R474): header, payload by type,
AES-256-GCM under the frame key of the sending side, and CRC-32C in handshake frames. Multi-byte fields are little-endian
(00 R19). The frames of the state are structures; this is what of them is on the lanes.
-/
namespace Sys2Proof
namespace Machine

/-- The ring field of R458: Stall and position. -/
def ringField (st q : Nat) : Bytes := leBytes 2 (st % 4096 + q % 4 * 4096)

/-- A record of a CLAIM frame, 16 bytes (10 R458). -/
def claimBytes : ClaimRec → Bytes
  | .commit n st q gen count crc =>
    [1] ++ leBytes 1 n ++ ringField st q ++ leBytes 2 gen.toNat ++ zeros 2 ++ leBytes 4 count.toNat ++ leBytes 4 crc
  | .receipt n st q gen status count rcpt =>
    [2] ++ leBytes 1 n ++ ringField st q ++ leBytes 2 gen.toNat ++ leBytes 2 status ++ leBytes 4 count.toNat ++ leBytes 4 rcpt.toNat
  | .ring st q gen log2 base =>
    [3] ++ leBytes 1 log2 ++ ringField st q ++ leBytes 2 gen.toNat ++ zeros 2 ++ leBytes 8 (base.toNat / 4096)

/-- The STALL_BIND block (03 R134). -/
def bindBytes (b : StallBlk) : Bytes :=
  fit 32 (leBytes 2 b.stall ++ leBytes 2 b.owner ++ leBytes 2 b.rid ++ leBytes 2 b.bflags ++ leBytes 4 b.pasid ++
    leBytes 2 b.vecBase ++ leBytes 2 b.vecCount ++ leBytes 1 b.weight ++ [0] ++ leBytes 2 b.maxInflight ++ leBytes 2 b.maxPk ++
    zeros 2 ++ leBytes 4 b.maxCache)

/-- Kind and body of an item (10 R466). Items that do not cross the link have none. -/
def itemBody (s : State) : Item → Option (Nat × Bytes)
  | .mram e sl img => some (1, leBytes 2 e ++ leBytes 1 sl ++ zeros 5 ++
      (match img with | some m => slotBody m ++ slotMac s m | none => zeros 128))
  | .key o sl k => some (2, leBytes 8 (mkHandle o sl k.gen) ++ attrBytes k.attrs ++ fit 8 k.kcv ++ k.material)
  | .keyGone o sl tomb next => some (3, leBytes 8 (mkHandle o sl (tomb.getD next)) ++ leBytes 4 (tomb.getD 0) ++ zeros 4)
  | .bind b g => some (4, leBytes 2 b.stall ++ leBytes 2 g.toNat ++ [1] ++ zeros 3 ++ bindBytes b)
  | .unbind st g => some (4, leBytes 2 st ++ leBytes 2 g.toNat ++ [2] ++ zeros 3 ++ zeros 32)
  | .ownerBlob b => some (5, b)
  | .stallReset st g c => some (6, leBytes 2 st ++ leBytes 2 g.toNat ++ leBytes 1 c ++ zeros 3)
  | .receipt r => some (7, leBytes 2 r.status ++ leBytes 4 r.out.length ++ zeros 2 ++ leBytes 8 r.word ++ r.out.take 448)
  | .tally n v => some (8, leBytes 2 n ++ zeros 6 ++ leBytes 8 v)
  | _ => none

/-- An item of a DELTA or RESYNC payload: kind, length of its body, Res0, and the body padded to 8 bytes (10 R464). -/
def itemBytes (s : State) (it : Item) : Bytes :=
  match itemBody s it with
  | some (k, b) => leBytes 2 k ++ leBytes 2 b.length ++ zeros 4 ++ fit (roundUp b.length 8) b
  | none => []

/-- The header of a DELTA payload and its items (10 R464). -/
def deltaBytes (s : State) (d : Delta) : Bytes :=
  leBytes 8 d.txn ++ leBytes 1 d.phase ++ [if d.apply then 1 else 0] ++ ringField d.stall d.ring ++ leBytes 2 d.gen.toNat ++
    leBytes 2 d.items.length ++ leBytes 4 d.count.toNat ++ leBytes 4 d.vigil ++ fit 48 d.odigest ++
    (d.items.map (itemBytes s)).flatten

/-- The payload of a HEARTBEAT (10 R449). -/
def beatBytes (b : Beat) : Bytes :=
  leBytes 1 b.state ++ leBytes 1 b.role ++ leBytes 1 b.side ++ [0] ++ leBytes 4 b.beat ++ leBytes 4 b.vigil ++
    fit 3 ((b.active.map (leBytes 1)).flatten) ++ [0] ++ leBytes 8 b.arbiter ++ leBytes 2 b.restarts ++ leBytes 2 b.troll ++ zeros 4

/-- The DELTA that carries a generation item alone (10 R461): its other header fields are 0 (log entry 149). -/
def aloneDelta (st : Nat) (g : BitVec 16) (c : Nat) : Delta :=
  { txn := 0, phase := 1, apply := true, stall := 0, ring := 0, gen := 0, count := 0, vigil := 0, odigest := []
    items := [.stallReset st g c] }

/-- The payload of a frame (10 R440, R442, R447). The digest that ends a stream is a RESYNC payload of 48
bytes (log entry 149). -/
def payloadBytes (s : State) : FrameBody → Bytes
  | .heartbeat b => beatBytes b
  | .claim rs => (rs.map claimBytes).flatten
  | .delta d => deltaBytes s d
  | .stallReset st g c => deltaBytes s (aloneDelta st g c)
  | .reserve k n rid v h => leBytes 1 k ++ [0] ++ leBytes 2 n ++ leBytes 4 rid ++ leBytes 8 v ++ leBytes 8 h
  | .evidence k n b => leBytes 1 k ++ [0] ++ leBytes 2 b.length ++ leBytes 4 n ++ b
  | .silence level cause n => leBytes 1 level ++ [0] ++ leBytes 2 cause ++ leBytes 2 n ++ zeros 2
  | .ack _ => []
  | .resync its => (its.map (itemBytes s)).flatten
  | .resyncEnd d => d
  | .hello p e n pk pq => if p = 2 then n ++ leBytes 4 e else n ++ pk ++ pq
  | .kex ek x a b => ek ++ x ++ a ++ b
  | .kexReply ct x a b => ct ++ x ++ a ++ b
  | .confirm tag => tag
  | .other _ => []

/-- The type byte of a frame (10 R447). -/
def frameType : FrameBody → Nat
  | .heartbeat _ => 0x01
  | .claim _ => 0x02
  | .delta _ => 0x03
  | .stallReset .. => 0x03
  | .reserve .. => 0x04
  | .evidence .. => 0x05
  | .silence .. => 0x06
  | .ack _ => 0x07
  | .resync _ => 0x08
  | .resyncEnd _ => 0x08
  | .hello .. => 0x10
  | .kex .. => 0x11
  | .kexReply .. => 0x12
  | .confirm _ => 0x13
  | .other t => t

/-- Whether a frame is one of the handshake, which goes in plain (10 R440, R446). -/
def isHandshake (b : FrameBody) : Bool := decide (0x10 ≤ frameType b) && decide (frameType b ≤ 0x13)

/-- The 24-byte header of a frame (10 R444). The ack field before the first frame received is open. -/
def frameHeader (f : Frame) (len : Nat) : Bytes :=
  leBytes 1 (frameType f.body) ++ [BitVec.ofNat 8 (f.ch % 2 + if f.body = .ack true then 2 else 0)] ++ leBytes 2 len ++
    leBytes 4 f.epoch ++ leBytes 8 f.seq ++ leBytes 8 (f.ack.getD Config.noAck)

/-- The nonce of a frame: direction, channel, two zero bytes and the sequence, big-endian (10 R445). -/
def frameNonce (side : Nat) (f : Frame) : Bytes := leBytes 1 side ++ leBytes 1 f.ch ++ zeros 2 ++ beBytes 8 f.seq

/-- The frame key of the sending side (10 R441, R445). -/
def txKey (s : State) : Option Bytes := s.pair.frameKeys.map (fun k => if s.pair.side = 0 then k.1 else k.2)

/-- The bytes of a frame that this part sends (10 R444, R445): nothing of a session without its key. -/
def frameBytes (s : State) (f : Frame) : Option Bytes :=
  let p := payloadBytes s f.body
  let h := frameHeader f p.length
  if isHandshake f.body then some (h ++ p ++ leBytes 4 (crc32c (h ++ p)).toNat ++ zeros 12)
  else (txKey s).map (fun k => let c := gcmSeal k (frameNonce s.pair.side f) h p; h ++ c.1 ++ c.2)

end Machine
end Sys2Proof
end

