-- ==== Sys2Proof/WellFormed.lean ====
section
/-!
DEFINITION. Which commands are well formed: every number that a command carries names something the part has. The machine
answers the others too (a command about something that is not there changes nothing, log entry 135), so nothing rests on this
check but the tests of it.
-/
namespace Sys2Proof

/-- What can be wrong with an operand. -/
inductive Flaw
  | stall   -- a Stall above 4,095 (03 R127)
  | ring   -- a ring position above 3 (02 R58)
  | width   -- an access of another width than 4 or 8 bytes (02 R62)
  | engine   -- an engine that the part does not have (01 R31)
  | vector   -- a vector above 4,095 (02 R120)
  | pasid   -- a PASID or requester ID of more bits than it has (03 R130)
  | stream   -- an IDE stream above 8 (15 R631)
  | port   -- a custodian port above 3 (09 R420)
  | link   -- a channel or lane of the Courier Link that does not exist (10 R444)
  | master   -- a master that does not exist (09 R403)
  | space   -- a space code that does not exist (09 R415)
  | rail   -- a rail above 5 (12 R541)
  | detector   -- a detector that the part does not have (12 R541)
  | clerk   -- a Clerk above 7 (09 R400)
  | trigger   -- a code that the event does not have (09 R428)
  | level   -- a privilege or debug level above 3 (09 R399)
  | region   -- a region that does not exist (09 R413; 07 R364)
  | pin   -- a pin that the part does not have (09 R420)
  | dma   -- a DMA channel above 31 (09 R420)
  | block   -- a claimable block above 96 (09 R425)
  | request   -- a Bindery request across a sector (08 R381)
  | stacks   -- a Stacks channel above 1 (08 R366)
  | source   -- an entropy source above 3 (07 R360)
  | tamper   -- a tamper input that the part does not have (12 R533)
  | window   -- a window base of more than 13 bits (13 R593)
  | group   -- a group of event sources above 47 (15 R638)
  | busAddr   -- an I3C address of more than 7 bits (15 R642)
  | busLen   -- a length of more than 16 bits (15 R642)
  | byte   -- an MCTP field out of its range (15 R643)
  | params   -- a message of the wrong length (15 R644, R659)
deriving DecidableEq, Repr

/-- One check. -/
def need (f : Flaw) (ok : Bool) : List Flaw := if ok then [] else [f]

/-- Instances built of a kind (01 R31). -/
def instCount : EngKind → Nat
  | .loom => 18 | .forge => 52 | .kiln => 18 | .mill => 4

/-- A pin that the part has (09 R420). -/
def pinOk : PinId → Bool
  | .gpio i => decide (i < 16)
  | .card p => decide (p < 4)

/-- A master that the part has (09 R403). -/
def masterOk : Master → Bool
  | .clerk core _ => decide (core < 8)
  | .dma ch => decide (ch < 32)
  | .debug => true
  | .engine _ _ _ => true
  | .rom => true
  | .none => true

/-- Everything that is wrong with a command. -/
def Instr.flaws : Instr → List Flaw
  | .noOperation _ => []
  | .aesEcbEnc _ => []
  | .aesEcbDec _ => []
  | .aesCbcEnc _ => []
  | .aesCbcDec _ => []
  | .aesCtrEnc _ => []
  | .aesCtrDec _ => []
  | .aesXtsEnc _ => []
  | .aesXtsDec _ => []
  | .aesGcmSealDn _ => []
  | .aesGcmSeal _ => []
  | .aesGcmOpen _ => []
  | .aesCmac _ => []
  | .aesCmacVerify _ => []
  | .aesKwWrap _ => []
  | .aesKwUnwrap _ => []
  | .aesKwpWrap _ => []
  | .aesKwpUnwrap _ => []
  | .chachaSeal _ => []
  | .chachaOpen _ => []
  | .tdeaEcbEnc _ => []
  | .tdeaEcbDec _ => []
  | .tdeaCbcEnc _ => []
  | .tdeaCbcDec _ => []
  | .pinTranslate _ => []
  | .keyblockTranslate _ => []
  | .cipherTranslate _ => []
  | .ecdsaSign _ => []
  | .ecdsaVerify _ => []
  | .eddsaSign _ => []
  | .eddsaVerify _ => []
  | .ecdhDerive _ => []
  | .rsaSign _ => []
  | .rsaVerify _ => []
  | .rsaEncrypt _ => []
  | .rsaDecrypt _ => []
  | .rsaUnwrap _ => []
  | .mlkemEncaps _ => []
  | .mlkemDecaps _ => []
  | .mldsaSign _ => []
  | .mldsaVerify _ => []
  | .slhdsaSign _ => []
  | .slhdsaVerify _ => []
  | .hash _ => []
  | .hmac _ => []
  | .hmacVerify _ => []
  | .kmac _ => []
  | .kmacVerify _ => []
  | .kdf _ => []
  | .lmsVerify _ => []
  | .random _ => []
  | .keyGenerate _ _ => []
  | .keyLoad _ _ => []
  | .keyUnload _ _ => []
  | .keyImport _ _ => []
  | .keyExport _ _ => []
  | .keyReplace _ _ => []
  | .keyRetire _ _ => []
  | .keyNarrow _ _ => []
  | .keyPublic _ _ => []
  | .blobRewrap _ _ => []
  | .masterRotate _ _ => []
  | .masterRetireOld _ _ => []
  | .masterBackup _ _ => []
  | .masterRestore _ _ => []
  | .custodianEnrol _ _ => []
  | .custodianRemove _ _ => []
  | .quorumSet _ _ => []
  | .quorumStatus _ _ => []
  | .hostMeasure _ _ => []
  | .bootClose _ _ => []
  | .rollExport _ _ => []
  | .genuine _ _ => []
  | .tallyRead _ _ => []
  | .tallyAdvance _ _ => []
  | .ownerCreate _ _ => []
  | .ownerRetire _ _ => []
  | .ownerLoad _ _ => []
  | .ownerPolicy _ _ => []
  | .stallBind _ _ => []
  | .stallUnbind _ _ => []
  | .stallReset _ _ => []
  | .pairBind _ _ => []
  | .pairUnbind _ _ => []
  | .pairJoin _ _ => []
  | .vigilSetTime _ _ => []
  | .pdbApply _ _ => []
  | .calibApply _ _ => []
  | .lcCommission _ _ => []
  | .lcDeploy _ _ => []
  | .lcQuarantine _ _ => []
  | .lcZeroize _ _ => []
  | .lcRetire _ _ => []
  | .lcRecommission _ _ => []
  | .recordAdopt _ _ => []
  | .fwWrite _ _ => []
  | .fwActivate _ _ => []
  | .fwFloor _ _ => []
  | .debugUnlock _ _ => []
  | .doorbellWrite stall ring _ _ width _ => need .stall (decide (stall < 4096)) ++ need .ring (decide (ring < 4)) ++ need .width (width == 4 || width == 8)
  | .doorbellCas stall ring _ _ _ => need .stall (decide (stall < 4096)) ++ need .ring (decide (ring < 4))
  | .counterWindowWrite stall _ _ _ _ => need .stall (decide (stall < 4096))
  | .slotReadCompletion stall ring _ _ _ => need .stall (decide (stall < 4096)) ++ need .ring (decide (ring < 4))
  | .dispatch _ _ => []
  | .keyCacheFillDone _ _ _ _ => []
  | .inputReadCompletion _ _ _ _ => []
  | .atsTranslationCompletion stall _ _ _ _ => need .stall (decide (stall < 4096))
  | .loomReseedArrival loom => need .engine (decide (loom < 18))
  | .compareAndRelease _ _ _ => []
  | .egressCheck _ _ => []
  | .receiptRelease _ _ => []
  | .commitWriteDone _ _ _ => []
  | .coalTimeExpiry stall ring _ => need .stall (decide (stall < 4096)) ++ need .ring (decide (ring < 4))
  | .vectorUnmask vector => need .vector (decide (vector < 4096))
  | .ringEnable stall ring _ _ => need .stall (decide (stall < 4096)) ++ need .ring (decide (ring < 4))
  | .ringDisable stall ring _ => need .stall (decide (stall < 4096)) ++ need .ring (decide (ring < 4))
  | .cwEnable stall ring _ => need .stall (decide (stall < 4096)) ++ need .ring (decide (ring < 4))
  | .cwDisable stall ring _ => need .stall (decide (stall < 4096)) ++ need .ring (decide (ring < 4))
  | .ringFlush stall ring _ => need .stall (decide (stall < 4096)) ++ need .ring (decide (ring < 4))
  | .ringResume stall ring _ => need .stall (decide (stall < 4096)) ++ need .ring (decide (ring < 4))
  | .rcpHeadWrite stall ring _ _ => need .stall (decide (stall < 4096)) ++ need .ring (decide (ring < 4))
  | .registerWrite _ _ size _ _ _ => need .width (size == 4 || size == 8)
  | .stallSelfReset stall _ => need .stall (decide (stall < 4096))
  | .stallcfgHardReset stall _ => need .stall (decide (stall < 4096))
  | .stallcfgQuotaWrite stall _ _ => need .stall (decide (stall < 4096))
  | .stallResetComplete stall _ _ => need .stall (decide (stall < 4096))
  | .functionReset _ _ => []
  | .configWrite rid _ _ => need .pasid (decide (rid < 2 ^ 16))
  | .atsInvalidation pasid _ _ => need .pasid (pasid.all (fun p => decide (p < 2 ^ 20)))
  | .tdispGetVersion _ => []
  | .tdispGetCapabilities _ => []
  | .lockInterfaceRequest _ _ => []
  | .getDeviceInterfaceReport _ => []
  | .getDeviceInterfaceState _ => []
  | .startInterfaceRequest _ _ => []
  | .stopInterfaceRequest _ _ => []
  | .ideStreamFailure stream _ _ => need .stream (decide (stream < 9))
  | .ideKmMessage _ _ => []
  | .spdmGetVersion => []
  | .spdmGetCapabilities _ => []
  | .negotiateAlgorithms _ => []
  | .getDigests _ => []
  | .getCertificate _ => []
  | .challenge _ => []
  | .getMeasurements _ => []
  | .keyExchange _ => []
  | .finish _ => []
  | .endSession _ => []
  | .keyUpdate _ => []
  | .spdmHeartbeat _ => []
  | .vendorDefinedRequest _ => []
  | .workingKeyIdleExpiry kind idx => need .engine (decide (idx < instCount kind))
  | .cardResponse port _ _ => need .port (decide (port < 4))
  | .cardTimeout port _ => need .port (decide (port < 4))
  | .cardPresenceChange port _ _ => need .port (decide (port < 4))
  | .ceremonyTimeout _ => []
  | .restoreSharesExpiry _ => []
  | .heartbeatSend _ => []
  | .heartbeat f _ => need .link (decide (f.ch < 2))
  | .heartbeatMiss _ => []
  | .claim f _ => need .link (decide (f.ch < 2))
  | .deltaPrepare f _ => need .link (decide (f.ch < 2))
  | .deltaVoteYes f _ => need .link (decide (f.ch < 2))
  | .deltaVoteNo f _ => need .link (decide (f.ch < 2))
  | .deltaCommit f _ => need .link (decide (f.ch < 2))
  | .deltaCommitted f _ => need .link (decide (f.ch < 2))
  | .deltaAbort f _ => need .link (decide (f.ch < 2))
  | .reserveRequest f _ => need .link (decide (f.ch < 2))
  | .reserveGrant f _ => need .link (decide (f.ch < 2))
  | .reserveNote f _ => need .link (decide (f.ch < 2))
  | .reserveNoted f _ => need .link (decide (f.ch < 2))
  | .reserveRefuse f _ => need .link (decide (f.ch < 2))
  | .evidence f _ => need .link (decide (f.ch < 2))
  | .silenceFrame f _ => need .link (decide (f.ch < 2))
  | .ack f _ => need .link (decide (f.ch < 2))
  | .resync f _ => need .link (decide (f.ch < 2))
  | .hello f _ => need .link (decide (f.ch < 2))
  | .kex f _ => need .link (decide (f.ch < 2))
  | .kexReply f _ => need .link (decide (f.ch < 2))
  | .confirm f _ => need .link (decide (f.ch < 2))
  | .frameError ch _ _ => need .link (decide (ch < 2))
  | .courierLaneFail lane _ => need .link (decide (lane < 8))
  | .arbiterCasCompletion _ _ => []
  | .arbiterCasTimeout _ => []
  | .settleExpiry _ => []
  | .takeoverScanCompletion stall ring _ _ => need .stall (decide (stall < 4096)) ++ need .ring (decide (ring < 4))
  | .sessionFormTimeout _ => []
  | .pairBindTimeout _ => []
  | .sparePromotion kind idx _ _ => need .engine (decide (idx < instCount kind))
  | .suspectSelftestDone kind idx _ _ => need .engine (decide (idx < instCount kind))
  | .periodicKat kind idx _ _ => need .engine (decide (idx < instCount kind))
  | .progressWatchdogExpiry kind idx _ => need .engine (decide (idx < instCount kind))
  | .holdEnd _ => []
  | .holdTimeout _ => []
  | .warmReset _ => []
  | .queuePointerMismatch _ _ => []
  | .acuCheckerDisagreement q _ => need .master (masterOk q.who) ++ need .space (decide (q.space < 3))
  | .supplyWarning rail _ _ => need .rail (decide (rail < 6))
  | .supplyRecovered _ => []
  | .dipTimeout _ => []
  | .supplyBelowReset rail _ _ => need .rail (decide (rail < 6))
  | .supplyOvervoltage rail _ _ => need .rail (decide (rail < 6))
  | .glitchAlarm idx _ => need .detector (decide (idx < 8))
  | .glitchHoldEnd _ => []
  | .lightAlarm idx _ => need .detector (decide (idx < 16))
  | .tempSample sensor _ _ => need .detector (decide (sensor < 8))
  | .clockWindow clk _ _ => need .detector (decide (clk < 7))
  | .pllLockLoss _ _ => []
  | .keeperWatchdogExpiry clerk _ => need .clerk (decide (clerk < 8))
  | .keeperRestart trigger _ _ => need .trigger (decide (trigger < 5))
  | .keeperRestartTimeout _ => []
  | .perfHoldRelease _ => []
  | .worldGateCall clerk _ => need .clerk (decide (clerk < 8))
  | .worldGateReturn clerk _ => need .clerk (decide (clerk < 8))
  | .accessCheck q deedErr _ => need .master (masterOk q.who) ++ need .space (decide (q.space < 3)) ++ need .trigger (decide (deedErr < 3))
  | .deedSet clerk space _ _ _ => need .clerk (decide (clerk < 8)) ++ need .space (decide (space < 2))
  | .deedSetDone space _ => need .space (decide (space < 2))
  | .acuRegionWrite level idx _ _ _ => need .level (decide (level < 4)) ++ need .region (decide (idx < 64))
  | .pinWorldSet pin _ _ => need .pin (pinOk pin)
  | .pinWorldTakeover pin => need .pin (pinOk pin)
  | .dmaChannelBind level ch _ _ _ => need .level (decide (level < 4)) ++ need .dma (decide (ch < 32))
  | .claimSet block _ => need .block (decide (block < 97))
  | .claimRelease block _ => need .block (decide (block < 97))
  | .gatingRequest block _ _ => need .block (decide (block < 97))
  | .binderyRead q _ => need .master (masterOk q.who) ++ need .request (decide (8 ≤ q.len) && decide (q.sla % 512 + q.len ≤ 512))
  | .binderyWrite q _ _ => need .master (masterOk q.who) ++ need .request (decide (8 ≤ q.len) && decide (q.sla % 512 + q.len ≤ 512))
  | .dramReadCompletion _ _ _ => []
  | .patrolRead ch _ _ _ => need .stacks (decide (ch < 2))
  | .remapDone ch _ _ => need .stacks (decide (ch < 2))
  | .dramTempPoll ch _ _ => need .stacks (decide (ch < 2))
  | .dramCmdError ch _ _ _ _ => need .stacks (decide (ch < 2))
  | .dramTimeout ch _ => need .stacks (decide (ch < 2))
  | .catInitDone _ => []
  | .ifAck => []
  | .scrubRegion kind idx region => need .engine (decide (idx < instCount kind)) ++ need .region (decide (region < 8))
  | .drbgReseed _ => []
  | .drbgKat _ _ => []
  | .healthTestFailure src _ => need .source (decide (src < 4))
  | .drbgMismatch _ => []
  | .randomWaitTimeout _ _ => []
  | .tamperSample input _ _ => need .tamper (decide (input < 12))
  | .meshExcursionTimeout mesh _ => need .tamper (decide (mesh < 4))
  | .vigilSourceChange _ _ _ _ => []
  | .vigilSourceReturn _ _ => []
  | .cellMeasure _ _ _ _ => []
  | .vigilPowerOn _ => []
  | .oscStop _ => []
  | .sealWrite level _ _ _ => need .level (decide (level < 4))
  | .tamperTransfer _ => []
  | .daybookFlushTimer _ => []
  | .daybookFlushDone _ _ => []
  | .operatingTimeTick _ => []
  | .bootCloseTimer _ => []
  | .winBaseWrite v => need .window (decide (v < 2 ^ 13))
  | .winSnapshotDone => []
  | .perstAssert _ => []
  | .coldStart _ => []
  | .watermarkRetry _ _ => []
  | .dramTrainingDone _ _ => []
  | .startTimeout _ => []
  | .provisioningExchange _ _ => []
  | .causeAck => []
  | .firstAck => []
  | .perfClear => []
  | .eventStatusClear grp _ _ => need .group (decide (grp < 48))
  | .eventEnableWrite grp _ _ => need .group (decide (grp < 48))
  | .entdaa addr => need .busAddr (decide (addr < 128))
  | .setdasa addr => need .busAddr (decide (addr < 128))
  | .rstdaa => []
  | .enec _ => []
  | .disec _ => []
  | .getpid => []
  | .getbcr => []
  | .getdcr => []
  | .getstatus => []
  | .getmwl => []
  | .setmwl v => need .busLen (decide (v < 2 ^ 16))
  | .getmrl => []
  | .setmrl v => need .busLen (decide (v < 2 ^ 16))
  | .i3cPrivateWrite bytes _ _ => need .busLen (decide (bytes.length ≤ 2 ^ 16))
  | .setEndpointId op eid => need .byte (decide (op < 4)) ++ need .byte (decide (eid < 256))
  | .getEndpointId arg => need .byte (decide (arg < 256))
  | .getMctpVersionSupport arg => need .byte (decide (arg < 256))
  | .getMessageTypeSupport arg => need .byte (decide (arg < 256))
  | .getVendorDefinedMsgSupport arg => need .byte (decide (arg < 256))
  | .getStatus => []
  | .mctpHostMeasure params _ => need .params (params.length == 64)
  | .eventRead grp => need .group (decide (grp < 48))
  | .eventClear grp _ _ => need .group (decide (grp < 48))
  | .gpioEdge pin _ _ => need .pin (decide (pin < 16))
  | .extest _ => []
  | .samplePreload _ => []
  | .idcode => []
  | .clamp _ => []
  | .highz _ => []
  | .dbgChallenge _ => []
  | .dbgToken token _ => need .params (decide (token.length ≤ 7484))
  | .dbgAccess _ _ => []
  | .bypass => []
  | .courierLinkUp _ => []
  | .blockWaitingTimeExpiry port _ => need .port (decide (port < 4))
  | .transmitBufferSelftestDone _ _ => []
  | .acuSelftestDone _ _ => []
  | .deedEntryRestored space _ _ => need .space (decide (space < 2))
  | .drbgReinstantiated _ _ => []
  | .firmwareRequestTimeout _ _ => []
  | .vigilReachesDead _ => []

/-- A command is well formed. -/
def Instr.wf (i : Instr) : Bool := i.flaws.isEmpty

end Sys2Proof
end

