-- ==== Sys2Proof/Tests/Slice0.lean ====
section
/-!
SUPPORT. Own tests: the checks of well-formedness, single steps on small states, and witnesses of the hypotheses of the
statements. Expected results are from the rules named in the comments. A hypothesis that asks an outside algorithm for a
verdict (a signature that verifies, a tag that fits) has no concrete witness, since the algorithms have no body; the witness of
an approval takes the verdict on its signature as a premise.
-/
open Sys2Proof Sys2Proof.Machine

-- Well-formedness ------------------------------------------------------------------------------------------------------

theorem test_wf_good : (Instr.doorbellWrite 4095 3 0 0 8 false).wf = true ∧ (Instr.noOperation 7).wf = true := by decide
theorem test_wf_stall : (Instr.stallSelfReset 4096 ⟨0, false⟩).flaws = [.stall] := by decide
theorem test_wf_ring : (Instr.ringFlush 0 4 ⟨0, false⟩).flaws = [.ring] := by decide
theorem test_wf_width : (Instr.doorbellWrite 0 0 0 0 2 false).flaws = [.width] := by decide
theorem test_wf_engine : (Instr.periodicKat .loom 18 true 0).flaws = [.engine] ∧ (Instr.periodicKat .forge 18 true 0).wf = true := by
  decide
theorem test_wf_vector : (Instr.vectorUnmask 4096).flaws = [.vector] := by decide
theorem test_wf_pasid : (Instr.configWrite 65536 .other 0).flaws = [.pasid] := by decide
theorem test_wf_stream : (Instr.ideStreamFailure 9 true 0).flaws = [.stream] := by decide
theorem test_wf_port : (Instr.cardTimeout 4 0).flaws = [.port] := by decide
theorem test_wf_link : (Instr.courierLaneFail 8 0).flaws = [.link] := by decide
theorem test_wf_master : (Instr.accessCheck ⟨.clerk 8 false, 0, 0, 8, .read⟩ 0 0).flaws = [.master] := by decide
theorem test_wf_space : (Instr.accessCheck ⟨.debug, 3, 0, 8, .read⟩ 0 0).flaws = [.space] := by decide
theorem test_wf_rail : (Instr.supplyWarning 6 700 0).flaws = [.rail] := by decide
theorem test_wf_detector : (Instr.glitchAlarm 8 0).flaws = [.detector] := by decide
theorem test_wf_clerk : (Instr.worldGateCall 8 0).flaws = [.clerk] := by decide
theorem test_wf_trigger : (Instr.keeperRestart 5 true 0).flaws = [.trigger] := by decide
theorem test_wf_level : (Instr.sealWrite 4 0 0 0).flaws = [.level] := by decide
theorem test_wf_region : (Instr.scrubRegion .forge 0 8).flaws = [.region] := by decide
theorem test_wf_pin : (Instr.pinWorldTakeover (.card 4)).flaws = [.pin] := by decide
theorem test_wf_dma : (Instr.dmaChannelBind 0 32 true none 0).flaws = [.dma] := by decide
theorem test_wf_block : (Instr.claimSet 97 0).flaws = [.block] := by decide
theorem test_wf_request : (Instr.binderyRead ⟨.debug, 508, 8⟩ 0).flaws = [.request] := by decide
theorem test_wf_stacks : (Instr.dramTimeout 2 0).flaws = [.stacks] := by decide
theorem test_wf_source : (Instr.healthTestFailure 4 0).flaws = [.source] := by decide
theorem test_wf_tamper : (Instr.meshExcursionTimeout 4 0).flaws = [.tamper] := by decide
theorem test_wf_window : (Instr.winBaseWrite 8192).flaws = [.window] := by decide
theorem test_wf_group : (Instr.eventRead 48).flaws = [.group] := by decide
theorem test_wf_busAddr : (Instr.setdasa 128).flaws = [.busAddr] := by decide
theorem test_wf_busLen : (Instr.setmwl 65536).flaws = [.busLen] := by decide
theorem test_wf_byte : (Instr.getEndpointId 256).flaws = [.byte] := by decide
theorem test_wf_params : (Instr.mctpHostMeasure [] 0).flaws = [.params] := by decide

-- Small states ---------------------------------------------------------------------------------------------------------

/-- A part in operation. -/
def tRun : State :=
  { State.reset with
    faults := { Faults.reset with phase := .running, railsUp := true, ready := true, lifecycle := 3 }
    drbg := { Drbg.reset with up := true } }

/-- An attribute block of an AES key that may do everything. -/
def tAttrs : Attrs := parseAttrs ([0x03, 0x01, 0x00, 0x01, 0xFF, 0x01, 0, 0, 0xFF, 0x03] ++ zeros 4 ++ [0xFF, 0x0F] ++ zeros 48)

/-- A key. -/
def tKey : KeyRec := { gen := 1, attrs := tAttrs, material := zeros 32, kcv := zeros 8, res := none }

/-- An order of an opcode with a parameter block, ready to run, with a key in each place and 16 bytes of input. -/
def tOrder (op : Nat) (inl : Bytes) : Order :=
  { parseOrder State.reset 0 0 0 false (zeros 64) with
    id := 1, opcode := op, flags := 0, inl := inl, outCap := 2 ^ 32 - 1, inLen := 16, input := some (zeros 16), aux := some []
    recA := some tKey, recB := some tKey, stage := .ready, rsv := 1 }

/-- The part in operation with that order. -/
def tHas (op : Nat) (inl : Bytes) : State := { tRun with orders := [tOrder op inl] }

/-- The answer of a command, looked at; the default where it answers no state. -/
def tAfter {α : Type} (c : Instr) (s : State) (d : α) (f : State → α) : α :=
  match exec c s with
  | .next v => f v
  | _ => d

-- The orders of engines: every hypothesis but the verdict of an algorithm ---------------------------------------------------

theorem witness_order (op : Nat) (inl : Bytes) :
    Ready (tHas op inl) 1 op (tOrder op inl) ∧ (tOrder op inl).recA = some tKey ∧ (tOrder op inl).recB = some tKey ∧
      (tHas op inl).drbg.up = true ∧ (tOrder op inl).draws = none ∧ ∀ n, n < 2 ^ 32 → Room (tOrder op inl) n := by
  refine ⟨⟨rfl, rfl, rfl, rfl, rfl, rfl⟩, rfl, rfl, rfl, rfl, ?_⟩
  intro n hn
  have hi : inlineOut (tOrder op inl) = false := (by decide : (0 : BitVec 8).getLsbD 1 = false)
  have hc : (tOrder op inl).outCap = 2 ^ 32 - 1 := rfl
  have h : ¬ ((tOrder op inl).outCap < n) := by rw [hc]; omega
  simp [Room, capWord, hi, h]

theorem witness_LoomCipherModes : ∀ op ∈ [0x0101, 0x0102, 0x0111, 0x0112, 0x0121, 0x0122, 0x0131, 0x0132],
    Ready (tHas op (zeros 16)) 1 op (tOrder op (zeros 16)) ∧ (tOrder op (zeros 16)).recB = some tKey ∧
      Room (tOrder op (zeros 16)) 16 := fun op _ =>
  ⟨(witness_order op _).1, rfl, (witness_order op _).2.2.2.2.2 16 (by decide)⟩

theorem witness_TdeaRows : ∀ op ∈ [0x0180, 0x0181, 0x0182, 0x0183],
    Ready (tHas op (zeros 8)) 1 op (tOrder op (zeros 8)) ∧ Room (tOrder op (zeros 8)) 16 := fun op _ =>
  ⟨(witness_order op _).1, (witness_order op _).2.2.2.2.2 16 (by decide)⟩

theorem witness_AeadSealRows : ∀ op ∈ [0x0140, 0x0141, 0x0170],
    Ready (tHas op (zeros 12 ++ [16])) 1 op (tOrder op (zeros 12 ++ [16])) ∧ Room (tOrder op (zeros 12 ++ [16])) (16 + 16) := fun op _ =>
  ⟨(witness_order op _).1, (witness_order op _).2.2.2.2.2 _ (by decide)⟩

theorem witness_AeadOpenRows : ∀ op ∈ [0x0142, 0x0171],
    let o := tOrder op (zeros 12 ++ [16])
    Ready (tHas op (zeros 12 ++ [16])) 1 op o ∧ Room o (o.inLen - openTag o) ∧ o.inLen - openTag o ≤ 65536 := fun op _ =>
  ⟨(witness_order op _).1, (witness_order op _).2.2.2.2.2 _ (Nat.lt_of_le_of_lt (Nat.sub_le _ _) (by decide : (16 : Nat) < 2 ^ 32)),
   Nat.le_trans (Nat.sub_le _ _) (by decide : (16 : Nat) ≤ 65536)⟩

theorem witness_MacAndKeyWrapRows : ∀ op ∈ [0x0150, 0x0151, 0x0160, 0x0161, 0x0162, 0x0163],
    Ready (tHas op [16]) 1 op (tOrder op [16]) ∧ Room (tOrder op [16]) (par (tOrder op [16]) 0 1) ∧ Room (tOrder op [16]) 24 := fun op _ =>
  ⟨(witness_order op _).1, (witness_order op _).2.2.2.2.2 _ (by decide : (16 : Nat) < 2 ^ 32), (witness_order op _).2.2.2.2.2 24 (by decide)⟩

theorem witness_TranslateRows : ∀ op ∈ [0x0201, 0x0202, 0x0203],
    Ready (tHas op (zeros 16)) 1 op (tOrder op (zeros 16)) ∧ (tOrder op (zeros 16)).recA = some tKey ∧
      (tOrder op (zeros 16)).recB = some tKey ∧ (tHas op (zeros 16)).drbg.up = true ∧ par (tOrder op (zeros 16)) 0 1 = 0 := fun op _ =>
  ⟨(witness_order op _).1, rfl, rfl, rfl, rfl⟩

theorem witness_ForgeCurveRows : ∀ op ∈ [0x0301, 0x0302, 0x0311, 0x0312, 0x0321],
    Ready (tHas op (zeros 72)) 1 op (tOrder op (zeros 72)) ∧ (tHas op (zeros 72)).drbg.up = true ∧ Room (tOrder op (zeros 72)) 4096 := fun op _ =>
  ⟨(witness_order op _).1, rfl, (witness_order op _).2.2.2.2.2 _ (by decide)⟩

theorem witness_ForgeRsaRows : ∀ op ∈ [0x0331, 0x0332, 0x0341, 0x0342, 0x0343],
    Ready (tHas op (zeros 72)) 1 op (tOrder op (zeros 72)) ∧ (tHas op (zeros 72)).drbg.up = true ∧ Room (tOrder op (zeros 72)) 4096 := fun op _ =>
  ⟨(witness_order op _).1, rfl, (witness_order op _).2.2.2.2.2 _ (by decide)⟩

theorem witness_KilnRows : ∀ op ∈ [0x0401, 0x0402, 0x0411, 0x0412, 0x0421, 0x0422],
    Ready (tHas op (zeros 72)) 1 op (tOrder op (zeros 72)) ∧ (tHas op (zeros 72)).drbg.up = true ∧ Room (tOrder op (zeros 72)) 65536 := fun op _ =>
  ⟨(witness_order op _).1, rfl, (witness_order op _).2.2.2.2.2 _ (by decide)⟩

theorem witness_MillRows : ∀ op ∈ [0x0501, 0x0511, 0x0512, 0x0521, 0x0522, 0x0531, 0x0541],
    Ready (tHas op [2, 32]) 1 op (tOrder op [2, 32]) ∧ (tOrder op [2, 32]).recA = some tKey ∧ (tHas op [2, 32]).drbg.up = true ∧
      Room (tOrder op [2, 32]) (par (tOrder op [2, 32]) 1 1) := fun op _ =>
  ⟨(witness_order op _).1, rfl, rfl, (witness_order op _).2.2.2.2.2 _ (by decide : (32 : Nat) < 2 ^ 32)⟩

/-- An order that needs no engine runs and ends with status 0 (02 R79). -/
theorem test_noOperation : tAfter (.noOperation 1) (tHas 0 []) none (fun v => (order? v 1).map (fun o => (o.stage, o.outSent))) =
    some (.done, true) := by decide

/-- The row of another opcode does not run an order. -/
theorem test_row_of_another_opcode : tAfter (.aesEcbEnc 1) (tHas 0x0102 []) none (fun v => (order? v 1).map (fun o => o.stage)) =
    some .ready := by decide

/-- A TDEA input that is no multiple of 8 bytes is refused with 0x0110 (05 R250). -/
theorem test_tdea_length : tAfter (.tdeaEcbEnc 1) { tRun with orders := [{ tOrder 0x0180 [] with inLen := 7, input := some (zeros 7) }] } none
    (fun v => (order? v 1).bind (fun o => o.copyA.map (fun r => r.status))) = some 0x0110 := by decide

-- The orders of the firmware -----------------------------------------------------------------------------------------------

/-- What the Keeper world finds, at the time 0. -/
def tEnv : FwEnv := { t := 0, testOk := true, agree := true, copies := true }

/-- A custodian who signs with ECDSA. -/
def tCustodian : Custodian := { index := 0, ktype := 1, cflags := 1, cardId := zeros 16, pk := [4] }

/-- The record of Owner 0, one custodian of one. -/
def tOwner : OwnerRec :=
  { parseOwner (zeros 64) with
    owner := 0, bindRule := 1, maxStalls := 100, weightSum := 1000, maxStored := 100, pasidHi := 100, m := 1, n := 1, version := 1
    custodians := [tCustodian] }

/-- The list of one approval by card: sequence 1, window 0 to 100. -/
def tList : Bytes := leBytes 8 1 ++ leBytes 4 0 ++ leBytes 4 100 ++ [1] ++ zeros 7 ++ [2, 0, 0, 0, 0, 0, 0, 0]

/-- The order that brings that list, with the card's signature. -/
def tSigned (op : Nat) (inl sig : Bytes) : Order := { tOrder op inl with aux := some tList, auxLen := 32, sigs := [(0, sig)] }

/-- The part in operation with Owner 0 loaded, the Vigil time valid, a key in slot 2 and an order. -/
def tFw (o : Order) : State :=
  { tRun with
    keeper := { Keeper.reset with loaded := [(0, tOwner)] }
    vigil := { Vigil.reset with timeValid := true }
    munim := { Muniment.reset with keys := [(kix 0 2, { KeySlot.reset with key := some tKey })], storeKey := some (zeros 32), ids := true }
    orders := [o] }

/-- A master entry of an Owner with a current slot of epoch 1. -/
def tSlot (kind seq : Nat) : MSlot :=
  { kind := kind, owner := 0, epoch := 1, seq := seq, approver := 0xFFFF, wcount := 1, pdigest := zeros 16, payload := zeros 56,
    state := 1, macOk := true }

theorem witness_fw (op : Nat) (inl sig : Bytes) :
    FwReady (tFw (tOrder op inl)) 1 op (tOrder op inl) tEnv ∧ FwReady (tFw (tSigned op inl sig)) 1 op (tSigned op inl sig) tEnv ∧
      Fresh true (tick 0 (tFw (tOrder op inl))) (tOrder op inl) 0 ∧
      ownerRec (tick 0 (tFw (tOrder op inl))) 0 = some tOwner ∧
      (tick 0 (tFw (tSigned op inl sig))).vigil.seconds.toNat = 0 ∧ lastDone (tick 0 (tFw (tSigned op inl sig))) 0 = (0, []) ∧
      holdClear .quorum (tick 0 (tFw (tSigned op inl sig))) = tick 0 (tFw (tSigned op inl sig)) ∧ (tOrder op inl).charged = false := by
  refine ⟨⟨rfl, rfl, rfl, rfl, rfl, rfl, rfl⟩, ⟨rfl, rfl, rfl, rfl, rfl, rfl, rfl⟩, fun _ => rfl, rfl, ?_, rfl, ?_, rfl⟩
  · show (vigilRun (oscEdges (max 0 0) - oscEdges 0) { Vigil.reset with timeValid := true }).seconds.toNat = 0
    decide
  · rfl

/-- The parsed list. -/
def tGood : Approvals := { seq := 1, notBefore := 0, notAfter := 100, entries := [⟨2, 0, 0, 0, []⟩], length := 32 }

/-- The decision passes in a state with the record of Owner 0, no proposal done and a valid Vigil time of 0, once the
custodian's signature verifies. -/
theorem witness_decision (u : State) (o : Order) (sig : Bytes) (ho : ownerRec u 0 = some tOwner) (hn : u.vigil.seconds.toNat = 0)
    (ht : u.vigil.timeValid = true) (hf : followOnly u o = false) (pd : Bytes) (hd : lastDone u 0 = (0, pd))
    (ha : auxOf o = tList) (hq : o.quorumAt = none) (hs : o.sigs = [(0, sig)]) (hl : sig.length = 96)
    (hv : Config.ecdsaP384Verify [4] (sha384 (proposal u o 0 tGood)) sig = true) :
    decideQuorum u o (gateFor u o 0) = .pass [(0, 1)] := by
  have hp : approvalsOf o = .good tGood := by
    have h1 : parseApprovals (auxOf o) = .good tGood := by rw [ha]; decide
    have h2 : ((auxOf o).length == tGood.length) = true := by rw [ha]; decide
    simp [approvalsOf, h1, h2]
  have hg : gateFor u o 0 =
      { owner := 0, required := [(0, some tOwner)], owner0 := some tOwner, now := 0, timeOk := true, window := true, trust := false } := by
    simp [gateFor, gateArgs, ho, hn, ht, hf, hq]
  have hi : tCustodian.index = 0 := rfl
  have he : tGood.entries = [⟨2, 0, 0, 0, []⟩] ∧ tGood.seq = 1 ∧ tGood.notBefore = 0 ∧ tGood.notAfter = 100 := ⟨rfl, rfl, rfl, rfl⟩
  have hk : sigOk tCustodian (sha384 (proposal u o 0 tGood)) sig = true := by
    show (sig.length == 96 && Config.ecdsaP384Verify [4] _ sig) = true
    rw [hl, hv]
    rfl
  have hc : tOwner.custodians = [tCustodian] := rfl
  have hm : tOwner.m = 1 := rfl
  rw [hg]
  unfold decideQuorum
  simp only [hp, hd]
  simp [countEntries, hs, hc, hi, hk, hm, he.1, he.2.1, he.2.2.1, he.2.2.2, counted, maskOf, List.range_succ]

/-- So the orders behind the Gate go on: an approval exists for every such state with no Hold of the Quorum Gate. -/
theorem witness_approved (u : State) (o : Order) (sig : Bytes) (ho : ownerRec u 0 = some tOwner) (hn : u.vigil.seconds.toNat = 0)
    (ht : u.vigil.timeValid = true) (hf : followOnly u o = false) (pd : Bytes) (hd : lastDone u 0 = (0, pd))
    (ha : auxOf o = tList) (hq : o.quorumAt = none) (hs : o.sigs = [(0, sig)]) (hl : sig.length = 96) (hh : holdClear .quorum u = u)
    (hv : Config.ecdsaP384Verify [4] (sha384 (proposal u o 0 tGood)) sig = true) :
    ∃ a v, Fresh true u o 0 ∧ GoesOn true u o tEnv 0 (some a) v ∧ Approved u o tEnv (gateFor u o 0) a v := by
  have h := witness_decision u o sig ho hn ht hf pd hd ha hq hs hl hv
  have hA : Approved u o tEnv (gateFor u o 0) (approvalOf (holdClear .quorum u) o (gateFor u o 0).owner)
      (recordPass (holdClear .quorum u) (approvalOf (holdClear .quorum u) o (gateFor u o 0).owner) [(0, 1)]) := by
    refine ⟨rfl, rfl, _, ?_, rfl, rfl⟩
    rw [hh]
    exact h
  refine ⟨_, _, ?_, ⟨_, rfl, hA⟩, hA⟩
  intro _
  simp only [ifApplied, h]

/-- The same part with master entries. -/
def tFwM (m : Tbl (Option MSlot × Option MSlot)) (o : Order) : State := { tFw o with mram := { Mram.reset with master := m } }

/-- Owners 0 and 1, Active, with their anchors, and no Stall of Owner 1. -/
def tTwoOwners (o : Order) : State :=
  let s := tFwM [(1, (some (tSlot 2 0), none)), (5, (some (tSlot 2 0), none))] o
  { s with keeper := { s.keeper with loaded := [(0, tOwner), (1, { tOwner with owner := 1 })] } }

theorem witness_FirmwareRowsWait :
    fwRow (.tallyRead 1 tEnv) = some (0x0730, 1, tEnv) ∧ tRun.faults.phase = .running ∧ order? tRun 1 = none ∧
      order? (tFw (tOrder 0x0731 [])) 1 = some (tOrder 0x0731 []) ∧ (tOrder 0x0731 []).opcode ≠ 0x0730 ∧
      (let u := { tFw (tOrder 0x0731 []) with
         pair := { Pair.reset with mode := 1, state := psPaired, role := 1 }, rings := [(0, { Ring.reset with shared := true })] }
       followOnly u (tOrder 0x0731 []) = true ∧ prepareFor u (tOrder 0x0731 []) = none) := by
  refine ⟨rfl, rfl, rfl, rfl, by decide, rfl, rfl⟩

theorem witness_PlansTakeEffect :
    let o := tOrder 0x0702 []
    let p : Plan := { items := [.bootClose 1] }
    order? (tFw o) 1 = some o ∧ o.id = 1 ∧ o.wfault = [] ∧ ({} : Plan).items = [] ∧ p.items ≠ [] ∧ o.commit = .none ∧
      { o with outSent := true }.outSent = true ∧ (tFw o).egress.any (fun x => x.order == 1) = false ∧ mirrored (tFw o) = false ∧
      joining (tFw o) = false ∧ inlineOut o = false ∧ o.outSent = false ∧ ({ p with out := [1] } : Plan).out ≠ [] := by
  refine ⟨rfl, rfl, rfl, rfl, by decide, rfl, rfl, rfl, rfl, rfl, by decide, rfl, by decide⟩

theorem witness_ItemEffects : kLedger tKey.attrs = false ∧
    (∀ p ∈ State.reset.worlds.deeds, ¬ (p.2 % 8 = 4 ∧ bits p.2 8 10 = 5)) ∧
    (applyItem 0 (.floor 3) tRun).mram.tallies ≠ tRun.mram.tallies := by decide

/-- An order that names the key of slot 2. -/
def tNames (op : Nat) (inl : Bytes) : Order := { tOrder op inl with keyA := mkHandle 0 2 1 }

/-- The parameter block of an AES key for the encryption of data. -/
def tBlock : Bytes := [0x03, 0x01, 0x00, 0x01, 0x01, 0, 0, 0, 0xFF, 0x03, 0, 0, 0, 0, 0xFF, 0x0F] ++ zeros 48

theorem witness_KeyRowsWithoutQuorum :
    FwReady (tFw (tNames 0x0603 [])) 1 0x0603 (tNames 0x0603 []) tEnv ∧
      ownerRec { tHas 0x0602 [] with clock := 0 } 0 = none ∧
      ownerRec (tick 0 (tFw (tNames 0x0602 []))) 0 = some tOwner := by
  refine ⟨⟨rfl, rfl, rfl, rfl, rfl, rfl, rfl⟩, rfl, rfl⟩

theorem witness_RosterRows :
    FwReady (tHas 0x0633 []) 1 0x0633 (tOrder 0x0633 []) tEnv ∧ ownerRec (tick 0 (tHas 0x0633 [])) 0 = none ∧
      Fresh true (tick 0 (tHas 0x0633 [])) (tOrder 0x0633 []) 0 ∧
      FwReady (tFw (tOrder 0x0633 [])) 1 0x0633 (tOrder 0x0633 []) tEnv ∧ ownerRec (tick 0 (tFw (tOrder 0x0633 []))) 0 = some tOwner ∧
      Room (tOrder 0x0633 []) 64 := by
  refine ⟨⟨rfl, rfl, rfl, rfl, rfl, rfl, rfl⟩, rfl, fun _ => rfl, (witness_fw _ _ []).1, rfl, (witness_order _ _).2.2.2.2.2 64 (by decide)⟩

theorem witness_MasterKeyRows :
    let o := tOrder 0x0620 []
    let s := tFwM [(0, (some (tSlot 1 0), none)), (2, (some (tSlot 3 0), none))] o
    FwReady s 1 0x0620 o tEnv ∧ ownerRec (tick 0 s) 0 = some tOwner ∧ Fresh true (tick 0 s) o 0 ∧
      validSlots (tick 0 s) 0 = [(0, tSlot 1 0)] ∧ prevSlot (tick 0 s) 0 = none ∧ (tick 0 s).munim.backup = none ∧
      currentSlot (tick 0 s) 2 = some (0, tSlot 3 0) ∧ lastDone (tick 0 s) 0 = (0, []) := by
  refine ⟨⟨rfl, rfl, rfl, rfl, rfl, rfl, rfl⟩, rfl, fun _ => rfl, rfl, rfl, rfl, rfl, rfl⟩

theorem witness_named :
    let o := tNames 0x0608 tBlock
    let u := tick 0 (tFw o)
    named u o o.keyA anyType [] = .ok tKey ∧ (lockSlot o u).isSome = true ∧ tKey.gen ≠ 0xFFFFFF ∧ newAttrs u 0 (parseAttrs tBlock) = none ∧
      widens tKey.attrs (parseAttrs tBlock) = false ∧ kQuorum (parseAttrs tBlock) = false := by
  exact ⟨rfl, by decide⟩

theorem witness_KeyRowsWithQuorum :
    let o := { tOrder 0x0601 tBlock with keyA := mkHandle 0 3 1 }
    let s := { tFw o with stk := { Stacks.reset with popCode := 1 } }
    let a := parseAttrs (params o)
    FwReady s 1 0x0601 o tEnv ∧ (kQuorum a || hasUsage a uWrapOut) = false ∧
      firstBad [slotCheck (tick 0 s) 0 o.keyA, newAttrs (tick 0 s) 0 a, refuse (!generable a.keyType) 0x020A 0,
        tdeaCheck (tick 0 s) a.keyType, roomCheck (tick 0 s) 0 a] = none ∧
      GoesOn false (tick 0 s) o tEnv 0 none (tick 0 s) ∧
      capWord o (blobLen (materialLen a.keyType a.keyBits)) (if isPair a.keyType then publicLen a.keyType a.keyBits else 0) = none := by
  refine ⟨⟨rfl, rfl, rfl, rfl, rfl, rfl, rfl⟩, by decide, by decide, ⟨rfl, rfl⟩, by decide⟩

theorem witness_RecordRows :
    let o := tOrder 0x0730 [32]
    let s := tFw o
    let open_ := { s with
      day := { Daybook.reset with bootOpen := true }
      faults := { s.faults with pdbStart := some { parsePdb (zeros 96) with srcExpected := 1, srcOrder := 1 } } }
    FwReady s 1 0x0730 o tEnv ∧ s.faults.skipStep4 = false ∧ (tally (tick 0 s) 0).exhausted = false ∧ (tick 0 s).day.bootOpen = false ∧
      (tick 0 open_).day.bootOpen = true ∧ pushCheck (tick 0 open_) true 0 = none ∧ pushCheck (tick 0 s) true 0 = some (0x0344, 0) ∧ (tick 0 s).munim.ids = true ∧ par (tOrder 0x0731 (zeros 16)) 8 8 = 0 ∧
      par (tOrder 0x0731 (zeros 8 ++ [1])) 8 8 ≠ 0 := by
  refine ⟨⟨rfl, rfl, rfl, rfl, rfl, rfl, rfl⟩, rfl, rfl, rfl, rfl, by decide, by decide, rfl, by decide⟩

theorem witness_OwnerRows :
    let o := tOrder 0x0F02 [1]
    let u := tick 0 (tTwoOwners o)
    FwReady (tTwoOwners o) 1 0x0F02 o tEnv ∧ Fresh true u o 0 ∧ par o 0 2 % 1024 ≠ 0 ∧ ownerActive u 1 = true ∧
      (stallsOf u 1).isEmpty = true ∧ ownerRec u 1 = some { tOwner with owner := 1 } ∧ par (tOrder 0x0F02 []) 0 2 % 1024 = 0 := by
  refine ⟨⟨rfl, rfl, rfl, rfl, rfl, rfl, rfl⟩, fun _ => rfl, by decide⟩

/-- The block that binds Stall 1 for Owner 1. -/
def tBind : Bytes := [1, 0, 1, 0, 0, 0, 0, 0, 7, 0, 0, 0, 1, 0, 2, 0, 16, 0, 64, 0, 4, 0, 0, 0, 64, 0, 0, 0] ++ zeros 4

theorem witness_StallRows :
    let o := tOrder 0x0F10 tBind
    let u := tick 0 (tTwoOwners o)
    FwReady (tTwoOwners o) 1 0x0F10 o tEnv ∧ ownerRec u (bindBlk o).owner = some { tOwner with owner := 1 } ∧
      Fresh (({ tOwner with owner := 1 } : OwnerRec).bindRule == 0) u o 1 ∧ bindFields (bindBlk o) = none ∧ ownerActive u 1 = true ∧
      bindChecks u (bindBlk o) { tOwner with owner := 1 } = none ∧ GoesOn false u o tEnv 1 none u ∧
      bindFields (bindBlk (tOrder 0x0F10 [])) = some (0x0118, 16) ∧
      (par (tOrder 0x0F11 [0xFF, 0x0F]) 0 2 = 4095 ∧ (stall u 4095).state = .free) ∧ 4095 < par (tOrder 0x0F11 [0, 0x10]) 0 2 := by
  refine ⟨⟨rfl, rfl, rfl, rfl, rfl, rfl, rfl⟩, by decide, fun h => absurd h (by decide), by decide, by decide, by decide, ⟨rfl, rfl⟩,
    by decide⟩

theorem witness_PairAndPlatformRows :
    let o := tOrder 0x0F21 []
    let u := tick 0 (tFw o)
    let w := { u with pair := { Pair.reset with mode := 1, state := psSole, session := true, twinState := psWaiting } }
    FwReady (tFw o) 1 0x0F21 o tEnv ∧ Fresh true u o 0 ∧ u.mram.pairRec = none ∧ (ownerRec u 0).isSome = true ∧
      (w.pair.state = psSole ∧ w.pair.session = true ∧ w.pair.twinState = psWaiting ∧ w.pair.joinOrder = none) ∧
      ifApplied u o { gateFor u o 0 with window := u.vigil.timeValid } = none ∧
      (u.vigil.timeValid = true ∧ u.vigil.seconds.toNat ≤ par o 0 4 + 300) ∧ calibForm (opAux o) = false := by
  refine ⟨⟨rfl, rfl, rfl, rfl, rfl, rfl, rfl⟩, fun _ => rfl, rfl, by decide, ⟨rfl, rfl, rfl, rfl⟩, rfl, ⟨rfl, ?_⟩, by decide⟩
  show (vigilRun (oscEdges (max 0 0) - oscEdges 0) { Vigil.reset with timeValid := true }).seconds.toNat ≤ _
  decide

theorem witness_LifecycleRows :
    let o := tOrder 0x0F54 [0]
    let s (n : Nat) : State := { tFw o with faults := { (tFw o).faults with lifecycle := n } }
    FwReady (s 1) 1 0x0F54 o tEnv ∧ (tick 0 (s 1)).faults.lifecycle = 1 ∧ par o 0 4 = 0 ∧ (tick 0 (s 6)).faults.lifecycle = 6 ∧
      par (tOrder 0x0F54 [1]) 0 4 ≠ 0 ∧ Fresh true (tick 0 (s 3)) o 0 ∧ (ownerRec (tick 0 (s 3)) 0).isSome = true ∧
      anyOmk (tick 0 (s 3)) 0 = none := by
  refine ⟨⟨rfl, rfl, rfl, rfl, rfl, rfl, rfl⟩, rfl, by decide, rfl, by decide, fun _ => rfl, rfl, by decide⟩

theorem witness_FirmwareImageRows :
    let o := { tOrder 0x0F60 [1] with inLen := 4096, input := some (zeros 4096) }
    FwReady (tFw o) 1 0x0F60 o tEnv ∧ par o 0 1 ≤ 1 ∧ par o 0 1 ≠ (tFw o).side.runBank ∧ par o 4 4 % 4096 = 0 ∧
      (inputOf o).length = 4096 ∧ Fresh true (tick 0 (tFw o)) o 0 ∧ (ownerRec (tick 0 (tFw o)) 0).isSome = true ∧
      dbgMax 3 < 2 ∧ 1 ≤ dbgMax 3 := by
  refine ⟨⟨rfl, rfl, rfl, rfl, rfl, rfl, rfl⟩, by decide, by decide, by decide, ?_, fun _ => rfl, rfl, by decide⟩
  exact List.length_replicate

theorem witness_QuorumGateOutcomes :
    let o := tOrder 0x0F51 []
    let u := tick 0 (tFw o)
    FwReady (tFw o) 1 0x0F51 o tEnv ∧ decideQuorum u o (gateFor u o 0) = .fail 0x0701 0 ∧ (ownerRec u 0).isSome = true ∧
      tEnv.agree = true ∧ ({ tEnv with agree := false } : FwEnv).agree = false := by
  refine ⟨⟨rfl, rfl, rfl, rfl, rfl, rfl, rfl⟩, rfl, rfl, rfl, rfl⟩

-- Rings, orders and Stalls ---------------------------------------------------------------------------------------------------

/-- The part in operation with one ring position as given. -/
def tRing (n : Nat) (r : Ring) : State := { tRun with rings := [(n, r)] }

/-- An enabled ring. -/
def tOn : Ring := { Ring.reset with enabled := true }

/-- The part in operation with Stall 1 as given. -/
def tStall (x : Stall) : State := { tRun with stalls := [(0, Stall.zero), (1, x)] }

/-- A Bound Stall. -/
def tBound : Stall := { Stall.zero with gen := 5, noPasid := false, weight := 16 }

theorem witness_RingSwitchRows :
    Serving tRun ∧ ((ring tRun 4095 3).enabled = false ∧ mirrored tRun = false ∧
      (6 ≤ (ring tRun 0 3).ordLog2 ∧ (ring tRun 0 3).ordLog2 ≤ 16) ∧ (6 ≤ (ring tRun 0 3).rcpLog2 ∧ (ring tRun 0 3).rcpLog2 ≤ 16) ∧
      pageTakes (stall tRun 0) false = true ∧ pageTakes (stall tRun 0) true = false ∧ (stall tRun 0).state = .bound ∧ (stall tRun 0).tdi ≠ .locked ∧
      (stall tRun 0).tdi ≠ .error ∧ tRun.pair.state ≠ psWaiting ∧ (stall tRun 4095).state ≠ .bound) ∧
      (let s := tRing 3 { tOn with stopped := true }
       Serving s ∧ (ring s 0 3).enabled = true ∧ (ring s 0 3).cwEn = false ∧ (ring s 0 3).stopped = true ∧ (ring s 0 3).fetched = [] ∧
         (ring s 0 3).cwRanges = [] ∧ (ring s 0 3).p = (ring s 0 3).asm) := by
  refine ⟨rfl, by decide, rfl, by decide⟩

theorem witness_FlushRows : Serving (tRing 16383 tOn) ∧ (ring (tRing 16383 tOn) 4095 3).enabled = true := ⟨rfl, by decide⟩

theorem witness_DoorbellRows :
    let s := tRing 0 tOn
    Open s ∧ pageTakes (stall s 0) false = true ∧ pageTakes (stall s 0) true = false ∧ (ring s 0 0).enabled = true ∧
      (ring s 0 0).stopped = false ∧ refusesDoorbell s 0 0 = false ∧ (stall s 0).state = .bound ∧ (stall s 0).gen = 0 ∧
      (64 < ((65 : BitVec 32) - (ring s 0 0).p).toNat ∧ ordSize (ring s 0 0) - ((ring s 0 0).p - (ring s 0 0).h).toNat = 64) ∧
      ((ring s 0 0).p.toNat % 4 + ((4 : BitVec 32) - (ring s 0 0).p).toNat ≤ 4 ∧ (ring s 0 0).rd = (ring s 0 0).p) ∧
      (mirrored { s with pair := { Pair.reset with mode := 1, state := psPaired } } = true ∧ mirrored s = false) := by
  refine ⟨⟨rfl, rfl⟩, by decide⟩

/-- A doorbell of more slots than the ring holds stops it with OVERRUN (02 R81). -/
theorem test_doorbell_overrun : tAfter (.doorbellWrite 0 0 65 0 8 false) (tRing 0 tOn) (false, 0)
    (fun v => ((ring v 0 0).overrun, (ring v 0 0).stopCode)) = (true, 0x0108) := by decide

/-- A doorbell of an old generation is counted and does nothing (02 R81). -/
theorem test_doorbell_stale : tAfter (.doorbellWrite 0 0 4 1 8 false) (tRing 0 tOn) (0, 0)
    (fun v => ((ring v 0 0).staleDbs, (ring v 0 0).p)) = (1, 0) := by decide

theorem witness_IntakeRows :
    let s := tRing 0 { tOn with cwEn := true }
    let f := tRing 0 { tOn with rd := 1, p := 1 }
    Serving s ∧ mirrored s = false ∧ (ring s 0 0).enabled = true ∧ (ring s 0 0).stopped = false ∧ pageTakes (stall s 0) false = true ∧
      (ring s 0 0).cwEn = true ∧ (stall s 0).state = .bound ∧ cwTake (cwMerge (ring s 0 0).cwBytes 511 [some 1]) 64 = none ∧
      (512 < 511 + ([some 1, some 1] : List (Option Byte)).length) ∧
      (Serving f ∧ (ring f 0 0).fetched = [] ∧ (ring f 0 0).rd = (ring f 0 0).asm + 1 ∧ (ring f 0 0).p = (ring f 0 0).asm + 1) ∧
      field (zeros 3 ++ [1] ++ zeros 60) 3 1 = 1 ∧ readStatus (.error 5) = some (0x0403, 5) := by
  refine ⟨rfl, by decide, by decide, by decide, by decide, by decide, by decide, by decide, by decide, ⟨rfl, by decide⟩, by decide, rfl⟩

/-- A slot whose CRC does not check stops the ring with 0x0101 (02 R89, R109). -/
theorem test_intake_crc : intakeCheck (zeros 3 ++ [1] ++ zeros 60) = 0x0101 := by decide +kernel

theorem witness_DispatchRows :
    let o := { tOrder 0 [] with stage := .committed }
    let s := { tRing 0 { tOn with p := 1, rd := 1, asm := 1 } with orders := [o] }
    let c := clearIdles (tick 0 s)
    Serving s ∧ s.faults.holdCovered = false ∧ chooseOrder none (clearIdles (tick 0 tRun)) = none ∧
      (headOf c 0 0).filter (dispatchable c) = some o ∧
      chooseOrder none c = some (o, c) ∧ o.opcode = 0 ∧ order? s o.id = some o ∧ o.stage = .committed ∧ instsFor c o = some [] ∧
      (order? (tHas 0 []) 1 = some (tOrder 0 []) ∧ (tOrder 0 []).opcode = 0 ∧ (tOrder 0 []).stage = .ready) := by
  refine ⟨rfl, rfl, by decide, by decide, by decide, rfl, rfl, rfl, by decide, rfl, rfl, rfl⟩

theorem witness_OrderInputRows :
    let o := { tOrder 0x0101 [] with stage := .waitInput, input := none }
    let g := { tOrder 0x0101 [] with stage := .waitFill, charged := true, recA := none, recB := none }
    let w := { tOrder 0x0140 [] with stage := .waitSeed }
    Serving { tRun with orders := [o] } ∧ order? { tRun with orders := [o] } 1 = some o ∧ wantsPart o .input = true ∧
      readStatus (.forbidden 7) = some (0x0402, 7) ∧
      (g.stage = .waitFill ∧ g.charged = true ∧ g.input.isSome = true ∧ g.aux.isSome = true ∧ g.commit = .none ∧ g.runs < 4 ∧
        g.intakeErr = false) ∧
      ((stall (tStall { tBound with ats := true }) 1).ats = true ∧ (stall tRun 0).ats = false) ∧
      (let s := modInst { tRun with orders := [w] } .loom 17 (fun x => { x with needReseed := true })
       s.drbg.up = true ∧ (inst s .loom 17).needReseed = true) ∧ (inst tRun .loom 0).needReseed = false ∧ tRun.pcie.invs = [] := by
  refine ⟨rfl, rfl, rfl, rfl, by decide⟩

theorem witness_RcpHeadRule :
    let s := tRing 0 { tOn with w := 3, c := 1 }
    Serving s ∧ (((3 : BitVec 32) - (ring s 0 0).c).toNat ≤ ((ring s 0 0).w - (ring s 0 0).c).toNat) ∧
      ¬ (((4 : BitVec 32) - (ring s 0 0).c).toNat ≤ ((ring s 0 0).w - (ring s 0 0).c).toNat) := ⟨rfl, by decide⟩

/-- A consumer count beyond the receipt count sets CFG_ERR and changes nothing else (02 R68). -/
theorem test_rcpHead : tAfter (.rcpHeadWrite 0 0 4 ⟨0, false⟩) (tRing 0 { tOn with w := 3, c := 1 }) (false, 0)
    (fun v => ((ring v 0 0).cfgErr, (ring v 0 0).c)) = (true, 1) := by decide

/-- A piece of output that waits in the egress queue. -/
def tTlp (b : Bytes) : Tlp := { mkTlp tRun (tOrder 0x0101 []) .output false (0x1000, b) with order := 1, gen := 0 }

theorem witness_ReleaseRows :
    let r : Result := { status := 0, word := 0, out := [1], aux := [] }
    let o := { tOrder 0x0101 [] with stage := .computed, copyA := some r, copyB := some r }
    let e := { tRun with egress := [tTlp [1]], orders := [tOrder 0x0101 []] }
    let d := { tOrder 0x0101 [] with stage := .done, result := some r, outSent := true }
    (Open { tRun with orders := [o] } ∧ order? { tRun with orders := [o] } 1 = some o ∧ o.wfault = [] ∧ o.withheld = none) ∧
      tRun.egress = [] ∧ (e.egress = [tTlp [1]] ∧ e.faults.holdCovered = false ∧ (tTlp [1]).gen = (stall e 0).gen ∧
        (stall e 0).ats = false ∧ ((tTlp [1]).kind = .output) ∧ releaseCrcs (tTlp [1]).data = (tTlp [1]).crcs ∧
        permitted e (tTlp [1]) (tTlp [1]).addr (tTlp [1]).data.length = true ∧ releaseCrcs [2] ≠ (tTlp [1]).crcs) ∧
      (order? { tRun with orders := [{ d with commit := .pending }] } 1).map (fun x => x.commit) = some .pending ∧
      (d.stage = .done ∧ d.rcptQueued = false ∧ d.commit ≠ .pending ∧ 0 < d.rsv ∧ d.outSent = true) := by
  refine ⟨⟨⟨rfl, rfl⟩, rfl, rfl, rfl⟩, rfl, by decide⟩

theorem witness_NoticeRows :
    let s := { tRing 0 { tOn with noticeDue := true, vecEn := true, coalTime := 1 } with pcie := { Pcie.reset with unmasked := [0, 4095], pba := [4095] } }
    Open s ∧ (ring s 0 0).noticeDue = true ∧ (ring s 0 0).vecEn = true ∧ (ring s 0 0).vecOff < (stall s 0).vecCount ∧
      (stall s 0).vecBase + (ring s 0 0).vecOff ∈ s.pcie.unmasked ∧ s.faults.holdCovered = false ∧ 4095 ∈ s.pcie.pba ∧
      (ring s 0 1).noticeDue = false ∧ 5 ∉ s.pcie.pba ∧
      (ring s 0 0).noticeAt + 100 * max 1 (ring s 0 0).coalTime ≤ (tick 100 s).clock ∧
      ¬ ((ring s 0 0).noticeAt + 100 * max 1 (ring s 0 0).coalTime ≤ (tick 99 s).clock) := by
  refine ⟨⟨rfl, rfl⟩, by decide⟩

theorem witness_StallRequestRows :
    let s := tStall tBound
    Serving s ∧ (stall s 1).state = .bound ∧ mirrored s = false ∧ (stall s 1).tdi ≠ .error ∧ (stall s 4095).state = .free ∧
      quotaInRange .weight 255 = true ∧ s.faults.silent = false := by
  refine ⟨rfl, by decide⟩

/-- A soft reset gives the Stall the next generation (03 R155). -/
theorem test_stallSelfReset : tAfter (.stallSelfReset 1 ⟨0, false⟩) (tStall tBound) (.free, 0) (fun v => ((stall v 1).state, (stall v 1).gen)) =
    (.resetting, 6) := by decide

theorem witness_StallEndRows :
    let s := tStall { tBound with state := .resetting }
    Serving s ∧ (stall s 1).state = .resetting ∧ canWriteOwed s 1 = false ∧ (∀ y ∈ s.egress, y.stall ≠ 1) ∧ mirrored s = false ∧
      (stall s 1).resetOrder = [] ∧ (stall s 0).state ≠ .resetting := by
  refine ⟨rfl, by decide⟩

/-- The part in a Hold that began at the time 0. -/
def tHold (l : List HoldCause) : State := { tRun with faults := { tRun.faults with holds := l, holdCovered := true } }

theorem witness_HoldTimeoutRule :
    alive (tHold [.supply]) = true ∧ (tHold [.supply]).faults.silent = false ∧ (tHold [.supply]).faults.holdCovered = true ∧
      (tHold [.supply]).faults.holdAt + 10000000 ≤ (tick 10000000 (tHold [.supply])).clock ∧
      (tick 9999999 (tHold [.supply])).clock < (tHold [.supply]).faults.holdAt + 10000000 := by decide

/-- A Hold of 10 ms ends in Silence with cause 0x0001 (11 R490). -/
theorem test_holdTimeout : tAfter (.holdTimeout 10000000) (tHold [.supply]) (false, 0) (fun v => (v.faults.silent, v.faults.lastCause)) =
    (true, 1) := by decide

theorem witness_HoldRows :
    (alive (tHold []) = true ∧ (tHold []).faults.holdCovered = true ∧ (tHold []).faults.holds = []) ∧
      (alive tRun = true ∧ tRun.faults.holdCovered = false) ∧
      (Open (tHold [.releaseCrc]) ∧ HoldCause.releaseCrc ∈ (tHold [.releaseCrc]).faults.holds) ∧
      (Open tRun ∧ tRun.faults.queueTimes = []) ∧
      (let s := { tRun with faults := { tRun.faults with queueTimes := [(2, 5), (2, 6)] } }
       Open s ∧ s.faults.queueTimes = [(2, 5), (2, 6)] ∧ (tick 10 s).clock < 5 + 1000000000) := by
  refine ⟨by decide, by decide, ⟨⟨rfl, rfl⟩, by decide⟩, ⟨⟨rfl, rfl⟩, rfl⟩, ⟨⟨rfl, rfl⟩, rfl, by decide⟩⟩

/-- The part in operation with one engine as given. -/
def tInst (k : EngKind) (i : Nat) (x : Inst) : State := modInst tRun k i (fun _ => x)

theorem witness_InstanceRows :
    Serving tRun ∧ 17 < (instsOf tRun .loom).length ∧ 51 < (instsOf tRun .forge).length ∧ 3 < (instsOf tRun .mill).length ∧
      (inst (tInst .loom 17 { Inst.reset with status := .active }) .loom 17).status = .active ∧
      (inst (tInst .forge 51 { Inst.reset with status := .spare }) .forge 51).status = .spare ∧
      (let s := tInst .kiln 0 { Inst.reset with status := .suspect }
       (inst s .kiln 0).status = .suspect ∧ instEmpty s .kiln 0 = true) ∧
      (let s := modInst (tInst .forge 12 { Inst.reset with status := .spare }) .forge 0 (fun x => { x with status := .retired })
       (withStatus s .forge .retired).find? (fun j => groupOf .forge j == groupOf .forge 12 &&
         !((instsOf s .forge).any (fun x => x.replaces == some j))) = some 0) := by
  refine ⟨rfl, by decide⟩

theorem witness_RandomSourceRows :
    Open tRun ∧ Ready (tHas 0x0551 [16, 0, 0, 0, 0]) 1 0x0551 (tOrder 0x0551 [16, 0, 0, 0, 0]) ∧
      bitOf (par (tOrder 0x0551 [16, 0, 0, 0, 0]) 4 1) 0 = false ∧ Room (tOrder 0x0551 [16, 0, 0, 0, 0]) 16 ∧
      ({ tHas 0x0551 [] with drbg := Drbg.reset } : State).drbg.up = false ∧
      (3 ∉ tRun.drbg.bad ∧ tRun.drbg.bad.length ≤ 1 ∧ 2 < [0, 1].length + 1) ∧ tRun.faults.drbgTimes = [] ∧
      tRun.faults.holdCovered = false ∧ ({ tRun with drbg := { Drbg.reset with reinst := true } } : State).drbg.reinst = true := by
  refine ⟨⟨rfl, rfl⟩, (witness_order _ _).1, by decide, (witness_order _ _).2.2.2.2.2 16 (by decide), rfl, by decide, rfl, rfl, rfl⟩

theorem witness_RegisterFieldWrites :
    Serving tRun ∧ (0x1010 % 4 = 0) ∧ (3 ≠ 4 ∧ 3 ≠ 8) ∧ 0x1012 % 4 ≠ 0 ∧ pageTakes (stall tRun 0) true = false ∧
      pageTakes (stall tRun 0) false = true ∧ (ring (tRing 0 tOn) 0 0).enabled = true ∧ (ring tRun 0 0).enabled = false ∧
      (∀ off ∈ [0, 0x1000, 0x2FFC, 0x3004, 0x33FC, 0x3A00, 0xFFFC, 0x60000, 0x8FFFC, 0xA0000, 0xAFFFC, 0xC0000, 0xFFFFC],
        off % 4 = 0 ∧ off ≠ 0x1010 ∧ off ≠ 0x3000 ∧ ¬ (0x3400 ≤ off ∧ off < 0x3A00) ∧ ¬ (0x10000 ≤ off ∧ off < 0x60000) ∧
          off ≠ 0x7001C ∧ off ≠ 0x70088 ∧ ¬ (0x90000 ≤ off ∧ off < 0xA0000) ∧ ¬ (0xB0000 ≤ off ∧ off < 0xC0000)) := by
  refine ⟨rfl, by decide⟩

/-- A write to a ring base while the ring is enabled sets CFG_ERR and is ignored (02 R62). -/
theorem test_base_while_enabled : tAfter (.registerWrite .stallPage 0x100 4 0x5000 false 0) (tRing 0 tOn) (false, 1)
    (fun v => ((ring v 0 0).cfgErr, (ring v 0 0).ordBase)) = (true, 0) := by decide

theorem witness_RegisterRows :
    Serving tRun ∧ sourceExists (32 * 0 + 1) = true ∧
      (bitOf tRun.side.gpioIn 15 = false ∧ bitOf tRun.side.gpioRise 15 = false) ∧
      (let s := { tRun with side := { tRun.side with gpioRise := 0x8000 } }
       bitOf s.side.gpioIn 15 ≠ true ∧ bitOf s.side.gpioRise 15 = true ∧ bitOf s.worlds.gpioKeeper 15 = false ∧
         ∀ y ∈ s.worlds.pinMoving, y.1 ≠ 15) := by
  refine ⟨rfl, by decide⟩

/-- EVENT status bits are cleared by writing one (15 R638). -/
theorem test_eventStatusClear : tAfter (.eventStatusClear 1 0xF 0) { tRun with ev := { Events.reset with status := [(1, 0x1F)] } } 0
    (fun v => evStatus v 1) = 0x10 := by decide

/-- A window base beyond 5,504 sets WIN_ERR (13 R593). -/
theorem test_winBase : tAfter (.winBaseWrite 5505) tRun false (fun v => v.day.winErr) = true ∧
    tAfter (.winBaseWrite 5504) tRun 0 (fun v => v.day.winBase) = 5504 := by decide

-- Side interfaces, twin, worlds, environment ----------------------------------------------------------------------------------

/-- A request of SPDM over DOE. -/
def tSpdm : SpdmReq := { mctp := false, session := none, version := 0x12, param1 := 0, param2 := 0, data := zeros 132 }

/-- The part in operation with an SPDM state. -/
def tDoe (x : Spdm) : State := { tRun with spdm := x }

theorem witness_SpdmRows :
    Open tRun ∧ tSpdm.version = 0x12 ∧ tRun.spdm.caps = false ∧ (tDoe { Spdm.reset with transcript := [1] }).spdm.transcript ≠ [] ∧
      ({ tSpdm with version := 0x11 }.version ≠ 0x12 ∧ { tSpdm with version := 0x11 }.version ≠ 0x13) ∧
      (let s := tDoe { Spdm.reset with version := some 0x12, caps := true, algs := true, sessions := [(7, zeros 48, 0)] }
       tSpdm.session = none ∧ s.spdm.version = some tSpdm.version ∧ s.spdm.caps = true ∧ s.spdm.algs = true ∧ sessionUp s 7 = true ∧
         tSpdm.param1 % 16 = 0 ∧ tSpdm.param2 = 0 ∧ 132 ≤ tSpdm.data.length ∧ idClassical s = none) ∧
      bitOf (ofLe (slice (zeros 4 ++ [0x80, 0, 0, 0, 2, 0, 0, 0]) 4 4)) 7 = true ∧ sessionUp tRun 7 = false ∧ tRun.spdm.version = none ∧
      tRun.spdm.handshake = none := by
  refine ⟨⟨rfl, rfl⟩, rfl, rfl, by decide, by decide, ⟨rfl, rfl, rfl, rfl, by decide, by decide, rfl, Nat.le_of_eq List.length_replicate.symm, rfl⟩,
    by decide, by decide, rfl, rfl⟩

/-- A TDISP request for Stall 1 in session 7. -/
def tTdisp : TdispReq := { session := some 7, version := 0x10, func := 0, stall := 1, stream := 7, nonce := [] }

theorem witness_TdispAndIdeRows :
    let s := { tStall { tBound with tdi := .unlocked } with
      spdm := { Spdm.reset with version := some 0x12, sessions := [(7, zeros 48, 0)], ideSecure := [7] } }
    Open s ∧ secured s tTdisp.session = true ∧ secured tRun tTdisp.session = false ∧ tTdisp.version = 0x10 ∧
      (tTdisp.func = s.pcie.rid ∧ tTdisp.stall < 4096 ∧ (stall s 1).tdi ≠ .none) ∧ (stall s 0).tdi = .none ∧
      ((stall s 1).tdi = .unlocked ∧ tTdisp.stream < 8 ∧ tTdisp.stream ∈ s.spdm.ideSecure ∧ (stall s 1).state = .bound ∧
        mirrored s = false) ∧
      (let l := tStall { tBound with tdi := .locked, tdiNonce := some 0 }
       (stall l 1).tdi = .locked ∧ (stall l 1).tdiNonce = some 0) ∧
      (let q := { tSpdm with data := [3, 0, 2, 1, 0, 0, 0, 1, 0x10, 0x81] }
       q.mctp = false ∧ slice q.data 0 5 = [3, 0, 2, 1, 0] ∧ q.data.getD 7 0 = 1 ∧ (q.data.drop 8).getD 1 0 = 0x81) := by
  refine ⟨⟨rfl, rfl⟩, by decide, by decide, rfl, by decide⟩

/-- The part in operation with card port 3 as given and an order that waits for its card. -/
def tCard (p : Port) (o : Order) : State :=
  { tFw o with side := { Sideband.reset with ports := [Port.reset, Port.reset, Port.reset, p] } }

theorem witness_CardRows :
    let o := { tOrder 0x0622 [] with stage := .waitCard, want := some (.put 3 0 0) }
    let s := tCard { Port.reset with present := true, session := some 1, cstep := .atr } o
    Open s ∧ s.side.ports.length = 4 ∧ (port s 3).session = some 1 ∧ order? s 1 = some o ∧ o.stage = .waitCard ∧
      o.want = some (.put 3 0 0) ∧ wantPort (.put 3 0 0) = 3 ∧ (port s 3).cstep = .atr ∧ (port s 3).present = true ∧
      (port s 3).queue = [] ∧ (∀ y ∈ s.worlds.pinDeferred, y.1 ≠ 3) ∧ (port s 0).session = none ∧ (port s 0).present ≠ true ∧
      custodian? s 0 0 = some tCustodian := by
  refine ⟨⟨rfl, rfl⟩, rfl, rfl, rfl, rfl, rfl, rfl, rfl, rfl, rfl, by decide, rfl, by decide⟩

/-- The part in operation in a session of a pair. -/
def tPair (p : Pair) : State :=
  { tRun with pair := { p with bound := true, session := true, sessionEpoch := 4, lanes := 0xFF, rxSeq := [2, 0], txSeq := [0, 0] } }

/-- A frame, the next of channel 0. -/
def tFrame (b : FrameBody) : Frame := { ch := 0, epoch := 4, seq := 2, ack := none, body := b }

/-- Mirror mode, paired, Lead. -/
def tMirror : Pair := { Pair.reset with mode := 1, state := psPaired }

theorem witness_LinkRows :
    let s := tPair Pair.reset
    Open s ∧ sessionRow (tFrame (.claim [])) 0 = some (.claim (tFrame (.claim [])) 0) ∧ accepting s = true ∧
      (tFrame (.claim [])).epoch = s.pair.sessionEpoch ∧ ({ tFrame (.claim []) with seq := 1 }.seq < expected s 0) ∧
      (expected s 0 < { tFrame (.claim []) with seq := 3 }.seq) ∧ InOrder s (tFrame (.claim [])) ∧
      bodyPermitted s (.claim []) = false ∧ InOrder s (tFrame (.evidence 1 0 [])) ∧ accepting tRun = false ∧
      (s.pair.lanes.getLsbD 7 = true ∧ linkUp { s with pair := { s.pair with lanes := 0x7F } } = true) ∧
      linkUp { s with pair := { s.pair with lanes := 0x07 } } = false ∧ tRun.pair.lanes.getLsbD 0 = false := by
  refine ⟨⟨rfl, rfl⟩, rfl, rfl, rfl, by decide, by decide, ⟨⟨rfl, rfl⟩, rfl, rfl, rfl⟩, rfl, ⟨⟨rfl, rfl⟩, rfl, rfl, rfl⟩, rfl, by decide⟩

theorem witness_HandshakeRows :
    let s (p : Pair) : State := { tRun with pair := p }
    let b := { Pair.reset with bound := true, pairSecret := some (zeros 32) }
    let o := { tOrder 0x0F20 [] with stage := .waitPair }
    Open (s b) ∧ (b.bound = true ∧ b.side = 0 ∧ b.pairSecret.isSome = true) ∧ (Pair.reset.bound = false ∧ bindOrder tRun = none) ∧
      ({ b with hsPurpose := 2, hsStep := 1 }.hsStep = 1 ∧ (zeros 32).length = 32 ∧ { b with side := 1 }.side = 1) ∧
      (Pair.reset.hsStep ≠ 2 ∧ Pair.reset.hsStep ≠ 3 ∧ Pair.reset.hsStep ≠ 4) ∧
      hsVerify (s { b with hsPurpose := 2, hsStep := 2 }) (zeros 48) (kdf (zeros 32) "UT-SESSION" (zeros 48) 32) [] = true ∧
      ({ b with hsPurpose := 2, hsStep := 4, mode := 1 }.evidence = []) ∧
      bindOrder { tRun with orders := [o], pair := { Pair.reset with hsOrder := some 1 } } = some o := by
  refine ⟨⟨rfl, rfl⟩, by decide, ⟨rfl, rfl⟩, by decide, by decide, ?_, rfl, by decide⟩
  show (kdf (zeros 32) "UT-SESSION" (zeros 48) 32 == kdf ((some (zeros 32)).getD []) "UT-SESSION" (zeros 48) 32) = true
  exact beq_self_eq_true _

/-- A transaction. -/
def tTxn (lead : Bool) (phase : Nat) : Txn :=
  { num := 9, order := 1, lead := lead, phase := phase, items := [], result := { status := 0, word := 0, out := [], aux := [] },
    own := [], odigest := [], vigil := 0, place := (0, 0, 0) }

theorem witness_TwinCommitRows :
    let s := { tPair tMirror with rings := [(0, { tOn with shared := true })] }
    let with_ (l : List Txn) : State := { s with pair := { s.pair with txns := l } }
    InOrder s (tFrame (.claim [.commit 1 0 0 0 0 7])) ∧ s.pair.mode = 1 ∧ ringExists 0 0 = true ∧ (1 : BitVec 16) ≠ (stall s 0).gen ∧
      (0 : BitVec 16) = (stall s 0).gen ∧ (ring s 0 0).shared = true ∧ (ring s 0 0).enabled = true ∧
      (((0 : BitVec 32) - (ring s 0 0).h).toNat < 2 ^ 31) ∧ divergence (ring s 0 0) = none ∧
      divergence { tOn with commits := [(0, 1, 7)], twinCommits := [(0, 1, 8)] } ≠ none ∧
      (s.pair.txns.length < 64 ∧ (with_ [tTxn true 1]).pair.txns = [tTxn true 1] ∧ (tTxn true 1).own = []) ∧
      txnOf (with_ [tTxn false 2]) false 9 = some (tTxn false 2) ∧ txnOf (with_ [tTxn true 4]) true 9 = some (tTxn true 4) ∧
      txnOf s true 9 = none ∧ txnOf s false 9 = none ∧ isLead s = true ∧
      isLead { s with pair := { s.pair with role := 1 } } = false ∧ heldKey s 5 = none ∧
      (∀ y ∈ s.pair.reserveWait, y.1 ≠ 3) ∧ (tally s 32).exhausted = false ∧
      (let x : State := { s with mram := { s.mram with tallies := [(32, { Tally.reset with exhausted := true })] } }
       (tally x 32).exhausted = true ∧ (tally x 32).value < 1) := by
  refine ⟨⟨⟨rfl, rfl⟩, rfl, rfl, rfl⟩, rfl, by decide⟩

theorem witness_MirrorRows :
    let s := tPair tMirror
    let cas := { s with pair := { s.pair with casPending := 1 } }
    let set := { s with pair := { s.pair with settling := true } }
    let sh := { set with rings := [(0, { tOn with shared := true })] }
    Open s ∧ s.pair.session = true ∧ tRun.pair.session = false ∧ (∀ o ∈ s.orders, o.stage ≠ .waitCharge) ∧
      (s.pair.bound = true ∧ s.pair.casPending = 0 ∧ s.pair.settling = false ∧ s.pair.mode = 1 ∧ s.pair.state = psPaired ∧
        s.pair.missRun = 0) ∧ tRun.pair.bound = false ∧ InOrder s (tFrame (.silence 1 1 1)) ∧ InOrder s (tFrame (.resync [.tally 32 1])) ∧
      (cas.pair.casPending ≠ 0 ∧ cas.pair.arbOnStart = false ∧ cas.pair.casFailed = false ∧ 0 = recArbiter cas ∧
        2 ^ 48 ≠ recArbiter cas ∧ bits (2 ^ 48) 48 16 ≠ field (recPairId cas) 0 2) ∧
      (set.pair.settling = true ∧ set.pair.txns = [] ∧ sharedRings set = []) ∧ sharedRings sh ≠ [] ∧
      ringExists 4096 0 = false ∧ ringExists 0 0 = true ∧
      ({ s with pair := { s.pair with scanning := [rix 0 0] } } : State).pair.scanning = [rix 0 0] := by
  refine ⟨⟨rfl, rfl⟩, rfl, rfl, by decide, by decide, rfl, ⟨⟨rfl, rfl⟩, rfl, rfl, rfl⟩, ⟨⟨rfl, rfl⟩, rfl, rfl, rfl⟩, by decide, by decide,
    by decide, by decide, by decide, rfl⟩

/-- A region that covers page 0 of Clerk SRAM, all rights for every level. -/
def tRegion : Region := { Region.reset with enable := true, space := 0, base := 0, last := 0, rights := [7, 7, 7, 7, 7, 7, 7] }

theorem witness_AccessRows :
    let s := { tRun with worlds := { Worlds.reset with
      regions := modAt (fun _ => tRegion) Worlds.reset.regions 0, deeds := [(0, 2)] } }
    let k := { s with worlds := { s.worlds with clerks := modAt (fun c => { c with level := 0 }) s.worlds.clerks 7 } }
    alive s = true ∧ s.faults.silent = false ∧
      violationOf (tick 0 s) ⟨.clerk 7 false, 0, 4088, 8, .read⟩ = none ∧
      (violationOf (tick 0 s) ⟨.clerk 7 false, 0, 4088, 9, .read⟩).isSome = true ∧ inKeeper (clerk s 7) = false ∧
      deedKey s 0 4095 = some 4095 ∧ deedKey s 0 4096 = none ∧ s.faults.acuTimes = [] ∧
      s.faults.holds.contains .acuChecker = false ∧ (clerk k 7).level = 0 ∧ 2 ≤ (clerk s 7).level ∧
      deedSetOk k 0 4096 1 = false ∧ (deedSetOk k 0 5 1 = true ∧ Tbl.getD k.worlds.deeds 5 0 % 8 = 0) ∧
      Tbl.getD s.worlds.deedBad 5 0 ≠ 1 ∧ s.worlds.deedPend.find? (fun p => p.space == 0 && p.page == 5) = none := by
  refine ⟨rfl, rfl, by decide, by decide, by decide, by decide, by decide, rfl, by decide⟩

theorem witness_WorldRows :
    let s := tRun
    let k := { s with worlds := { s.worlds with clerks := modAt (fun c => { c with level := 0 }) s.worlds.clerks 7 } }
    s.faults.phase = .running ∧ s.faults.silent = false ∧ s.worlds.clerks.length = 8 ∧ inKeeper (clerk s 7) = false ∧
      (clerk s 7).halted = false ∧ s.keeper.waitGate = [] ∧ keeperClerks s = 0 ∧ s.keeper.restarting = false ∧
      inKeeper (clerk k 7) = true ∧ 0 < keeperClerks k ∧ pinKeeper s (.gpio 15) = false ∧ (dmaCh s 31).busy = false ∧
      (gateOf s 96).claimed = false ∧ s.keeper.restartAt = [] ∧
      ({ s with keeper := { s.keeper with restarting := true } } : State).keeper.restarting = true ∧
      (tick 10000000 s).clock ≤ s.keeper.restartFrom + 10000000 := by
  refine ⟨rfl, rfl, rfl, by decide, by decide, rfl, by decide, rfl, by decide, by decide, by decide, by decide, by decide, rfl, rfl,
    by decide⟩

theorem witness_EnvironmentRows :
    let s := tRun
    let e (i : Nat) (x : MonEnt) : State := { s with mon := { s.mon with ents := [(i, x)] } }
    let warm : MonEnt := { MonEnt.at 24 with userLimit := 300, userFilter := 1 }
    let clk : MonEnt := { MonEnt.at 32 with factoryLimit := 1000, factoryFilter := 1, userLimit := 300, userFilter := 1 }
    s.faults.silent = false ∧ s.faults.railsUp = true ∧ ({ s with faults := { s.faults with railsUp := false } } : State).faults.railsUp = false ∧
      ((659 : Nat) < railReset 0 ∧ railReset 0 ≤ 660 ∧ railUpper 5 < 1211 ∧ 1210 ≤ railUpper 5) ∧
      (700 < (mon (e 5 { MonEnt.at 5 with userLimit := 710 }) 5).userLimit ∧ (mon (e 5 { MonEnt.at 5 with userLimit := 710 }) 5).dipAt = none) ∧
      (mon (e 5 { MonEnt.at 5 with dipAt := some 3 }) 5).dipAt = some 3 ∧ (within 1000000000 s.mon.dipTimes 0).length < 16 ∧
      (16 ≤ (within 1000000000 (List.replicate 16 1) 2).length) ∧
      ((within 1000000000 s.mon.glitchTimes 0).length < 4 ∧ 4 ≤ (within 1000000000 [1, 1, 1, 1] 2).length) ∧
      (∀ x ∈ s.mon.glitchTimes, x + 10000 ≤ 0) ∧
      ((mon (e 24 { warm with runLow := 3 }) 24).runLow = 3 ∧ (mon (e 24 { warm with runFactory := 3 }) 24).runFactory = 3) ∧
      ((-100 : Int) ≤ 301 ∧ ((mon (e 24 warm) 24).userLimit : Int) < 301 ∧ (301 : Int) ≤ 460 ∧
        (mon (e 24 warm) 24).runUser + 1 = (mon (e 24 warm) 24).userFilter ∧ (mon (e 24 warm) 24).alarm = false ∧ s.mon.throttle = false) ∧
      (outside 0 1001 (mon (e 32 clk) 32).factoryLimit = true ∧ (mon (e 32 clk) 32).runFactory + 1 = (mon (e 32 clk) 32).factoryFilter) ∧
      (outside 0 1000 (mon (e 32 clk) 32).factoryLimit = false ∧ outside 0 1000 (mon (e 32 clk) 32).userLimit = true) ∧
      outside 0 300 (mon (e 32 clk) 32).userLimit = false := by decide

/-- A main rail below its reset level takes the part down (12 R541). -/
theorem test_supplyBelowReset : tAfter (.supplyBelowReset 0 659 0) tRun (.running, 0) (fun v => (v.faults.phase, v.vigil.power)) =
    (.off, 1) := by decide

/-- The part in operation with tamper input 11 as given. -/
def tTamper (x : TamperIn) : State :=
  { tRun with vigil := { Vigil.reset with inputs := List.replicate 11 TamperIn.reset ++ [x] } }

theorem witness_VigilRows :
    let a := { TamperIn.reset with armed := true }
    let s := tTamper { a with alarmRun := 1 }
    let d (p src : Nat) : State := { tRun with vigil := { Vigil.reset with power := p, src := src } }
    s.faults.silent = false ∧ (tamperIn tRun 0).armed = false ∧
      (11 < s.vigil.inputs.length ∧ (tamperIn s 11).armed = true ∧ (tamperIn s 11).driverOff = false ∧ s.vigil.power ≠ 3 ∧
        sampleOf (tamperIn s 11) (.mesh 1) = (true, 1) ∧ (tamperIn s 11).alarm = false ∧
        filterCount (tamperIn s 11).filter ≤ (tamperIn s 11).alarmRun + 1 ∧ s.faults.railsUp = true) ∧
      (tamperIn (tTamper a) 11).alarmRun + 1 < filterCount (tamperIn (tTamper a) 11).filter ∧
      (let c := tTamper { a with alarm := true, cleanRun := 1 }
       (tamperIn c 11).alarm = true ∧ sampleOf (tamperIn c 11) (.mesh 0) = (false, 0) ∧
         filterCount (tamperIn c 11).filter ≤ (tamperIn c 11).cleanRun + 1) ∧
      ((d 0 0).vigil.power ≠ 3 ∧ (d 0 0).vigil.src = 0 ∧ pickCell 2499 2499 = none ∧ pickCell 2500 2499 = some 1 ∧ pickCell 2499 2500 = some 2) ∧
      ((d 2 1).vigil.src ≠ 0 ∧ 2450 + 50 ≤ 2500 ∧ (d 2 1).vigil.power ≠ 3) ∧ (d 3 0).vigil.power = 3 ∧ tRun.vigil.timeValid = false ∧
      (tTamper a).vigil.power ≠ 3 ∧ sealRefusal 0 tRun = 0 ∧ sealRefusal 1 tRun ≠ 0 ∧ tRun.faults.skipStep4 = false := by decide

/-- A full Seal write by the Keeper is stored (12 R528), one by a lower level is refused. -/
theorem test_sealWrite : tAfter (.sealWrite 0 5 6 0) tRun 0 (fun v => v.vigil.seed) = 5 ∧
    tAfter (.sealWrite 1 5 6 0) tRun 7 (fun v => v.vigil.seed) = 0 := by decide

/-- What a start finds. -/
def tStart : StartEnv :=
  { t := 0, took := 0, otpAgree := true, romOk := true, entropyOk := true, watermarkOk := false, corrected := 0, failed := [] }

theorem witness_StartRows :
    let s := { State.reset with mram := { Mram.reset with fuseP := true } }
    let b := { Mram.reset with dbgStaged := some 3 }
    let f (p : Phase) (n : Nat) : State := { tRun with faults := { tRun.faults with phase := p, step := n } }
    (s.faults.phase = .off ∧ tStart.otpAgree = true ∧ tStart.romOk = true ∧ tStart.entropyOk = true ∧ tStart.watermarkOk = false) ∧
      ((s.mram.fuseR = true ∨ s.mram.fuseP = true) ∧ ¬ (s.mram.dbgStaged = some 3 ∧ s.mram.fuseR = true)) ∧ b.fuseR = false ∧
      (State.reset.mram.fuseR = false ∧ State.reset.mram.fuseP = false) ∧ State.reset.faults.railsUp = true ∧
      ((f .silent 0).faults.phase = .silent ∧ (f .silent 0).faults.silenceLatched = false ∧
        (f .silent 0).faults.silentAt + 1000000 ≤ (tick 1000000 (f .silent 0)).clock) ∧
      (tick 999999 (f .silent 0)).clock < (f .silent 0).faults.silentAt + 1000000 ∧
      ((f .starting 4).faults.phase = .starting ∧ (f .starting 4).faults.step = 4 ∧ (f .starting 4).faults.holdCovered = false ∧
        ({ f .starting 4 with munim := { Muniment.reset with wmTries := 3 } } : State).munim.wmTries = 3 ∧
        (f .starting 4).munim.pufOffAt + 10000000 ≤ (tick 10000000 (f .starting 4)).clock ∧
        ¬ ((f .starting 4).munim.pufOffAt + 10000000 ≤ (tick 9999999 (f .starting 4)).clock)) ∧
      ((f .starting 8).faults.step = 8 ∧ (f .starting 8).stk.trained = false ∧
        ({ f .starting 8 with stk := { Stacks.reset with trained := true } } : State).stk.catReady = false) ∧
      (f .starting 8).mram.tallyTorn = [] ∧ (f .starting 8).faults.startAt + 1000000000 ≤ (tick 1000000000 (f .starting 8)).clock ∧
      ((f .waitProv 0).faults.phase = .waitProv ∧ (f .waitProv 0).mram.recogSent = false ∧
        ({ Mram.reset with recogSent := true } : Mram).recogSent = true ∧ State.reset.mram.writing = []) ∧
      provSigned { keys := [], sig := [], body := .finish } = false := by
  refine ⟨by decide, by decide, by decide, by decide, by decide, by decide, by decide, by decide, by decide, by decide, by decide,
    by decide, ?_⟩
  unfold provSigned
  simp

/-- A cold start whose two OTP reads differ ends in latched Silence at step 2 (14 R601). -/
theorem test_coldStart_otp : tAfter (.coldStart { tStart with otpAgree := false }) State.reset (0, 0)
    (fun v => (v.faults.startFail, v.faults.failStep)) = (1, 2) := by decide

theorem witness_RecordTimersAndStacksRows :
    let s := tRun
    let c := { s with
      stk := { Stacks.reset with popCode := 1, trained := true, catReady := true }
      worlds := { Worlds.reset with
        regions := modAt (fun _ => { tRegion with space := 1, last := 7 }) Worlds.reset.regions 0, deeds := [] } }
    let q : BindReq := ⟨.rom, 504, 8⟩
    State.reset.faults.phase = .off ∧ s.faults.phase ≠ .off ∧ s.day.buf = [] ∧ s.day.dropped + s.day.replaced = 0 ∧
      s.day.flushing = false ∧ s.munim.anchorKey = none ∧ s.faults.pdbStart = none ∧
      ({ s with munim := { Muniment.reset with anchorKey := some [] } } : State).munim.anchorKey.isSome = true ∧
      ((tally s 2).exhausted = false ∧ (tally s 2).writes < 8000000000 ∧ (tally s 2).value + 1 ≤ tallyMax) ∧
      (Open c ∧ bindReqOk q = true ∧ bindReqOk ⟨.rom, 505, 8⟩ = false ∧ c.stk.catReady = true ∧ c.stk.reqs = [] ∧ planOf c
        { id := c.nextId, write := none, sla := 504, len := 8, who := .rom, issued := true, plan := [], retried := false, lost := 0,
          dest := none } ≠ []) ∧
      c.stk.reqs.find? (fun r => r.id == 0 && r.issued) = none ∧ (0 < channels c ∧ 0 < c.stk.chans.length ∧ channels s ≤ 0) ∧
      ((chan c 0).remapping = [] ∧ (chan c 0).blockErrs = [] ∧ heatOf 5 = 2 ∧ heatOf 3 = 1 ∧ heatOf 2 = 0) ∧ c.stk.cmdErrs = [] := by
  refine ⟨by decide, by decide, by decide, by decide, by decide, by decide, by decide, by decide, by decide,
    ⟨⟨rfl, rfl⟩, by decide⟩, by decide⟩

theorem witness_I3cRows :
    let s := tRun
    let e : State := { s with side := { s.side with ibiEn := true, ibiArmed := true }, ev := { Events.reset with status := [(47, 1)], bmc := [(47, 1)] } }
    s.faults.railsUp = true ∧ s.side.dynValid = false ∧ (∀ g < 48, evStatus s g &&& evBmc s g = 0) ∧
      ((∀ j < 47, evStatus e j &&& evBmc e j = 0) ∧ evStatus e 47 &&& evBmc e 47 ≠ 0 ∧ e.side.ibiEn = true ∧ e.side.ibiArmed = true) ∧
      (16 ≤ 256 ∧ 256 ≤ 256) ∧ s.side.hopper = [] ∧ s.side.mwl ≤ 256 := by decide

/-- The maximum write length takes 16 to 256 and no other value (15 R642). -/
theorem test_setmwl : tAfter (.setmwl 16) tRun 0 (fun v => v.side.mwl) = 16 ∧ tAfter (.setmwl 256) tRun 0 (fun v => v.side.mwl) = 256 ∧
    tAfter (.setmwl 257) tRun 0 (fun v => v.side.mwl) = tRun.side.mwl := by decide

theorem witness_MctpAndJtagRows :
    State.reset.faults.phase ≠ .running ∧ tRun.faults.phase = .running ∧ tRun.faults.railsUp = true ∧ tRun.faults.ready = true ∧
      (8 ≤ 254 ∧ 7 < 8 ∧ 254 < 255) ∧ 47 < 48 ∧ debugServed tRun = true ∧ debugServed State.reset = false ∧ tRun.drbg.up = true ∧
      (0xFF ∈ [0xFF, 0, 5, 0x7E] ∧ 1 ∉ [0xFF, 0, 5, 0x7E]) ∧
      (let p : Bytes := zeros 64
       (p.length == 64 && allZero (slice p 2 2) && allZero (slice p 8 8)) = true) ∧ tokenCheck [] tRun ≠ 1 ∧
      2 ≤ tRun.faults.lifecycle ∧ tRun.faults.lifecycle ≤ 4 := by
  decide

/-- IDCODE shifts out the identification register (15 R654). -/
theorem test_idcode : tAfter .idcode tRun 0 (fun v => v.dbg.ir) = 2 := by decide

/-- An endpoint ID from 8 to 254 is taken (15 R643). -/
theorem test_setEndpointId : tAfter (.setEndpointId 0 8) tRun (0, false) (fun v => (v.side.eid, v.side.eidValid)) = (8, true) ∧
    tAfter (.setEndpointId 0 7) tRun (9, true) (fun v => (v.side.eid, v.side.eidValid)) = (0, false) := by decide

theorem witness_StepRunsFront : State.reset.pending = [] := rfl

/-- A step takes the front of the queue. -/
theorem test_step : (match step { tRun with pending := [.setmwl 16, .setmwl 32] } with
    | .next v => (v.side.mwl, v.pending)
    | _ => (0, [])) = (16, [.setmwl 32]) := by decide

/-- The part in Silence. -/
def tSilent : State :=
  { tRun with
    faults := { tRun.faults with phase := .silent, silent := true, silenceLatched := true } }

theorem witness_SilenceClosesEgress :
    tSilent.faults.silent = true ∧ silentThrough 1 { tSilent with pending := [.setmwl 16] } = true ∧ (match exec (.setmwl 16) tSilent with
      | .next v => v.faults.silent | _ => false) = true := by decide

theorem witness_SilenceLasts :
    tSilent.faults.phase = .silent ∧ tSilent.faults.silent = true ∧ tSilent.faults.silenceLatched = true ∧
      (∀ c ∈ [Instr.setmwl 16], (∀ t, c ≠ .perstAssert t) ∧ (∀ r m t, c ≠ .supplyBelowReset r m t)) ∧
      (match step { tSilent with pending := [.setmwl 16] } with | .next v => v.faults.silent | _ => false) = true := by
  refine ⟨rfl, rfl, rfl, ?_, by decide⟩
  intro c hc
  simp only [List.mem_singleton] at hc
  subst hc
  exact ⟨fun _ h => (by cases h), fun _ _ _ h => (by cases h)⟩

/-- A frame error is answered by a NAK under the next sequence of its channel, which is kept for resending (10 R444 to R446). -/
theorem test_nak_numbered : tAfter (.frameError 0 .crc 0) (tPair tMirror) ([], []) (fun v => (v.pair.txSeq, v.pair.replay.map (fun x => x.2.1))) =
    ([1, 0], [0]) := by decide

/-- A regeneration is not repeated before the island was without power for 10 ms (04 R167). -/
theorem test_watermark_early :
    let s : State := { tRun with faults := { tRun.faults with phase := .starting, step := 4 }, munim := { Muniment.reset with wmTries := 1 } }
    let w : WmEnv := { ok := false, took := 0, corrected := 0, failed := [] }
    tAfter (.watermarkRetry w 9999999) s 0 (fun v => v.munim.wmTries) = 1 ∧
      tAfter (.watermarkRetry w 10000000) s 0 (fun v => v.munim.wmTries) = 2 := by decide

/-- No ring register is written in the page of a TDI in RUN without the T bit: the write counts in CW_DROPS (03 R145). -/
theorem test_run_page : tAfter (.rcpHeadWrite 1 0 1 ⟨0, false⟩) (tStall { tBound with tdi := .run }) (0, 1) (fun v => ((ring v 1 0).cwDrops, (ring v 1 0).c)) =
    (1, 0) := by decide
end

section
/-!
PROOFS. What the operations of the response ladder leave: the statuses of the instances, the parts of the state that a
re-execution may change, and the registers of Silence. The commands that end a Hold or serve an engine rest on them.
-/
namespace Sys2Proof
namespace Machine

/-! ### Answers of commands -/

/-- A command of the core in operation answers what its meaning leaves behind the egress gate. -/
theorem coreAct_next {c : Instr} {f : State → State} {s v : State} (hs : Serving s) (hc : exec c s = coreAct f s)
    (hv : f s = v) : exec c s = .next (gate s v) := by
  rw [hc, coreAct_running f s hs, hv]

/-- A command of the core in operation that puts nothing out answers what its meaning leaves. -/
theorem coreAct_next_quiet {c : Instr} {f : State → State} {s v : State} (hs : Serving s) (hc : exec c s = coreAct f s)
    (hv : f s = v) (ho : v.out = s.out) (hp : v.pending = s.pending) : exec c s = .next v :=
  hc.trans (coreAct_quiet hs hv ho hp)

/-- The egress gate touches nothing but the queue and the outputs, so it keeps a change of the evidence alone. -/
theorem EvidenceOnly.gate {r s t : State} (h : EvidenceOnly s t) (hp : r.pending = s.pending) :
    EvidenceOnly s (Machine.gate r t) := by
  have e : r.pending = t.pending := hp.trans h.pending.symm
  unfold EvidenceOnly Machine.gate at *
  rw [e]
  exact h

/-! ### Engine instances -/

theorem modAt_getD {α : Type} (f : α → α) (l : List α) (i : Nat) (d : α) (h : i < l.length) :
    (modAt f l i).getD i d = f (l.getD i d) := by
  induction l generalizing i with
  | nil => simp at h
  | cons a l ih =>
    cases i with
    | zero => rfl
    | succ i => exact ih i (Nat.lt_of_succ_lt_succ h)

/-- A projection that a change of one element keeps is the same along the list. -/
theorem modAt_map {α β : Type} (g : α → β) (f : α → α) (h : ∀ x, g (f x) = g x) (l : List α) (i : Nat) :
    (modAt f l i).map g = l.map g := by
  induction l generalizing i with
  | nil => rfl
  | cons a l ih => cases i <;> simp [modAt, h, ih]

/-- A changed engine, when the kind has it, reads as changed. -/
theorem inst_modInst_same {s : State} {k : EngKind} {i : Nat} (f : Inst → Inst) (h : i < (instsOf s k).length) :
    inst (modInst s k i f) k i = f (inst s k i) := by
  have hk : kindIx k < s.insts.length := by
    by_contra hn
    rw [instsOf, List.getD_eq_default _ _ (Nat.le_of_not_lt hn)] at h
    exact Nat.not_lt_zero i h
  rw [inst, instsOf, modInst, modAt_getD _ _ _ _ hk]
  exact modAt_getD f _ i _ h

theorem inst_congr {s t : State} (h : t.insts = s.insts) (k : EngKind) (i : Nat) : inst t k i = inst s k i := by
  rw [inst, instsOf, h]; rfl

/-- The statuses of all instances, by kind. -/
def statuses (s : State) : List (List InstStatus) := s.insts.map (·.map (·.status))

/-- The status of an engine is read from the statuses. -/
theorem status_eq (s : State) (k : EngKind) (i : Nat) :
    (inst s k i).status = ((statuses s).getD (kindIx k) []).getD i Inst.reset.status := by
  rw [statuses, ← List.map_nil (f := fun x : Inst => x.status), List.getD_map, List.getD_map]
  rfl

theorem status_congr {s t : State} (h : statuses t = statuses s) (k : EngKind) (i : Nat) :
    (inst t k i).status = (inst s k i).status := by
  rw [status_eq, status_eq, h]

/-- A change of one engine that keeps its status keeps all statuses. -/
theorem modInst_statuses (s : State) (k : EngKind) (i : Nat) (f : Inst → Inst) (h : ∀ x, (f x).status = x.status) :
    statuses (modInst s k i f) = statuses s :=
  modAt_map _ _ (fun l => modAt_map _ f h l i) _ _

theorem modInsts_statuses (s : State) (f : Inst → Inst) (h : ∀ x, (f x).status = x.status) :
    statuses (modInsts s f) = statuses s := by
  simp [statuses, modInsts, Function.comp_def, h]

theorem EvidenceOnly.statuses {s t : State} (h : EvidenceOnly s t) : statuses t = statuses s := by
  rw [Machine.statuses, h.insts]; rfl

/-! ### Re-execution -/

/-- The parts of the state that running an order again may change, taken from another state. -/
def rerunParts (t s : State) : State :=
  { s with orders := t.orders, egress := t.egress, insts := t.insts, perf := t.perf, out := t.out,
           munim := { s.munim with keys := t.munim.keys } }

/-- Two states that agree outside the parts of a re-run agree in every other field. -/
theorem rerunParts_field {β : Type} (g : State → β) {t v w : State} (hg : ∀ s, g (rerunParts t s) = g s)
    (h : rerunParts t v = rerunParts t w) : g v = g w := by
  rw [← hg v, h, hg]

theorem leaveRunning_parts (t : State) (o : Order) (s : State) : rerunParts t (leaveRunning o s) = rerunParts t s :=
  by
  refine foldl_keeps (rerunParts t) _ ?_ _ s
  exact fun _ _ => rfl

theorem leaveRunning_statuses (o : Order) (s : State) : statuses (leaveRunning o s) = statuses s := by
  refine foldl_keeps statuses _ ?_ _ s
  exact fun s p => modInst_statuses s p.1 p.2 _ fun _ => rfl

/-- What an order's re-execution does after its TLPs are dropped: nothing but a mark, its end with 0x0512, or its return to
the scheduler; what each of the three keeps, the re-execution keeps. -/
theorem reexec_keeps {β : Type} (g : State → β) (hmod : ∀ s id f, g (modOrder s id f) = g s)
    (hrun : ∀ o s, g (leaveRunning o s) = g s) (hend : ∀ id st w s, g (complete id st w s) = g s)
    (hperf : ∀ i n s, g (perfAdd i n s) = g s) {id : Nat} {s : State} {o : Order} (ho : order? s id = some o) :
    g (reexec id s) = g (dropTlps id s) := by
  unfold reexec
  rw [ho]
  dsimp only
  split
  · rw [hmod]
  · split
    · rfl
    · split
      · rw [hend, hrun, hmod]
      · rw [hperf, hmod, hrun]

theorem reexec_none {id : Nat} {s : State} (h : order? s id = none) : reexec id s = s := by rw [reexec, h]

/-- Running an order again changes orders, egress queue, instances, key locks and counters, and nothing else. -/
theorem reexec_parts (t : State) (id : Nat) (s : State) : rerunParts t (reexec id s) = rerunParts t s := by
  cases h : order? s id with
  | none => rw [reexec_none h]
  | some o => exact reexec_keeps (rerunParts t) (fun _ _ _ => rfl) (leaveRunning_parts t) (fun _ _ _ _ => rfl) (fun _ _ _ => rfl) h

theorem reexec_statuses (id : Nat) (s : State) : statuses (reexec id s) = statuses s := by
  cases h : order? s id with
  | none => rw [reexec_none h]
  | some o => exact reexec_keeps statuses (fun _ _ _ => rfl) leaveRunning_statuses (fun _ _ _ _ => rfl) (fun _ _ _ => rfl) h

theorem leaveRunning_egress (o : Order) (s : State) : (leaveRunning o s).egress = s.egress := by
  refine foldl_keeps State.egress _ ?_ _ s
  exact fun _ _ => rfl

/-- The TLPs of an order that is run again leave the egress queue, and no other. -/
theorem reexec_egress {id : Nat} {s : State} {o : Order} (h : order? s id = some o) :
    (reexec id s).egress = s.egress.filter (fun x => x.order != id) :=
  reexec_keeps State.egress (fun _ _ _ => rfl) leaveRunning_egress (fun _ _ _ _ => rfl) (fun _ _ _ => rfl) h

/-- The start of the input reads changes orders, key locks and outputs, and nothing else. -/
theorem startInput_parts (t : State) (id : Nat) (s : State) : rerunParts t (startInput id s) = rerunParts t s := by
  unfold startInput
  split
  · rfl
  · split
    · rfl
    · dsimp only
      split <;> rfl

/-! ### Silence -/

theorem silenceFrame_insts (level cause : Nat) (s : State) : (silenceFrame level cause s).insts = s.insts := by
  unfold silenceFrame; split <;> rfl

theorem stopEngines_statuses (s : State) : statuses (stopEngines s) = statuses s :=
  modInsts_statuses s _ fun _ => rfl

/-- The evidence that Silence leaves before it takes hold: the record and the Tallies of its level (11 R495, R512). -/
def silenceEvidence (level cause : Nat) (s : State) : State :=
  let s1 := record 0x0D01 (if level = 2 then sevZeroize else sevSilence) cause level (startNumber s) s
  let s2 := tallyAdd 6 1 s1
  if level = 2 then tallyAdd 7 1 s2 else s2

theorem silenceEvidence_frame (level cause : Nat) (s : State) : EvidenceOnly s (silenceEvidence level cause s) := by
  have h (sev : Nat) : EvidenceOnly s (tallyAdd 6 1 (record 0x0D01 sev cause level (startNumber s) s)) :=
    (tallyAdd_frame 6 1 _).after (record_frame _ _ _ _ _ _)
  unfold silenceEvidence
  dsimp only
  by_cases hl : level = 2
  · rw [if_pos hl]
    exact (h _).trans (tallyAdd_frame _ _ _)
  · rw [if_neg hl]
    exact h _

/-- Entry to Silence ends with these registers (11 R495, R497). -/
theorem silenceAt_loud (level cause : Nat) {s : State} (h : s.faults.silent = false) :
    let v := silenceAt level cause s
    v.faults.silent = true ∧ v.faults.phase = .silent ∧ v.faults.lastCause = cause ∧ v.faults.lastLevel = level ∧
      v.egress = [] := by
  simp [silenceAt, h]

/-- Silence stops the engines and gives no engine another status. -/
theorem silenceAt_statuses (level cause : Nat) (s : State) : statuses (silenceAt level cause s) = statuses s := by
  have hr : ∀ sev, EvidenceOnly s (record 0x0D01 sev cause level (startNumber s) s) := fun _ => record_frame _ _ _ _ _ _
  unfold silenceAt
  dsimp only
  split
  · split
    · rw [(tallyAdd_frame _ _ _).statuses]
      exact (hr _).statuses
    · exact (hr _).statuses
  · calc statuses (beginFlush (stopEngines (silenceFrame level cause (silenceEvidence level cause s))))
        = statuses (stopEngines (silenceFrame level cause (silenceEvidence level cause s))) := (beginFlush_frame _).statuses
      _ = statuses (silenceFrame level cause (silenceEvidence level cause s)) := stopEngines_statuses _
      _ = statuses (silenceEvidence level cause s) := by rw [statuses, silenceFrame_insts]; rfl
      _ = statuses s := (silenceEvidence_frame level cause s).statuses

/-! ### Retirement and promotion -/

/-- What its retirement makes of an engine (11 R504). -/
def asRetired (x : Inst) : Inst :=
  { x with status := .retired, strikes := [], heldFor := none, discard := [], wregs := [], loomBufs := [], heldBy := none,
           checks := [], masks := [] }

/-- Retirement changes no other status, whatever follows from it: evidence, re-executions, Silence (11 R504, R505). -/
theorem retire_statuses {s : State} {k : EngKind} {i : Nat} (why : Nat) (h : (inst s k i).status ≠ .retired) :
    statuses (retire k i why s) = statuses (modInst s k i asRetired) := by
  have hre : ∀ ids : List Nat, statuses (ids.foldl (fun s id => reexec id s)
      (event 5 (record 0x0601 sevNote (engCode k i) 1 why (modInst s k i asRetired)))) = statuses (modInst s k i asRetired) :=
    fun ids => (foldl_keeps statuses _ (fun s id => reexec_statuses id s) ids _).trans
      ((event_frame _ _).after (record_frame _ _ _ _ _ _)).statuses
  have hev : ∀ v, statuses v = statuses (modInst s k i asRetired) → statuses (event 7 v) = statuses (modInst s k i asRetired) :=
    fun v hv => (event_frame 7 v).statuses.trans hv
  rw [retire, if_neg (by simpa using h)]
  dsimp only
  split <;> split
  · exact (silenceAt_statuses _ _ _).trans (hev _ (hre _))
  · exact hev _ (hre _)
  · exact (silenceAt_statuses _ _ _).trans (hre _)
  · exact hre _

/-- An engine that the part has is retired by its retirement (01 R35). -/
theorem retire_status {s : State} {k : EngKind} {i : Nat} (why : Nat) (h : i < (instsOf s k).length) :
    (inst (retire k i why s) k i).status = .retired := by
  by_cases hr : (inst s k i).status = .retired
  · rw [retire, if_pos (by simp [hr]), hr]
  · rw [status_congr (retire_statuses why hr), inst_modInst_same _ h]
    rfl

/-- A promoted spare takes the place of the engine that the search gives, and else only the evidence changes (01 R35). -/
theorem promote_frame {s : State} {k : EngKind} {j i : Nat}
    (h : (withStatus s k .retired).find? (fun i => groupOf k i == groupOf k j &&
      !((instsOf s k).any (fun x => x.replaces == some i))) = some i) :
    EvidenceOnly (modInst s k j (fun x => { x with status := .active, gated := false, replaces := some i })) (promote k j s) := by
  have hs2 := (event_frame 6 _).after (record_frame 0x0601 sevInfo (engCode k j) 2 i
    (modInst s k j (fun x => { x with status := .active, gated := false, replaces := some i })))
  simp only [promote, h]
  split
  · exact (event_frame _ _).after hs2
  · exact hs2

end Machine
end Sys2Proof
end

section
/-!
PROOFS. The queue of commands, and the commands that test, retire and promote engine instances (01 R35; 11 R499 to R504).
-/
namespace Sys2Proof
namespace Machine

/-- Settles O57: a step is the command at the front of the queue, and an empty queue idles. -/
theorem stepRunsFront : Obligations.StepRunsFront :=
  ⟨fun _ _ _ => rfl, fun s h => by rw [step, h]⟩

/-- A command that only moves the time passes the egress gate as it is. -/
theorem gate_tick (s : State) (t : Nat) : gate s (tick t s) = tick t s := gate_quiet s _ rfl rfl

/-! ### What the commands of the instances answer in operation -/

section
variable {s : State} (hs : Serving s) (k : EngKind) (i t : Nat)
include hs

theorem periodicKat_next (ok : Bool) : exec (.periodicKat k i ok t) s = .next (gate s
    (if ((inst s k i).status == .active || (inst s k i).status == .spare) && !ok then retire k i 4 (tick t s) else tick t s)) :=
  coreAct_next hs (by rfl) rfl

theorem progressWatchdogExpiry_next : exec (.progressWatchdogExpiry k i t) s = .next (gate s
    (if (inst s k i).status == .active || (inst s k i).status == .suspect then retire k i 3 (tick t s) else tick t s)) :=
  coreAct_next hs (by rfl) rfl

theorem suspectSelftestDone_next (ok : Bool) : exec (.suspectSelftestDone k i ok t) s = .next (gate s
    (if (inst s k i).status != .suspect || !instEmpty s k i then tick t s
     else if ok then record 0x0601 sevInfo (engCode k i) 3 0 (modInst (tick t s) k i (fun x => { x with status := .active }))
     else retire k i 1 (tick t s))) :=
  coreAct_next hs (by rfl) rfl

theorem sparePromotion_next (ok : Bool) : exec (.sparePromotion k i ok t) s = .next (gate s
    (if (inst s k i).status != .spare then tick t s
     else if ok then promote k i (tick t s) else retire k i 4 (tick t s))) :=
  coreAct_next hs (by rfl) rfl

theorem scrubRegion_next (region : Nat) : exec (.scrubRegion k i region) s = .next
    (if region < 8 ∧ (k = .forge ∨ k = .kiln) then modInst s k i (fun x => { x with dirty := x.dirty - 1 }) else s) := by
  refine coreAct_next_quiet hs (by rfl) (if_congr (by simp) rfl rfl) ?_ ?_
  · split <;> rfl
  · split <;> rfl

end

/-- A command that retires an engine of the part leaves it retired. -/
theorem does_retire {c : Instr} {s : State} {k : EngKind} {i : Nat} (t why : Nat) (hi : i < (instsOf s k).length)
    (hc : exec c s = .next (gate s (retire k i why (tick t s)))) : Does c s (fun v => (inst v k i).status = .retired) :=
  ⟨_, hc, retire_status (s := tick t s) why hi⟩

/-- A command that changes one engine of the part, and else only the evidence, leaves the engine as changed. -/
theorem does_modInst {c : Instr} {s v : State} {k : EngKind} {i t : Nat} {f : Inst → Inst} (hi : i < (instsOf s k).length)
    (hc : exec c s = .next (gate s v)) (hv : EvidenceOnly (modInst (tick t s) k i f) v) :
    Does c s (fun v => inst v k i = f (inst s k i) ∧ EvidenceOnly (modInst (tick t s) k i f) v) := by
  have hg : EvidenceOnly (modInst (tick t s) k i f) (gate s v) := hv.gate rfl
  exact ⟨_, hc, (inst_congr hg.insts k i).trans (inst_modInst_same (s := tick t s) f hi), hg⟩

/-- Settles O38: each command of an engine retires it, returns it, promotes it or leaves it, by the engine's status. -/
theorem instanceRows : Obligations.InstanceRows := by
  unfold Obligations.InstanceRows
  intro s k i t hs hi
  dsimp only
  refine ⟨fun h => ?katFails, ?katPasses, fun h => ?watchdogRetires, fun h => ?watchdogIgnored, fun h he => ⟨?testFails, ?testPasses⟩, fun ok h => ?testIgnored, fun h => ?promotionFails, fun h j hj => ?promotionPasses,
    fun ok h => ?promotionIgnored, scrubRegion_next hs k i⟩
  case katFails =>
    refine does_retire t 4 hi ((periodicKat_next hs k i t false).trans ?_)
    rcases h with h | h <;> rw [h] <;> rfl
  case katPasses => rw [periodicKat_next hs, Bool.not_true, Bool.and_false, if_neg Bool.false_ne_true, gate_tick]
  case watchdogRetires =>
    refine does_retire t 3 hi ((progressWatchdogExpiry_next hs k i t).trans ?_)
    rcases h with h | h <;> rw [h] <;> rfl
  case watchdogIgnored =>
    rw [progressWatchdogExpiry_next hs]
    rcases h with h | h <;> rw [h] <;> exact congrArg _ (gate_tick s t)
  case testFails => exact does_retire t 1 hi ((suspectSelftestDone_next hs k i t false).trans (by rw [h, he]; rfl))
  case testPasses =>
    obtain ⟨v, hv, hx, hf⟩ := does_modInst hi ((suspectSelftestDone_next hs k i t true).trans (by rw [h, he]; rfl))
      (record_frame 0x0601 sevInfo (engCode k i) 3 0 (modInst (tick t s) k i fun x => { x with status := .active }))
    exact ⟨v, hv, by rw [hx], hf⟩
  case testIgnored =>
    rw [suspectSelftestDone_next hs, if_pos, gate_tick]
    rcases h with h | h <;> simp [h]
  case promotionFails => exact does_retire t 4 hi ((sparePromotion_next hs k i t false).trans (by rw [h]; rfl))
  case promotionPasses =>
    obtain ⟨v, hv, hx, hf⟩ := does_modInst hi ((sparePromotion_next hs k i t true).trans (by rw [h]; rfl)) (promote_frame hj)
    exact ⟨v, hv, by rw [hx], by rw [hx], by rw [hx], hf⟩
  case promotionIgnored => rw [sparePromotion_next hs, if_pos (by simpa using h), gate_tick]

end Machine
end Sys2Proof
end

section
/-!
PROOFS. The ends of part Holds and what becomes of a queue that is reset (01 R41, R42, R47; 11 R488, R491, R494, R499).
-/
namespace Sys2Proof
namespace Machine

/-- A command of the worlds on a live part answers what its meaning leaves behind the egress gate. -/
theorem worldAct_next {c : Instr} {f : State → State} {s v : State} (hs : alive s = true) (hc : exec c s = worldAct f s)
    (hv : f s = v) : exec c s = .next (gate s v) := by
  rw [hc, worldAct_alive f s hs, hv]

/-! ### The end of a Hold -/

/-- Outside a part Hold no message is held, and a message changes nothing of the ladder, the Stalls and the MRAM (02 R120,
R121). -/
theorem sendMsix_outside_hold (v : Nat) {s : State} (h : s.faults.holdCovered = false) :
    (sendMsix v s).pcie.heldMsgs = s.pcie.heldMsgs ∧ (sendMsix v s).mram = s.mram := by
  unfold sendMsix inHold
  rw [h]
  split
  · exact ⟨rfl, rfl⟩
  · split <;> exact ⟨rfl, rfl⟩

/-- The messages of a list go out one by one as `sendMsix_outside_hold` says of one. -/
theorem sendAll_outside_hold (l : List Nat) {s : State} (h : s.faults.holdCovered = false) :
    let v := l.foldl (fun s v => sendMsix v s) s
    v.faults = s.faults ∧ v.pcie.heldMsgs = s.pcie.heldMsgs ∧ v.stalls = s.stalls ∧ v.mram = s.mram := by
  induction l generalizing s with
  | nil => exact ⟨rfl, rfl, rfl, rfl⟩
  | cons a l ih =>
    have hf := sendMsix_frame a s
    obtain ⟨hheld, hmram⟩ := sendMsix_outside_hold a h
    obtain ⟨h1, h2, h3, h4⟩ := ih (s := sendMsix a s) (by rw [hf.faults]; exact h)
    exact ⟨h1.trans hf.faults, h2.trans hheld, h3.trans hf.stalls, h4.trans hmram⟩

theorem rereadStaged_parts (t s : State) : rerunParts t (rereadStaged s) = rerunParts t s :=
  foldl_keeps (rerunParts t) _ (fun s id => startInput_parts t id s) _ s

/-- The Hold is over: it is not in force, nothing is tainted and no message is held; the Stalls and the MRAM are as they were
(11 R491). -/
theorem endHold_leaves (s : State) :
    let v := endHold s
    v.faults.holdCovered = false ∧ v.faults.holdTaint = false ∧ v.pcie.heldMsgs = [] ∧ v.stalls = s.stalls ∧ v.mram = s.mram := by
  unfold endHold
  dsimp only
  set s1 := perfAdd 13 ((s.clock - s.faults.holdAt) / 10)
    { s with faults := { s.faults with holdCovered := false, holdTaint := false }, pcie := { s.pcie with heldMsgs := [] } } with h1
  set s2 := (if s.faults.holdTaint then taintedIds s else []).foldl (fun s id => reexec id s) s1 with h2
  have hs2 : rerunParts s s2 = rerunParts s s1 := foldl_keeps (rerunParts s) _ (fun v id => reexec_parts s id v) _ s1
  have hw : rerunParts s (if s.faults.holdTaint then s2 else rereadStaged s2) = rerunParts s s1 := by
    split
    · exact hs2
    · exact (rereadStaged_parts s s2).trans hs2
  generalize (if s.faults.holdTaint then s2 else rereadStaged s2) = w at hw ⊢
  have hf : w.faults = s1.faults := rerunParts_field State.faults (fun _ => rfl) hw
  have hp : w.pcie = s1.pcie := rerunParts_field State.pcie (fun _ => rfl) hw
  have hst : w.stalls = s1.stalls := rerunParts_field State.stalls (fun _ => rfl) hw
  have hm : w.mram = s1.mram := rerunParts_field State.mram (fun _ => rfl) hw
  obtain ⟨g1, g2, g3, g4⟩ := sendAll_outside_hold s.pcie.heldMsgs (s := w) (by rw [hf]; rfl)
  exact ⟨by rw [g1, hf]; rfl, by rw [g1, hf]; rfl, by rw [g2, hp]; rfl,
    g3.trans hst, g4.trans hm⟩

theorem holdEnd_next {s : State} (hs : alive s = true) (t : Nat) : exec (.holdEnd t) s =
    .next (gate s (if s.faults.holdCovered && s.faults.holds.isEmpty then endHold (tick t s) else tick t s)) :=
  worldAct_next hs (by rfl) rfl

theorem transmitBufferSelftestDone_next {s : State} (hs : Serving s) (ok : Bool) (t : Nat)
    (h : HoldCause.releaseCrc ∈ s.faults.holds) : exec (.transmitBufferSelftestDone ok t) s =
    .next (gate s (if ok then holdClear .releaseCrc (tick t s) else silence 0x0002 (tick t s))) := by
  refine coreAct_next hs (by rfl) ?_
  exact if_neg (by simpa using h)

/-! ### Queues -/

/-- A pointer mismatch of a queue is put down with its time (01 R42). -/
def withMismatch (q : QueueId) (s : State) : State :=
  { s with faults := { s.faults with queueTimes := s.faults.queueTimes ++ [(queueIx q, s.clock)] } }

/-- A pointer mismatch while every earlier one lies within 1 s: it is recorded and the contents are lost, and a third on the
queue is Silence (01 R42; 11 R499). -/
theorem queuePointerMismatch_next {s : State} (hs : Serving s) (q : QueueId) (t : Nat)
    (h : ∀ p ∈ s.faults.queueTimes, (tick t s).clock < p.2 + 1000000000) :
    exec (.queuePointerMismatch q t) s = .next (gate s
      (let s1 := loseQueue q (note 0x0D 12 (withMismatch q (tick t s)))
       if 3 ≤ ((withMismatch q (tick t s)).faults.queueTimes.filter (fun p => p.1 == queueIx q)).length
       then silence 0x0004 s1 else s1)) := by
  refine coreAct_next hs (by rfl) ?_
  have hk : s.faults.queueTimes.filter (fun p => decide ((tick t s).clock < p.2 + 1000000000)) = s.faults.queueTimes :=
    List.filter_eq_self.mpr fun p hp => decide_eq_true (h p hp)
  dsimp only
  rw [tick_faults, hk]
  rfl

/-- The first mismatch of any queue is recorded and its contents are lost (01 R41). -/
theorem queuePointerMismatch_first {s : State} (hs : Serving s) (q : QueueId) (t : Nat) (h : s.faults.queueTimes = []) :
    exec (.queuePointerMismatch q t) s = .next (gate s (loseQueue q (note 0x0D 12 (withMismatch q (tick t s))))) := by
  rw [queuePointerMismatch_next hs q t (by simp [h])]
  simp [withMismatch, h]

/-- Settles O37: the end of a Hold, the test of the transmit buffer, and lost queues. -/
theorem holdRows : Obligations.HoldRows := by
  unfold Obligations.HoldRows
  intro s t
  dsimp only
  refine ⟨fun ha hc hh => ?holdEnds, fun ha hn => ?holdStays, fun ho hm => ⟨?bufferPasses, ?bufferFails⟩, fun ho hq => ⟨?courierLost, ?hopperLost, fun c => ?clerkLost⟩,
    fun ho a b hq ha hb => ?thirdLoss, fun hs id => ?requestRemade⟩
  case holdEnds =>
    rw [Does, holdEnd_next ha, hc, hh]
    exact ⟨_, rfl, endHold_leaves (tick t s)⟩
  case holdStays =>
    rw [holdEnd_next ha, if_neg, gate_tick]
    rcases hn with h | h <;> simp [h]
  case bufferPasses =>
    exact (transmitBufferSelftestDone_next ho.1 true t hm).trans (congrArg _ (gate_quiet s (holdClear .releaseCrc (tick t s)) rfl rfl))
  case bufferFails =>
    obtain ⟨hsil, -, hcause, hlevel, -⟩ := silenceAt_loud 1 0x0002 (s := tick t s) ho.2
    exact ⟨_, transmitBufferSelftestDone_next ho.1 false t hm, hsil, hcause, hlevel⟩
  case courierLost => exact ⟨_, queuePointerMismatch_first ho.1 .courier t hq, (note_frame _ _ _).gate rfl⟩
  case hopperLost =>
    have hn := note_frame 0x0D 12 (withMismatch .hopper (tick t s))
    have hd := congrArg (fun v => v.side.hopDrops) hn
    exact ⟨_, queuePointerMismatch_first ho.1 .hopper t hq, rfl, congrArg (satAdd 16 · 1) hd, hn.orders, hn.rings⟩
  case clerkLost =>
    have hn := note_frame 0x0D 12 (withMismatch (.clerkControl c) (tick t s))
    exact ⟨_, queuePointerMismatch_first ho.1 (.clerkControl c) t hq, congrArg (List.map _) hn.orders, hn.rings, hn.stalls⟩
  case thirdLoss =>
    have hr : ∀ p ∈ s.faults.queueTimes, (tick t s).clock < p.2 + 1000000000 := by
      rw [hq]
      exact List.forall_mem_cons.mpr ⟨ha, List.forall_mem_singleton.mpr hb⟩
    have h3 : 3 ≤ ((withMismatch .courier (tick t s)).faults.queueTimes.filter (fun p => p.1 == queueIx .courier)).length := by
      simp [withMismatch, hq, queueIx]
    have hl : (note 0x0D 12 (withMismatch .courier (tick t s))).faults.silent = false := by
      rw [(note_frame _ _ _).faults]
      exact ho.2
    obtain ⟨hsil, -, hcause, -, -⟩ := silenceAt_loud 1 0x0004 hl
    refine ⟨_, queuePointerMismatch_next ho.1 .courier t hr, ?_⟩
    rw [if_pos h3]
    exact ⟨hsil, hcause⟩
  case requestRemade => exact coreAct_next_quiet hs (by rfl) rfl rfl rfl

end Machine
end Sys2Proof
end

section
/-!
PROOFS. From the compare to the receipt (01 R45 to R51; 02 R98, R106; 05 R280; 09 R431): what the operations on an order's
output leave, and the commands of the release point.
-/
namespace Sys2Proof
namespace Machine

/-! ### One order of the part -/

theorem order?_congr {s t : State} (h : t.orders = s.orders) (id : Nat) : order? t id = order? s id := by
  rw [order?, h]; rfl

@[simp] theorem order?_tick (t : Nat) (s : State) (id : Nat) : order? (tick t s) id = order? s id := rfl

/-- An update of one order that keeps its name is read there. -/
theorem order?_modOrder_same {s : State} {id : Nat} {o : Order} {f : Order → Order} (hf : ∀ x, (f x).id = x.id)
    (h : order? s id = some o) : order? (modOrder s id f) id = some (f o) := by
  rw [order?_modOrder s id f hf, h, Option.map_some, if_pos (order?_id h)]

/-- An update of all orders that keeps their names is read at every order. -/
theorem order?_map {s t : State} {f : Order → Order} (hf : ∀ x, (f x).id = x.id) (h : t.orders = s.orders.map f) (id : Nat) :
    order? t id = (order? s id).map f := by
  have hp : ((fun o : Order => o.id == id) ∘ f) = fun o => o.id == id := funext fun o => by simp [hf]
  rw [order?, h, List.find?_map, hp]
  rfl

/-- A settled order is done with its result, and its instances are free (01 R50; 02 R100). -/
theorem order?_settle {s : State} {id : Nat} {o : Order} (r : Result) (h : order? s id = some o) :
    order? (settle id r s) id = some { o with stage := .done, result := some r, copyA := none, copyB := none, insts := [],
                                              compareAt := s.clock } :=
  order?_modOrder_same (fun _ => rfl) h

/-! ### Output -/

/-- The writes of an order's output and auxiliary output (02 R76; 01 R54). -/
def outTlps (s : State) (o : Order) (r : Result) : List Tlp :=
  (outPieces r.out.length.succ o.outIova r.out).map (mkTlp s o .output (ring s o.stall o.ring).outRlx) ++
    (outPieces r.aux.length.succ o.auxIova r.aux).map (mkTlp s o .aux (ring s o.stall o.ring).outRlx)

/-- A Loom hands over what fits ahead of the release point, and keeps the rest (05 R280). -/
theorem handOver_leaves {s : State} {id : Nat} {o : Order} (h : order? s id = some o) :
    let n := fitAhead (16384 - queuedAhead s id) o.outWait
    let v := handOver id s
    order? v id = some { o with outWait := o.outWait.drop n } ∧ v.egress = s.egress ++ o.outWait.take n ∧
      { v with orders := s.orders, egress := s.egress } = s := by
  dsimp only
  have e : handOver id s = if fitAhead (16384 - queuedAhead s id) o.outWait = 0 then s
      else modOrder { s with egress := s.egress ++ o.outWait.take (fitAhead (16384 - queuedAhead s id) o.outWait) } id
        (fun x => { x with outWait := x.outWait.drop (fitAhead (16384 - queuedAhead s id) o.outWait) }) := by
    rw [handOver, h]
    rfl
  by_cases hn : fitAhead (16384 - queuedAhead s id) o.outWait = 0
  · rw [e, if_pos hn, hn, List.take_zero, List.append_nil, List.drop_zero]
    exact ⟨h, rfl, rfl⟩
  · rw [e, if_neg hn]
    exact ⟨order?_modOrder_same (fun _ => rfl) h, rfl, rfl⟩

section
variable {s : State} {id : Nat} {o : Order} {r : Result} (h : order? s id = some o) (hr : o.result = some r)
include h hr

/-- Output that went before, or goes with the receipt, leaves the egress queue as it is (02 R76). -/
theorem queueOutput_kept (hk : (o.outSent || inlineOut o) = true) :
    queueOutput id s = modOrder s id (fun x => { x with outSent := true }) := by
  simp only [queueOutput, h, hr, hk, if_true]

/-- The output of a Loom order is handed over as far as it may run ahead (05 R280). -/
theorem queueOutput_loom (hk : ¬ (o.outSent || inlineOut o) = true) (hl : classKind o.opcode = some .loom) :
    queueOutput id s = handOver id (modOrder s id (fun x => { x with outSent := true, outWait := outTlps s o r })) := by
  simp only [queueOutput, h, hr, hk, hl, if_true]
  rfl

/-- The output of every other order enters the egress queue whole (02 R106). -/
theorem queueOutput_whole (hk : ¬ (o.outSent || inlineOut o) = true) (hl : classKind o.opcode ≠ some .loom) :
    queueOutput id s = modOrder { s with egress := s.egress ++ outTlps s o r } id (fun x => { x with outSent := true }) := by
  simp only [queueOutput, h, hr, hk, hl, if_false]
  rfl

/-- What the queueing of an order's output leaves, when nothing of it waits at a Loom. -/
theorem queueOutput_leaves (hw : o.outWait = []) :
    let tl := if o.outSent || inlineOut o then [] else outTlps s o r
    let n := if classKind o.opcode = some .loom then fitAhead (16384 - queuedAhead s id) tl else tl.length
    let v := queueOutput id s
    order? v id = some { o with outSent := true, outWait := tl.drop n } ∧ v.egress = s.egress ++ tl.take n ∧
      { v with orders := s.orders, egress := s.egress } = s := by
  dsimp only
  by_cases hk : (o.outSent || inlineOut o) = true
  · rw [queueOutput_kept h hr hk, if_pos hk, List.drop_nil, List.take_nil, List.append_nil, ← hw]
    exact ⟨order?_modOrder_same (fun _ => rfl) h, rfl, rfl⟩
  · rw [if_neg hk]
    by_cases hl : classKind o.opcode = some .loom
    · rw [queueOutput_loom h hr hk hl, if_pos hl]
      have hm := order?_modOrder_same (f := fun x => { x with outSent := true, outWait := outTlps s o r }) (fun _ => rfl) h
      obtain ⟨ho, he, hf⟩ := handOver_leaves hm
      refine ⟨ho, he, ?_⟩
      exact congrArg (fun v : State => { v with orders := s.orders, egress := s.egress }) hf
    · rw [queueOutput_whole h hr hk hl, if_neg hl, List.take_length, List.drop_length, ← hw]
      exact ⟨order?_modOrder_same (fun _ => rfl) h, rfl, rfl⟩

end

/-! ### Compare -/

theorem freeSlots_parts (t : State) (o : Order) (s : State) :
    { freeSlots o s with insts := t.insts } = { s with insts := t.insts } := by
  refine foldl_keeps (fun v : State => { v with insts := t.insts }) _ ?_ _ s
  exact fun _ _ => rfl

/-- The engine time of an order is counted with its kind (01 R51; 15 R641). -/
def engineCounted (o : Order) (s : State) : State :=
  match classKind o.opcode with
  | some k => perfAdd (4 + kindIx k) ((s.clock - o.dispatchAt) * 8 / 5) s
  | none => s

theorem engineCounted_parts (t : State) (o : Order) (s : State) :
    { engineCounted o s with perf := t.perf } = { s with perf := t.perf } := by
  unfold engineCounted
  split <;> rfl

/-- The state in which the compare of an order has found its copies equal: its engine time is known and counted, its slots wait
for their scrub (01 R51; 06 R325). -/
def comparedWell (o : Order) (s : State) : State :=
  freeSlots o (engineCounted o (modOrder s o.id (fun x => { x with engTime := s.clock - x.dispatchAt })))

/-- Equal copies change the engine time of the order, and else only instances and counters. -/
theorem comparedWell_parts (o : Order) (s : State) :
    { comparedWell o s with insts := s.insts, perf := s.perf } =
      modOrder s o.id (fun x => { x with engTime := s.clock - x.dispatchAt }) := by
  set s1 := modOrder s o.id (fun x => { x with engTime := s.clock - x.dispatchAt })
  have hi := freeSlots_parts s o (engineCounted o s1)
  have hp := engineCounted_parts s o s1
  calc ({ comparedWell o s with insts := s.insts, perf := s.perf } : State)
      = { ({ engineCounted o s1 with insts := s.insts } : State) with perf := s.perf } :=
        congrArg (fun v : State => { v with perf := s.perf }) hi
    _ = s1 := congrArg (fun v : State => { v with insts := s.insts }) hp

/-- Copies that agree, of an order at its first run that no write fault has met, are released as they are (01 R51). -/
theorem compareAndRelease_equal {s : State} {id : Nat} {o : Order} {r : Result} (hs : Serving s) (t : Nat)
    (ho : order? s id = some o) (hst : o.stage = .computed) (ha : o.copyA = some r) (hb : o.copyB = some r)
    (hwf : o.wfault = []) (hwh : o.withheld = none) :
    exec (.compareAndRelease id .none t) s =
      .next (gate s (queueOutput id (settle id r (comparedWell o (tick t s))))) := by
  refine coreAct_next hs (by rfl) ?_
  obtain rfl := order?_id ho
  have hu : order? (tick t s) o.id = some o := ho
  have hf : withWriteFault o r = r := by
    have h0 : (writeRanges o r).findSome? (fun w => (pagesOf w.1 w.2).findSome? (fun p =>
        (o.wfault.find? (fun f => f.1 == p)).map (fun f => (f.2, (inPage w.1 w.2 p).1)))) = none := by
      simp [hwf, List.findSome?_eq_none_iff]
    rw [withWriteFault, h0]
  have hc : compareFails .none r r = false := by simp [compareFails, disturb]
  have hr : ∀ v, retryStrikes o r v = v := fun v => by rw [retryStrikes, hwh]
  simp only [hu, hst, ha, hb, hc, hf, hr]
  rfl

/-! ### The egress checker -/

/-- Reports of ended invalidations change the invalidations and the outputs, and nothing else (03 R131). -/
theorem finishInvs_parts (t s : State) :
    { finishInvs s with pcie := t.pcie, out := t.out } = { s with pcie := t.pcie, out := t.out } := by
  refine foldl_keeps (fun v : State => { v with pcie := t.pcie, out := t.out }) _ ?_ _ s
  intro v i
  dsimp only
  split <;> rfl

@[simp] theorem finishInvs_faults (s : State) : (finishInvs s).faults = s.faults := (congrArg State.faults (finishInvs_parts s s) :)

@[simp] theorem finishInvs_egress (s : State) : (finishInvs s).egress = s.egress := (congrArg State.egress (finishInvs_parts s s) :)

@[simp] theorem finishInvs_pending (s : State) : (finishInvs s).pending = s.pending :=
  (congrArg State.pending (finishInvs_parts s s) :)

/-- A fold of steps that only add outputs only adds outputs. -/
theorem foldl_out {α : Type} (f : State → α → State) (h : ∀ s a, s.out <+: (f s a).out) (l : List α) (s : State) :
    s.out <+: (l.foldl f s).out := by
  induction l generalizing s with
  | nil => exact List.prefix_rfl
  | cons a l ih => exact (h s a).trans (ih _)

theorem finishInvs_out (s : State) : s.out <+: (finishInvs s).out := by
  refine foldl_out _ ?_ _ s
  intro v i
  dsimp only
  split
  · exact List.prefix_rfl
  · exact List.prefix_append _ _

/-- Outside Silence what the egress checker has put out passes with the reports of ended invalidations. -/
theorem gate_finishInvs {s v : State} (h : s.faults.silent = false) (ho : s.out <+: v.out) (hp : v.pending = s.pending) :
    gate s (finishInvs v) = finishInvs v := by
  obtain ⟨l, hl⟩ := ho.trans (finishInvs_out v)
  exact gate_appends s _ l h hl.symm ((finishInvs_pending v).trans hp)

/-- What the checker does outside Silence is what it answers. -/
theorem egress_answers {c : Instr} {s v : State} (h : s.faults.silent = false) (hx : exec c s = .next (gate s (finishInvs v)))
    (ho : s.out <+: v.out) (hp : v.pending = s.pending) : exec c s = .next (finishInvs v) :=
  hx.trans (congrArg _ (gate_finishInvs h ho hp))

/-- A mismatched TLP is out of the queue, and the time of the mismatch is kept, the only one within 1 s (11 R499). -/
def crcTaken (rest : List Tlp) (s : State) : State :=
  { s with egress := rest, faults := { s.faults with crcTimes := [s.clock] } }

/-- The state of the first release CRC mismatch: the part Hold begins and is recorded (11 R499). -/
def crcHeld (x : Tlp) (rest : List Tlp) (s : State) : State :=
  record 0x0D02 sevHold 1 x.stall 0 (holdEnter .releaseCrc true (crcTaken rest s))

section
variable {s : State} (hs : Serving s) (f : TlpFault) (t : Nat)
include hs

/-- With nothing queued, and during a part Hold, nothing passes the checker (01 R45; 11 R488). -/
theorem egressCheck_idle (h : s.egress = [] ∨ s.faults.holdCovered = true) :
    exec (.egressCheck f t) s = .next (gate s (finishInvs (tick t s))) := by
  refine coreAct_next hs (by rfl) ?_
  have hh : inHold (tick t s) = s.faults.holdCovered := rfl
  dsimp only
  rcases h with h | h
  · rw [tick_egress, h]
  · split
    · rfl
    · rw [hh, h, if_pos rfl]

variable {x : Tlp} {rest : List Tlp} (he : s.egress = x :: rest) (hh : s.faults.holdCovered = false)
include he hh

/-- A TLP of an old generation is discarded (03 R157). -/
theorem egressCheck_old (hg : x.gen ≠ (stall s x.stall).gen) :
    exec (.egressCheck f t) s = .next (gate s (finishInvs { tick t s with egress := rest })) := by
  refine coreAct_next hs (by rfl) ?_
  have hi : inHold (tick t s) = false := hh
  have hg' : x.gen ≠ (stall (tick t s) x.stall).gen := hg
  simp only [tick_egress, he, hi, hg', ne_eq, not_false_eq_true, if_true, Bool.false_eq_true, if_false]

variable (hg : x.gen = (stall s x.stall).gen) (ha : (stall s x.stall).ats = false)
include hg ha

/-- The head of the queue crosses the release point when its payload and its address check (01 R45, R46). -/
theorem egressCheck_pass (hc : releaseCrcs x.data = x.crcs) (hp : permitted s x x.addr x.data.length = true) :
    exec (.egressCheck .none t) s = .next (gate s (finishInvs (passTlp x { tick t s with egress := rest }))) := by
  refine coreAct_next hs (by rfl) ?_
  have hi : inHold (tick t s) = false := hh
  have hg' : x.gen = (stall (tick t s) x.stall).gen := hg
  have hw : writePages (tick t s) x = [] := by
    have ha' : (stall (tick t s) x.stall).ats = false := ha
    simp [writePages, ha']
  have hp' : permitted (tick t s) x x.addr x.data.length = true := hp
  simp only [tick_egress, he, hi, ← hg', hw, hc, hp', ne_eq, not_true_eq_false, if_false, Bool.false_eq_true, List.any_nil,
    Bool.not_true]

/-- A head of the queue whose payload fails its release CRC, the first within 1 s, withholds its order (01 R47; 11 R499). -/
theorem egressCheck_badCrc (b : Bytes) (hc : releaseCrcs b ≠ x.crcs) (h0 : s.faults.crcTimes = []) :
    exec (.egressCheck (.readBack b) t) s = .next (gate s (finishInvs (reexec x.order (crcHeld x rest (tick t s))))) := by
  refine coreAct_next hs (by rfl) ?_
  have hi : inHold (tick t s) = false := hh
  have hg' : x.gen = (stall (tick t s) x.stall).gen := hg
  have hw : writePages (tick t s) x = [] := by
    have ha' : (stall (tick t s) x.stall).ats = false := ha
    simp [writePages, ha']
  simp only [tick_egress, he, hi, ← hg', hw, hc, ne_eq, not_true_eq_false, not_false_eq_true, if_false, if_true,
    Bool.false_eq_true, List.any_nil, within, tick_faults, h0, List.filter_nil, List.nil_append, List.length_singleton,
    Nat.not_succ_le_self, crcHeld, crcTaken]

end

/-- An order that does not wait for its output to leave goes nowhere when output of it has left (09 R431). -/
theorem afterOutput_idle {s : State} {id : Nat} {o : Order} (ho : order? s id = some o) (h : o.stage ≠ .waitCommit) :
    afterOutput id s = s := by
  unfold afterOutput
  rw [ho]
  dsimp only
  split
  · exact absurd ‹o.stage = .waitCommit› h
  · rfl

/-- A TLP has left with the Stall's PASID, and its bytes are counted (01 R45; 03 R141). -/
def outputLeft (x : Tlp) (s : State) : State :=
  perfAdd 3 x.data.length (modStall (emit (.memWrite x.stall (pasidOf s x.stall) x.addr x.data x.relaxed x.tbit x.kind) s) x.stall
    (fun y => { y with bytesOut := y.bytesOut + x.data.length }))

/-- An output TLP leaves, and the Loom of its order hands over what now fits (01 R45; 05 R280). -/
theorem passTlp_output {x : Tlp} {s : State} {o : Order} (hk : x.kind = .output ∨ x.kind = .aux)
    (ho : order? s x.order = some o) (h : o.stage ≠ .waitCommit) : passTlp x s = handOver x.order (outputLeft x s) := by
  have hp : passTlp x s = afterOutput x.order (handOver x.order (outputLeft x s)) := by
    rcases hk with hk | hk <;> simp only [passTlp, outputLeft, hk]
  obtain ⟨hl, -, -⟩ := handOver_leaves (s := outputLeft x s) ho
  rw [hp, afterOutput_idle hl h]

/-- A receipt-continuation TLP leaves, and that is all. -/
theorem passTlp_rcptCont {x : Tlp} (s : State) (hk : x.kind = .rcptCont) :
    passTlp x s = emit (.memWrite x.stall (pasidOf s x.stall) x.addr x.data x.relaxed x.tbit x.kind) s := by
  simp only [passTlp, hk]

theorem dropStaged_id (o : Order) : (dropStaged o).id = o.id := by
  unfold dropStaged
  split <;> rfl

/-- The registers of a part Hold at its entry: its cause, its taint and its time; working keys and the fetched input of staged
orders are cleared (11 R488, R494; 04 R192; 05 R282). -/
def holdBegun (c : HoldCause) (tainting : Bool) (s : State) : State :=
  { clearWorking { s with orders := s.orders.map dropStaged } with
    faults := { s.faults with
      holds := if s.faults.holds.contains c then s.faults.holds else s.faults.holds ++ [c]
      holdCovered := true, holdTaint := tainting, holdAt := s.clock } }

/-- The cause that begins a part Hold outside Silence (11 R488): the Hold is in force with it, the egress queue is as it was,
and every order is still there. -/
theorem holdEnter_begins {s : State} (c : HoldCause) (tainting : Bool) (hs : s.faults.silent = false)
    (hh : s.faults.holdCovered = false) :
    let v := holdEnter c tainting s
    v.faults.holdCovered = true ∧ v.faults.silent = false ∧ c ∈ v.faults.holds ∧ v.egress = s.egress ∧
      ∀ id, order? v id = (order? s id).map dropStaged := by
  have hc : c ∈ (if s.faults.holds.contains c then s.faults.holds else s.faults.holds ++ [c]) := by
    split
    · simpa using ‹s.faults.holds.contains c = true›
    · simp
  have hv : holdEnter c tainting s = perfAdd 12 1 (event 2 (holdBegun c tainting s)) := by
    simp only [holdEnter, hs, hh, Bool.false_eq_true, if_false, holdBegun]
  have hf : EvidenceOnly (holdBegun c tainting s) (holdEnter c tainting s) := by
    rw [hv]
    exact (perfAdd_frame 12 1 _).after (event_frame 2 _)
  exact ⟨by rw [hf.faults]; rfl, by rw [hf.faults]; exact hs, by rw [hf.faults]; exact hc, hf.egress,
    order?_map dropStaged_id hf.orders⟩

/-- The first CRC mismatch holds the part, and the order's TLPs are out of the queue (01 R47; 11 R488, R499). -/
theorem crcHeld_reexec {s : State} (x : Tlp) (rest : List Tlp) (hs : s.faults.silent = false) (hh : s.faults.holdCovered = false) :
    let v := reexec x.order (crcHeld x rest s)
    v.faults.holdCovered = true ∧ v.faults.silent = false ∧ HoldCause.releaseCrc ∈ v.faults.holds ∧
      (order? s x.order ≠ none → ∀ y ∈ v.egress, y.order ≠ x.order) ∧ ∀ y ∈ v.egress, y ∈ rest := by
  obtain ⟨hc, hsil, hm, he, hord⟩ := holdEnter_begins (s := crcTaken rest s) .releaseCrc true hs hh
  have hr : EvidenceOnly (holdEnter .releaseCrc true (crcTaken rest s)) (crcHeld x rest s) := record_frame _ _ _ _ _ _
  have hf : (reexec x.order (crcHeld x rest s)).faults = (crcHeld x rest s).faults :=
    rerunParts_field State.faults (fun _ => rfl) (reexec_parts s x.order (crcHeld x rest s))
  have heg : (crcHeld x rest s).egress = rest := hr.egress.trans he
  have hor : order? (crcHeld x rest s) x.order = (order? s x.order).map dropStaged :=
    (order?_congr hr.orders _).trans (hord x.order)
  refine ⟨by rw [hf, hr.faults, hc], by rw [hf, hr.faults, hsil], by rw [hf, hr.faults]; exact hm, ?_⟩
  cases ho : order? s x.order with
  | none =>
    rw [reexec_none (hor.trans (by rw [ho]; rfl)), heg]
    exact ⟨fun hn => absurd rfl hn, fun y hy => hy⟩
  | some o =>
    rw [reexec_egress (hor.trans (by rw [ho]; rfl)), heg]
    exact ⟨fun _ y hy => by simpa using List.of_mem_filter hy, fun y hy => List.mem_of_mem_filter hy⟩

/-! ### The commit-point write and the receipt -/

/-- An order whose commit-point write is in non-volatile store; one that waited for it is done (09 R431). -/
def commitNoted (o : Order) : Order :=
  { o with commit := .done, stage := if o.stage = .waitCommit then .done else o.stage }

section
variable {s : State} (hs : Serving s) {id : Nat} {o : Order} (ho : order? s id = some o) (hc : o.commit = .pending) (t : Nat)
include hs ho hc

/-- The signal that a pending commit-point write is made (09 R431). -/
theorem commitWriteDone_made : exec (.commitWriteDone id true t) s = .next (unlockKeys id (modOrder
    { tick t s with mram := { s.mram with writing := s.mram.writing.filter (fun w => w.1 != id) } } id commitNoted)) := by
  refine coreAct_next_quiet hs (by rfl) ?_ rfl rfl
  have hu : order? (tick t s) id = some o := ho
  have hf : commitNoted = fun o => { o with commit := .done, stage := if o.stage == .waitCommit then .done else o.stage } := by
    funext o
    simp [commitNoted]
  simp only [hu, hc, hf]
  rfl

/-- The signal that a pending commit-point write is still wrong after its retry (11 R499). -/
theorem commitWriteDone_wrong : exec (.commitWriteDone id false t) s = .next (gate s (silence 0x000A (tick t s))) := by
  refine coreAct_next hs (by rfl) ?_
  have hu : order? (tick t s) id = some o := ho
  simp only [hu, hc]
  rfl

end

/-- A ring position that is put back as it was reads as it was, and so does every other. -/
theorem ring_setRing_self (s : State) (st q st' q' : Nat) : ring (setRing s st q (ring s st q)) st' q' = ring s st' q' := by
  by_cases h : rix st' q' = rix st q
  · have hr (v : State) : ring v st' q' = ring v st q := by rw [ring, h]; rfl
    rw [hr, hr s, ring_setRing_same]
  · exact ring_setRing_other s st q st' q' _ h

/-- The receipt of a done order whose output has left is queued, when its slots are reserved, nothing is in the egress queue, and
neither a twin nor ATS has a say (01 R50; 02 R98, R106). -/
theorem receiptRelease_next {s : State} (hs : Serving s) {id : Nat} {o : Order} {x : Result} (t : Nat)
    (ho : order? s id = some o) (hst : o.stage = .done) (hr : o.result = some x) (hq : o.rcptQueued = false)
    (hc : o.commit ≠ .pending) (he : s.egress = []) (hv : 0 < o.rsv) (hsent : o.outSent = true) (hm : mirrored s = false)
    (ha : (stall s o.stall).ats = false) : exec (.receiptRelease id t) s = .next
      (modOrder (setRing { tick t s with egress := receiptTlps s o x } o.stall o.ring (ring s o.stall o.ring)) id
        (fun o => { o with rcptQueued := true })) := by
  refine coreAct_next_quiet hs (by rfl) ?_ rfl rfl
  have hu : order? (tick t s) id = some o := ho
  have hne : (o.rsv == 0) = false := by simpa using Nat.pos_iff_ne_zero.mp hv
  have hcm : (o.commit == .pending) = false := by simpa using hc
  have hb : rcptBusy (tick t s) o.stall o.ring = false := by simp [rcptBusy, he]
  have htw : twinHoldsReceipt (tick t s) o.stall o.ring = false := by
    have hm' : mirrored (tick t s) = false := hm
    simp [twinHoldsReceipt, hm']
  have hfb : flushedBehind (tick t s) o = false := by simp [flushedBehind, flushedWaiting, hne]
  have hpath : ∀ tl, rcptPath (tick t s) o.stall tl = .go := by
    have ha' : (stall (tick t s) o.stall).ats = false := ha
    intro tl
    simp [rcptPath, ha']
  simp only [hu, hst, hr, hq, hcm, tick_egress, he, List.any_nil, hb, htw, hne, hfb, hsent, hpath, Bool.false_and, Bool.or_self,
    Bool.false_eq_true, if_false, Bool.not_true, Nat.pos_iff_ne_zero.mp hv, Nat.add_zero, List.nil_append]
  rfl

theorem outTlps_congr {s t : State} (hr : t.rings = s.rings) (hs : t.stalls = s.stalls) (o : Order) (r : Result) :
    outTlps t o r = outTlps s o r := by
  have hm : mkTlp t o = mkTlp s o := by
    funext k rlx p
    rw [mkTlp, mkTlp, stall, stall, hs]
  rw [outTlps, outTlps, ring, ring, hr, hm]

theorem queuedAhead_congr {s t : State} (h : t.egress = s.egress) (id : Nat) : queuedAhead t id = queuedAhead s id := by
  rw [queuedAhead, queuedAhead, h]

/-- What the release of an order with equal copies leaves: the order is done, its output is queued as far as it may be, and
else only instances, key locks and counters have changed (01 R51; 02 R106; 05 R280). -/
theorem released_leaves {s : State} {o : Order} (r : Result) (ho : order? s o.id = some o) (how : o.outWait = []) :
    let tl := if o.outSent || inlineOut o then [] else outTlps s o r
    let n := if classKind o.opcode = some .loom then fitAhead (16384 - queuedAhead s o.id) tl else tl.length
    let v := queueOutput o.id (settle o.id r (comparedWell o s))
    order? v o.id = some { o with stage := .done, result := some r, copyA := none, copyB := none, insts := [],
                                  compareAt := s.clock, engTime := s.clock - o.dispatchAt, outSent := true,
                                  outWait := tl.drop n } ∧
      v.egress = s.egress ++ tl.take n ∧ rerunParts s v = rerunParts s s ∧ v.out = s.out := by
  have hw := comparedWell_parts o s
  set w := comparedWell o s with hwdef
  have hwo : order? w o.id = some { o with engTime := s.clock - o.dispatchAt } :=
    (order?_congr (congrArg State.orders hw :) _).trans (order?_modOrder_same (fun _ => rfl) ho)
  have hclk : w.clock = s.clock := (congrArg State.clock hw :)
  have heg : w.egress = s.egress := (congrArg State.egress hw :)
  have htl : ∀ o', outTlps (settle o.id r w) o' r = outTlps s o' r :=
    fun o' => outTlps_congr (congrArg State.rings hw :) (congrArg State.stalls hw :) o' r
  have hqa : queuedAhead (settle o.id r w) o.id = queuedAhead s o.id := queuedAhead_congr (t := settle o.id r w) heg _
  have hso := order?_settle r hwo
  rw [hclk] at hso
  obtain ⟨hord, hegr, hframe⟩ := queueOutput_leaves hso rfl how
  rw [htl, hqa] at hord hegr
  refine ⟨hord, hegr.trans (congrArg (· ++ _) heg), ?_, ?_⟩
  · calc rerunParts s (queueOutput o.id (settle o.id r w))
        = rerunParts s (settle o.id r w) := (congrArg (rerunParts s) hframe :)
      _ = rerunParts s w := rfl
      _ = rerunParts s s := (congrArg (rerunParts s) hw :)
  · exact (congrArg State.out hframe :).trans (congrArg State.out hw :)

/-- Settles O32: each stage from the compare to the receipt leaves what it says. -/
theorem releaseRows : Obligations.ReleaseRows := by
  unfold Obligations.ReleaseRows
  intro s t hs
  obtain ⟨hserv, hloud⟩ := hs
  dsimp only
  refine ⟨fun id o r ho hst ha hb hwf hwh how => ?released, fun f h => ?nothingPasses,
    fun x rest he hh => ⟨fun f hg => ?oldDiscarded, fun hg ha hc hp hk => ?receiptPasses, fun hg ha hc hp hk o ho hst => ?outputPasses, fun b hg ha hc h0 => ?crcFails⟩,
    fun id o ho hc => ⟨?commitMade, ?commitWrong⟩, fun id o x ho hst hr hq hc he hv hsent hm ha => ?receiptQueued⟩
  case released =>
    obtain rfl := order?_id ho
    obtain ⟨hord, hegr, hpar, hout⟩ := released_leaves (s := tick t s) r ho how
    have hfield {β : Type} (g : State → β) (hg : ∀ v, g (rerunParts (tick t s) v) = g v) := rerunParts_field g hg hpar
    refine ⟨_, (compareAndRelease_equal hserv t ho hst ha hb hwf hwh).trans
      (congrArg _ (gate_quiet s _ hout (hfield State.pending fun _ => rfl))), hord, hegr, hfield State.rings fun _ => rfl,
      hfield State.stalls fun _ => rfl, hfield State.mram fun _ => rfl, hout⟩
  case nothingPasses => exact egress_answers hloud (egressCheck_idle hserv f t h) List.prefix_rfl rfl
  case oldDiscarded => exact egress_answers hloud (egressCheck_old hserv f t he hh hg) List.prefix_rfl rfl
  case receiptPasses =>
    have hx := egressCheck_pass hserv t he hh hg ha hc hp
    rw [passTlp_rcptCont _ hk] at hx
    exact egress_answers hloud hx (List.prefix_append _ _) rfl
  case outputPasses =>
    have hx := egressCheck_pass hserv t he hh hg ha hc hp
    rw [passTlp_output (s := { tick t s with egress := rest }) hk ho hst] at hx
    obtain ⟨hord, hegr, hframe⟩ := handOver_leaves (s := outputLeft x { tick t s with egress := rest }) ho
    have hout := (congrArg State.out hframe :)
    have hst := (congrArg (fun v => stall v x.stall) hframe :)
    refine ⟨_, egress_answers hloud hx (hout ▸ List.prefix_append _ _) (congrArg State.pending hframe :), hegr, hord, hout, ?_, ?_⟩
    · exact hst.trans (stall_setStall_same _ _ _)
    · exact congrArg (fun v : State => { v with
        egress := s.egress, orders := s.orders, out := s.out, stalls := s.stalls, perf := s.perf }) hframe
  case crcFails =>
    exact ⟨_, egressCheck_badCrc hserv t he hh hg ha b hc h0, by
      simpa only [gate_faults, gate_egress, finishInvs_faults, finishInvs_egress, order?_tick] using
        crcHeld_reexec (s := tick t s) x rest hloud hh⟩
  case commitMade =>
    refine ⟨_, commitWriteDone_made hserv ho hc t, order?_modOrder_same (f := commitNoted) (fun _ => rfl) ho, fun w hw => ?_, rfl⟩
    obtain ⟨hm, hn⟩ := List.mem_filter.mp hw
    exact ⟨by simpa using hn, hm⟩
  case commitWrong =>
    obtain ⟨hsil, hphase, hcause, hlevel, hegr⟩ := silenceAt_loud 1 0x000A (s := tick t s) hloud
    exact ⟨_, commitWriteDone_wrong hserv ho hc t, hsil, hphase, hcause, hlevel, hegr⟩
  case receiptQueued =>
    exact ⟨_, receiptRelease_next hserv t ho hst hr hq hc he hv hsent hm ha, rfl, order?_modOrder_same (fun _ => rfl) ho,
      fun st q => ring_setRing_self s o.stall o.ring st q, rfl⟩

end Machine
end Sys2Proof
end

section
/-!
PROOFS. The scheduler and opcode 0 (01 R45; 02 R79, R97, R98; 03 R147, R152; 11 R488): what it may change around the order that
it dispatches, and the order itself.
-/
namespace Sys2Proof
namespace Machine

/-! ### What the scheduler may change -/

/-- The parts of the state that the choice of an order, its way out of the ring and the slot reads that follow may change, taken
from another state: neither orders nor the time, the pair and the ladder are among them. -/
def schedParts (t s : State) : State :=
  { s with rings := t.rings, stalls := t.stalls, cursors := t.cursors, munim := t.munim, out := t.out, keeper := t.keeper,
           drbg := t.drbg }

/-- Two states that agree outside the parts of the scheduler agree in every other field. -/
theorem schedParts_field {β : Type} (g : State → β) {t v w : State} (hg : ∀ s, g (schedParts t s) = g s)
    (h : schedParts t v = schedParts t w) : g v = g w := by
  rw [← hg v, h, hg]

theorem modRing_parts (t s : State) (st q : Nat) (f : Ring → Ring) : schedParts t (modRing s st q f) = schedParts t s := rfl

theorem dropProv_parts (t : State) (st q : Nat) (s : State) : schedParts t (dropProv st q s) = schedParts t s := rfl

theorem emit_parts (t : State) (o : Out) (s : State) : schedParts t (emit o s) = schedParts t s := rfl

theorem clearIdle_parts (t : State) (k : EngKind) (l : List (Nat × Order)) (s : State) :
    schedParts t (clearIdle k l s) = schedParts t s := by
  refine foldl_keeps (schedParts t) _ ?_ _ s
  intro s p
  split <;> rfl

theorem clearIdles_parts (t s : State) : schedParts t (clearIdles s) = schedParts t s :=
  foldl_keeps (schedParts t) _ (fun s k => clearIdle_parts t k _ s) _ s

theorem growAll_parts (t : State) (k : EngKind) (w v : Nat) (past : Bool) (l : List (Nat × Order)) (s : State) :
    schedParts t (growAll k w v past l s) = schedParts t s := by
  induction l generalizing past s with
  | nil => rfl
  | cons p l ih => exact (ih _ _).trans rfl

theorem served_parts (t : State) {k : EngKind} {l : List (Nat × Order)} {s v : State} {o : Order}
    (h : nextByWeight.served k l s = some (o, v)) : schedParts t v = schedParts t s := by
  unfold nextByWeight.served at h
  dsimp only at h
  split at h
  · cases h
  · obtain ⟨-, rfl⟩ := Prod.mk.inj (Option.some.inj h)
    exact growAll_parts t k _ _ _ _ s

theorem nextByWeight_parts (t : State) {k : EngKind} {s v : State} {o : Order} (h : nextByWeight k s = some (o, v)) :
    schedParts t v = schedParts t s := by
  have hi := clearIdle_parts t k (offers s (some k)) s
  unfold nextByWeight at h
  dsimp only at h
  split at h
  · split at h
    · obtain ⟨-, rfl⟩ := Prod.mk.inj (Option.some.inj h)
      exact hi
    · exact (served_parts t h).trans hi
  · exact (served_parts t h).trans hi

/-- The choice of an order changes Stalls and scheduler positions, and nothing else (03 R147 to R152). -/
theorem chooseOrder_parts (t : State) {k : Option EngKind} {s v : State} {o : Order} (h : chooseOrder k s = some (o, v)) :
    schedParts t v = schedParts t s := by
  unfold chooseOrder at h
  split at h
  · obtain ⟨-, rfl⟩ := Prod.mk.inj (Option.some.inj h)
    rfl
  · split at h
    · obtain ⟨-, rfl⟩ := Prod.mk.inj (Option.some.inj h)
      rfl
    · split at h
      · exact nextByWeight_parts t h
      · obtain ⟨p, -, hp⟩ := Option.map_eq_some_iff.mp h
        obtain ⟨-, rfl⟩ := Prod.mk.inj hp
        rfl

theorem refreshWaits_parts (t s : State) : schedParts t (refreshWaits s) = schedParts t s := by
  unfold refreshWaits
  dsimp only
  rw [foldl_keeps (schedParts t), foldl_keeps (schedParts t)]
  · intro v p
    split <;> rfl
  · intro v p
    split <;> rfl

/-- Slot reads change rings, cache entries and outputs, and nothing else (02 R82). -/
theorem fetchAux_parts (t : State) (st q fuel : Nat) (s : State) : schedParts t (fetchAux st q fuel s) = schedParts t s := by
  induction fuel generalizing s with
  | zero => rfl
  | succ fuel ih =>
    unfold fetchAux
    dsimp only
    split
    · rfl
    · split
      · rw [emit_parts]
      · rw [stopRing, modRing_parts, dropProv_parts, modRing_parts]
      · rw [ih, emit_parts, modRing_parts]

theorem advanceHead_parts (t : State) (st q : Nat) (s : State) : schedParts t (advanceHead st q s) = schedParts t s := by
  unfold advanceHead
  split
  · exact fetchAux_parts t st q 16 s
  · exact (fetchAux_parts t st q 16 _).trans (modRing_parts _ _ _ _ _)

theorem countRate_parts (t : State) (o : Order) (s : State) : schedParts t (countRate o s) = schedParts t s := by
  unfold countRate
  split
  · rfl
  · split <;> rfl

/-! ### The order that is dispatched -/

/-- The state in which a chosen order has left its ring: its receipt slots are reserved, its run is counted, H has moved past it
(01 R45 stages 4 to 6; 02 R97, R98). -/
def leftRing (o : Order) (s : State) : State :=
  let s1 := modOrder s o.id (fun x => { withInline x with
    stage := .waitInput, rsv := rcptNeed o, runs := x.runs + 1, dispatchAt := s.clock })
  advanceHead o.stall o.ring (countRate o (modStall
    (modRing s1 o.stall o.ring (fun r => { r with reserved := r.reserved + rcptNeed o })) o.stall (fun x =>
    { x with nextRing := (o.ring + 1) % 4, waitTime := x.waitTime + (s.clock - o.commitAt) / 10,
             bytesIn := x.bytesIn + (if inlineIn o then o.inLen else 0) + (if inlineAux o then o.auxLen else 0) })))

theorem leftRing_parts (t : State) (o : Order) (s : State) : schedParts t (leftRing o s) = schedParts t (modOrder s o.id
    (fun x => { withInline x with stage := .waitInput, rsv := rcptNeed o, runs := x.runs + 1, dispatchAt := s.clock })) :=
  (advanceHead_parts t _ _ _).trans ((countRate_parts t _ _).trans rfl)

/-- Classification looks at the pair and the lifecycle, and at the order. -/
theorem classify_congr {s t : State} (hp : t.pair = s.pair) (hf : t.faults = s.faults) (o : Order) :
    classify t o = classify s o := by
  rw [classify, classify, hp, hf]

/-- An order that its first failed check ends (02 R95). -/
theorem startOrder_refused {s : State} {o : Order} (l : List (EngKind × Nat)) {st w : Nat}
    (h : classify (leftRing o s) (withInline o) = some (st, w)) : startOrder o l s = complete o.id st w (leftRing o s) := by
  unfold startOrder
  dsimp only
  split
  · rename_i v hv
    obtain rfl : (st, w) = v := Option.some.inj (h.symm.trans hv)
    rfl
  · rename_i hv
    exact absurd (h.symm.trans hv) (by simp)

/-- A no-operation order that passes needs no engine and is ready (02 R79). -/
theorem startOrder_noOperation {s : State} {o : Order} (hop : o.opcode = 0)
    (h : classify (leftRing o s) (withInline o) = none) : startOrder o [] s =
      modOrder (modOrder (leftRing o s) o.id (fun x => { x with insts := [] })) o.id (fun x => { x with stage := .ready }) := by
  unfold startOrder
  dsimp only
  split
  · rename_i v hv
    exact absurd (h.symm.trans hv) (by simp)
  · rw [if_pos hop]
    rfl

theorem instsFor_noOperation {s : State} {o : Order} {l : List (EngKind × Nat)} (hop : o.opcode = 0)
    (h : instsFor s o = some l) : l = [] := by
  have hk : classKind o.opcode = none := by rw [hop]; rfl
  unfold instsFor at h
  rw [hk] at h
  split at h
  · cases h
  · exact (Option.some.inj h).symm

/-! ### DISPATCH -/

theorem exec_dispatch (k : Option EngKind) (t : Nat) (s : State) : exec (.dispatch k t) s = execDispatch k t s := rfl

section
variable {s : State} (hs : Serving s) (k : Option EngKind) (t : Nat)
include hs

/-- Nothing is dispatched during a part Hold (11 R488). -/
theorem dispatch_held (h : s.faults.holdCovered = true) : exec (.dispatch k t) s = .next (tick t s) :=
  coreAct_next_quiet hs (exec_dispatch k t s) (if_pos h) rfl rfl

variable (h : s.faults.holdCovered = false)
include h

/-- A scheduler step that chooses nothing only sets deficits and waits. -/
theorem dispatch_nothing (hc : chooseOrder k (clearIdles (tick t s)) = none) :
    exec (.dispatch k t) s = .next (gate s (refreshWaits (clearIdles (clearIdles (tick t s))))) := by
  refine coreAct_next hs (exec_dispatch k t s) ?_
  have hi : inHold (tick t s) = false := h
  simp only [hi, hc, Bool.false_eq_true, if_false]

/-- A scheduler step that chooses a committed order with its instances starts it. -/
theorem dispatch_starts {o : Order} {v : State} {l : List (EngKind × Nat)}
    (hc : chooseOrder k (clearIdles (tick t s)) = some (o, v)) (hl : instsFor v o = some l) (hst : o.stage = .committed) :
    exec (.dispatch k t) s = .next (gate s (refreshWaits (clearIdles (startOrder o l v)))) := by
  refine coreAct_next hs (exec_dispatch k t s) ?_
  have hi : inHold (tick t s) = false := h
  have hr : (o.stage == .redo) = false := by rw [hst]; rfl
  simp only [hi, hc, hl, hr, Bool.false_eq_true, if_false]

end

/-- What a scheduler step leaves of the orders after it has chosen. -/
theorem dispatch_orders (s v : State) : (gate s (refreshWaits (clearIdles v))).orders = v.orders :=
  (gate_orders s _).trans (schedParts_field State.orders (fun _ => rfl) ((refreshWaits_parts v _).trans (clearIdles_parts v v)))

/-- A chosen order that has left its ring waits for its input with its receipt slots, and its classification is that of the
state before. -/
theorem chosen_leftRing {k : Option EngKind} {u v : State} {o : Order} (hc : chooseOrder k (clearIdles u) = some (o, v))
    (ho : order? u o.id = some o) :
    order? (leftRing o v) o.id = some { withInline o with
        stage := .waitInput, rsv := rcptNeed o, runs := o.runs + 1, dispatchAt := u.clock } ∧
      ∀ x, classify (leftRing o v) x = classify u x := by
  have hv : schedParts u v = schedParts u u := (chooseOrder_parts u hc).trans (clearIdles_parts u u)
  have hl := leftRing_parts u o v
  have hov : order? v o.id = some o := (order?_congr (schedParts_field State.orders (fun _ => rfl) hv) _).trans ho
  have hclk : v.clock = u.clock := schedParts_field State.clock (fun _ => rfl) hv
  have hpair : v.pair = u.pair := schedParts_field State.pair (fun _ => rfl) hv
  have hfaults : v.faults = u.faults := schedParts_field State.faults (fun _ => rfl) hv
  rw [← hclk]
  refine ⟨(order?_congr (schedParts_field State.orders (fun _ => rfl) hl) _).trans (order?_modOrder_same (fun _ => rfl) hov), ?_⟩
  exact classify_congr ((schedParts_field State.pair (fun _ => rfl) hl).trans hpair)
    ((schedParts_field State.faults (fun _ => rfl) hl).trans hfaults)

/-! ### NO_OPERATION -/

/-- The empty output of a no-operation order goes nowhere (02 R79). -/
theorem queueOutput_empty {s : State} {id : Nat} {o : Order} {r : Result} (h : order? s id = some o) (hr : o.result = some r)
    (hout : r.out = []) (haux : r.aux = []) (hl : classKind o.opcode ≠ some .loom) :
    queueOutput id s = modOrder s id (fun x => { x with outSent := true }) := by
  by_cases hk : (o.outSent || inlineOut o) = true
  · exact queueOutput_kept h hr hk
  · have htl : outTlps s o r = [] := by rw [outTlps, hout, haux]; rfl
    rw [queueOutput_whole h hr hk hl, htl, List.append_nil]

/-- A ready no-operation order completes with status 0 and its output, which is empty, counts as sent (02 R79). -/
theorem noOperation_next {s : State} (hs : Serving s) {id : Nat} {o : Order} (ho : order? s id = some o) (hop : o.opcode = 0)
    (hst : o.stage = .ready) :
    exec (.noOperation id) s = .next (modOrder (complete id 0 0 s) id (fun x => { x with outSent := true })) := by
  have hl : classKind o.opcode ≠ some .loom := by rw [hop]; decide
  have hd := order?_settle { status := 0, word := 0, out := [], aux := [] } ho
  refine coreAct_next_quiet hs (by rfl) ?_ rfl rfl
  rw [← queueOutput_empty (s := complete id 0 0 s) hd rfl rfl rfl hl]
  simp only [ho, hop, hst]
  rfl

/-- Settles O29: what DISPATCH leaves by what the scheduler chooses, and the end of a no-operation order. -/
theorem dispatchRows : Obligations.DispatchRows := by
  unfold Obligations.DispatchRows
  intro s k t hs
  dsimp only
  refine ⟨dispatch_held hs k t, fun hh hc => ?nothingChosen, fun o h => ?adminFirst, fun o v l hh hc hl hst ho => ⟨fun st w hcl => ?refused, fun hcl hop => ?noOperationReady⟩,
    fun id o ho hop hst => ?noOperationDone⟩
  case nothingChosen =>
    have hu := schedParts_field State.orders (fun _ => rfl) (clearIdles_parts s (tick t s))
    exact ⟨_, dispatch_nothing hs k t hh hc, (dispatch_orders s _).trans hu⟩
  case adminFirst =>
    unfold chooseOrder
    rw [h]
  case refused =>
    obtain ⟨hx, hclass⟩ := chosen_leftRing hc ho
    have hd := order?_settle { status := st, word := w, out := [], aux := [] } hx
    have he := congrArg (order? · o.id) (startOrder_refused l ((hclass _).trans hcl))
    exact ⟨_, dispatch_starts hs k t hh hc hl hst, _, (order?_congr (dispatch_orders s _) _).trans (he.trans hd), rfl, rfl, rfl,
      rfl, rfl⟩
  case noOperationReady =>
    obtain ⟨hx, hclass⟩ := chosen_leftRing hc ho
    obtain rfl := instsFor_noOperation hop hl
    have hp := order?_modOrder_same (f := fun x => { x with insts := [] }) (fun _ => rfl) hx
    have hr := order?_modOrder_same (f := fun x => { x with stage := .ready }) (fun _ => rfl) hp
    have he := congrArg (order? · o.id) (startOrder_noOperation hop ((hclass _).trans hcl))
    exact ⟨_, dispatch_starts hs k t hh hc hl hst, _, (order?_congr (dispatch_orders s _) _).trans (he.trans hr), rfl, rfl, rfl,
      rfl, rfl⟩
  case noOperationDone =>
    have hd := order?_settle { status := 0, word := 0, out := [], aux := [] } ho
    exact ⟨_, noOperation_next hs ho hop hst,
      order?_modOrder_same (f := fun x => { x with outSent := true }) (fun _ => rfl) hd, rfl⟩

end Machine
end Sys2Proof
end

section
/-!
PROOFS. Writes of the host to the registers of a ring position through the page of its Stall: enable, Counter window, consumer
count and resume (02 R58 to R68, R91; 03 R145; 10 R455).
-/
namespace Sys2Proof
namespace Machine

/-! ### Commands of the host -/

/-- A command of the host in operation answers what its meaning leaves behind the egress gate. -/
theorem hostAct_next {c : Instr} {f : State → State} {s v : State} (hs : Serving s) (hc : exec c s = hostAct f s)
    (hv : f s = v) : exec c s = .next (gate s v) := by
  rw [hc, hostAct_running f s hs, hv]

/-- A command of the host in operation that puts nothing out answers what its meaning leaves. -/
theorem hostAct_next_quiet {c : Instr} {f : State → State} {s v : State} (hs : Serving s) (hc : exec c s = hostAct f s)
    (hv : f s = v) (ho : v.out = s.out) (hp : v.pending = s.pending) : exec c s = .next v :=
  hc.trans (hostAct_quiet hs hv ho hp)

/-- What a state puts out comes after what another put out, and the commands that wait are the same. -/
def Appends (s v : State) : Prop := s.out <+: v.out ∧ v.pending = s.pending

theorem Appends.refl (s : State) : Appends s s := ⟨List.prefix_rfl, rfl⟩

theorem Appends.trans {s t v : State} (h1 : Appends s t) (h2 : Appends t v) : Appends s v :=
  ⟨h1.1.trans h2.1, h2.2.trans h1.2⟩

/-- A step that puts nothing out, before one that appends. -/
theorem Appends.after {s t v : State} (h : Appends t v) (ho : t.out = s.out) (hp : t.pending = s.pending) : Appends s v :=
  ⟨out_after h.1 ho, h.2.trans hp⟩

/-- A change of the evidence that appends its outputs. -/
theorem EvidenceOnly.appends {s v : State} (h : EvidenceOnly s v) (ho : s.out <+: v.out) : Appends s v := ⟨ho, h.pending⟩

/-- Outside Silence what only appends outputs passes the egress gate. -/
theorem Appends.gate {s v : State} (h : Appends s v) (hl : s.faults.silent = false) : Machine.gate s v = v := by
  obtain ⟨⟨l, ho⟩, hp⟩ := h
  exact gate_appends s v l hl ho.symm hp

/-- The time moves no ring position and no Stall. -/
@[simp] theorem ring_tick (t : Nat) (s : State) (st q : Nat) : ring (tick t s) st q = ring s st q := rfl

@[simp] theorem stall_tick (t : Nat) (s : State) (st : Nat) : stall (tick t s) st = stall s st := rfl

/-! ### The page rule of R145 -/

section
variable {s : State} {st q : Nat} {tb : Bool} (hst : st < 4096) (hq : q < 4)
include hst hq

theorem pageWrite_takes (hp : pageTakes (stall s st) tb = true) (f : State → State) : pageWrite st q tb f s = f s := by
  simp [pageWrite, ringExists, hst, hq, hp]

/-- A page that does not take a write keeps it from the ring: a running TDI counts it, and else nothing happens. -/
theorem pageWrite_refuses (hp : pageTakes (stall s st) tb = false) (f : State → State) :
    pageWrite st q tb f s = if (stall s st).tdi = .run
      then setRing s st q { ring s st q with cwDrops := satAdd 16 (ring s st q).cwDrops 1 } else s := by
  by_cases hr : (stall s st).tdi = .run <;> simp [pageWrite, ringExists, hst, hq, hp, hr, modRing]

variable (hs : Serving s) {t : Nat} {c : Instr} {f : State → State} (hc : exec c s = ringReg st q ⟨t, tb⟩ f s)
include hs hc

/-- A write to a ring register does what it asks at its time, on a page that takes it. -/
theorem ringReg_takes (hp : pageTakes (stall s st) tb = true) : exec c s = .next (gate s (f (tick t s))) :=
  hostAct_next hs hc (pageWrite_takes (s := tick t s) hst hq hp f)

/-- A write to a ring register that puts nothing out, on a page that takes it. -/
theorem ringReg_quiet (hp : pageTakes (stall s st) tb = true) {v : State} (hv : f (tick t s) = v) (ho : v.out = s.out)
    (hpd : v.pending = s.pending) : exec c s = .next v :=
  hostAct_next_quiet hs hc ((pageWrite_takes (s := tick t s) hst hq hp f).trans hv) ho hpd

/-- A write to a ring register on a page that does not take it. -/
theorem ringReg_refuses (hp : pageTakes (stall s st) tb = false) : exec c s = .next (if (stall s st).tdi = .run
    then setRing (tick t s) st q { ring s st q with cwDrops := satAdd 16 (ring s st q).cwDrops 1 } else tick t s) := by
  refine hostAct_next_quiet hs hc (pageWrite_refuses (s := tick t s) hst hq hp f) ?_ ?_
  · split <;> rfl
  · split <;> rfl

end

/-! ### RCP_HEAD -/

/-- RCP_HEAD takes a count from C to W, and any other sets CFG_ERR (02 R68). -/
theorem rcpHeadWrite_next {s : State} {st q : Nat} {tb : Bool} (hs : Serving s) (hst : st < 4096) (hq : q < 4)
    (hp : pageTakes (stall s st) tb = true) (t : Nat) (c : BitVec 32) :
    exec (.rcpHeadWrite st q c ⟨t, tb⟩) s = .next (setRing (tick t s) st q
      (if (c - (ring s st q).c).toNat ≤ ((ring s st q).w - (ring s st q).c).toNat then { ring s st q with c := c }
       else { ring s st q with cfgErr := true })) :=
  ringReg_quiet hst hq hs (by rfl) hp rfl rfl rfl

/-- A command that replaces one ring position leaves it so, every other as it was, and else only the time has moved. -/
theorem does_setRing {c : Instr} {s : State} {st q t : Nat} {r : Ring} (h : exec c s = .next (setRing (tick t s) st q r)) :
    Does c s (fun v => ring v st q = r ∧ (∀ st' q', rix st' q' ≠ rix st q → ring v st' q' = ring s st' q') ∧
      { v with rings := s.rings } = tick t s) :=
  ⟨_, h, ring_setRing_same _ _ _ _, fun _ _ hn => ring_setRing_other _ _ _ _ _ _ hn, rfl⟩

/-- Settles O31: the two outcomes of a write to RCP_HEAD. -/
theorem rcpHeadRule : Obligations.RcpHeadRule := by
  unfold Obligations.RcpHeadRule
  intro s st q t c tb hs hst hq hp
  have h := rcpHeadWrite_next hs hst hq hp t c
  exact ⟨fun hin => does_setRing (by rw [h, if_pos hin]), fun hout => does_setRing (by rw [h, if_neg hout])⟩

/-! ### RING_ENABLE -/

/-- What RING_ENABLE asks for (02 R61; 03 R145; 10 R455): sizes from 6 to 16, a Bound Stall whose TDI is not locked, at most 2^12
slots where a window is shared, and the Admin ring alone while a joining pair waits. -/
def Enables (s : State) (st q : Nat) (both : Bool) : Prop :=
  (6 ≤ (ring s st q).ordLog2 ∧ (ring s st q).ordLog2 ≤ 16) ∧ (6 ≤ (ring s st q).rcpLog2 ∧ (ring s st q).rcpLog2 ≤ 16) ∧
    (stall s st).state = .bound ∧ (stall s st).tdi ≠ .locked ∧
    (both = true → (ring s st q).cwEn = true → (ring s st q).ordLog2 ≤ 12) ∧ (s.pair.state = psWaiting → st = 0 ∧ q = 0)

/-- The test of the model finds nothing wrong exactly when `Enables` holds. -/
theorem enableTest_iff (s : State) (st q : Nat) (both : Bool) :
    ¬ (!(decide (6 ≤ (ring s st q).ordLog2) && decide ((ring s st q).ordLog2 ≤ 16) && decide (6 ≤ (ring s st q).rcpLog2) &&
          decide ((ring s st q).rcpLog2 ≤ 16))
        || (stall s st).state != .bound || (stall s st).tdi == .locked
        || (both && (ring s st q).cwEn && decide (12 < (ring s st q).ordLog2))
        || (s.pair.state == psWaiting && (st != 0 || q != 0))) = true ↔ Enables s st q both := by
  simp [Enables, and_assoc]

/-- The registers of a ring position that RING_ENABLE turns on (02 R61; 10 R455). -/
def ringOn (r : Ring) (p0 : BitVec 32) (both : Bool) : Ring :=
  { r with enabled := true, p := p0, h := p0, asm := p0, rd := p0, w := 0, c := 0, fetched := [], cwBytes := [],
           cwRanges := [], reserved := 0, noticeCount := 0, noticeDue := false, shared := both,
           commits := [], twinCommits := [], twinDone := [], privCopy := [] }

/-- A record for the twin is put out after all that went before (10 R458). -/
theorem claim_appends (st q : Nat) (c : ClaimRec) (s : State) : Appends s (claim st q c s) := by
  unfold claim
  split
  · exact (sendFrame_frame _ _ _).appends (sendFrame_out _ _ _)
  · exact .refl s

/-- Without a twin no record is sent. -/
theorem claim_alone {s : State} (h : mirrored s = false) (st q : Nat) (c : ClaimRec) : claim st q c s = s := by
  rw [claim, h, Bool.false_and, if_neg Bool.false_ne_true]

section
variable {s : State} {st q : Nat} {tb : Bool} (hs : Serving s) (hst : st < 4096) (hq : q < 4)
  (hp : pageTakes (stall s st) tb = true) (t : Nat) (twin : Option (BitVec 32))
include hs hst hq hp

/-- A ring that is on takes no RING_ENABLE. -/
theorem ringEnable_on (hon : (ring s st q).enabled = true) : exec (.ringEnable st q twin ⟨t, tb⟩) s = .next (tick t s) := by
  refine ringReg_quiet hst hq hs (by rfl) hp ?_ rfl rfl
  exact if_pos hon

variable (hoff : (ring s st q).enabled = false)
include hoff


/-- RING_ENABLE of a ring that is off and may be enabled turns it on, and a twin hears of it (02 R61; 10 R455). -/
theorem ringEnable_good (hg : Enables s st q (mirrored s && twin.isSome)) :
    exec (.ringEnable st q twin ⟨t, tb⟩) s = .next (gate s (claim st q
      (.ring st q (stall s st).gen (ring s st q).rcpLog2 (ring s st q).rcpBase) (setRing (tick t s) st q
        (ringOn (ring s st q) (if mirrored s && twin.isSome then twin.getD 0 else 0) (mirrored s && twin.isSome))))) := by
  refine (ringReg_takes hst hq hs (by rfl) hp).trans (congrArg (fun v => Host.Outcome.next (gate s v)) ?_)
  exact (if_neg (ne_true_of_eq_false hoff)).trans (if_neg ((enableTest_iff s st q _).mpr hg))

/-- RING_ENABLE of a ring that is off and may not be enabled sets CFG_ERR (02 R61). -/
theorem ringEnable_bad (hg : ¬ Enables s st q (mirrored s && twin.isSome)) :
    exec (.ringEnable st q twin ⟨t, tb⟩) s = .next (setRing (tick t s) st q { ring s st q with cfgErr := true }) := by
  refine ringReg_quiet hst hq hs (by rfl) hp ?_ rfl rfl
  exact (if_neg (ne_true_of_eq_false hoff)).trans (if_pos (not_not.mp (mt (enableTest_iff s st q _).mp hg)))

end

/-! ### CW_ENABLE and CW_DISABLE -/

section
variable {s : State} {st q : Nat} {tb : Bool} (hs : Serving s) (hst : st < 4096) (hq : q < 4)
  (hp : pageTakes (stall s st) tb = true) (t : Nat)
include hs hst hq hp

/-- CW_ENABLE does nothing to a ring that is off, that has a window, or whose Stall is not Bound (02 R64). -/
theorem cwEnable_ignored (h : (ring s st q).enabled = false ∨ (ring s st q).cwEn = true ∨ (stall s st).state ≠ .bound) :
    exec (.cwEnable st q ⟨t, tb⟩) s = .next (tick t s) := by
  refine ringReg_quiet hst hq hs (by rfl) hp ?_ rfl rfl
  have hc : (!(ring s st q).enabled || (ring s st q).cwEn || (stall s st).state != .bound) = true := by
    rcases h with h | h | h <;> simp [h]
  exact if_pos hc

/-- CW_ENABLE of a ring without a window takes one from the pool, or sets CFG_ERR (02 R64; 10 R455). -/
theorem cwEnable_next (hon : (ring s st q).enabled = true) (hcw : (ring s st q).cwEn = false) (hb : (stall s st).state = .bound) :
    exec (.cwEnable st q ⟨t, tb⟩) s = .next (setRing (tick t s) st q
      (if 2048 ≤ cwHeld s ∨ ((ring s st q).shared = true ∧ 12 < (ring s st q).ordLog2) then { ring s st q with cfgErr := true }
       else { ring s st q with cwEn := true, cwBytes := [] })) := by
  refine ringReg_quiet hst hq hs (by rfl) hp ?_ rfl rfl
  have hc : ¬ (!(ring s st q).enabled || (ring s st q).cwEn || (stall s st).state != .bound) = true := by simp [hon, hcw, hb]
  have hf : (decide (2048 ≤ cwHeld s) || ((ring s st q).shared && decide (12 < (ring s st q).ordLog2))) = true ↔
      2048 ≤ cwHeld s ∨ ((ring s st q).shared = true ∧ 12 < (ring s st q).ordLog2) := by simp
  refine (if_neg hc).trans ((if_congr hf rfl rfl).trans ?_)
  exact (apply_ite (setRing (tick t s) st q) _ _ _).symm

theorem cwDisable_next : exec (.cwDisable st q ⟨t, tb⟩) s =
    .next (dropProv st (cwName q) (setRing (tick t s) st q { ring s st q with cwEn := false, cwBytes := [] })) :=
  ringReg_quiet hst hq hs (by rfl) hp rfl rfl rfl

end

/-! ### Slot reads and RING_RESUME -/

/-- Slot reads put out only after what was put out before (02 R82). -/
theorem fetchAux_out (st q fuel : Nat) (s : State) : s.out <+: (fetchAux st q fuel s).out := by
  induction fuel generalizing s with
  | zero => exact List.prefix_rfl
  | succ fuel ih =>
    unfold fetchAux
    dsimp only
    split
    · exact List.prefix_rfl
    · split
      · exact List.prefix_append _ _
      · exact List.prefix_rfl
      · refine List.IsPrefix.trans ?_ (ih _)
        exact List.prefix_append _ _

theorem fetchSlots_appends (st q : Nat) (s : State) : Appends s (fetchSlots st q s) :=
  ⟨fetchAux_out st q 16 s, schedParts_field State.pending (fun _ => rfl) (fetchAux_parts s st q 16 s)⟩

/-- A ring without Counter-window ranges skips no count (02 R82). -/
theorem skipCw_noRanges {r : Ring} (h : r.cwRanges = []) (c : BitVec 32) : skipCw r c = c := by
  rw [skipCw, h]
  unfold skipCwAux
  rw [h]
  rfl

/-- No read begins at P. -/
theorem readRun_atTail (r : Ring) : readRun r r.p = 0 := by
  simp [readRun, List.takeWhile_eq_nil_iff]

/-- A ring all of whose slots have been asked for reads none (02 R82). -/
theorem fetchAux_atTail {s : State} {st q : Nat} (hw : (ring s st q).cwRanges = []) (h : (ring s st q).rd = (ring s st q).p)
    (fuel : Nat) : fetchAux st q fuel s = s := by
  cases fuel with
  | zero => rfl
  | succ fuel =>
    unfold fetchAux
    refine if_pos ?_
    rw [skipCw_noRanges hw, h, readRun_atTail]
    simp

theorem fetchSlots_atTail {s : State} {st q : Nat} (hw : (ring s st q).cwRanges = []) (h : (ring s st q).rd = (ring s st q).p) :
    fetchSlots st q s = s := fetchAux_atTail hw h 16

/-- A stopped ring reads nothing (02 R91). -/
theorem fetchSlots_stopped {s : State} {st q : Nat} (h : (ring s st q).stopped = true) : fetchSlots st q s = s := by
  unfold fetchSlots fetchAux
  refine if_pos ?_
  simp [h]

/-- A ring that goes on after a stop: what it had fetched is dropped (02 R91). -/
def ringResumed (r : Ring) : Ring := { r with stopped := false, stopCode := 0, fetched := [], rd := r.asm }

section
variable {s : State} {st q : Nat} {tb : Bool} (hs : Serving s) (hst : st < 4096) (hq : q < 4)
  (hp : pageTakes (stall s st) tb = true) (t : Nat)
include hs hst hq hp

/-- RING_RESUME does nothing to a ring that is not stopped or whose Stall is not Bound (02 R91; 03 R156). -/
theorem ringResume_ignored (h : (ring s st q).stopped = false ∨ (stall s st).state ≠ .bound) :
    exec (.ringResume st q ⟨t, tb⟩) s = .next (tick t s) := by
  refine ringReg_quiet hst hq hs (by rfl) hp ?_ rfl rfl
  have hc : (!(ring s st q).stopped || (stall s st).state != .bound) = true := by rcases h with h | h <;> simp [h]
  exact if_pos hc

/-- RING_RESUME of a stopped ring of a Bound Stall clears the stop and reads again from the first slot not committed (02 R91). -/
theorem ringResume_next (hstop : (ring s st q).stopped = true) (hb : (stall s st).state = .bound) :
    exec (.ringResume st q ⟨t, tb⟩) s = .next (gate s (fetchSlots st q (dropProv st q (setRing (tick t s) st q
      (ringResumed (ring s st q)))))) := by
  refine (ringReg_takes hst hq hs (by rfl) hp).trans (congrArg (fun v => Host.Outcome.next (gate s v)) ?_)
  have hc : ¬ (!(ring s st q).stopped || (stall s st).state != .bound) = true := by simp [hstop, hb]
  exact if_neg hc

end

/-- Settles O25: each switch of a ring position by the state of the ring, of its Stall and of the pair. -/
theorem ringSwitchRows : Obligations.RingSwitchRows := by
  unfold Obligations.RingSwitchRows
  intro s st q t tb hs hst hq u r x room good on
  refine ⟨fun hp twin n c hc => ?refused, fun hp => ⟨fun twin hoff => ⟨fun hg hm => ?enabledAlone, fun hg hm hl => ?enabledPaired, ringEnable_bad hs hst hq hp t twin hoff⟩,
    ringEnable_on hs hst hq hp t, cwEnable_next hs hst hq hp t, cwEnable_ignored hs hst hq hp t, cwDisable_next hs hst hq hp t, rcpHeadWrite_next hs hst hq hp t,
    fun hstop hb => ⟨fun hl => ?resumed, fun hw hpa => ?resumedAtTail⟩, ringResume_ignored hs hst hq hp t⟩⟩
  case refused =>
    simp only [List.mem_cons, List.not_mem_nil, or_false] at hc
    rcases hc with rfl | rfl | rfl | rfl | rfl | rfl | rfl <;> exact ringReg_refuses hst hq hs (by rfl) hp
  case enabledAlone =>
    refine (ringEnable_good hs hst hq hp t twin hoff hg).trans ?_
    rw [claim_alone (show mirrored (setRing (tick t s) st q _) = false from hm), hm]
    exact congrArg _ (gate_quiet s _ rfl rfl)
  case enabledPaired =>
    refine (ringEnable_good hs hst hq hp t twin hoff hg).trans (congrArg _ (((claim_appends st q _ _).after ?_ ?_).gate hl |>.trans ?_))
    · rfl
    · rfl
    · rw [hm]
      cases twin <;> rfl
  case resumed =>
    refine (ringResume_next hs hst hq hp t hstop hb).trans (congrArg _ (((fetchSlots_appends st q _).after ?_ ?_).gate hl))
    · rfl
    · rfl
  case resumedAtTail =>
    have hr : ring (dropProv st q (setRing (tick t s) st q (ringResumed r))) st q = ringResumed r := ring_setRing_same _ _ _ _
    refine (ringResume_next hs hst hq hp t hstop hb).trans (congrArg _ ?_)
    rw [fetchSlots_atTail (by rw [hr]; exact hw) (by rw [hr]; exact hpa.symm)]
    exact gate_quiet s _ rfl rfl

end Machine
end Sys2Proof
end

section
/-!
PROOFS. REGISTER_WRITE (15 R627): the field that each offset of BAR0, of a Stall page and of the MSI-X table holds (02 R60 to R62,
R120; 03 R138, R145; 12 R548; 13 R593; 15 R626, R638, R640).
-/
namespace Sys2Proof
namespace Machine

/-! ### The three address spaces -/

theorem accessOk_word {off : Nat} (h : off % 4 = 0) : accessOk off 4 = true := by simp [accessOk, h]

section
variable {s : State} (hs : Serving s) (w : BitVec 64) (tb : Bool) (t : Nat) {off : Nat}
include hs

/-- An access to BAR0 of another size or alignment than R627 has sets ACCESS_ERR. -/
theorem registerWrite_bar0_refused {size : Nat} (h : (size ≠ 4 ∧ size ≠ 8) ∨ off % size ≠ 0) :
    exec (.registerWrite .bar0 off size w tb t) s =
      .next { tick t s with faults := { s.faults with accessErr := true } } := by
  refine hostAct_next_quiet hs (by rfl) ?_ rfl rfl
  have ha : (!accessOk off size) = true := by
    rcases h with ⟨h4, h8⟩ | h <;> simp [accessOk, *]
  exact if_pos ha

variable (h4 : off % 4 = 0) {v : State}
include h4

/-- A word written to BAR0 does what its offset says. -/
theorem registerWrite_bar0 (hv : bar0Word off (bits w.toNat 0 32) (tick t s) = v) (ho : v.out = s.out)
    (hp : v.pending = s.pending) : exec (.registerWrite .bar0 off 4 w tb t) s = .next v := by
  refine hostAct_next_quiet hs (by rfl) (Eq.trans ?_ hv) ho hp
  exact if_neg (by rw [accessOk_word h4]; decide)

/-- A word written to the MSI-X table does what its offset says. -/
theorem registerWrite_bar4 (hv : msixWord off (bits w.toNat 0 32) (tick t s) = v) (ho : v.out = s.out)
    (hp : v.pending = s.pending) : exec (.registerWrite .bar4 off 4 w tb t) s = .next v := by
  refine hostAct_next_quiet hs (by rfl) (Eq.trans ?_ hv) ho hp
  exact if_pos (accessOk_word h4)

/-- A word written to a Stall page is subject to the page rule of R145. -/
theorem registerWrite_stallPage
    (hv : pageWrite (off / 4096) (pageRing (off % 4096)) tb (stallWord off (bits w.toNat 0 32)) (tick t s) = v)
    (ho : v.out = s.out) (hp : v.pending = s.pending) : exec (.registerWrite .stallPage off 4 w tb t) s = .next v := by
  refine hostAct_next_quiet hs (by rfl) (Eq.trans ?_ hv) ho hp
  exact if_pos (accessOk_word h4)

end

/-! ### The blocks of BAR0 -/

section
variable (v : Nat) (s : State) {off : Nat}

theorem bar0Word_route (h : 0x3400 ≤ off) (h' : off < 0x3A00) : bar0Word off v s = routeWord (off - 0x3400) v s := by
  unfold bar0Word
  rw [if_neg (by omega), if_neg (by omega), if_pos (by simp [h, h'])]

theorem bar0Word_stallcfg (h : 0x10000 ≤ off) (h' : off < 0x50000) (hf : off % 64 = 0x28) : bar0Word off v s =
    modStall s ((off - 0x10000) / 64) (fun x => { x with cfgErr := x.cfgErr && !bitOf v 0 }) := by
  unfold bar0Word
  rw [if_neg (by omega), if_neg (by omega), if_neg (by simp; omega), if_pos (by simp [h, h']), if_pos hf]

theorem bar0Word_mon (h : 0x50000 ≤ off) (h' : off < 0x60000) : bar0Word off v s = monWord (off - 0x50000) v s := by
  unfold bar0Word
  rw [if_neg (by omega), if_neg (by omega), if_neg (by simp; omega), if_neg (by simp; omega), if_pos (by simp [h, h'])]

/-- An offset that holds no field that a plain write changes ignores it. -/
theorem bar0Word_ignored (h1 : off ≠ 0x1010) (h2 : off ≠ 0x3000) (h3 : ¬ (0x3400 ≤ off ∧ off < 0x3A00))
    (h4 : ¬ (0x10000 ≤ off ∧ off < 0x60000)) (h5 : off ≠ 0x7001C) (h6 : off ≠ 0x70088) (h7 : ¬ (0x90000 ≤ off ∧ off < 0xA0000))
    (h8 : ¬ (0xB0000 ≤ off ∧ off < 0xC0000)) : bar0Word off v s = s := by
  have hst : ¬ (0x10000 ≤ off ∧ off < 0x50000) := by omega
  have hmon : ¬ (0x50000 ≤ off ∧ off < 0x60000) := by omega
  unfold bar0Word
  rw [if_neg h1, if_neg h2, if_neg (by simpa using h3), if_neg (by simpa using hst), if_neg (by simpa using hmon), if_neg h5,
    if_neg h6, if_neg (by simpa using h7), if_neg (by simpa using h8)]

end

/-- A run of keys reads what was put there in turn, and every other key what it read. -/
theorem Tbl.getD_putRange {α : Type} [DecidableEq α] (d : α) (t : Tbl α) (a n : Nat) (f : Nat → α) (x : Nat) :
    Tbl.getD ((List.range n).foldl (fun t i => Tbl.put d t (a + i) (f i)) t) x d =
      if a ≤ x ∧ x < a + n then f (x - a) else Tbl.getD t x d := by
  induction n with
  | zero => rw [if_neg (by omega)]; rfl
  | succ n ih =>
    rw [List.range_succ, List.foldl_append, List.foldl_cons, List.foldl_nil]
    by_cases hx : x = a + n
    · subst hx
      rw [Tbl.getD_put_same, if_pos (by omega), Nat.add_sub_cancel_left]
    · rw [Tbl.getD_put_other _ _ _ _ _ hx, ih]
      exact if_congr (by omega) rfl rfl

/-- A ROUTE word gives four sources their vectors, and every other source keeps its own (15 R638). -/
theorem evRoute_routeWord (a v : Nat) (s : State) (x : Nat) : evRoute (routeWord a v s) x =
    if a ≤ x ∧ x < a + 4 then bits v (8 * (x - a)) 4 else evRoute s x :=
  Tbl.getD_putRange 0 s.ev.route a 4 (fun i => bits v (8 * i) 4) x

/-- The third word of a MON entry holds LATCHED, which a one clears (12 R548). -/
theorem monWord_latched (v : Nat) (s : State) {o e : Nat} (h : o = 0x100 + 16 * e + 8) : monWord o v s =
    if bitOf v 18 then { s with mon := { s.mon with ents := s.mon.ents.map (fun p =>
      if p.1 = e then (p.1, { p.2 with latched := false }) else p) } } else s := by
  have he : (o - 0x100) / 16 = e := by omega
  have ho : (decide (0x100 ≤ o) && (o - 0x100) % 16 == 8) = true := by simp; omega
  unfold monWord
  rw [ho, Bool.true_and, he]

/-! ### The registers of a ring position -/

section
variable (st q v : Nat) (s : State) {r : Nat}

theorem ringWord_base (h : r < 0x10) (he : (ring s st q).enabled = true) :
    ringWord st q r v s = setRing s st q { ring s st q with cfgErr := true } := by
  exact congrArg (setRing s st q) ((if_pos h).trans (if_pos he))

theorem ringWord_ordBase (h : r < 8) (he : (ring s st q).enabled = false) : ringWord st q r v s =
    setRing s st q { ring s st q with ordBase := baseField (putHalf (ring s st q).ordBase (r == 4) v) } := by
  exact congrArg (setRing s st q) ((if_pos (by omega)).trans ((if_neg (ne_true_of_eq_false he)).trans (if_pos h)))

theorem ringWord_rcpBase (h : 8 ≤ r) (h' : r < 0x10) (he : (ring s st q).enabled = false) : ringWord st q r v s =
    setRing s st q { ring s st q with rcpBase := baseField (putHalf (ring s st q).rcpBase (r == 12) v) } := by
  exact congrArg (setRing s st q) ((if_pos h').trans ((if_neg (ne_true_of_eq_false he)).trans (if_neg (by omega))))

end

/-- A word of the ring registers in a Stall page is one of a ring of that Stall (02 R59, R60). -/
theorem stallWord_ring {st q r : Nat} (hst : st < 4096) (hq : q < 4) (hr : r < 0x40) (v : Nat) :
    stallWord (4096 * st + 0x100 + 0x40 * q + r) v = ringWord st q r v := by
  have hn : (4096 * st + 0x100 + 0x40 * q + r) / 4096 = st := by omega
  have ho : (4096 * st + 0x100 + 0x40 * q + r) % 4096 = 0x100 + 0x40 * q + r := by omega
  have hi : (0x100 + 0x40 * q + r - 0x100) / 0x40 = q := by omega
  have hf : (0x100 + 0x40 * q + r - 0x100) % 0x40 = r := by omega
  funext s
  unfold stallWord
  dsimp only
  rw [hn, ho, if_neg (by omega), if_pos (by simp; omega), hi, hf]

theorem pageRing_ring {st q r : Nat} (hq : q < 4) (hr : r < 0x40) :
    pageRing ((4096 * st + 0x100 + 0x40 * q + r) % 4096) = q := by
  unfold pageRing
  rw [if_neg (by omega), if_pos (by simp; omega)]
  omega

section
variable {s : State} (hs : Serving s) (w : BitVec 64) {tb : Bool} (t : Nat) {st q r : Nat} (hst : st < 4096) (hq : q < 4)
  (hr : r < 0x40) (h4 : r % 4 = 0)
include hs hst hq hr h4

/-- A word written to the registers of a ring, on a page that takes it. -/
theorem registerWrite_ring (hp : pageTakes (stall s st) tb = true) :
    exec (.registerWrite .stallPage (4096 * st + 0x100 + 0x40 * q + r) 4 w tb t) s =
      .next (ringWord st q r (bits w.toNat 0 32) (tick t s)) := by
  refine registerWrite_stallPage hs w tb t (by omega) ?_ rfl rfl
  rw [pageRing_ring hq hr, stallWord_ring hst hq hr, show (4096 * st + 0x100 + 0x40 * q + r) / 4096 = st by omega]
  exact pageWrite_takes (s := tick t s) hst hq hp _

/-- A word written to the registers of a ring, on a page that does not take it. -/
theorem registerWrite_ring_refused (hp : pageTakes (stall s st) tb = false) :
    exec (.registerWrite .stallPage (4096 * st + 0x100 + 0x40 * q + r) 4 w tb t) s =
      .next (if (stall s st).tdi = .run then setRing (tick t s) st q
        { ring s st q with cwDrops := satAdd 16 (ring s st q).cwDrops 1 } else tick t s) := by
  refine registerWrite_stallPage hs w tb t (by omega) ?_ ?_ ?_
  · rw [pageRing_ring hq hr, show (4096 * st + 0x100 + 0x40 * q + r) / 4096 = st by omega]
    exact pageWrite_refuses (s := tick t s) hst hq hp _
  · split <;> rfl
  · split <;> rfl

end

/-! ### The MSI-X table -/

section
variable (e v : Nat) (s : State) (he : e < 4096)
include he

/-- The data word of a vector (15 R626). -/
theorem msixWord_data : msixWord (16 * e + 8) v s = { s with pcie := { s.pcie with
    msixTable := Tbl.put (0, 0) s.pcie.msixTable e ((Tbl.getD s.pcie.msixTable e (0, 0)).1, v % 2 ^ 32) } } := by
  have hd : (16 * e + 8) / 16 = e := by omega
  have hm : (16 * e + 8) % 16 / 4 = 2 := by omega
  unfold msixWord
  rw [if_neg (by omega), hm, hd]
  rfl

/-- The mask bit of a vector, set (02 R120). -/
theorem msixWord_mask (h : bitOf v 0 = true) : msixWord (16 * e + 12) v s = maskVector e s := by
  have hd : (16 * e + 12) / 16 = e := by omega
  have hm : (16 * e + 12) % 16 / 4 = 3 := by omega
  unfold msixWord
  rw [if_neg (by omega), hm, hd]
  exact if_pos h

end

/-- Settles O40: each offset by the field it holds. -/
theorem registerFieldWrites : Obligations.RegisterFieldWrites := by
  unfold Obligations.RegisterFieldWrites
  intro s w tb t hs u n bar0
  refine ⟨fun off size h => registerWrite_bar0_refused hs w tb t h, ?accessErr, ?eventEn, ?winErr, ?tallySel, fun k hk => ?route, fun st hst => ?stallcfg,
    fun e he => ?latched, fun off h0 h1 h2 h3 h4 h5 h6 h7 h8 => ?ignored,
    fun st q r hst hq hr h4 => ⟨registerWrite_ring_refused hs w t hst hq hr h4, fun hp => ?ringTaken⟩, fun e he => ⟨?msixData, fun hb => ?msixMask⟩⟩
  case accessErr => exact registerWrite_bar0 hs w tb t (by decide) rfl rfl rfl
  case eventEn => exact registerWrite_bar0 hs w tb t (by decide) rfl rfl rfl
  case winErr => exact registerWrite_bar0 hs w tb t (by decide) rfl rfl rfl
  case tallySel => exact registerWrite_bar0 hs w tb t (by decide) rfl rfl rfl
  case route =>
    have ha : 0x3400 + 4 * k - 0x3400 = 4 * k := by omega
    refine ⟨_, registerWrite_bar0 hs w tb t (by omega) (bar0Word_route n u (by omega) (by omega)) rfl rfl, fun i hi => ?_, fun x hx => ?_, rfl⟩
    · rw [ha, evRoute_routeWord, if_pos (by omega), Nat.add_sub_cancel_left]
    · rw [ha, evRoute_routeWord, if_neg (by omega)]
      rfl
  case stallcfg =>
    refine registerWrite_bar0 hs w tb t (by omega) ((bar0Word_stallcfg n u (by omega) (by omega) (by omega)).trans ?_) rfl rfl
    rw [show (0x10000 + 64 * st + 0x28 - 0x10000) / 64 = st by omega]
    rfl
  case latched =>
    refine registerWrite_bar0 hs w tb t (by omega)
      ((bar0Word_mon n u (by omega) (by omega)).trans (monWord_latched n u (by omega))) ?_ ?_
    · split <;> rfl
    · split <;> rfl
  case ignored => exact registerWrite_bar0 hs w tb t h0 (bar0Word_ignored n u h1 h2 h3 h4 h5 h6 h7 h8) rfl rfl
  case ringTaken =>
    have hw := registerWrite_ring hs w t hst hq hr h4 hp
    refine ⟨fun h he => hw.trans ?_, fun h he => hw.trans ?_, fun h h' he => hw.trans ?_, ?_, ?_, ?_⟩
    · exact congrArg _ (ringWord_base st q n u h he)
    · exact congrArg _ (ringWord_ordBase st q n u h he)
    · exact congrArg _ (ringWord_rcpBase st q n u h h' he)
    all_goals
      rintro rfl
      exact hw
  case msixData =>
    refine registerWrite_bar4 hs w tb t (by omega) ((msixWord_data e n u he).trans ?_) rfl rfl
    rw [show n % 2 ^ 32 = n from Nat.mod_mod _ _]
    rfl
  case msixMask => exact registerWrite_bar4 hs w tb t (by omega) (msixWord_mask e n u he hb) rfl rfl

end Machine
end Sys2Proof
end

section
/-!
PROOFS. RING_FLUSH and RING_DISABLE (02 R63, R64, R93, R116): which orders they end, and what becomes of the ring position.
-/
namespace Sys2Proof
namespace Machine

/-! ### The orders of a ring in ring order -/

theorem insCount_perm (h : BitVec 32) (o : Order) (l : List Order) : (insCount h o l).Perm (o :: l) := by
  induction l with
  | nil => exact .refl _
  | cons x l ih =>
    unfold insCount
    split
    · exact (ih.cons x).trans (.swap o x l)
    · exact .refl _

/-- Ring order leaves the same orders. -/
theorem byCount_perm (h : BitVec 32) (l : List Order) : (byCount h l).Perm l := by
  induction l with
  | nil => exact .refl _
  | cons o l ih => exact (insCount_perm h o _).trans (ih.cons o)

/-- The undispatched orders of a ring are those of its orders that are committed and not receipts of intake. -/
theorem mem_waitingOrders {s : State} {st q : Nat} {o : Order} :
    o ∈ waitingOrders s st q ↔ o ∈ s.orders ∧ (o.stall == st && o.ring == q && undispatched o) = true := by
  rw [waitingOrders, (byCount_perm _ _).mem_iff, ringOrders, List.mem_filter, List.mem_filter, and_assoc, ← Bool.and_eq_true]

/-! ### Orders that end together -/

/-- An order that has ended with a result at a time (01 R50; 02 R100). -/
def endedAt (r : Result) (c : Nat) (o : Order) : Order :=
  { o with stage := .done, result := some r, copyA := none, copyB := none, insts := [], compareAt := c }

/-- The parts of the state that the end of an order may change, taken from another state: the orders and the key locks. -/
def settleParts (t s : State) : State := { s with orders := t.orders, munim := { s.munim with keys := t.munim.keys } }

/-- Orders that end one by one with one status: each order of the list is ended, at the one time. -/
theorem completeAll_orders (status word : Nat) (l : List Order) (s : State) :
    (l.foldl (fun s o => complete o.id status word s) s).orders = s.orders.map (fun o =>
      if o.id ∈ l.map Order.id then endedAt { status := status, word := word, out := [], aux := [] } s.clock o else o) := by
  induction l generalizing s with
  | nil => simp
  | cons a l ih =>
    have hc : (complete a.id status word s).orders = s.orders.map (fun o =>
        if o.id = a.id then endedAt { status := status, word := word, out := [], aux := [] } s.clock o else o) := rfl
    have hk : (complete a.id status word s).clock = s.clock := rfl
    rw [List.foldl_cons, ih, hc, hk, List.map_map]
    refine List.map_congr_left fun o _ => ?_
    by_cases ha : o.id = a.id
    · rw [Function.comp_apply, if_pos ha, if_pos (c := o.id ∈ (a :: l).map Order.id) (by simp [ha])]
      split <;> rfl
    · rw [Function.comp_apply, if_neg ha]
      exact if_congr (by simp [ha]) rfl rfl

theorem completeAll_parts (t : State) (status word : Nat) (l : List Order) (s : State) :
    settleParts t (l.foldl (fun s o => complete o.id status word s) s) = settleParts t s :=
  foldl_keeps (settleParts t) (fun s o => complete o.id status word s) (fun _ _ => rfl) l s

/-- The committed orders of a ring end with 0x0310, and no other order changes (02 R63, R93). -/
theorem flushCommitted_orders (st q : Nat) (s : State) : (flushCommitted st q s).orders = s.orders.map (fun o =>
    if s.orders.any (fun y => y.id == o.id && (y.stall == st && y.ring == q && undispatched y))
    then endedAt { status := 0x0310, word := 0, out := [], aux := [] } s.clock o else o) := by
  refine (completeAll_orders 0x0310 0 _ s).trans (List.map_congr_left fun o _ => if_congr ?_ rfl rfl)
  simp only [List.mem_map, mem_waitingOrders, List.any_eq_true]
  exact exists_congr fun y => by rw [Bool.and_eq_true (y.id == o.id), beq_iff_eq, and_assoc, and_comm (a := y.id = o.id)]

theorem flushCommitted_parts (t : State) (st q : Nat) (s : State) : settleParts t (flushCommitted st q s) = settleParts t s :=
  completeAll_parts t 0x0310 0 _ s

/-! ### RING_FLUSH and RING_DISABLE -/

/-- The state that a flush or a disable leaves: the committed orders have ended, nothing is held for uncommitted ones, and the
ring position is as `f` makes it. -/
def flushedTo (f : Ring → Ring) (st q : Nat) (s : State) : State := dropUncommitted st q (modRing (flushCommitted st q s) st q f)

theorem flushedTo_ring (f : Ring → Ring) (st q : Nat) (s : State) : ring (flushedTo f st q s) st q = f (ring s st q) :=
  (ring_setRing_same (flushCommitted st q s) st q _).trans
    (congrArg (fun v => f (ring v st q)) (flushCommitted_parts s st q s) :)

theorem flushedTo_ring_other (f : Ring → Ring) (s : State) {st q st' q' : Nat} (h : rix st' q' ≠ rix st q) :
    ring (flushedTo f st q s) st' q' = ring s st' q' :=
  (ring_setRing_other (flushCommitted st q s) st q st' q' _ h).trans
    (congrArg (fun v => ring v st' q') (flushCommitted_parts s st q s) :)

/-- The provisional fills of the ring leave the cache (02 R116). -/
theorem flushedTo_cache (f : Ring → Ring) (st q : Nat) (s : State) :
    (flushedTo f st q s).munim.cache = (dropProv st (cwName q) (dropProv st q s)).munim.cache :=
  (congrArg (fun v => (dropProv st (cwName q) (dropProv st q v)).munim.cache) (flushCommitted_parts s st q s) :)

/-- Outside orders, rings, key locks and the cache nothing changes. -/
theorem flushedTo_parts (f : Ring → Ring) (st q : Nat) (s : State) :
    let v := flushedTo f st q s
    { v with orders := s.orders, rings := s.rings, munim := { v.munim with keys := s.munim.keys, cache := s.munim.cache } } = s :=
  (congrArg (fun v : State => { v with rings := s.rings, munim := { v.munim with cache := s.munim.cache } })
    (flushCommitted_parts s st q s) :)

/-- A write that flushes a ring position answers the flushed state. -/
theorem flush_next {s : State} {st q t : Nat} {tb : Bool} (hs : Serving s) (hst : st < 4096) (hq : q < 4)
    (hp : pageTakes (stall s st) tb = true) {c : Instr} {g : State → State} {f : Ring → Ring}
    (hc : exec c s = ringReg st q ⟨t, tb⟩ g s) (hg : g (tick t s) = flushedTo f st q (tick t s)) :
    exec c s = .next (flushedTo f st q (tick t s)) :=
  ringReg_quiet hst hq hs hc hp hg (congrArg State.out (flushedTo_parts f st q (tick t s)) :)
    (congrArg State.pending (flushedTo_parts f st q (tick t s)) :)

/-- Settles O26: what a flush and a disable leave of orders, ring position and cache. -/
theorem flushRows : Obligations.FlushRows := by
  unfold Obligations.FlushRows
  intro s st q t tb hs hst hq hp u r hit flushed left
  have hleft (f : Ring → Ring) : left (flushedTo f st q u) (f r) :=
    ⟨flushCommitted_orders st q u, flushedTo_ring f st q u, fun _ _ h => flushedTo_ring_other f u h, flushedTo_cache f st q u,
      flushedTo_parts f st q u⟩
  refine ⟨?flush, fun hon => ?disable, fun hoff => ?off⟩
  case flush => exact ⟨_, flush_next hs hst hq hp (by rfl) rfl, hleft _⟩
  case disable =>
    have hc : ¬ (!r.enabled) = true := by simp [hon]
    exact ⟨_, flush_next hs hst hq hp (by rfl) (if_neg hc), hleft _⟩
  case off =>
    have hc : (!r.enabled) = true := by simp [hoff]
    refine ringReg_quiet hst hq hs (by rfl) hp ?_ rfl rfl
    exact if_pos hc

end Machine
end Sys2Proof
end

section
/-!
PROOFS. Doorbells (02 R80 to R82, R94; 15 R630): what intake puts out, the one read of a short burst of slots, and the doorbell's
outcomes.
-/
namespace Sys2Proof
namespace Machine

/-! ### Intake appends its outputs -/

theorem event_appends (src : Nat) (s : State) : Appends s (event src s) := (event_frame src s).appends (event_out src s)

theorem checkDivergence_appends (st q : Nat) (s : State) : Appends s (checkDivergence st q s) := by
  unfold checkDivergence
  split
  · exact (event_appends 34 _).after rfl rfl
  · exact .refl s

theorem advanceShared_appends (st q fuel : Nat) (s : State) : Appends s (advanceShared st q fuel s) := by
  induction fuel generalizing s with
  | zero => exact fetchSlots_appends st q s
  | succ fuel ih =>
    unfold advanceShared
    dsimp only
    split
    · split
      · exact (ih _).after rfl rfl
      · exact fetchSlots_appends st q s
    · exact fetchSlots_appends st q s

/-- A commit tells the twin, and puts nothing else out than slot reads and an event (02 R88; 10 R457, R458). -/
theorem commitOrder_appends (st q : Nat) (o : Order) (crc : Nat) (s : State) : Appends s (commitOrder st q o crc s) := by
  unfold commitOrder
  dsimp only
  split
  · refine .trans ?_ (advanceShared_appends st q 64 _)
    refine .trans ?_ (checkDivergence_appends st q _)
    exact (claim_appends st q _ _).after rfl rfl
  · exact ⟨List.prefix_rfl, rfl⟩

theorem provFill_quiet (st q count h : Nat) (s : State) :
    (provFill st q count h s).out = s.out ∧ (provFill st q count h s).pending = s.pending := by
  unfold provFill
  dsimp only
  split
  · exact ⟨rfl, rfl⟩
  · split
    · exact ⟨rfl, rfl⟩
    · split <;> exact ⟨rfl, rfl⟩

theorem provHeader_appends (st q : Nat) (count : BitVec 32) (hdr : Bytes) (s : State) :
    Appends s (provHeader st q count hdr s) := by
  obtain ⟨ho, hp⟩ := provFill_quiet st q count.toNat (field hdr 8 8) s
  obtain ⟨ho', hp'⟩ := provFill_quiet st q count.toNat (field hdr 16 8) (provFill st q count.toNat (field hdr 8 8) s)
  exact (Appends.refl _).after (ho'.trans ho) (hp'.trans hp)

theorem oweRcpt_quiet (st q tag status word : Nat) (win err : Bool) (s : State) :
    (oweRcpt st q tag status word win err s).out = s.out ∧ (oweRcpt st q tag status word win err s).pending = s.pending := by
  unfold oweRcpt
  dsimp only
  split <;> exact ⟨rfl, rfl⟩

theorem assembleAux_appends (st q fuel : Nat) (s : State) : Appends s (assembleAux st q fuel s) := by
  induction fuel generalizing s with
  | zero => exact .refl s
  | succ fuel ih =>
    have hfail (tag status word : Nat) (win err : Bool) (v : State) (ho : v.out = s.out) (hp : v.pending = s.pending) :
        Appends s (oweRcpt st q tag status word win err v) := by
      obtain ⟨h1, h2⟩ := oweRcpt_quiet st q tag status word win err v
      exact (Appends.refl _).after (h1.trans ho) (h2.trans hp)
    unfold assembleAux
    dsimp only
    split
    · exact .refl s
    · split
      · exact .refl s
      · split
        · exact hfail _ _ _ _ _ _ rfl rfl
        · split
          · exact provHeader_appends st q _ _ s
          · split
            · exact hfail _ _ _ _ _ _ rfl rfl
            · refine .trans ?_ (ih _)
              exact commitOrder_appends st q _ _ s

theorem assemble_appends (st q : Nat) (s : State) : Appends s (assemble st q s) :=
  (assembleAux_appends st q 64 s).trans (fetchSlots_appends st q _)

/-- A doorbell puts out slot reads, and what commits put out (02 R82). -/
theorem doorbell_appends (st q : Nat) (v : BitVec 32) (gen : BitVec 16) (width : Nat) (s : State) :
    Appends s (doorbell st q v gen width s) := by
  unfold doorbell
  dsimp only
  split
  · exact ⟨List.prefix_rfl, rfl⟩
  · split
    · exact ⟨List.prefix_rfl, rfl⟩
    · split
      · exact ⟨List.prefix_rfl, rfl⟩
      · exact (assemble_appends st q _).after rfl rfl

theorem pageWrite_appends {f : State → State} (st q : Nat) (tb : Bool) (s : State) (h : Appends s (f s)) :
    Appends s (pageWrite st q tb f s) := by
  unfold pageWrite
  split
  · exact .refl s
  · split
    · exact h
    · split
      · exact ⟨List.prefix_rfl, rfl⟩
      · exact .refl s

/-! ### A ring position that is set twice -/

theorem Tbl.ins_ins {α : Type} (t : Tbl α) (i : Nat) (v w : α) : Tbl.ins (Tbl.ins t i v) i w = Tbl.ins t i w := by
  induction t with
  | nil => simp [Tbl.ins]
  | cons p t ih =>
    obtain ⟨k, x⟩ := p
    by_cases hk : i = k
    · simp [Tbl.ins, hk]
    · by_cases hlt : i < k <;> simp [Tbl.ins, hk, hlt, ih]

/-- Of two settings of a ring position that is on, the later one stands. -/
theorem setRing_setRing (s : State) (st q : Nat) {r r' : Ring} (h : r.enabled = true) (h' : r'.enabled = true) :
    setRing (setRing s st q r) st q r' = setRing s st q r' := by
  have hne (r : Ring) (h : r.enabled = true) : r ≠ Ring.reset := fun e => by rw [e] at h; exact Bool.false_ne_true h
  simp only [setRing, Tbl.put, hne r h, hne r' h', if_false, Tbl.ins_ins]

/-- A change of a ring position that has just been set. -/
theorem modRing_setRing (s : State) (st q : Nat) {r : Ring} (f : Ring → Ring) (hf : ∀ r, (f r).enabled = r.enabled)
    (h : r.enabled = true) : modRing (setRing s st q r) st q f = setRing s st q (f r) := by
  rw [modRing, ring_setRing_same, setRing_setRing s st q h ((hf r).trans h)]

/-! ### The read of a short burst -/

/-- As many elements of a range as a test accepts before the first that it refuses. -/
theorem length_takeWhile_range {p : Nat → Bool} {n m : Nat} (h : n ≤ m) (hp : ∀ i < n, p i = true) (hn : n < m → p n = false) :
    ((List.range m).takeWhile p).length = n := by
  obtain ⟨k, rfl⟩ := Nat.exists_eq_add_of_le h
  have hrest : ((List.range k).map (n + ·)).takeWhile p = [] := by
    cases k with
    | zero => rfl
    | succ k => simp [List.range_succ_eq_map, hn (by omega)]
  rw [List.range_add, List.takeWhile_append_of_pos (by simpa using hp), hrest, List.append_nil, List.length_range]

/-- A read takes all slots up to P when they lie within four aligned ones (01 R54; 02 R82). -/
theorem readRun_short {r : Ring} {c : BitVec 32} (hw : r.cwRanges = []) (h : c.toNat % 4 + (r.p - c).toNat ≤ 4) :
    readRun r c = (r.p - c).toNat := by
  have hlt (i : Nat) (hi : i < 5) : BitVec.ofNat 32 i < r.p - c ↔ i < (r.p - c).toNat := by
    rw [BitVec.lt_def, BitVec.toNat_ofNat, Nat.mod_eq_of_lt (by omega)]
  have hcw (c : BitVec 32) : inCw r c = false := by rw [inCw, hw]; rfl
  refine length_takeWhile_range (by omega) (fun i hi => ?_) (fun hn => ?_)
  · simp [hcw, (hlt i (by omega)).mpr hi]
  · simpa [hcw] using mt (hlt _ (by omega)).mp (lt_irrefl _)

/-- Nothing that is fetched or committed lies between H and the next slot: the dispatch rule stands at H (02 R97). -/
theorem dispatchHead_empty {s : State} {st q : Nat} (hw : (ring s st q).cwRanges = []) (h : (ring s st q).asm = (ring s st q).h) :
    dispatchHead s st q = (ring s st q).h := by
  unfold dispatchHead
  dsimp only
  rw [skipCw_noRanges hw, h]
  split
  · rw [if_neg]
    rw [BitVec.sub_self]
    exact Nat.not_lt_zero _
  · rfl

/-- With nothing fetched, no window range and no translation, one to four slots within four aligned ones are read at once
(02 R82). -/
theorem fetchSlots_short {s : State} {st q : Nat} (hon : (ring s st q).enabled = true) (hstop : (ring s st q).stopped = false)
    (hw : (ring s st q).cwRanges = []) (hasm : (ring s st q).asm = (ring s st q).h) (hrd : (ring s st q).rd = (ring s st q).h)
    (hats : (stall s st).ats = false) (hpos : (ring s st q).p ≠ (ring s st q).h)
    (hshort : (ring s st q).h.toNat % 4 + ((ring s st q).p - (ring s st q).h).toNat ≤ 4) :
    fetchSlots st q s = emit (.readReq st (pasidOf s st) (slotIova (ring s st q) (ring s st q).h)
      (64 * ((ring s st q).p - (ring s st q).h).toNat) ((stall s st).tdi == .run))
      (modRing s st q (fun r => { r with rd := r.p })) := by
  have hn : min ((ring s st q).p - (ring s st q).h).toNat (32 - (0#32).toNat) = ((ring s st q).p - (ring s st q).h).toNat := by
    rw [BitVec.toNat_ofNat]
    omega
  have hk : ((ring s st q).p - (ring s st q).h).toNat ≠ 0 := fun h => hpos (by bv_omega)
  have hgo : ∀ page, readPath s st page = .go := fun page => by simp [readPath, hats]
  have htail : (ring s st q).h + BitVec.ofNat 32 ((ring s st q).p - (ring s st q).h).toNat = (ring s st q).p := by bv_omega
  set v := emit (.readReq st (pasidOf s st) (slotIova (ring s st q) (ring s st q).h)
      (64 * ((ring s st q).p - (ring s st q).h).toNat) ((stall s st).tdi == .run))
      (modRing s st q (fun r => { r with rd := r.p })) with hv
  have hr : ring v st q = { ring s st q with rd := (ring s st q).p } := ring_setRing_same s st q _
  have hgoes : (decide (((ring s st q).p - (ring s st q).h).toNat ≥ 2 ^ 31) || ((ring s st q).p - (ring s st q).h).toNat == 0 ||
      (ring s st q).stopped || !(ring s st q).enabled) = false := by
    rw [decide_eq_false (by omega), beq_eq_false_iff_ne.mpr hk, hon, hstop]
    rfl
  have hstep : fetchAux st q 16 s = fetchAux st q 15 v := by
    conv_lhs => unfold fetchAux
    dsimp only
    rw [skipCw_noRanges hw, hrd, dispatchHead_empty hw hasm, BitVec.sub_self, readRun_short hw hshort, hn, hgo, htail,
      if_neg (ne_true_of_eq_false hgoes)]
    rfl
  exact hstep.trans (fetchAux_atTail (by rw [hr]; exact hw) (by rw [hr]) 15)

/-! ### The outcomes of a doorbell -/

/-- A doorbell that the ring does not take: it is off, stopped or refusing, its Stall is not Bound, or the doorbell has the wrong
width or generation, or moves P by nothing or backwards (02 R80, R81, R94). -/
def StaleDoorbell (s : State) (st q : Nat) (v : BitVec 32) (gen : BitVec 16) (width : Nat) : Prop :=
  (ring s st q).enabled = false ∨ (ring s st q).stopped = true ∨ refusesDoorbell s st q = true ∨ (stall s st).state ≠ .bound ∨
    width ≠ 8 ∨ gen ≠ (stall s st).gen ∨ v = (ring s st q).p ∨ 2 ^ 31 ≤ (v - (ring s st q).p).toNat

/-- The two tests of the model for a stale doorbell: of the ring, and of the value. -/
theorem staleDoorbell_iff (s : State) (st q : Nat) (v : BitVec 32) (gen : BitVec 16) (width : Nat) :
    StaleDoorbell s st q v gen width ↔
      (!(ring s st q).enabled || (ring s st q).stopped || refusesDoorbell s st q || (stall s st).state != .bound) = true ∨
      (decide (width ≠ 8) || decide (gen ≠ (stall s st).gen) || decide (v - (ring s st q).p = 0) ||
        decide (2 ^ 31 ≤ (v - (ring s st q).p).toNat)) = true := by
  have h0 : v - (ring s st q).p = 0 ↔ v = (ring s st q).p := sub_eq_zero
  simp only [StaleDoorbell, Bool.or_eq_true, decide_eq_true_eq, Bool.not_eq_true', bne_iff_ne, h0, or_assoc]

/-- A doorbell that the ring does not take counts in STALE_DBS. -/
theorem doorbell_stale {s : State} {st q : Nat} {v : BitVec 32} {gen : BitVec 16} {width : Nat}
    (h : StaleDoorbell s st q v gen width) :
    doorbell st q v gen width s = setRing s st q { ring s st q with staleDbs := satAdd 16 (ring s st q).staleDbs 1 } := by
  unfold doorbell
  dsimp only
  split
  · rfl
  · rename_i hring
    exact if_pos (((staleDoorbell_iff _ _ _ _ _ _).mp h).resolve_left hring)

/-- A doorbell that the ring takes overruns it, or moves P and slots are asked for (02 R80 to R82). -/
theorem doorbell_taken {s : State} {st q : Nat} {v : BitVec 32} {gen : BitVec 16} {width : Nat}
    (h : ¬ StaleDoorbell s st q v gen width) : doorbell st q v gen width s =
      if ordSize (ring s st q) - ((ring s st q).p - (ring s st q).h).toNat < (v - (ring s st q).p).toNat then
        setRing s st q { ring s st q with overrun := true, stopped := true, stopCode := 0x0108 }
      else assemble st q (setRing s st q { ring s st q with p := v }) := by
  obtain ⟨hring, hval⟩ := not_or.mp (mt (staleDoorbell_iff _ _ _ _ _ _).mpr h)
  exact (if_neg hring).trans (if_neg hval)

/-- With nothing fetched nothing is assembled (02 R88). -/
theorem assembleAux_nothing {s : State} {st q : Nat} (h : (ring s st q).fetched = []) (fuel : Nat) :
    assembleAux st q fuel s = s := by
  cases fuel with
  | zero => rfl
  | succ fuel =>
    unfold assembleAux
    dsimp only
    rw [h]
    split <;> rfl

/-- What a doorbell to a ring of which nothing is fetched or asked for asks for: the new slots, in one read (02 R82). -/
theorem assemble_short {s : State} {st q : Nat} {v : BitVec 32} (hon : (ring s st q).enabled = true)
    (hstop : (ring s st q).stopped = false) (hf : (ring s st q).fetched = []) (hw : (ring s st q).cwRanges = [])
    (hasm : (ring s st q).asm = (ring s st q).p) (hrd : (ring s st q).rd = (ring s st q).p) (hh : (ring s st q).h = (ring s st q).p)
    (hats : (stall s st).ats = false) (hv : v ≠ (ring s st q).p)
    (hshort : (ring s st q).p.toNat % 4 + (v - (ring s st q).p).toNat ≤ 4) :
    assemble st q (setRing s st q { ring s st q with p := v }) = { setRing s st q { ring s st q with p := v, rd := v } with
      out := s.out ++ [.readReq st (pasidOf s st) (slotIova (ring s st q) (ring s st q).p)
        (64 * (v - (ring s st q).p).toNat) ((stall s st).tdi == .run)] } := by
  set w := setRing s st q { ring s st q with p := v } with hwdef
  have hr : ring w st q = { ring s st q with p := v } := ring_setRing_same s st q _
  have hm : modRing w st q (fun r => { r with rd := r.p }) = setRing s st q { ring s st q with p := v, rd := v } :=
    modRing_setRing s st q (fun r => { r with rd := r.p }) (fun _ => rfl) (r := { ring s st q with p := v }) hon
  have hfetch := fetchSlots_short (s := w) (st := st) (q := q) (by rw [hr]; exact hon) (by rw [hr]; exact hstop) (by rw [hr]; exact hw)
    (by rw [hr]; exact hasm.trans hh.symm) (by rw [hr]; exact hrd.trans hh.symm) hats (by rw [hr, hh]; exact hv)
    (by rw [hr, hh]; exact hshort)
  rw [assemble, assembleAux_nothing (by rw [hr]; exact hf), hfetch, hr, hh, hm]
  rfl

/-! ### DOORBELL_WRITE and DOORBELL_CAS -/

section
variable {s : State} (hs : Open s) {st q : Nat} (hst : st < 4096) (hq : q < 4) {tb : Bool} (v : BitVec 32) (gen : BitVec 16)
  (width : Nat)
include hs

/-- A doorbell does what the page rule leaves of it. -/
theorem doorbellWrite_next :
    exec (.doorbellWrite st q v gen width tb) s = .next (pageWrite st q tb (doorbell st q v gen width) s) :=
  (hostAct_next hs.1 (by rfl) rfl).trans
    (congrArg _ ((pageWrite_appends st q tb s (doorbell_appends st q v gen width s)).gate hs.2))

include hst hq

theorem doorbellWrite_takes (hp : pageTakes (stall s st) tb = true) :
    exec (.doorbellWrite st q v gen width tb) s = .next (doorbell st q v gen width s) :=
  (doorbellWrite_next hs v gen width).trans (congrArg _ (pageWrite_takes hst hq hp _))

variable (cmp swap : BitVec 64)

/-- On a ring that a twin shares DOORBELL_CAS is Unsupported Request (15 R630). -/
theorem doorbellCas_shared (h : mirrored s = true ∧ (ring s st q).shared = true) :
    exec (.doorbellCas st q cmp swap tb) s = .next (emit .unsupported s) := by
  refine (hostAct_next (v := emit .unsupported s) hs.1 (by rfl) ?_).trans (congrArg _ (gate_appends s _ _ hs.2 rfl rfl))
  exact (if_neg (by simp [ringExists, hst, hq])).trans (if_pos (by simp [h]))

/-- On every other ring the completion returns the value read before, and a compare that finds it equal makes the doorbell have
its effect first (15 R630). -/
theorem doorbellCas_next (h : ¬ (mirrored s = true ∧ (ring s st q).shared = true)) :
    exec (.doorbellCas st q cmp swap tb) s = .next (emit (.casDone (doorbellValue s st q))
      (if cmp = doorbellValue s st q then
        pageWrite st q tb (doorbell st q (swap.truncate 32) ((swap >>> 32).truncate 16) 8) s else s)) := by
  refine (hostAct_next hs.1 (by rfl) ?_).trans (congrArg _ (Appends.gate ?_ hs.2))
  · exact (if_neg (by simp [ringExists, hst, hq])).trans (if_neg (by simpa using h))
  · refine Appends.trans ?_ ⟨List.prefix_append _ _, rfl⟩
    split
    · exact pageWrite_appends st q tb s (doorbell_appends st q _ _ _ s)
    · exact .refl s

end

/-- Settles O27: the outcomes of a doorbell by ring, value and page, and of a compare-and-swap by what it finds. -/
theorem doorbellRows : Obligations.DoorbellRows := by
  unfold Obligations.DoorbellRows
  intro s st q tb hs hst hq r x stale free
  refine ⟨fun v gen width => ⟨fun hp => ⟨fun h => ?stale, fun hon hstop href hb hw hgen hv hlt => ?taken⟩, fun hp => ?refused⟩,
    fun cmp swap => ⟨doorbellCas_shared hs hst hq cmp swap, fun h => ⟨fun hne => ?different, fun heq => ?equal⟩⟩⟩
  case stale => exact (doorbellWrite_takes hs hst hq v gen width hp).trans (congrArg _ (doorbell_stale h))
  case taken =>
    have hn : ¬ StaleDoorbell s st q v gen width := by
      rw [StaleDoorbell, hon, hstop, href, hb, ← hgen, or_iff_right hv, iff_false_intro (Nat.not_le.mpr hlt)]
      simp [hw]
    have hx := (doorbellWrite_takes hs hst hq v gen width hp).trans (congrArg _ (doorbell_taken hn))
    refine ⟨fun hfree => hx.trans (congrArg _ (if_pos hfree)), fun hfree => ?_, fun hfree hf hcw hasm hrd hh hats hshort => ?_⟩
    · exact hx.trans (congrArg _ (if_neg (Nat.not_lt.mpr hfree)))
    · exact hx.trans (congrArg _ ((if_neg (Nat.not_lt.mpr hfree)).trans
        (assemble_short hon hstop hf hcw hasm hrd hh hats hv hshort)))
  case refused =>
    exact (doorbellWrite_next hs v gen width).trans (congrArg _ (pageWrite_refuses hst hq hp _))
  case different => exact (doorbellCas_next hs hst hq cmp swap h).trans (by rw [if_neg hne]; rfl)
  case equal =>
    exact ⟨_, doorbellWrite_next hs _ _ _, (doorbellCas_next hs hst hq cmp swap h).trans (by rw [if_pos heq]; rfl)⟩

end Machine
end Sys2Proof
end

section
/-!
PROOFS. Intake of an order of one slot (02 R70, R81 to R90, R112, R116): through the Counter window, and by a slot read.
-/
namespace Sys2Proof
namespace Machine

/-- An order that commits without a twin is put after the others and counted (02 R88). -/
theorem commitOrder_alone {s : State} (h : mirrored s = false) (st q : Nat) (o : Order) (crc : Nat) :
    commitOrder st q o crc s = perfAdd 0 1 { s with orders := s.orders ++ [o], nextId := s.nextId + 1 } := by
  unfold commitOrder
  dsimp only
  rw [h]
  rfl

/-- The state in which an order has committed, with the provisional fills of another state (02 R88, R116). -/
def committedAs (o : Order) (kept s : State) : State :=
  { s with orders := s.orders ++ [o], nextId := s.nextId + 1, munim := kept.munim,
           perf := { s.perf with ctrs := modAt (· + 1) s.perf.ctrs 0 } }

/-! ### The Counter window -/

/-- A ring position whose window order of one slot has committed: the order takes the count P (02 R85). -/
def windowTaken (r : Ring) : Ring := { r with p := r.p + 1, cwRanges := r.cwRanges ++ [(r.p.toNat, 1)] }

/-- A ring position whose window is empty (02 R84). -/
def windowEmptied (r : Ring) : Ring := { r with cwBytes := [] }

theorem cwCommit_partial {s : State} {st q : Nat} (h : cwTake (ring s st q).cwBytes 64 = none) : cwCommit st q s = s := by
  unfold cwCommit
  dsimp only
  rw [h]

/-- An order of one slot in the window that passes its checks commits, where the ring has room, and the window is empty
(02 R84, R85, R88). -/
theorem cwCommit_oneSlot {s : State} {st q : Nat} {b : Bytes} (hm : mirrored s = false) (hstop : (ring s st q).stopped = false)
    (hb : cwTake (ring s st q).cwBytes 64 = some b) (hn : field b 3 1 = 1) (hc : intakeCheck b = 0)
    (hroom : ((ring s st q).p - (ring s st q).h).toNat + 1 ≤ ordSize (ring s st q)) :
    cwCommit st q s = cwEmpty st q (modRing (keepProv st (cwName q) 0 (perfAdd 0 1
      { s with orders := s.orders ++ [parseOrder s st q (ring s st q).p true b], nextId := s.nextId + 1 })) st q windowTaken) := by
  unfold cwCommit
  dsimp only
  rw [hb]
  dsimp only
  rw [hn, hb]
  dsimp only
  rw [hc, hstop, commitOrder_alone hm]
  simp only [hm, Bool.false_and, Bool.false_eq_true, if_false, Nat.not_lt.mpr hroom]
  rfl

section
variable {s : State} (hs : Serving s) {st q o t : Nat} (hst : st < 4096) (hq : q < 4) (ho : o < 512) {tb : Bool}
  (hp : pageTakes (stall s st) tb = true) (bytes : List (Option Byte))
include hs hst hq ho hp

/-- A write to the window area of a page that takes it is one to the window of its ring (02 R83, R86). -/
theorem counterWindowWrite_next : exec (.counterWindowWrite st (0x800 + 512 * q + o) bytes tb t) s = .next (gate s
    (if 512 < o + bytes.length || !(ring s st q).enabled || !(ring s st q).cwEn || (stall s st).state != .bound then
      setRing (tick t s) st q { ring s st q with cwDrops := satAdd 16 (ring s st q).cwDrops 1 }
     else cwCommit st q (setRing (tick t s) st q
      { ring s st q with cwBytes := cwMerge (ring s st q).cwBytes o bytes }))) := by
  refine hostAct_next hs (by rfl) ?_
  have hqq : (0x800 + 512 * q + o - 0x800) / 512 = q := by omega
  have hoo : (0x800 + 512 * q + o - 0x800) % 512 = o := by omega
  have hin : ¬ (decide (0x800 + 512 * q + o < 0x800) || decide (0x1000 ≤ 0x800 + 512 * q + o)) = true := by simp; omega
  dsimp only
  rw [hqq, hoo, if_neg hin, pageWrite_takes (s := tick t s) hst hq hp]
  rfl

/-- A write that reaches beyond its window is discarded whole (02 R83). -/
theorem counterWindowWrite_crossing (h : 512 < o + bytes.length) :
    exec (.counterWindowWrite st (0x800 + 512 * q + o) bytes tb t) s = .next
      (setRing (tick t s) st q { ring s st q with cwDrops := satAdd 16 (ring s st q).cwDrops 1 }) := by
  have hc : (decide (512 < o + bytes.length) || !(ring s st q).enabled || !(ring s st q).cwEn || (stall s st).state != .bound) = true := by
    simp [h]
  refine (counterWindowWrite_next hs hst hq ho hp bytes).trans (congrArg _ ?_)
  rw [if_pos hc]
  exact gate_quiet s _ rfl rfl

variable (hon : (ring s st q).enabled = true) (hcw : (ring s st q).cwEn = true) (hbound : (stall s st).state = .bound)
  (h : o + bytes.length ≤ 512)
include hon hcw hbound h

/-- A write within the window of a ring that is on stores its bytes, and the order there is looked at. -/
theorem counterWindowWrite_within : exec (.counterWindowWrite st (0x800 + 512 * q + o) bytes tb t) s = .next (gate s
    (cwCommit st q (setRing (tick t s) st q { ring s st q with cwBytes := cwMerge (ring s st q).cwBytes o bytes }))) := by
  refine (counterWindowWrite_next hs hst hq ho hp bytes).trans (congrArg (fun v => Host.Outcome.next (gate s v)) (if_neg ?_))
  simp [hon, hcw, hbound, h]

/-- While 64 bytes are not there nothing more happens (02 R84). -/
theorem counterWindowWrite_partial (hb : cwTake (cwMerge (ring s st q).cwBytes o bytes) 64 = none) :
    exec (.counterWindowWrite st (0x800 + 512 * q + o) bytes tb t) s = .next
      (setRing (tick t s) st q { ring s st q with cwBytes := cwMerge (ring s st q).cwBytes o bytes }) := by
  refine (counterWindowWrite_within hs hst hq ho hp bytes hon hcw hbound h).trans (congrArg _ ?_)
  rw [cwCommit_partial (by rw [ring_setRing_same]; exact hb)]
  exact gate_quiet s _ rfl rfl

/-- 64 bytes that spell an order of one slot which passes its checks commit it at count P, where the ring has room, and the
window is empty (02 R84, R85). -/
theorem counterWindowWrite_commits (hm : mirrored s = false) (hstop : (ring s st q).stopped = false) {b : Bytes}
    (hb : cwTake (cwMerge (ring s st q).cwBytes o bytes) 64 = some b) (hn : field b 3 1 = 1) (hc : intakeCheck b = 0)
    (hroom : ((ring s st q).p - (ring s st q).h).toNat + 1 ≤ ordSize (ring s st q)) :
    exec (.counterWindowWrite st (0x800 + 512 * q + o) bytes tb t) s = .next
      (committedAs (parseOrder (tick t s) st q (ring s st q).p true b) (dropProv st (cwName q) (keepProv st (cwName q) 0 s))
        (setRing (tick t s) st q (windowEmptied (windowTaken (ring s st q))))) := by
  refine (counterWindowWrite_within hs hst hq ho hp bytes hon hcw hbound h).trans (congrArg _ ?_)
  set r1 : Ring := { ring s st q with cwBytes := cwMerge (ring s st q).cwBytes o bytes } with hr1
  have hr : ring (setRing (tick t s) st q r1) st q = r1 := ring_setRing_same _ _ _ _
  have hrings : modRing (modRing (setRing (tick t s) st q r1) st q windowTaken) st q windowEmptied =
      setRing (tick t s) st q (windowEmptied (windowTaken (ring s st q))) := by
    rw [modRing_setRing (r := r1) _ _ _ windowTaken (fun _ => rfl) hon, modRing_setRing (r := windowTaken r1) _ _ _ windowEmptied (fun _ => rfl) hon]
    rfl
  have hm1 : mirrored (setRing (tick t s) st q r1) = false := hm
  rw [cwCommit_oneSlot (b := b) hm1 (by rw [hr]; exact hstop) (by rw [hr]; exact hb) hn hc (by rw [hr]; exact hroom), hr]
  refine (gate_quiet s _ ?_ ?_).trans ?_
  · rfl
  · rfl
  · exact (congrArg (committedAs (parseOrder (tick t s) st q (ring s st q).p true b)
      (dropProv st (cwName q) (keepProv st (cwName q) 0 s))) hrings :)

end

/-! ### A slot read -/

/-- A state without invalidations reports none (03 R131). -/
theorem finishInvs_none {s : State} (h : s.pcie.invs = []) : finishInvs s = s := by
  rw [finishInvs, h]
  rfl

/-- Outside Silence, or with no invalidation outstanding, the reports of ended invalidations pass the egress gate. -/
theorem gate_reports {s v : State} (h : s.faults.silent = false ∨ s.pcie.invs = []) (ho : v.out = s.out)
    (hp : v.pending = s.pending) (hi : v.pcie.invs = s.pcie.invs) : gate s (finishInvs v) = finishInvs v := by
  rcases h with h | h
  · exact gate_finishInvs h (by rw [ho]) hp
  · rw [finishInvs_none (hi.trans h)]
    exact gate_quiet s v ho hp

theorem fit_length {n : Nat} {b : Bytes} (h : b.length = n) : fit n b = b := by
  rw [fit, List.take_left' h]

/-- A string of one piece. -/
theorem chunks_one {n : Nat} {b : Bytes} (hn : 0 < n) (h : b.length = n) : chunks n b = [b] := by
  obtain ⟨k, rfl⟩ := Nat.exists_eq_add_one_of_ne_zero (Nat.pos_iff_ne_zero.mp hn)
  have hb : b.isEmpty = false := by simp [← List.length_eq_zero_iff, h]
  have hd : b.drop (k + 1) = [] := List.drop_eq_nil_of_le h.le
  have ht : b.take (k + 1) = b := List.take_of_length_le h.le
  rw [chunks, h, chunksAux, hb, hd, ht]
  cases k <;> rfl

/-- What the packet queue of a ring holds when one slot is there. -/
def holdsSlot (r : Ring) (b : Bytes) : Ring := { r with fetched := [(r.asm.toNat, b)] }

/-- A ring position whose one slot has left the packet queue as an order (02 R88). -/
def slotTaken (r : Ring) : Ring := { r with asm := r.asm + 1, fetched := [] }

/-- The state in which a receipt of intake is owed, with the provisional fills of another state (02 R89, R116). -/
def owedAs (o : Order) (kept s : State) : State :=
  { s with orders := s.orders ++ [o], nextId := s.nextId + 1, munim := kept.munim }

/-- A ring position whose packet queue is given up: the slots from the next header on are to be read again (02 R90). -/
def rewound (r : Ring) : Ring := { r with fetched := [], rd := r.asm }

/-- A ring position that has stopped with a code. -/
def stoppedWith (code : Nat) (r : Ring) : Ring := { r with stopped := true, stopCode := code }

/-- A ring position that has counted an intake error (02 R60). -/
def errorCounted (r : Ring) : Ring := { r with intakeErrs := satAdd 16 r.intakeErrs 1 }

/-- The receipt of an intake error is owed and the error is counted (02 R60, R89). -/
theorem oweRcpt_error (st q tag status word : Nat) (win : Bool) (s : State) : oweRcpt st q tag status word win true s =
    owedAs (intakeRcpt s st q tag status word win) s (modRing s st q errorCounted) := rfl

section
variable {s : State} {st q : Nat} {b : Bytes} (hon : (ring s st q).enabled = true) (hstop : (ring s st q).stopped = false)
  (hw : (ring s st q).cwRanges = []) (hf : (ring s st q).fetched = [((ring s st q).asm.toNat, b)]) (hn : field b 3 1 = 1)
include hon hstop hw hf hn

/-- One slot in the packet queue that spells a whole order: it commits, or its failed check rewinds it, stops the ring and owes a
receipt (02 R88 to R90). -/
theorem assembleAux_oneSlot (fuel : Nat) : assembleAux st q (fuel + 1) s =
    if intakeCheck b ≠ 0 then oweRcpt st q (field b 4 4) (intakeCheck b) (ring s st q).asm.toNat false true
      (stopRing st q (intakeCheck b) (dropProv st q (modRing s st q (fun r =>
        { r with fetched := [], asm := (ring s st q).asm, rd := (ring s st q).asm }))))
    else assembleAux st q fuel (modRing (keepProv st q (ring s st q).asm (commitOrder st q
      (parseOrder s st q (ring s st q).asm false b) (field b 60 4) s)) st q (fun r => { r with
        asm := (ring s st q).asm + BitVec.ofNat 32 1,
        fetched := r.fetched.filter (fun p => !decide ((BitVec.ofNat 32 p.1 - (ring s st q).asm).toNat < 1)) })) := by
  have hgot : Tbl.find? (ring s st q).fetched (ring s st q).asm.toNat = some b := by rw [hf]; simp [Tbl.find?]
  have hslots : (List.range 1).mapM (fun i => Tbl.find? (ring s st q).fetched ((ring s st q).asm + BitVec.ofNat 32 i).toNat) =
      some [b] := by
    have h0 : (ring s st q).asm + BitVec.ofNat 32 0 = (ring s st q).asm := BitVec.add_zero _
    rw [List.range_one, List.mapM_cons, h0, hgot]
    rfl
  conv_lhs => unfold assembleAux
  dsimp only
  rw [skipCw_noRanges hw, hgot, hon, hstop]
  dsimp only
  rw [hn, hslots]
  dsimp only
  rw [List.flatten_singleton]
  rfl

/-- An order of one slot in the packet queue that passes its checks commits, and nothing is left there (02 R88). -/
theorem assembleAux_commits (hm : mirrored s = false) (hc : intakeCheck b = 0) (fuel : Nat) :
    assembleAux st q (fuel + 1) s = modRing (keepProv st q (ring s st q).asm (perfAdd 0 1 { s with
      orders := s.orders ++ [parseOrder s st q (ring s st q).asm false b], nextId := s.nextId + 1 })) st q slotTaken := by
  have hempty : (ring s st q).fetched.filter (fun p => !decide ((BitVec.ofNat 32 p.1 - (ring s st q).asm).toNat < 1)) = [] := by
    rw [hf, List.filter_cons_of_neg]
    · rfl
    · rw [BitVec.ofNat_toNat, BitVec.setWidth_eq, BitVec.sub_self]
      decide
  rw [assembleAux_oneSlot hon hstop hw hf hn, hc, if_neg (not_not.mpr rfl), commitOrder_alone hm]
  have hv : modRing (keepProv st q (ring s st q).asm (perfAdd 0 1 { s with
      orders := s.orders ++ [parseOrder s st q (ring s st q).asm false b], nextId := s.nextId + 1 })) st q (fun r => { r with
        asm := (ring s st q).asm + BitVec.ofNat 32 1,
        fetched := r.fetched.filter (fun p => !decide ((BitVec.ofNat 32 p.1 - (ring s st q).asm).toNat < 1)) }) =
      modRing (keepProv st q (ring s st q).asm (perfAdd 0 1 { s with
        orders := s.orders ++ [parseOrder s st q (ring s st q).asm false b], nextId := s.nextId + 1 })) st q slotTaken :=
    congrArg (setRing _ st q) (congrArg (fun l => { ring s st q with asm := (ring s st q).asm + 1, fetched := l }) hempty)
  rw [hv, assembleAux_nothing]
  exact congrArg Ring.fetched (ring_setRing_same _ _ _ _)

/-- An order of one slot that fails its checks is rewound, its ring stops, and its receipt is owed (02 R89, R90). -/
theorem assembleAux_fails (hc : intakeCheck b ≠ 0) (fuel : Nat) : assembleAux st q (fuel + 1) s =
    owedAs (intakeRcpt s st q (field b 4 4) (intakeCheck b) (ring s st q).asm.toNat false) (dropProv st q s)
      (modRing (modRing (modRing s st q rewound) st q (stoppedWith (intakeCheck b))) st q errorCounted) := by
  rw [assembleAux_oneSlot hon hstop hw hf hn, if_pos hc, oweRcpt_error]
  rfl

end

/-- What a completed slot read does to the part, before ended invalidations are reported (02 R82, R88 to R90, R112). -/
def slotRead (st q : Nat) (count : BitVec 32) (rr : ReadRes) (s : State) : State :=
  let r := ring s st q
  if !ringExists st q || !r.enabled || r.stopped || (stall s st).state != .bound
      || decide ((r.rd - r.asm).toNat ≤ (count - r.asm).toNat) then s
  else
    match rr with
    | .data b =>
      let slots := (chunks 64 b).map (fit 64)
      assemble st q (modRing s st q (fun x => { x with fetched := (List.range slots.length).foldl (fun m i =>
        let c := count + BitVec.ofNat 32 i
        if (c - r.asm).toNat < (r.rd - r.asm).toNat && !inCw r c then Tbl.ins m c.toNat (slots.getD i []) else m) r.fetched }))
    | _ =>
      stopRing st q ((readStatus rr).getD (0x0403, 0)).1
        (dropProv st q (modRing s st q (fun r => { r with fetched := [], rd := r.asm })))

theorem exec_slotReadCompletion (st q : Nat) (c : BitVec 32) (rr : ReadRes) (t : Nat) (s : State) :
    exec (.slotReadCompletion st q c rr t) s = hostAct (fun s => finishInvs (slotRead st q c rr (tick t s))) s := rfl

/-- A ring position that a failed check or read rewinds and stops (02 R81, R90, R112). -/
def ringStopped (r : Ring) (code : Nat) : Ring := { r with rd := r.asm, stopped := true, stopCode := code }

theorem fetched_nil {r : Ring} (h : r.fetched = []) : { r with fetched := [] } = r := by rw [← h]

section
variable {s : State} {st q : Nat} (hst : st < 4096) (hq : q < 4) (hon : (ring s st q).enabled = true)
  (hstop : (ring s st q).stopped = false) (hb : (stall s st).state = .bound) (hrd : (ring s st q).rd = (ring s st q).asm + 1)
include hst hq hon hstop hb hrd

/-- A completion for the one slot that a ring has asked for is no stray one (02 R82, R112). -/
theorem slotRead_asked : (!ringExists st q || !(ring s st q).enabled || (ring s st q).stopped || (stall s st).state != .bound ||
    decide (((ring s st q).rd - (ring s st q).asm).toNat ≤ ((ring s st q).asm - (ring s st q).asm).toNat)) = false := by
  have hlt : ¬ ((ring s st q).rd - (ring s st q).asm).toNat ≤ ((ring s st q).asm - (ring s st q).asm).toNat := by
    rw [hrd, BitVec.sub_self, add_sub_cancel_left]
    decide
  rw [decide_eq_false hlt]
  simp [ringExists, hst, hq, hon, hstop, hb]

/-- A failed read of the slot stops the ring, and its provisional fills are invalidated (02 R112, R116). -/
theorem slotRead_failed (hf : (ring s st q).fetched = []) {rr : ReadRes} {code a : Nat} (hr : readStatus rr = some (code, a)) :
    slotRead st q (ring s st q).asm rr s =
      { setRing s st q (ringStopped (ring s st q) code) with munim := (dropProv st q s).munim } := by
  have hstep : slotRead st q (ring s st q).asm rr s = stopRing st q code (dropProv st q (setRing s st q
      (rewound (ring s st q)))) := by
    refine (if_neg (ne_true_of_eq_false (slotRead_asked hst hq hon hstop hb hrd))).trans ?_
    cases rr with
    | data b => cases hr
    | _ =>
      obtain ⟨rfl, -⟩ := Prod.mk.inj (Option.some.inj hr)
      rfl
  have hrings : modRing (setRing s st q (rewound (ring s st q))) st q (stoppedWith code) =
      setRing s st q (ringStopped (ring s st q) code) :=
    (modRing_setRing (r := rewound (ring s st q)) s st q (stoppedWith code) (fun _ => rfl) hon).trans
      (congrArg (fun r => setRing s st q (ringStopped r code)) (fetched_nil hf) :)
  rw [hstep]
  exact (congrArg (fun v : State => { v with munim := (dropProv st q s).munim }) hrings :)

section
variable (hf : (ring s st q).fetched = []) (hw : (ring s st q).cwRanges = []) {b : Bytes} (hl : b.length = 64)
include hf hw hl

/-- The data of the slot enters the packet queue, and is assembled (02 R82, R88). -/
theorem slotRead_data :
    slotRead st q (ring s st q).asm (.data b) s = assemble st q (setRing s st q (holdsSlot (ring s st q) b)) := by
  have hslots : (chunks 64 b).map (fit 64) = [b] := by
    rw [chunks_one (by decide) hl, List.map_singleton, fit_length hl]
  have h0 : (ring s st q).asm + BitVec.ofNat 32 0 = (ring s st q).asm := BitVec.add_zero _
  have hput : (decide (((ring s st q).asm - (ring s st q).asm).toNat < ((ring s st q).rd - (ring s st q).asm).toNat) &&
      !inCw (ring s st q) (ring s st q).asm) = true := by
    rw [hrd, BitVec.sub_self, add_sub_cancel_left, inCw, hw]
    rfl
  unfold slotRead
  dsimp only
  rw [if_neg (ne_true_of_eq_false (slotRead_asked hst hq hon hstop hb hrd)), hslots, List.length_singleton, List.range_one,
    List.foldl_cons, List.foldl_nil, h0, if_pos hput, hf]
  rfl

variable (hn : field b 3 1 = 1)
include hn

/-- An order of one slot that passes its checks commits at the count of the slot (02 R88). -/
theorem slotRead_commits (hm : mirrored s = false) (hp : (ring s st q).p = (ring s st q).asm + 1) (hc : intakeCheck b = 0) :
    slotRead st q (ring s st q).asm (.data b) s = committedAs (parseOrder s st q (ring s st q).asm false b)
      (keepProv st q (ring s st q).asm s) (setRing s st q { ring s st q with asm := (ring s st q).asm + 1 }) := by
  set w := setRing s st q (holdsSlot (ring s st q) b) with hwdef
  have hr : ring w st q = holdsSlot (ring s st q) b := ring_setRing_same _ _ _ _
  have hmw : mirrored w = false := hm
  have hrings : modRing w st q slotTaken = setRing s st q { ring s st q with asm := (ring s st q).asm + 1 } :=
    (modRing_setRing s st q slotTaken (fun _ => rfl) (r := holdsSlot (ring s st q) b) hon).trans
      (congrArg (fun r => setRing s st q { r with asm := r.asm + 1 }) (fetched_nil hf))
  have hcommit : assembleAux st q 64 w = committedAs (parseOrder s st q (ring s st q).asm false b)
      (keepProv st q (ring s st q).asm s) (setRing s st q { ring s st q with asm := (ring s st q).asm + 1 }) := by
    rw [assembleAux_commits (b := b) (by rw [hr]; exact hon) (by rw [hr]; exact hstop) (by rw [hr]; exact hw) (by rw [hr]; rfl)
      hn hmw hc, hr]
    exact (congrArg (committedAs (parseOrder s st q (ring s st q).asm false b) (keepProv st q (ring s st q).asm s)) hrings :)
  have hend (o : Order) (k : State) (r : Ring) : ring (committedAs o k (setRing s st q r)) st q = r := ring_setRing_same _ _ _ _
  rw [slotRead_data hst hq hon hstop hb hrd hf hw hl, assemble, hcommit, fetchSlots_atTail]
  · rw [hend]
    exact hw
  · rw [hend]
    exact hrd.trans hp.symm

/-- A slot that fails its checks stops the ring; its receipt is owed and its provisional fills are invalidated (02 R89, R90). -/
theorem slotRead_bad (hc : intakeCheck b ≠ 0) : slotRead st q (ring s st q).asm (.data b) s =
    owedAs (intakeRcpt s st q (field b 4 4) (intakeCheck b) (ring s st q).asm.toNat false) (dropProv st q s) (setRing s st q
      (errorCounted (ringStopped (ring s st q) (intakeCheck b)))) := by
  set w := setRing s st q (holdsSlot (ring s st q) b) with hwdef
  have hr : ring w st q = holdsSlot (ring s st q) b := ring_setRing_same _ _ _ _
  have hrew : (rewound (holdsSlot (ring s st q) b)).enabled = true := hon
  have hstp : (stoppedWith (intakeCheck b) (rewound (holdsSlot (ring s st q) b))).enabled = true := hrew
  have hrings : modRing (modRing (modRing w st q rewound) st q (stoppedWith (intakeCheck b))) st q errorCounted =
      setRing s st q (errorCounted (ringStopped (ring s st q) (intakeCheck b))) := by
    rw [modRing_setRing (r := holdsSlot (ring s st q) b) s st q rewound (fun _ => rfl) hon,
      modRing_setRing s st q (stoppedWith (intakeCheck b)) (fun _ => rfl) hrew,
      modRing_setRing s st q errorCounted (fun _ => rfl) hstp]
    exact (congrArg (fun r => setRing s st q (errorCounted (ringStopped r (intakeCheck b)))) (fetched_nil hf) :)
  have hfail : assembleAux st q 64 w = owedAs (intakeRcpt s st q (field b 4 4) (intakeCheck b) (ring s st q).asm.toNat false)
      (dropProv st q s) (setRing s st q (errorCounted (ringStopped (ring s st q) (intakeCheck b)))) := by
    rw [assembleAux_fails (b := b) (by rw [hr]; exact hon) (by rw [hr]; exact hstop) (by rw [hr]; exact hw) (by rw [hr]; rfl) hn hc,
      hrings, hr]
    rfl
  rw [slotRead_data hst hq hon hstop hb hrd hf hw hl, assemble, hfail, fetchSlots_stopped]
  exact congrArg Ring.stopped (ring_setRing_same s st q (errorCounted (ringStopped (ring s st q) (intakeCheck b))))

end

end

/-- Outside Silence, or with no invalidation outstanding, a completed slot read answers what it does to the part, with the
invalidations that have ended reported (03 R131). -/
theorem slotReadCompletion_next {s v : State} (hs : Serving s) {st q : Nat} {c : BitVec 32} {rr : ReadRes} {t : Nat}
    (hi : s.faults.silent = false ∨ s.pcie.invs = []) (hv : slotRead st q c rr (tick t s) = v) (ho : v.out = s.out)
    (hp : v.pending = s.pending) (hpi : v.pcie.invs = s.pcie.invs) :
    exec (.slotReadCompletion st q c rr t) s = .next (finishInvs v) :=
  (hostAct_next hs (exec_slotReadCompletion st q c rr t s) (congrArg finishInvs hv)).trans
    (congrArg _ (gate_reports hi ho hp hpi))

/-- Settles O28: a window write and a slot read, with an order of one slot, a check that fails, and a read that fails. -/
theorem intakeRows : Obligations.IntakeRows := by
  unfold Obligations.IntakeRows
  intro s st q t hs hst hq hm hon hstop u r committed
  refine ⟨fun o bytes tb hp hcw hb ho => ⟨counterWindowWrite_crossing hs hst hq ho hp bytes,
      counterWindowWrite_partial hs hst hq ho hp bytes hon hcw hb, fun b h htake hn hc hroom => ?windowCommit⟩,
    fun hf hw hrd hp hb hi => ⟨fun b hl hn hc => ?slotCommit, fun b hl hn hc => ?slotBad, fun rr code a hr => ?readFailed⟩⟩
  case windowCommit =>
    exact ⟨_, rfl, rfl, rfl, rfl,
      counterWindowWrite_commits hs hst hq ho hp bytes hon hcw hb h hm hstop htake hn hc hroom⟩
  case slotCommit =>
    exact ⟨_, rfl, rfl, rfl, rfl, slotReadCompletion_next hs hi
      (slotRead_commits (s := u) hst hq hon hstop hb hrd hf hw hl hn hm hp hc) rfl rfl rfl⟩
  case slotBad =>
    have hx := slotRead_bad (s := u) hst hq hon hstop hb hrd hf hw hl hn (by rw [hc]; decide)
    rw [hc] at hx
    exact slotReadCompletion_next hs hi hx rfl rfl rfl
  case readFailed =>
    exact slotReadCompletion_next hs hi (slotRead_failed (s := u) hst hq hon hstop hb hrd hf hr) rfl rfl rfl

end Machine
end Sys2Proof
end

section
/-!
PROOFS. Completion notices (02 R118 to R121).
-/
namespace Sys2Proof
namespace Machine

/-! ### A message to a vector -/

section
variable {s : State} {n : Nat}

/-- The message of a vector that is not masked goes out, outside Silence and a part Hold (02 R121). -/
theorem sendMsix_sent (hl : s.faults.silent = false) (hu : n ∈ s.pcie.unmasked) (hh : s.faults.holdCovered = false) :
    sendMsix n s = perfAdd 14 1 (emit (.msix n) s) := by
  simp [sendMsix, hl, hu, inHold, hh]

/-- The message of a vector that is not masked waits for the end of a part Hold (02 R121). -/
theorem sendMsix_held (hl : s.faults.silent = false) (hu : n ∈ s.pcie.unmasked) (hh : s.faults.holdCovered = true) :
    sendMsix n s = { s with pcie := { s.pcie with heldMsgs := s.pcie.heldMsgs ++ [n] } } := by
  simp [sendMsix, hl, hu, inHold, hh]

/-- The message of a masked vector becomes pending (02 R120). -/
theorem sendMsix_masked (hl : s.faults.silent = false) (hu : n ∉ s.pcie.unmasked) :
    sendMsix n s = { s with pcie := { s.pcie with pba := if n ∈ s.pcie.pba then s.pcie.pba else s.pcie.pba ++ [n] } } := by
  simp [sendMsix, hl, hu]

end

/-! ### A mask bit is cleared -/

/-- What the clearing of a mask bit leaves, before a pending message is sent (02 R120). -/
def unmasked (n : Nat) (s : State) : State :=
  { s with pcie := { s.pcie with unmasked := if n ∈ s.pcie.unmasked then s.pcie.unmasked else s.pcie.unmasked ++ [n],
                                 pba := s.pcie.pba.filter (fun x => x != n) } }

theorem mem_unmasked (n : Nat) (s : State) : n ∈ (unmasked n s).pcie.unmasked := by
  unfold unmasked
  dsimp only
  split
  · assumption
  · exact List.mem_append_right _ (List.mem_singleton_self n)

theorem unmask_pending {s : State} {n : Nat} (hn : n < 4096) (hp : n ∈ s.pcie.pba) : unmask n s = sendMsix n (unmasked n s) := by
  simp [unmask, unmasked, hn, hp]

theorem unmask_idle {s : State} {n : Nat} (hn : n < 4096) (hp : n ∉ s.pcie.pba) : unmask n s = unmasked n s := by
  simp [unmask, unmasked, hn, hp]

/-! ### The end of the wait for a notice -/

/-- A ring position has a receipt that no notice covers, notices are on, and COAL_TIME has gone (02 R118, R119). -/
def NoticeDue (s : State) (st q clock : Nat) : Prop :=
  (ring s st q).noticeDue = true ∧ (ring s st q).vecEn = true ∧ (ring s st q).vecOff < (stall s st).vecCount ∧
    (ring s st q).noticeAt + 100 * max 1 (ring s st q).coalTime ≤ clock

theorem noticeTest_iff {s : State} {st q : Nat} (hst : st < 4096) (hq : q < 4) :
    (ringExists st q && (ring s st q).noticeDue && (ring s st q).vecEn && !vecErr s st q &&
      decide ((ring s st q).noticeAt + 100 * max 1 (ring s st q).coalTime ≤ s.clock)) = true ↔ NoticeDue s st q s.clock := by
  simp [ringExists, hst, hq, vecErr, NoticeDue, and_assoc]

section
variable {s : State} (hs : Open s) {st q t : Nat} (hst : st < 4096) (hq : q < 4)
include hs hst hq

/-- A notice that is due is sent to the vector of the ring, and the wait starts again (02 R118 to R120). -/
theorem coalTimeExpiry_due {m : State} (h : NoticeDue (tick t s) st q (tick t s).clock) (l : List Out)
    (hm : sendMsix ((stall s st).vecBase + (ring s st q).vecOff) (tick t s) = m) (ho : m.out = s.out ++ l)
    (hp : m.pending = s.pending) :
    exec (.coalTimeExpiry st q t) s = .next (modRing m st q (fun r => { r with noticeCount := 0, noticeDue := false })) := by
  refine (coreAct_next hs.1 (by rfl) ?_).trans (congrArg _ (gate_appends s _ l hs.2 ho hp))
  exact (if_pos ((noticeTest_iff hst hq).mpr h)).trans
    (congrArg (fun v => modRing v st q (fun r => { r with noticeCount := 0, noticeDue := false })) hm)

/-- With no notice due only the time moves. -/
theorem coalTimeExpiry_early (h : ¬ NoticeDue (tick t s) st q (tick t s).clock) :
    exec (.coalTimeExpiry st q t) s = .next (tick t s) := by
  refine coreAct_next_quiet hs.1 (by rfl) ?_ rfl rfl
  exact if_neg (fun hx => h ((noticeTest_iff hst hq).mp hx))

end

/-- Settles O33: a notice that is due is sent, held or kept pending, and a vector is unmasked. -/
theorem noticeRows : Obligations.NoticeRows := by
  unfold Obligations.NoticeRows
  intro s t hs u
  refine ⟨fun st q hst hq => ⟨fun hd hu hh => ?sent, fun hd hu hh => ?held, fun hd hu => ?masked, fun hd => ?early⟩,
    fun n hn hh => ⟨fun hp => ?pending, fun hp => ?idle⟩⟩
  case sent => exact coalTimeExpiry_due hs hst hq hd _ (sendMsix_sent hs.2 hu hh) rfl rfl
  case held => exact coalTimeExpiry_due hs hst hq hd [] (sendMsix_held hs.2 hu hh) (List.append_nil _).symm rfl
  case masked => exact coalTimeExpiry_due hs hst hq hd [] (sendMsix_masked hs.2 hu) (List.append_nil _).symm rfl
  case early => exact coalTimeExpiry_early hs hst hq hd
  case pending =>
    exact (hostAct_next hs.1 (by rfl) ((unmask_pending hn hp).trans (sendMsix_sent hs.2 (mem_unmasked n _) hh))).trans
      (congrArg _ (gate_appends s _ [.msix n] hs.2 rfl rfl))
  case idle =>
    exact hostAct_next_quiet hs.1 (by rfl) (unmask_idle hn hp) rfl rfl

end Machine
end Sys2Proof
end

section
/-!
PROOFS. The random source (07 R359 to R362; 05 R244).
-/
namespace Sys2Proof
namespace Machine

/-! ### RANDOM -/

/-- A ready RANDOM order without prediction resistance runs while the DRBG is up (07 R361). -/
theorem random_runs {s : State} {id : Nat} {o : Order} (h : Ready s id 0x0551 o) (hu : s.drbg.up = true)
    (hpr : bitOf (par o 4 1) 0 = false) :
    exec (.random id) s = runEngine 0x0551 (fun o => par o 0 4) randomE id s := by
  obtain ⟨hp, ho, hop, hst, -, -⟩ := h
  refine (coreAct_running (randomStep id) s hp).trans (Eq.trans (congrArg (fun v => Host.Outcome.next (gate s v)) ?_)
    (coreAct_running (runOrder 0x0551 (fun o => par o 0 4) randomE id) s hp).symm)
  simp [randomStep, ho, hop, hst, hu, hpr]

/-- The bytes of a RANDOM order whose length fits its cap (02 R75; 07 R361). -/
theorem randomE_fits {o : Order} (h : Room o (par o 0 4)) (d : Nat) (s : State) :
    randomE o d s = resOk 0 (drawn d 0 (par o 0 4)) := by
  have hcap : capWord o (par o 0 4) 0 = none := h
  rw [randomE, capped, hcap]

/-- While the DRBG is down a ready RANDOM order waits (07 R362). -/
theorem random_waits {s : State} {id : Nat} {o : Order} (h : Ready s id 0x0551 o) (hu : s.drbg.up = false) :
    exec (.random id) s = .next (modOrder { s with drbg := { s.drbg with waiting := s.drbg.waiting ++ [id] } } id
      (fun o => { o with stage := .waitDrbg })) := by
  obtain ⟨hp, ho, hop, hst, -, -⟩ := h
  refine coreAct_next_quiet hp (f := randomStep id) (by rfl) ?_ rfl rfl
  simp [randomStep, ho, hop, hst, hu]

/-- A RANDOM order that has waited too long ends, and leaves the queue of those that wait (07 R362). -/
theorem randomWaitTimeout_waiting {s : State} (hs : Serving s) {id : Nat} {o : Order} (t : Nat) (ho : order? s id = some o)
    (hst : o.stage = .waitDrbg) : exec (.randomWaitTimeout id t) s = .next (complete id 0x0530 0
      { tick t s with drbg := { s.drbg with waiting := s.drbg.waiting.filter (fun i => i != id) } }) := by
  refine coreAct_next_quiet hs (by rfl) ?_ rfl rfl
  dsimp only
  rw [order?_tick, ho]
  simp [hst, tick]

/-! ### Tests of the source -/

/-- A command that ends in Silence outside it leaves the registers of the entry (11 R495, R497). -/
theorem does_silence {c : Instr} {s u : State} {cause : Nat} (h : exec c s = .next (gate s (silence cause u)))
    (hu : u.faults.silent = false) : Does c s (fun v => v.faults.silent = true ∧ v.faults.phase = .silent ∧
      v.faults.lastCause = cause ∧ v.faults.lastLevel = 1) := by
  obtain ⟨h1, h2, h3, h4, -⟩ := silenceAt_loud 1 cause hu
  exact ⟨_, h, h1, h2, h3, h4⟩

section
variable {s : State} (hs : Open s) (t : Nat)
include hs

/-- A failed test of the DRBG is Silence (07 R362). -/
theorem does_drbgFailed {c : Instr} (h : exec c s = .next (gate s (drbgFailed (tick t s)))) : Does c s (fun v =>
    v.faults.silent = true ∧ v.faults.phase = .silent ∧ v.faults.lastCause = 0x000B ∧ v.faults.lastLevel = 1) := by
  refine does_silence h ?_
  rw [(record_frame _ _ _ _ _ _).faults]
  exact hs.2

/-- A failed known-answer test of a running DRBG (07 R362). -/
theorem drbgKat_failed (hu : s.drbg.up = true) : exec (.drbgKat false t) s = .next (gate s (drbgFailed (tick t s))) := by
  refine coreAct_next hs.1 (by rfl) (if_neg ?_)
  simp [tick, hu]

/-- A state in which a source is excluded (07 R362). -/
def excluded (src : Nat) (s : State) : State := { s with drbg := { s.drbg with bad := s.drbg.bad ++ [src] } }

/-- Of a source in service that fails its health test, the Daybook has a record; fewer than two sources left are Silence
(07 R362). -/
theorem healthTestFailure_next {src : Nat} (h4 : src < 4) (hb : src ∉ s.drbg.bad) :
    let w := excluded src (tick t s)
    let few := decide (healthySources w < 2)
    let v := record 0x0602 (if few then sevSilence else sevNote) 1 src (healthySources w) w
    exec (.healthTestFailure src t) s = .next (gate s (if few then silence 0x000B v else v)) := by
  intro w few v
  refine coreAct_next hs.1 (by rfl) (if_neg ?_)
  simp [tick, hb, h4]

end

theorem excluded_few {s : State} {src t : Nat} :
    decide (healthySources (excluded src (tick t s)) < 2) = true ↔ 2 < s.drbg.bad.length + 1 := by
  have hl : (excluded src (tick t s)).drbg.bad.length = s.drbg.bad.length + 1 := List.length_append
  rw [decide_eq_true_iff, healthySources, hl]
  omega

/-! ### The DRBG out of service -/

/-- What the removal of the DRBG from service leaves, the Hold being entered (05 R244; 07 R362). -/
def drbgOut (s : State) : State :=
  { s with
    drbg := { s.drbg with up := false, reinst := true }
    orders := s.orders.map (fun o => if o.stage == .ready && o.insts.any (fun p => p.1 == .loom) then { o with stage := .waitSeed } else o) }

/-- A Loom in service waits for a reseed (05 R244). -/
def seedDue (x : Inst) : Inst := { x with needReseed := x.status == .active || x.status == .suspect }

/-- Changes of Loom instances leave the DRBG and the faults as they were. -/
theorem foldl_modInst_keeps (f : Inst → Inst) (l : List Nat) (s : State) :
    (l.foldl (fun s i => modInst s .loom i f) s).drbg = s.drbg ∧ (l.foldl (fun s i => modInst s .loom i f) s).faults = s.faults := by
  induction l generalizing s with
  | nil => exact ⟨rfl, rfl⟩
  | cons i l ih =>
    obtain ⟨hd, hf⟩ := ih (modInst s .loom i f)
    exact ⟨hd, hf⟩

/-- A state that has entered the time of a DRBG mismatch (07 R362). -/
def mismatchNoted (s : State) : State :=
  { s with faults := { s.faults with drbgTimes := within 1000000000 s.faults.drbgTimes s.clock } }

/-- What the first DRBG mismatch leaves: a record, the Hold, the DRBG out of service, and Looms that wait (07 R362). -/
def mismatchHeld (s : State) : State :=
  (List.range 18).foldl (fun s i => modInst s .loom i seedDue) (drbgOut (holdEnter .drbg false
    (record 0x0602 sevHold 2 0xFF (healthySources s) s)))

/-- The first mismatch takes the DRBG out of service under a part Hold (07 R362). -/
theorem mismatchHeld_leaves {s : State} (hl : s.faults.silent = false) (hh : s.faults.holdCovered = false) :
    let v := mismatchHeld s
    v.drbg.up = false ∧ v.drbg.reinst = true ∧ v.faults.holdCovered = true ∧ HoldCause.drbg ∈ v.faults.holds ∧
      v.faults.silent = false := by
  have hr := record_frame 0x0602 sevHold 2 0xFF (healthySources s) s
  obtain ⟨hc, hsil, hm, -⟩ := holdEnter_begins .drbg false (by rw [hr.faults]; exact hl) (by rw [hr.faults]; exact hh)
  obtain ⟨hd, hf⟩ := foldl_modInst_keeps seedDue (List.range 18) (drbgOut (holdEnter .drbg false
    (record 0x0602 sevHold 2 0xFF (healthySources s) s)))
  intro v
  have hvd : v.drbg = _ := hd
  have hvf : v.faults = _ := hf
  rw [hvd, hvf]
  exact ⟨rfl, rfl, hc, hm, hsil⟩

section
variable {s : State} (hs : Open s) (t : Nat)
include hs

/-- A mismatch with none in the second before it (07 R362). -/
theorem drbgMismatch_first (h : s.faults.drbgTimes = []) :
    exec (.drbgMismatch t) s = .next (gate s (mismatchHeld (mismatchNoted (tick t s)))) := by
  refine coreAct_next hs.1 (by rfl) ?_
  refine if_neg ?_
  rw [show (tick t s).faults.drbgTimes = [] from h]
  exact Bool.false_ne_true

/-- A second mismatch within a second is Silence (07 R362). -/
theorem drbgMismatch_second (h : ∃ x ∈ s.faults.drbgTimes, (tick t s).clock < x + 1000000000) :
    Does (.drbgMismatch t) s (fun v => v.faults.silent = true ∧ v.faults.phase = .silent ∧ v.faults.lastCause = 0x000B ∧
      v.faults.lastLevel = 1) := by
  refine does_silence (u := record 0x0602 sevSilence 2 0xFF (healthySources (mismatchNoted (tick t s))) (mismatchNoted (tick t s)))
    (coreAct_next hs.1 (by rfl) ?_) ?_
  · obtain ⟨x, hx, hlt⟩ := h
    refine if_pos ?_
    exact List.any_eq_true.mpr ⟨x, hx, decide_eq_true hlt⟩
  · rw [(record_frame _ _ _ _ _ _).faults]
    exact hs.2

/-- A DRBG that passes its reinstantiation serves again, and the orders that waited are ready (07 R362). -/
theorem drbgReinstantiated_passed (h : s.drbg.reinst = true) : exec (.drbgReinstantiated true t) s = .next { tick t s with
    drbg := { s.drbg with up := true, reinst := false, waiting := [], requests := 0, reseedAt := (tick t s).clock }
    orders := s.orders.map (fun o => if o.stage == .waitDrbg then { o with stage := .ready } else o)
    faults := { s.faults with holds := s.faults.holds.filter (fun x => x != .drbg) } } := by
  refine coreAct_next_quiet hs.1 (by rfl) ?_ rfl rfl
  refine (if_neg ?_).trans (if_neg Bool.false_ne_true)
  simp [tick, h]

/-- A DRBG that fails its reinstantiation is Silence (07 R362). -/
theorem drbgReinstantiated_failed (h : s.drbg.reinst = true) :
    exec (.drbgReinstantiated false t) s = .next (gate s (drbgFailed (tick t s))) := by
  refine coreAct_next hs.1 (by rfl) ?_
  refine (if_neg ?_).trans (if_pos rfl)
  simp [tick, h]

end

/-- Settles O39: RANDOM, its wait and its timeout, the reseeds, the tests, and the DRBG out of service and back. -/
theorem randomSourceRows : Obligations.RandomSourceRows := by
  unfold Obligations.RandomSourceRows
  intro s t hs u silent
  refine ⟨fun id o h hu hpr hroom => ?random, fun id o h hu => random_waits h hu, fun id o ho hst => ?timeout, ?reseed, ?kat,
    fun hu => ?katFailed, fun src h4 hb => ⟨fun hm => ?excluded, fun hm => ?few⟩, fun h hh => ?mismatch,
    drbgMismatch_second hs t, drbgReinstantiated_passed hs t, fun h => ?reinstFailed⟩
  case random =>
    exact runEngine_drawn _ _ (fun o => par o 0 4) _ randomE id s o _ (random_runs h hu hpr) rfl h hu
      (fun d => randomE_fits hroom d s)
  case timeout => exact ⟨_, randomWaitTimeout_waiting hs.1 t ho hst, order?_settle _ ho, rfl⟩
  case reseed =>
    refine coreAct_next_quiet hs.1 (by rfl) rfl ?_ ?_ <;> split <;> rfl
  case kat => exact coreAct_next_quiet hs.1 (by rfl) rfl rfl rfl
  case katFailed => exact does_drbgFailed hs t (drbgKat_failed hs t hu)
  case excluded =>
    have hx := healthTestFailure_next hs t h4 hb
    dsimp only at hx
    have hf : ¬ decide (healthySources (excluded src (tick t s)) < 2) = true := fun hc => by
      have := excluded_few.mp hc
      omega
    rw [if_neg hf] at hx
    exact ⟨_, hx, (record_frame _ _ _ _ _ _).gate rfl⟩
  case few =>
    have hx := healthTestFailure_next hs t h4 hb
    dsimp only at hx
    rw [if_pos (excluded_few.mpr hm)] at hx
    refine does_silence hx ?_
    rw [(record_frame _ _ _ _ _ _).faults]
    exact hs.2
  case mismatch => exact ⟨_, drbgMismatch_first hs t h, mismatchHeld_leaves (s := mismatchNoted (tick t s)) hs.2 hh⟩
  case reinstFailed => exact does_drbgFailed hs t (drbgReinstantiated_failed hs t h)

end Machine
end Sys2Proof
end

section
/-!
PROOFS. What a dispatched order waits for arrives: host input, keys, translations and seeds (02 R112, R113; 04 R192; 05 R244;
08 R387).
-/
namespace Sys2Proof
namespace Machine

/-! ### Host input -/

/-- The input of an order fills Loom buffers and changes nothing but the instances (05 R241). -/
theorem fillHalf_insts (o : Order) (s : State) : fillHalf o s = { s with insts := (fillHalf o s).insts } := by
  have h : (fun v : State => { v with insts := (fillHalf o s).insts }) (fillHalf o s) =
      (fun v : State => { v with insts := (fillHalf o s).insts }) s :=
    foldl_keeps (fun v : State => { v with insts := (fillHalf o s).insts }) _ (fun _ _ => by rfl) _ s
  exact h

/-- What is filled does not depend on the time. -/
theorem fillHalf_tick (o : Order) (t : Nat) (s : State) : fillHalf o (tick t s) = tick t (fillHalf o s) :=
  List.foldl_hom (tick t) (fun _ _ => by rfl)

/-- Whether an order has its input and auxiliary input. -/
def hasInput (o : Order) : Bool := o.input.isSome && o.aux.isSome

/-- The state in which a complete input has filled its half of the Loom's buffer. -/
def filled (o : Order) (s : State) : State := if hasInput o then fillHalf o s else s

theorem filled_insts (o : Order) (s : State) : filled o s = { s with insts := (filled o s).insts } := by
  unfold filled
  split
  · exact fillHalf_insts o s
  · rfl

theorem filled_tick (o : Order) (t : Nat) (s : State) : filled o (tick t s) = tick t (filled o s) := by
  unfold filled
  split
  · exact fillHalf_tick o t s
  · rfl

/-- The state in which a part of an order's input is in its place (02 R113; 05 R241). -/
def inputPlaced (o : Order) (part : InPart) (b : Bytes) (s : State) : State :=
  let o1 := putPart part (fit (partLen o part) b) o
  perfAdd 2 (partLen o part) (modStall (modOrder (filled o1 s) o.id (fun x =>
    { putPart part (fit (partLen o part) b) x with stage := if hasInput o1 then inputReady s o1 else .waitInput })) o.stall
    (fun x => { x with bytesIn := x.bytesIn + partLen o part }))

/-- The same state, field by field. -/
theorem inputPlaced_eq (o : Order) (part : InPart) (b : Bytes) (s : State) :
    let o1 := putPart part (fit (partLen o part) b) o
    inputPlaced o part b s = perfAdd 2 (partLen o part) (modStall (modOrder
      { s with insts := (filled o1 s).insts } o.id (fun x =>
      { putPart part (fit (partLen o part) b) x with stage := if hasInput o1 then inputReady s o1 else .waitInput })) o.stall
      (fun x => { x with bytesIn := x.bytesIn + partLen o part })) := by
  intro o1
  unfold inputPlaced
  dsimp only
  conv_lhs => rw [filled_insts]

theorem putPart_id (part : InPart) (b : Bytes) (o : Order) : (putPart part b o).id = o.id := by cases part <;> rfl

/-- The order has its part and its next stage, its Stall counts the bytes, and a complete input is in the instances. -/
theorem inputPlaced_leaves {s : State} {id : Nat} {o : Order} (ho : order? s id = some o) (part : InPart) (b : Bytes) :
    let o1 := putPart part (fit (partLen o part) b) o
    let v := inputPlaced o part b s
    order? v id = some { o1 with stage := if hasInput o1 then inputReady s o1 else .waitInput } ∧
      stall v o.stall = { stall s o.stall with bytesIn := (stall s o.stall).bytesIn + partLen o part } ∧
      (∀ n, n ≠ o.stall → stall v n = stall s n) ∧ v.insts = (filled o1 s).insts ∧
      { v with orders := s.orders, stalls := s.stalls, perf := s.perf, insts := s.insts } = s := by
  intro o1 v
  have hv : v = _ := inputPlaced_eq o part b s
  rw [hv]
  refine ⟨?_, stall_setStall_same _ _ _, fun n hn => stall_setStall_other _ _ _ _ hn, rfl, rfl⟩
  obtain rfl := order?_id ho
  exact (order?_modOrder_same (f := fun x => { putPart part (fit (partLen o part) b) x with
    stage := if hasInput o1 then inputReady s o1 else .waitInput }) (fun x => putPart_id part _ x) ho :)

section
variable {s : State} (hs : Serving s) {id : Nat} {part : InPart} {o : Order} (t : Nat) (ho : order? s id = some o)
  (hst : o.stage = .waitInput) (hw : wantsPart o part = true) (hi : s.faults.silent = false ∨ s.pcie.invs = [])
include hs ho hst hw hi

/-- Data that an order waits for is put in its place (02 R113). -/
theorem inputReadCompletion_data (b : Bytes) :
    exec (.inputReadCompletion id part (.data b) t) s = .next (finishInvs (inputPlaced o part b (tick t s))) := by
  have hx : exec (.inputReadCompletion id part (.data b) t) s =
      .next (gate s (finishInvs (inputPlaced o part b (tick t s)))) := by
    refine coreAct_next hs (by rfl) ?_
    dsimp only
    rw [order?_tick, ho]
    dsimp only
    rw [hst, hw, ← order?_id ho]
    rfl
  refine hx.trans (congrArg _ (gate_reports hi ?_ ?_ ?_))
  all_goals rw [inputPlaced_eq]; rfl

/-- A failed read ends the order with its status and address (02 R112). -/
theorem inputReadCompletion_failed {rr : ReadRes} {st w : Nat} (hr : readStatus rr = some (st, w)) :
    exec (.inputReadCompletion id part rr t) s = .next (finishInvs (complete id st w (tick t s))) := by
  have hx : exec (.inputReadCompletion id part rr t) s = .next (gate s (finishInvs (complete id st w (tick t s)))) := by
    refine coreAct_next hs (by rfl) ?_
    dsimp only
    rw [order?_tick, ho]
    dsimp only
    rw [hst, hw, hr]
    cases rr with
    | data b => cases hr
    | _ => rfl
  exact hx.trans (congrArg _ (gate_reports hi rfl rfl rfl))

end

/-! ### Keys -/

/-- The entries and registers of keys are cleared in the cache and the instances alone (04 R192). -/
theorem dropCached_fold (l : List (Nat × KeyUse)) (s : State) : l.foldl (fun s p => dropCached p.1 s) s =
    { s with insts := (l.foldl (fun s p => dropCached p.1 s) s).insts,
             munim := { s.munim with cache := (l.foldl (fun s p => dropCached p.1 s) s).munim.cache } } := by
  induction l generalizing s with
  | nil => rfl
  | cons p l ih => exact (ih (dropCached p.1 s)).trans rfl

/-- What the scheduler takes from an order that is to be run again (11 R491). -/
def sentBack (o : Order) : Order :=
  { o with stage := .redo, reexec := true, insts := [], copyA := none, copyB := none, result := none, rcptQueued := false,
           outSent := false, staged := false, fwLost := false, quorumAt := none, items := [] }

section
variable {s : State} {id : Nat} {o : Order} (ho : order? s id = some o) (hst : o.stage = .waitFill) (hi : o.intakeErr = false)
  (hc : o.commit = .none) (hr : o.runs < 4)
include ho hst hi hc hr

/-- An order that waits for its keys, with runs left, goes back to the scheduler (11 R491). -/
theorem reexec_waitFill : reexec id s = perfAdd 10 1 (modOrder (leaveRunning o (dropTlps id s)) id sentBack) := by
  have hlock : (o.intakeErr || o.commit != .none || (isFirmware o.opcode && o.stage == .done)) = false := by
    rw [hi, hc, hst]
    simp
  have hback : (o.stage == .committed || o.stage == .redo) = false := by
    rw [hst]
    rfl
  unfold reexec
  rw [ho]
  dsimp only
  rw [hlock, hback, if_neg Bool.false_ne_true, if_neg Bool.false_ne_true, if_neg (Nat.not_le.mpr hr)]
  rfl

/-- Nothing of its last run is left in it. -/
theorem order?_reexec_waitFill : order? (reexec id s) id = some (sentBack { o with outWait := [] }) := by
  have hrun : (leaveRunning o (dropTlps id s)).orders = (dropTlps id s).orders := by
    refine foldl_keeps State.orders _ ?_ _ _
    exact fun _ _ => rfl
  have hl : order? (leaveRunning o (dropTlps id s)) id = some { o with outWait := [] } :=
    (order?_congr hrun id).trans (order?_modOrder_same (fun _ => rfl) ho)
  rw [reexec_waitFill ho hst hi hc hr]
  exact (order?_modOrder_same (f := sentBack) (fun _ => rfl) hl :)

/-- It keeps its key locks: the Muniment does not change. -/
theorem reexec_waitFill_munim : (reexec id s).munim = s.munim := by
  have hrun : (leaveRunning o (dropTlps id s)).munim = (dropTlps id s).munim := by
    refine foldl_keeps State.munim _ ?_ _ _
    exact fun _ _ => rfl
  rw [reexec_waitFill ho hst hi hc hr]
  exact (hrun :)

end

/-- The fill buffer of an order is free (08 R387). -/
def bufferFreed (id : Nat) (s : State) : State :=
  { s with munim := { s.munim with fillBufs := s.munim.fillBufs.filter (fun i => i != id) } }

section
variable {s : State} (hs : Serving s) {id : Nat} {o : Order} (t : Nat) (ho : order? s id = some o) (hst : o.stage = .waitFill)
include hs ho hst

/-- With a good record, an order that is charged and has its input is ready (05 R258; 08 R387). -/
theorem keyCacheFillDone_good (hch : o.charged = true) (ha : dnOnA o = false) (hb : dnOnB o = false) (hin : o.input.isSome = true)
    (hau : o.aux.isSome = true) : exec (.keyCacheFillDone id true true t) s =
      .next (modOrder (bufferFreed id (tick t s)) id (fun o => { o with stage := .ready })) := by
  have ho1 : order? (bufferFreed id (tick t s)) id = some o := ho
  have hgo : keysPresent id (bufferFreed id (tick t s)) =
      modOrder (bufferFreed id (tick t s)) id (fun o => { o with stage := .ready }) := by
    rw [keysPresent, ho1]
    dsimp only
    rw [hch, ha, hb, startInput, ho1]
    dsimp only
    rw [hin, hau]
    rfl
  refine coreAct_next_quiet hs (by rfl) ?_ rfl rfl
  dsimp only
  rw [order?_tick, ho]
  dsimp only
  rw [hst]
  exact hgo

/-- A bad record leaves no entry and a Note, and the order is run again (11 R499). -/
theorem keyCacheFillDone_bad {copies words : Bool} (hbad : (copies && words) = false) :
    exec (.keyCacheFillDone id copies words t) s = .next (gate s (reexec id (note 0x04 7
      ((engineKeys o).foldl (fun s p => dropCached p.1 s) (bufferFreed id (tick t s)))))) := by
  refine coreAct_next hs (by rfl) ?_
  dsimp only
  rw [order?_tick, ho]
  dsimp only
  rw [hst, hbad]
  rfl

end

/-- After a bad record an order with runs left goes back to the scheduler, and no key slot changes (08 R387; 11 R499). -/
theorem badFill_rerun {s : State} {id : Nat} {o : Order} (ho : order? s id = some o) (hst : o.stage = .waitFill)
    (hi : o.intakeErr = false) (hc : o.commit = .none) (hr : o.runs < 4) (l : List (Nat × KeyUse)) :
    let v := reexec id (note 0x04 7 (l.foldl (fun s p => dropCached p.1 s) (bufferFreed id s)))
    order? v id = some (sentBack { o with outWait := [] }) ∧ v.munim.fillBufs = s.munim.fillBufs.filter (fun i => i != id) ∧
      v.munim.keys = s.munim.keys := by
  set d := l.foldl (fun s p => dropCached p.1 s) (bufferFreed id s) with hd
  have hdrop := dropCached_fold l (bufferFreed id s)
  have hn : EvidenceOnly d (note 0x04 7 d) := note_frame _ _ _
  have hdo : d.orders = s.orders := by rw [hd, hdrop]; rfl
  have hdm : d.munim.fillBufs = s.munim.fillBufs.filter (fun i => i != id) := by rw [hd, hdrop]; rfl
  have hdk : d.munim.keys = s.munim.keys := by rw [hd, hdrop]; rfl
  have hon : order? (note 0x04 7 d) id = some o := (order?_congr (hn.orders.trans hdo) id).trans ho
  have hm := reexec_waitFill_munim hon hst hi hc hr
  refine ⟨order?_reexec_waitFill hon hst hi hc hr, ?_, ?_⟩
  · rw [hm, hn.munim, hdm]
  · rw [hm, hn.munim, hdk]

/-! ### Translations -/

/-- A translation replaces the one of its page (03 R131). -/
def translated (x : Trans) (s : State) : State :=
  { s with pcie := { s.pcie with trans := s.pcie.trans.filter (fun y => !(y.stall == x.stall && y.page == x.page)) ++ [x] } }

theorem trans?_translated_same (x : Trans) (s : State) : trans? (translated x s) x.stall x.page = some x := by
  have hgone : (s.pcie.trans.filter (fun y => !(y.stall == x.stall && y.page == x.page))).find?
      (fun y => y.stall == x.stall && y.page == x.page) = none := by
    rw [List.find?_filter, List.find?_eq_none]
    intro y _
    cases y.stall == x.stall <;> cases y.page == x.page <;> decide
  rw [trans?, translated, List.find?_append, hgone]
  simp

theorem trans?_translated_other (x : Trans) (s : State) {st page : Nat} (h : st ≠ x.stall ∨ page ≠ x.page) :
    trans? (translated x s) st page = trans? s st page := by
  have hx : (x.stall == st && x.page == page) = false := by
    rcases h with h | h <;> simp [h.symm]
  have hkeep : (fun y : Trans => decide ((!(y.stall == x.stall && y.page == x.page)) = true ∧ (y.stall == st && y.page == page) = true)) =
      fun y => y.stall == st && y.page == page := by
    funext y
    refine Bool.eq_iff_iff.mpr ?_
    simp only [decide_eq_true_eq, Bool.and_eq_true, Bool.not_eq_true', Bool.and_eq_false_iff, beq_iff_eq, beq_eq_false_iff_ne]
    refine ⟨And.right, fun hy => ⟨?_, hy⟩⟩
    rw [hy.1, hy.2]
    exact h
  rw [trans?, translated, List.find?_append, List.find?_filter, hkeep, List.find?_cons_of_neg (by simp [hx])]
  simp [trans?]

/-- What waits for a translation changes orders, key locks and outputs alone (02 R112, R680). -/
theorem translatedRead_keeps (st page : Nat) (s : State) (o : Order) :
    let v := translatedRead st page s o
    v.pcie = s.pcie ∧ v.stalls = s.stalls ∧ v.rings = s.rings := by
  unfold translatedRead
  dsimp only
  split
  · exact ⟨rfl, rfl, rfl⟩
  · split <;> exact ⟨rfl, rfl, rfl⟩

theorem translatedWrite_keeps (st page : Nat) (s : State) (o : Order) :
    let v := translatedWrite st page s o
    v.pcie = s.pcie ∧ v.stalls = s.stalls ∧ v.rings = s.rings := by
  unfold translatedWrite
  dsimp only
  split
  · exact ⟨rfl, rfl, rfl⟩
  · split <;> exact ⟨rfl, rfl, rfl⟩

theorem translations_keep (st page : Nat) (l : List Order) (s : State) :
    let v := l.foldl (fun s o => translatedWrite st page (translatedRead st page s o) o) s
    v.pcie = s.pcie ∧ v.stalls = s.stalls ∧ v.rings = s.rings := by
  induction l generalizing s with
  | nil => exact ⟨rfl, rfl, rfl⟩
  | cons o l ih =>
    obtain ⟨hp, hst, hr⟩ := ih (translatedWrite st page (translatedRead st page s o) o)
    obtain ⟨hwp, hws, hwr⟩ := translatedWrite_keeps st page (translatedRead st page s o) o
    obtain ⟨hrp, hrs, hrr⟩ := translatedRead_keeps st page s o
    exact ⟨hp.trans (hwp.trans hrp), hst.trans (hws.trans hrs), hr.trans (hwr.trans hrr)⟩

/-- Slot reads leave translations and Stalls as they were (02 R82). -/
theorem fetchAux_keeps (st q fuel : Nat) (s : State) :
    (fetchAux st q fuel s).pcie = s.pcie ∧ (fetchAux st q fuel s).stalls = s.stalls := by
  induction fuel generalizing s with
  | zero => exact ⟨rfl, rfl⟩
  | succ fuel ih =>
    unfold fetchAux
    dsimp only
    split
    · exact ⟨rfl, rfl⟩
    · split
      · exact ⟨rfl, rfl⟩
      · exact ⟨rfl, rfl⟩
      · obtain ⟨hp, hs⟩ := ih _
        exact ⟨hp.trans rfl, hs.trans rfl⟩

theorem fetchAll_keeps (st : Nat) (l : List Nat) (s : State) :
    let v := l.foldl (fun s q => fetchSlots st q s) s
    v.pcie = s.pcie ∧ v.stalls = s.stalls :=
  ⟨foldl_keeps State.pcie _ (fun s q => (fetchAux_keeps st q 16 s).1) l s,
    foldl_keeps State.stalls _ (fun s q => (fetchAux_keeps st q 16 s).2) l s⟩

/-- A state after the orders of a Stall have met the translation of a page, before its slot reads go on. -/
def ordersTranslated (x : Trans) (s : State) : State :=
  (translated x s).orders.foldl (fun s o => translatedWrite x.stall x.page (translatedRead x.stall x.page s o) o) (translated x s)

theorem ordersTranslated_keeps (x : Trans) (s : State) :
    let v := ordersTranslated x s
    v.pcie = (translated x s).pcie ∧ v.stalls = s.stalls ∧ v.rings = s.rings :=
  translations_keep x.stall x.page (translated x s).orders (translated x s)

theorem trans?_congr {s v : State} (h : v.pcie = s.pcie) (st page : Nat) : trans? v st page = trans? s st page := by
  rw [trans?, trans?, h]

/-- What the arrival of a translation leaves: in a Bound Stall slot reads go on (02 R112). -/
def translationTaken (x : Trans) (bound : Bool) (s : State) : State :=
  if bound then [0, 1, 2, 3].foldl (fun s q => fetchSlots x.stall q s) (ordersTranslated x s) else ordersTranslated x s

/-- One page has a new translation, and no Stall changes; without slot reads no ring does. -/
theorem translationTaken_leaves (x : Trans) (bound : Bool) (s : State) :
    let v := translationTaken x bound s
    trans? v x.stall x.page = some x ∧
      (∀ st page, (st ≠ x.stall ∨ page ≠ x.page) → trans? v st page = trans? s st page) ∧
      v.stalls = s.stalls ∧ (bound = false → v.rings = s.rings) := by
  obtain ⟨hp, hst, hr⟩ := ordersTranslated_keeps x s
  obtain ⟨hfp, hfs⟩ := fetchAll_keeps x.stall [0, 1, 2, 3] (ordersTranslated x s)
  intro v
  have hv : v.pcie = (translated x s).pcie ∧ v.stalls = s.stalls ∧ (bound = false → v.rings = s.rings) := by
    cases bound with
    | false => exact ⟨hp, hst, fun _ => hr⟩
    | true => exact ⟨hfp.trans hp, hfs.trans hst, fun h => Bool.noConfusion h⟩
  obtain ⟨hvp, hvs, hvr⟩ := hv
  exact ⟨(trans?_congr hvp _ _).trans (trans?_translated_same x s),
    fun st page h => (trans?_congr hvp _ _).trans (trans?_translated_other x s h), hvs, hvr⟩

section
variable {s : State} (hs : Serving s) {st page : Nat} {rd wr : Bool} (t : Nat)
include hs

/-- A translation for a Stall under ATS that is not Free arrives (02 R112; 03 R160). -/
theorem atsTranslationCompletion_next (ha : (stall s st).ats = true) (hf : (stall s st).state ≠ .free) :
    exec (.atsTranslationCompletion st page rd wr t) s = .next (gate s (translationTaken
      { stall := st, page := page, valid := rd || wr, rd := rd, wr := wr } ((stall s st).state == .bound) (tick t s))) := by
  refine coreAct_next hs (by rfl) ?_
  refine if_neg ?_
  have hb : ((stall s st).state == .free) = false := beq_false_of_ne hf
  rw [stall_tick, ha, hb]
  exact Bool.false_ne_true

/-- Without ATS, or for a Free Stall, only the time moves. -/
theorem atsTranslationCompletion_stray (h : (stall s st).ats = false ∨ (stall s st).state = .free) :
    exec (.atsTranslationCompletion st page rd wr t) s = .next (tick t s) := by
  refine coreAct_next_quiet hs (by rfl) ?_ rfl rfl
  refine if_pos ?_
  rw [stall_tick]
  rcases h with h | h <;> rw [h]
  · rfl
  · exact Bool.or_true _

end

/-- Settles O30: input, keys, translations, seeds and idle registers. -/
theorem orderInputRows : Obligations.OrderInputRows := by
  unfold Obligations.OrderInputRows
  intro s t hs u
  refine ⟨fun id part rr o ho hst hw hi => ⟨fun b hb => ?data, fun st w hr => ?failed⟩,
    fun id o ho hst => ⟨fun hch ha hb hin hau => ?good, fun copies words hbad hie hc hr => ?bad⟩,
    fun st page rd wr ha hf => ?translation, fun st page rd wr h => atsTranslationCompletion_stray hs t h, fun i hu hn => ?seed,
    fun i h => ?noSeed, fun k i => ?idle⟩
  case data =>
    subst hb
    obtain ⟨hx, hsame, hother, hinsts, hrest⟩ := inputPlaced_leaves ho part b (s := u)
    refine ⟨_, inputReadCompletion_data hs t ho hst hw hi b, hx, hsame, hother, ?_, hrest⟩
    rw [hinsts, filled_tick]
    rfl
  case failed => exact ⟨_, inputReadCompletion_failed hs t ho hst hw hi hr, order?_settle _ ho, rfl⟩
  case good =>
    exact ⟨_, keyCacheFillDone_good hs t ho hst hch ha hb hin hau, _, order?_modOrder_same (fun _ => rfl) ho, rfl, rfl, rfl⟩
  case bad =>
    refine ⟨_, keyCacheFillDone_bad hs t ho hst hbad, ?_⟩
    obtain ⟨hx, hbufs, hkeys⟩ := badFill_rerun (s := u) ho hst hie hc hr (engineKeys o)
    exact ⟨_, hx, rfl, rfl, rfl, rfl, hbufs, hkeys⟩
  case translation =>
    obtain ⟨hsame, hother, hstalls, hrings⟩ := translationTaken_leaves
      { stall := st, page := page, valid := rd || wr, rd := rd, wr := wr } ((stall s st).state == .bound) u
    exact ⟨_, atsTranslationCompletion_next hs t ha hf, hsame, hother, hstalls, fun hn => hrings (beq_false_of_ne hn)⟩
  case seed =>
    refine coreAct_next_quiet hs (by rfl) ?_ rfl rfl
    refine if_neg ?_
    rw [hu, hn]
    exact Bool.false_ne_true
  case noSeed =>
    refine coreAct_next_quiet hs (by rfl) ?_ rfl rfl
    refine if_pos ?_
    rcases h with h | h <;> rw [h]
    · rfl
    · exact Bool.or_true _
  case idle =>
    refine coreAct_next_quiet hs (by rfl) rfl ?_ ?_ <;> split <;> rfl

end Machine
end Sys2Proof
end

section
/-!
PROOFS. What a reset of a Stall begins with: its orders, its rings, the Stall itself, and what else it may change (03 R155 to R163;
10 R461).
-/
namespace Sys2Proof
namespace Machine

/-! ### One Stall and one ring position -/

theorem stall_modStall_same (s : State) (n : Nat) (f : Stall → Stall) : stall (modStall s n f) n = f (stall s n) :=
  stall_setStall_same _ _ _

theorem stall_modStall_other {n m : Nat} (h : m ≠ n) (s : State) (f : Stall → Stall) : stall (modStall s n f) m = stall s m :=
  stall_setStall_other _ _ _ _ h

/-- What a change of a Stall keeps of it is the same of every Stall. -/
theorem stall_modStall_keeps {β : Type} (g : Stall → β) {f : Stall → Stall} (hf : ∀ x, g (f x) = g x) (s : State) (n m : Nat) :
    g (stall (modStall s n f) m) = g (stall s m) := by
  by_cases h : m = n
  · rw [h, stall_modStall_same, hf]
  · rw [stall_modStall_other h]

theorem stall_congr {s t : State} (h : t.stalls = s.stalls) (n : Nat) : stall t n = stall s n := by rw [stall, h]; rfl

theorem ring_congr {s t : State} (h : t.rings = s.rings) (st q : Nat) : ring t st q = ring s st q := by rw [ring, h]; rfl

theorem rix_ne_of_ne {q q' : Nat} (h : q' ≠ q) (st : Nat) : rix st q' ≠ rix st q := by unfold rix; omega

/-- A fold that gives each ring position of a Stall in turn a change, and no other one. -/
theorem ring_foldl_range {st : Nat} {g : State → Nat → State} {f : Ring → Ring} (hsame : ∀ s q, ring (g s q) st q = f (ring s st q))
    (hother : ∀ s q q', q' ≠ q → ring (g s q) st q' = ring s st q') (s : State) {n q : Nat} :
    ring ((List.range n).foldl g s) st q = if q < n then f (ring s st q) else ring s st q := by
  induction n with
  | zero => rfl
  | succ n ih =>
    rw [List.range_succ, List.foldl_append, List.foldl_cons, List.foldl_nil]
    by_cases h : q = n
    · subst h
      rw [hsame, ih, if_neg (Nat.lt_irrefl q), if_pos (Nat.lt_succ_self q)]
    · rw [hother _ _ _ h, ih]
      exact if_congr (by omega) rfl rfl

/-! ### The orders of the Stall -/

/-- A Stall without what its reset counts as it meets the orders (03 R157). -/
def uncounted (x : Stall) : Stall := { x with newAbandoned := 0, newReports := [] }

/-- An order that a reset takes has left the egress queue, the instances and the key slots (03 R157; 04 R192). -/
def orderLeft (o : Order) (s : State) : State := unlockKeys o.id (leaveRunning o (dropTlps o.id s))

/-- The parts of the state that the beginning of a reset may change, taken from another state. -/
def resetParts (t s : State) : State :=
  { s with rings := t.rings, stalls := t.stalls, orders := t.orders, egress := t.egress, insts := t.insts, munim := t.munim,
           pair := { s.pair with txns := t.pair.txns } }

/-- Two states that agree outside the parts of a reset agree in every other field. -/
theorem resetParts_field {β : Type} (g : State → β) {t v w : State} (hg : ∀ s, g (resetParts t s) = g s)
    (h : resetParts t v = resetParts t w) : g v = g w := by
  rw [← hg v, h, hg]

theorem leaveRunning_keeps {β : Type} (g : State → β) (hg : ∀ s k i f, g (modInst s k i f) = g s) (o : Order) (s : State) :
    g (leaveRunning o s) = g s := by
  refine foldl_keeps g _ ?_ _ s
  exact fun s p => hg s p.1 p.2 _

/-- The Stalls and the ring positions are as they were. -/
theorem orderLeft_keeps (o : Order) (s : State) : (orderLeft o s).stalls = s.stalls ∧ (orderLeft o s).rings = s.rings :=
  ⟨leaveRunning_keeps State.stalls (fun _ _ _ _ => rfl) o (dropTlps o.id s),
    leaveRunning_keeps State.rings (fun _ _ _ _ => rfl) o (dropTlps o.id s)⟩

theorem orderLeft_parts (t : State) (o : Order) (s : State) : resetParts t (orderLeft o s) = resetParts t s :=
  leaveRunning_keeps (resetParts t) (fun _ _ _ _ => rfl) o (dropTlps o.id s)

theorem orderLeft_orders (o : Order) (s : State) : (orderLeft o s).orders = (dropTlps o.id s).orders :=
  leaveRunning_keeps State.orders (fun _ _ _ _ => rfl) o (dropTlps o.id s)

/-- What a reset does to one order is made of four things: it is taken from what holds it, and counted in its Stall; it is dropped or
changed. What each of them keeps, the reset of the order keeps (03 R157, R160). -/
theorem resetOrderOne_keeps {β : Type} (g : State → β) {st : Nat} (hleft : ∀ o s, g (orderLeft o s) = g s)
    (hstall : ∀ f s, (∀ x, uncounted (f x) = uncounted x) → g (modStall s st f) = g s)
    (hdrop : ∀ s id, g (dropOrder s id) = g s) (hmod : ∀ s id f, g (modOrder s id f) = g s) (hard : Bool) (s : State) (o : Order) :
    g (resetOrderOne hard st s o) = g s := by
  have hcount : ∀ f, (∀ x, uncounted (f x) = uncounted x) → g (modStall (orderLeft o s) st f) = g s :=
    fun f hf => (hstall f _ hf).trans (hleft o s)
  unfold resetOrderOne
  dsimp only
  split
  · exact (hdrop _ _).trans (hleft o s)
  · split
    · refine (hdrop _ _).trans (hcount _ ?_)
      exact fun _ => rfl
    · split
      · refine (hdrop _ _).trans (hcount _ ?_)
        exact fun _ => rfl
      · refine (hmod _ _ _).trans (hcount _ ?_)
        exact fun _ => rfl

theorem resetOrderOne_parts (t : State) (hard : Bool) (st : Nat) (s : State) (o : Order) :
    resetParts t (resetOrderOne hard st s o) = resetParts t s :=
  resetOrderOne_keeps (resetParts t) (orderLeft_parts t) (fun _ _ _ => rfl) (fun _ _ => rfl) (fun _ _ _ => rfl) hard s o

theorem resetOrderOne_stall_same (hard : Bool) (st : Nat) (s : State) (o : Order) :
    uncounted (stall (resetOrderOne hard st s o) st) = uncounted (stall s st) :=
  resetOrderOne_keeps (fun s => uncounted (stall s st)) (fun o s => congrArg _ (stall_congr (orderLeft_keeps o s).1 st))
    (fun f s hf => by rw [stall_modStall_same, hf]) (fun _ _ => rfl) (fun _ _ _ => rfl) hard s o

theorem resetOrderOne_stall_other {st n : Nat} (h : n ≠ st) (hard : Bool) (s : State) (o : Order) :
    stall (resetOrderOne hard st s o) n = stall s n :=
  resetOrderOne_keeps (fun s => stall s n) (fun o s => stall_congr (orderLeft_keeps o s).1 n)
    (fun f s _ => stall_modStall_other h s f) (fun _ _ => rfl) (fun _ _ _ => rfl) hard s o

theorem resetOrderOne_rings (hard : Bool) (st : Nat) (s : State) (o : Order) : (resetOrderOne hard st s o).rings = s.rings :=
  resetOrderOne_keeps State.rings (fun o s => (orderLeft_keeps o s).2) (fun _ _ _ => rfl) (fun _ _ => rfl) (fun _ _ _ => rfl) hard s o

/-- A change of the orders with one name and the removal of those orders leave the other ones as they were. -/
theorem filter_map_named (l : List Order) (id : Nat) {f : Order → Order} (hf : ∀ o, (f o).id = o.id) :
    (l.map (fun o => if o.id = id then f o else o)).filter (fun o => o.id != id) = l.filter (fun o => o.id != id) := by
  induction l with
  | nil => rfl
  | cons o l ih =>
    by_cases h : o.id = id
    · simp [h, hf, ih]
    · simp [h, ih]

/-- A hard reset removes the order (03 R160). -/
theorem resetOrderOne_hard_orders (st : Nat) (s : State) (o : Order) :
    (resetOrderOne true st s o).orders = s.orders.filter (fun x => x.id != o.id) := by
  have hd : (orderLeft o s).orders.filter (fun x => x.id != o.id) = s.orders.filter (fun x => x.id != o.id) := by
    rw [orderLeft_orders]
    exact filter_map_named s.orders o.id (f := fun x => { x with outWait := [] }) fun _ => rfl
  unfold resetOrderOne
  dsimp only
  split
  · exact hd
  · split
    · exact hd
    · exact hd

/-- A hard reset removes its orders one by one (03 R160). -/
theorem resetOrders_hard (st : Nat) (l : List Order) (s : State) :
    (l.foldl (resetOrderOne true st) s).orders = s.orders.filter (fun x => l.all (fun o => x.id != o.id)) := by
  induction l generalizing s with
  | nil => simp
  | cons o l ih =>
    rw [List.foldl_cons, ih, resetOrderOne_hard_orders, List.filter_filter]
    exact List.filter_congr fun x _ => by rw [List.all_cons, Bool.and_comm]

/-! ### The beginning of a reset -/

/-- A Stall that has entered a reset (03 R155). -/
def enteredReset (hard : Bool) (cause : Nat) (x : Stall) : Stall :=
  { x with state := .resetting, gen := x.gen + 1, lastCause := cause, hardReset := hard, newAbandoned := 0, newReports := [],
           lostRcpts := 0, freeAfter := false, resetOrder := [], quotaWait := false }

/-- A ring position whose uncommitted slots are discarded (03 R157). -/
def ringCleared (r : Ring) : Ring := { r with fetched := [], cwBytes := [], rd := r.asm }

/-- A state in which a Stall has entered a reset and its orders have met it (03 R157, R160). -/
def ordersReset (st : Nat) (hard : Bool) (cause : Nat) (s : State) : State :=
  (stallOrders (modStall s st (enteredReset hard cause)) st).foldl (resetOrderOne hard st) (modStall s st (enteredReset hard cause))

/-- A state in which one ring position of a Stall is cleared, and what it holds in the cache is gone (02 R116; 03 R157). -/
def clearRing (st : Nat) (s : State) (q : Nat) : State := dropUncommitted st q (modRing s st q ringCleared)

/-- A state in which the ring positions of a Stall are cleared (03 R157). -/
def ringsCleared (st : Nat) (s : State) : State := (List.range 4).foldl (clearRing st) s

/-- A state in which neither the engines nor the transactions of the pair hold anything of a Stall (03 R157; 04 R192; 10 R461). -/
def placesLeft (st : Nat) (s : State) : State :=
  let v := modInsts s (fun x => { x with wregs := x.wregs.filter (fun w => w.stall != st),
                                         loomBufs := x.loomBufs.filter (fun b => b.stall != st) })
  { v with pair := { v.pair with txns := v.pair.txns.filter (fun y => y.place.1 != st || (order? v y.order).isSome) } }

/-- What changes of instances and transactions keep. -/
theorem placesLeft_keeps {β : Type} (g : State → β) (hg : ∀ s i x, g { s with insts := i, pair := { s.pair with txns := x } } = g s)
    (st : Nat) (s : State) : g (placesLeft st s) = g s := hg s _ _

theorem beginReset_eq (st : Nat) (hard : Bool) (cause : Nat) (s : State) :
    beginReset st hard cause s = placesLeft st (ringsCleared st (ordersReset st hard cause s)) := by
  unfold beginReset
  rfl

theorem ringsCleared_keeps {β : Type} (g : State → β) (st : Nat) (hg : ∀ s q, g (clearRing st s q) = g s) (s : State) :
    g (ringsCleared st s) = g s := foldl_keeps g _ hg _ s

theorem clearRing_ring_same (st : Nat) (s : State) (q : Nat) : ring (clearRing st s q) st q = ringCleared (ring s st q) :=
  ring_setRing_same _ _ _ _

theorem clearRing_ring_other (st : Nat) (s : State) (q q' : Nat) (h : q' ≠ q) : ring (clearRing st s q) st q' = ring s st q' :=
  ring_setRing_other _ _ _ _ _ _ (rix_ne_of_ne h st)

theorem ringsCleared_ring (st : Nat) (s : State) {q : Nat} (h : q < 4) :
    ring (ringsCleared st s) st q = ringCleared (ring s st q) := by
  rw [ringsCleared, ring_foldl_range (clearRing_ring_same st) (clearRing_ring_other st), if_pos h]

section
variable (st : Nat) (hard : Bool) (cause : Nat) (s : State)

/-- What changes of instances, transactions and ring positions keep is that of the state in which the orders have met the reset. -/
theorem beginReset_keeps {β : Type} (g : State → β) (hg : ∀ s i x, g { s with insts := i, pair := { s.pair with txns := x } } = g s)
    (hr : ∀ s q, g (clearRing st s q) = g s) :
    g (beginReset st hard cause s) = g (ordersReset st hard cause s) := by
  rw [beginReset_eq]
  exact (placesLeft_keeps g hg st _).trans (ringsCleared_keeps g st hr _)

theorem ordersReset_parts (t : State) : resetParts t (ordersReset st hard cause s) = resetParts t s :=
  foldl_keeps (resetParts t) _ (resetOrderOne_parts t hard st) _ _

/-- A reset begins with changes of rings, Stalls, orders, egress queue, instances, the Muniment and the transactions of the pair, and
of nothing else. -/
theorem beginReset_parts (t : State) : resetParts t (beginReset st hard cause s) = resetParts t s :=
  (beginReset_keeps st hard cause s (resetParts t) (fun _ _ _ => rfl) (fun _ _ => rfl)).trans (ordersReset_parts st hard cause s t)

theorem beginReset_stalls : (beginReset st hard cause s).stalls = (ordersReset st hard cause s).stalls :=
  beginReset_keeps st hard cause s State.stalls (fun _ _ _ => rfl) (fun _ _ => rfl)

theorem beginReset_orders : (beginReset st hard cause s).orders = (ordersReset st hard cause s).orders :=
  beginReset_keeps st hard cause s State.orders (fun _ _ _ => rfl) (fun _ _ => rfl)

/-- The Stall has entered the reset, and what the reset counts in it aside nothing of it has changed since (03 R155). -/
theorem beginReset_stall_same : uncounted (stall (beginReset st hard cause s) st) = enteredReset hard cause (stall s st) := by
  rw [stall_congr (beginReset_stalls st hard cause s)]
  refine (foldl_keeps (fun s => uncounted (stall s st)) _ (resetOrderOne_stall_same hard st) _ _).trans ?_
  rw [stall_modStall_same]
  rfl

theorem beginReset_stall_other {n : Nat} (h : n ≠ st) : stall (beginReset st hard cause s) n = stall s n := by
  rw [stall_congr (beginReset_stalls st hard cause s)]
  exact (foldl_keeps (fun s => stall s n) _ (resetOrderOne_stall_other h hard) _ _).trans (stall_modStall_other h _ _)

/-- The ring positions of the Stall are cleared (03 R157). -/
theorem beginReset_ring {q : Nat} (h : q < 4) : ring (beginReset st hard cause s) st q = ringCleared (ring s st q) := by
  have ho : (ordersReset st hard cause s).rings = s.rings := foldl_keeps State.rings _ (resetOrderOne_rings hard st) _ _
  rw [beginReset_eq, ring_congr (placesLeft_keeps State.rings (fun _ _ _ => rfl) st _), ringsCleared_ring st _ h, ring_congr ho]

/-- A hard reset leaves no order of the Stall, and every order that is left is as it was (03 R160). -/
theorem beginReset_hard_orders {o : Order} (h : o ∈ (beginReset st true cause s).orders) : o.stall ≠ st ∧ o ∈ s.orders := by
  rw [beginReset_orders, ordersReset, resetOrders_hard, List.mem_filter] at h
  obtain ⟨hm, hn⟩ := h
  refine ⟨fun he => ?_, hm⟩
  have ho : o ∈ stallOrders s st := List.mem_filter.mpr ⟨hm, beq_iff_eq.mpr he⟩
  simpa using List.all_eq_true.mp hn o ho

/-- The reset of a Bound Stall on a part without a twin begins, and no one is told (03 R155; 10 R461). -/
theorem requestReset_alone (hb : (stall s st).state = .bound) (hm : mirrored s = false) :
    requestReset st hard cause s = beginReset st hard cause s := by
  have hp : mirrored (beginReset st hard cause s) = mirrored s :=
    resetParts_field mirrored (fun _ => rfl) (beginReset_parts st hard cause s s)
  rw [requestReset, hb]
  dsimp only
  rw [tellReset, hp, hm, if_neg Bool.false_ne_true]

end

end Machine
end Sys2Proof
end

section
/-!
PROOFS. The requests of the host that act on a Stall as a whole: self reset and hard reset, quotas, the Requester ID, and the
invalidation of translations (03 R129, R131, R139, R140, R145, R155 to R163).
-/
namespace Sys2Proof
namespace Machine

/-- The egress gate touches no Stall and no ring position. -/
@[simp] theorem stall_gate (s v : State) (n : Nat) : stall (gate s v) n = stall v n := rfl

@[simp] theorem ring_gate (s v : State) (st q : Nat) : ring (gate s v) st q = ring v st q := rfl

/-! ### Resets -/

/-- A Free Stall takes no reset (03 R140). -/
theorem requestReset_free {s : State} {st : Nat} (h : (stall s st).state = .free) (hard : Bool) (cause : Nat) :
    requestReset st hard cause s = s := by
  rw [requestReset, h]

section
variable {s : State} (hs : Serving s) {st : Nat} (t : Nat) (tb : Bool)
include hs

/-- The page of a Stall that does not exist takes no self reset (03 R127). -/
theorem stallSelfReset_past (h : 4096 ≤ st) : exec (.stallSelfReset st ⟨t, tb⟩) s = .next (tick t s) := by
  refine hostAct_next_quiet hs (by rfl) ?_ rfl rfl
  have hx : ringExists st 0 = false := by simp [ringExists, h]
  rw [pageWrite, hx]
  rfl

/-- A self reset through a page that takes it (03 R155). -/
theorem stallSelfReset_taken (hst : st < 4096) {tb : Bool} (hp : pageTakes (stall s st) tb = true) :
    exec (.stallSelfReset st ⟨t, tb⟩) s =
      .next (gate s (if st = 0 then tick t s else requestReset st false causeSelf (tick t s))) :=
  ringReg_takes (q := 0) (f := fun s => if st = 0 then s else requestReset st false causeSelf s) hst (by decide) hs (by rfl) hp

/-- Stall 0 and a Free Stall take no self reset (03 R681). -/
theorem stallSelfReset_ignored (hst : st < 4096) {tb : Bool} (hp : pageTakes (stall s st) tb = true)
    (h : st = 0 ∨ (stall s st).state = .free) : exec (.stallSelfReset st ⟨t, tb⟩) s = .next (tick t s) := by
  rw [stallSelfReset_taken hs t hst hp]
  have hr : (if st = 0 then tick t s else requestReset st false causeSelf (tick t s)) = tick t s := by
    split
    · rfl
    · next h0 => exact requestReset_free (s := tick t s) (h.resolve_left h0) false causeSelf
  rw [hr, gate_tick]

/-- The hard reset of a Stall other than 0 (03 R140, R145). -/
theorem stallcfgHardReset_next (h0 : st ≠ 0) (hst : st < 4096) : exec (.stallcfgHardReset st t) s =
    .next (gate s (requestReset st true causeHard (tdiToError st (tick t s)))) := by
  refine hostAct_next hs (by rfl) ?_
  refine if_neg ?_
  simp [h0, hst]

theorem stallcfgHardReset_ignored (h : st = 0 ∨ 4096 ≤ st) : exec (.stallcfgHardReset st t) s = .next (tick t s) := by
  refine hostAct_next_quiet hs (by rfl) ?_ rfl rfl
  refine if_pos ?_
  simpa using h

end

/-- The TDI state that a hard reset gives a Stall (03 R145). -/
def tdiErred (d : Tdi) : Tdi := if d = .locked ∨ d = .run then .error else d

theorem tdiToError_stall_same (st : Nat) (s : State) :
    stall (tdiToError st s) st = { stall s st with tdi := tdiErred (stall s st).tdi } := by
  rw [tdiToError, stall_modStall_same]
  generalize stall s st = x
  obtain ⟨⟩ := x
  cases ‹Tdi› <;> rfl

theorem tdiToError_stall_other {st n : Nat} (h : n ≠ st) (s : State) : stall (tdiToError st s) n = stall s n :=
  stall_modStall_other h _ _

/-! ### Quotas -/

/-- A quota write to a Stall that exists: a quota in range that the Owner's weights allow is taken, any other sets CFG_ERR
(03 R139). -/
theorem stallcfgQuotaWrite_next {s : State} (hs : Serving s) {st : Nat} (hst : st < 4096) (f : QuotaField) (v : Nat) :
    exec (.stallcfgQuotaWrite st f v) s = .next (setStall s st
      (if (stall s st).state ≠ .free ∧ quotaInRange f v = true ∧ weightTooHigh s st f v = false then withQuota f v (stall s st)
       else { stall s st with cfgErr := true })) := by
  refine hostAct_next_quiet hs (by rfl) ?_ rfl rfl
  refine (if_neg (Nat.not_le.mpr hst)).trans ?_
  by_cases h : (stall s st).state ≠ .free ∧ quotaInRange f v = true ∧ weightTooHigh s st f v = false
  · obtain ⟨hb, hr, hw⟩ := id h
    rw [if_pos h, if_neg (by simp [hb, hr, hw])]
    rfl
  · rw [if_neg h, if_pos ?_]
    · rfl
    · simpa [imp_iff_not_or, or_assoc] using h

/-! ### The Requester ID -/

/-- Stalls that are given one change, one after the other. -/
def stallsGiven (f : Stall → Stall) (l : List (Nat × Stall)) (s : State) : State := l.foldl (fun s b => modStall s b.1 f) s

theorem stallsGiven_keeps {β : Type} (g : State → β) (hg : ∀ s n f, g (modStall s n f) = g s) (f : Stall → Stall)
    (l : List (Nat × Stall)) (s : State) : g (stallsGiven f l s) = g s := by
  refine foldl_keeps g _ ?_ l s
  exact fun s b => hg s b.1 f

/-- A change that is the same made twice is that of every Stall of the list, and of no other. -/
theorem stall_stallsGiven {f : Stall → Stall} (hf : ∀ x, f (f x) = f x) (l : List (Nat × Stall)) (s : State) (n : Nat) :
    stall (stallsGiven f l s) n = if ∃ p ∈ l, p.1 = n then f (stall s n) else stall s n := by
  induction l generalizing s with
  | nil => simp [stallsGiven]
  | cons p l ih =>
    refine (ih (modStall s p.1 f)).trans ?_
    by_cases h : p.1 = n
    · subst h
      rw [stall_modStall_same, hf, ite_self, if_pos ⟨p, List.mem_cons_self, rfl⟩]
    · rw [stall_modStall_other (Ne.symm h)]
      exact if_congr (by simp [h]) rfl rfl

/-- What a configuration write leaves of the function (03 R129; 15 R628, R629). -/
def pcieWritten (rid : Nat) (reg : CfgReg) (s : State) : State :=
  let p := { s.pcie with rid := rid % 2 ^ 16 }
  { s with pcie := match reg with
    | .other => p
    | .atsEnable on => { p with atsEn := on }
    | .atomicRequester on => { p with atomicEn := on }
    | .clearFatal => { p with aerFatal := false } }

/-- A configuration write gives its Requester ID to the function and to every Stall that is not Free (03 R129). -/
theorem configWrite_next (rid : Nat) (reg : CfgReg) (t : Nat) (s : State) : exec (.configWrite rid reg t) s =
    .next (stallsGiven (fun x => { x with rid := rid % 2 ^ 16 }) (boundStalls s) (pcieWritten rid reg (tick t s))) := by
  refine Eq.trans (by rfl) (act_quiet (f := fun s => stallsGiven (fun x => { x with rid := rid % 2 ^ 16 }) (boundStalls s)
    (pcieWritten rid reg (tick t s))) rfl (stallsGiven_keeps State.out (fun _ _ _ => rfl) _ _ _)
    (stallsGiven_keeps State.pending (fun _ _ _ => rfl) _ _ _))

/-! ### Invalidations -/

/-- A single invalidation is reported unless a request may still use one of its translations (03 R131). -/
theorem finishInvs_one {s : State} {v : Inval} (h : s.pcie.invs = [v]) : finishInvs s =
    if v.pages.any (usesPage s v.stall) then s
    else emit (.atsInvDone v.pasid) { s with pcie := { s.pcie with invs := [] } } := by
  simp [finishInvs, h]

/-- Whether an invalidation names a translation: one of its Stall in its range (03 R131). -/
def invHits (s : State) (pasid : Option Nat) (page count : Nat) (y : Trans) : Bool :=
  invTarget s pasid == some y.stall && decide (page ≤ y.page) && decide (y.page < page + count)

/-- A state in which an invalidation has removed translations and is outstanding (03 R131). -/
def invalidated (hit : Trans → Bool) (v : Inval) (s : State) : State :=
  { s with pcie := { s.pcie with trans := s.pcie.trans.filter (fun y => !hit y), invs := s.pcie.invs ++ [v] } }

/-- With no other invalidation outstanding it waits for the requests that may use its translations, or is reported (03 R131). -/
theorem finishInvs_invalidated {s : State} (h : s.pcie.invs = []) (hit : Trans → Bool) (v : Inval) :
    finishInvs (invalidated hit v s) = if v.pages.any (usesPage s v.stall)
      then { s with pcie := { s.pcie with trans := s.pcie.trans.filter (fun y => !hit y), invs := [v] } }
      else emit (.atsInvDone v.pasid) { s with pcie := { s.pcie with trans := s.pcie.trans.filter (fun y => !hit y) } } := by
  have ho : (invalidated hit v s).pcie.invs = [v] := congrArg (fun l => l ++ [v]) h
  rw [finishInvs_one ho]
  refine if_congr Iff.rfl ?_ ?_
  · exact congrArg (fun l => { s with pcie := { s.pcie with trans := s.pcie.trans.filter (fun y => !hit y), invs := l } }) ho
  · exact congrArg (fun l => emit (.atsInvDone v.pasid)
      { s with pcie := { s.pcie with trans := s.pcie.trans.filter (fun y => !hit y), invs := l } }) h.symm

/-- Outside Silence an invalidation removes its translations, and it is reported when nothing may still use one (03 R131). -/
theorem atsInvalidation_next {s : State} (hs : Serving s) (hl : s.faults.silent = false) (pasid : Option Nat) (page count : Nat) :
    exec (.atsInvalidation pasid page count) s = .next (finishInvs (invalidated (invHits s pasid page count)
      { pasid := pasid, stall := (invTarget s pasid).getD 0,
        pages := (s.pcie.trans.filter (invHits s pasid page count)).map (fun y => y.page) } s)) := by
  refine (coreAct_next hs (by rfl) rfl).trans (congrArg _ ?_)
  refine gate_finishInvs (v := invalidated (invHits s pasid page count) _ s) hl List.prefix_rfl ?_
  rfl

/-- Settles O34: each request by the Stall it names, its state and the page. -/
theorem stallRequestRows : Obligations.StallRequestRows := by
  unfold Obligations.StallRequestRows
  intro s st t tb hs
  refine ⟨fun h0 hst hb hm => ⟨fun hp => ?selfReset, ?hardReset⟩, fun h => ?selfIgnored, fun hst hp => ?selfRefused,
    stallcfgHardReset_ignored hs t, fun hst f v => stallcfgQuotaWrite_next hs hst f v, fun rid reg => ?config,
    fun hl hi pasid page count => ?invalidation⟩
  case selfReset =>
    refine ⟨_, stallSelfReset_taken hs t hst hp, ?_⟩
    simp only [if_neg h0, requestReset_alone st false causeSelf (tick t s) hb hm, stall_gate, ring_gate]
    have hx := beginReset_stall_same st false causeSelf (tick t s)
    refine ⟨congrArg Stall.state hx, congrArg Stall.gen hx, congrArg Stall.lastCause hx, congrArg Stall.hardReset hx,
      (congrArg Stall.owner hx :), fun n hn => beginReset_stall_other st false causeSelf (tick t s) hn, fun q hq => ?_⟩
    have hr := beginReset_ring st false causeSelf (tick t s) hq
    exact ⟨congrArg Ring.fetched hr, congrArg Ring.cwBytes hr⟩
  case hardReset =>
    have he := tdiToError_stall_same st (tick t s)
    refine ⟨_, stallcfgHardReset_next hs t h0 hst, ?_⟩
    simp only [requestReset_alone st true causeHard (tdiToError st (tick t s)) ((congrArg Stall.state he).trans hb) hm, stall_gate,
      gate_orders]
    have hx := beginReset_stall_same st true causeHard (tdiToError st (tick t s))
    rw [he] at hx
    refine ⟨congrArg Stall.state hx, congrArg Stall.gen hx, congrArg Stall.lastCause hx, congrArg Stall.hardReset hx,
      congrArg Stall.tdi hx, fun n hn => ?_, fun o ho => (beginReset_hard_orders st causeHard _ ho).1,
      fun o ho => (beginReset_hard_orders st causeHard _ ho).2⟩
    exact (beginReset_stall_other st true causeHard _ hn).trans (tdiToError_stall_other hn _)
  case selfIgnored =>
    by_cases hst : st < 4096
    · obtain ⟨h, hp⟩ := h.resolve_left (Nat.not_le.mpr hst)
      exact stallSelfReset_ignored hs t hst hp h
    · exact stallSelfReset_past hs t tb (Nat.le_of_not_lt hst)
  case selfRefused => exact ringReg_refuses hst (by decide) hs (by rfl) hp
  case config =>
    have hg := stall_stallsGiven (f := fun x => { x with rid := rid % 2 ^ 16 }) (fun _ => rfl) (boundStalls s)
      (pcieWritten rid reg (tick t s))
    have hp := stallsGiven_keeps State.pcie (fun _ _ _ => rfl) (fun x => { x with rid := rid % 2 ^ 16 }) (boundStalls s)
      (pcieWritten rid reg (tick t s))
    refine ⟨_, configWrite_next rid reg t s, ?_, ?_, ?_, ?_, fun n hn hf => ?_, fun n hn => ?_,
      stallsGiven_keeps (fun v => { v with stalls := (tick t s).stalls, pcie := (tick t s).pcie }) (fun _ _ _ => rfl) _ _ _⟩
    · rw [hp]; cases reg <;> rfl
    · rw [hp]; cases reg <;> rfl
    · rw [hp]; cases reg <;> rfl
    · rw [hp]; cases reg <;> rfl
    · refine (hg n).trans (if_pos ⟨(n, stall s n), ?_, rfl⟩)
      exact List.mem_filter.mpr ⟨hn, bne_iff_ne.mpr hf⟩
    · refine (hg n).trans (if_neg ?_)
      rintro ⟨p, hp, he⟩
      exact hn p (List.mem_of_mem_filter hp) he
  case invalidation =>
    rw [atsInvalidation_next hs hl, finishInvs_invalidated hi]
    rfl

end Machine
end Sys2Proof
end

section
/-!
PROOFS. How a reset of a Stall ends, and the reset of the function (03 R136, R142, R155 to R163; 14 R597).
-/
namespace Sys2Proof
namespace Machine

/-! ### The end of a reset -/

theorem EvidenceOnly.unmasked {s t : State} (h : EvidenceOnly s t) : t.pcie.unmasked = s.pcie.unmasked := by
  have e := congrArg (fun v => v.pcie.unmasked) h; exact e
theorem EvidenceOnly.msixTable {s t : State} (h : EvidenceOnly s t) : t.pcie.msixTable = s.pcie.msixTable := by
  have e := congrArg (fun v => v.pcie.msixTable) h; exact e
theorem EvidenceOnly.translations {s t : State} (h : EvidenceOnly s t) : t.pcie.trans = s.pcie.trans := by
  have e := congrArg (fun v => v.pcie.trans) h; exact e

/-- A Stall at the completion of its reset, with some abandonment receipts lost (03 R142, R162). -/
def settledStall (lost : Nat) (x : Stall) : Stall :=
  { x with
    state := .bound, resetDone := true, abandoned := x.newAbandoned, reports := x.newReports, newAbandoned := 0,
    newReports := [], lostRcpts := satAdd 16 x.lostRcpts lost, resets := satAdd 16 x.resets 1, orders := 0,
    bytesIn := 0, bytesOut := 0, engineTime := 0, waitTime := 0, quotaWait := false, held := none,
    deficits := [0, 0, 0, 0], nextRing := 0 }

/-- A Stall after its reset: Free when the reset frees it (03 R136, R142). -/
def stallAfterReset (lost : Nat) (x : Stall) : Stall :=
  if x.freeAfter then freedStall (settledStall lost x) else settledStall lost x

/-- What a reset leaves of a Stall, freed or not (03 R142, R162). -/
theorem stallAfterReset_leaves (lost : Nat) (x : Stall) :
    let y := stallAfterReset lost x
    y.state = (if x.freeAfter then .free else .bound) ∧ y.gen = x.gen ∧ y.resetDone = true ∧ y.abandoned = x.newAbandoned ∧
      y.reports = x.newReports ∧ y.resets = satAdd 16 x.resets 1 ∧ y.orders = 0 ∧ y.bytesIn = 0 ∧ y.bytesOut = 0 := by
  unfold stallAfterReset
  cases x.freeAfter <;> exact ⟨rfl, rfl, rfl, rfl, rfl, rfl, rfl, rfl, rfl⟩

/-- A state without the orders of a list (03 R160). -/
def ordersDropped (l : List Order) (s : State) : State := l.foldl (fun s o => dropOrder s o.id) s

/-- A state in which the ring positions of a Stall are at reset (03 R142). -/
def ringsAtReset (st : Nat) (s : State) : State := (List.range 4).foldl (fun s q => setRing s st q Ring.reset) s

/-- A state in which a Stall has no translation and no cache entry counts for it (03 R142, R162). -/
def placesForgotten (st : Nat) (s : State) : State :=
  { s with
    pcie := { s.pcie with trans := s.pcie.trans.filter (fun y => y.stall != st) }
    munim := { s.munim with cache := s.munim.cache.map (fun e => if e.stall = st then { e with stall := 4096 } else e) } }

theorem placesForgotten_stalls (st : Nat) (s : State) : (placesForgotten st s).stalls = s.stalls := rfl

/-- The completion of a reset before its record (03 R142, R162). -/
def resetSettled (st : Nat) (s : State) : State :=
  placesForgotten st (modStall (ringsAtReset st (ordersDropped (owedReceipts s st) s)) st (settledStall (owedReceipts s st).length))

theorem settleStall_eq (st : Nat) (s : State) :
    let w := resetSettled st s
    let x := stall w st
    let v := record 0x0501 sevInfo (st + x.lastCause * 4096) x.gen.toNat x.abandoned w
    settleStall st s = if x.freeAfter then modStall v st freedStall else v := by
  unfold settleStall
  rfl

theorem ordersDropped_keeps {β : Type} (g : State → β) (hg : ∀ s id, g (dropOrder s id) = g s) (l : List Order) (s : State) :
    g (ordersDropped l s) = g s := by
  refine foldl_keeps g _ ?_ l s
  exact fun s o => hg s o.id

theorem ordersDropped_orders (l : List Order) (s : State) :
    (ordersDropped l s).orders = s.orders.filter (fun x => l.all (fun o => x.id != o.id)) := by
  induction l generalizing s with
  | nil => exact (List.filter_eq_self.mpr fun _ _ => rfl).symm
  | cons o l ih =>
    refine (ih (dropOrder s o.id)).trans (List.filter_filter.trans ?_)
    exact List.filter_congr fun x _ => by rw [List.all_cons, Bool.and_comm]

theorem ringsAtReset_keeps {β : Type} (g : State → β) {st : Nat} (hg : ∀ s q, g (setRing s st q Ring.reset) = g s) (s : State) :
    g (ringsAtReset st s) = g s := foldl_keeps g _ hg _ s

theorem ringsAtReset_ring (st : Nat) (s : State) {q : Nat} (h : q < 4) : ring (ringsAtReset st s) st q = Ring.reset := by
  rw [ringsAtReset, ring_foldl_range (f := fun _ => Ring.reset) (fun _ _ => ring_setRing_same _ _ _ _)
    (fun _ _ _ hq => ring_setRing_other _ _ _ _ _ _ (rix_ne_of_ne hq st)), if_pos h]

section
variable {β : Type} (g : State → β) (st : Nat) (s : State)

/-- What the removal of orders, the reset of ring positions and the change of one Stall keep, the completion of a reset keeps, its
translations and cache entries aside. -/
theorem resetSettled_keeps (hdrop : ∀ s id, g (dropOrder s id) = g s) (hring : ∀ s q, g (setRing s st q Ring.reset) = g s)
    (hstall : ∀ s f, g (modStall s st f) = g s) (hplaces : ∀ s, g (placesForgotten st s) = g s) : g (resetSettled st s) = g s := by
  rw [resetSettled, hplaces, hstall, ringsAtReset_keeps g hring, ordersDropped_keeps g hdrop]

/-- What the evidence and the change of one Stall keep is as it was before the record of the reset. -/
theorem settleStall_keeps (hev : ∀ s v, EvidenceOnly s v → g v = g s) (hstall : ∀ s f, g (modStall s st f) = g s) :
    g (settleStall st s) = g (resetSettled st s) := by
  rw [settleStall_eq]
  split
  · exact (hstall _ _).trans (hev _ _ (record_frame _ _ _ _ _ _))
  · exact hev _ _ (record_frame _ _ _ _ _ _)

end

section
variable (st : Nat) (s : State)

theorem resetSettled_stall_same :
    stall (resetSettled st s) st = settledStall (owedReceipts s st).length (stall s st) := by
  have hs : (ringsAtReset st (ordersDropped (owedReceipts s st) s)).stalls = s.stalls :=
    (ringsAtReset_keeps State.stalls (fun _ _ => rfl) _).trans (ordersDropped_keeps State.stalls (fun _ _ => rfl) _ s)
  rw [resetSettled, stall_congr (placesForgotten_stalls st _), stall_modStall_same, stall_congr hs]

/-- The Stall is Bound again, or Free, with the counts of its reset (03 R136, R142, R162). -/
theorem settleStall_stall_same :
    stall (settleStall st s) st = stallAfterReset (owedReceipts s st).length (stall s st) := by
  have hw := resetSettled_stall_same st s
  have hv (sev p0 p1 p2 : Nat) : stall (record 0x0501 sev p0 p1 p2 (resetSettled st s)) st =
      settledStall (owedReceipts s st).length (stall s st) := by
    rw [stall_congr (record_frame _ _ _ _ _ _).stalls, hw]
  have hf : (stall (resetSettled st s) st).freeAfter = (stall s st).freeAfter := by rw [hw]; rfl
  rw [settleStall_eq, hf, stallAfterReset]
  split
  · rw [stall_modStall_same, hv]
  · rw [hv]

theorem settleStall_stall_other {n : Nat} (h : n ≠ st) : stall (settleStall st s) n = stall s n := by
  have hm : ∀ s f, stall (modStall s st f) n = stall s n := stall_modStall_other h
  exact (settleStall_keeps (fun v => stall v n) st s (fun _ _ he => stall_congr he.stalls n) hm).trans
    (resetSettled_keeps (fun v => stall v n) st s (fun _ _ => rfl) (fun _ _ => rfl) hm (fun _ => rfl))

/-- The ring positions of the Stall are at reset (03 R142). -/
theorem settleStall_ring {q : Nat} (h : q < 4) : ring (settleStall st s) st q = Ring.reset :=
  (settleStall_keeps (fun v => ring v st q) st s (fun _ _ he => ring_congr he.rings st q) (fun _ _ => rfl)).trans
    (ringsAtReset_ring st _ h)

/-- The translations of the Stall are gone (03 R142). -/
theorem settleStall_trans {y : Trans} (h : y ∈ (settleStall st s).pcie.trans) : y.stall ≠ st := by
  have hk : (settleStall st s).pcie.trans = (resetSettled st s).pcie.trans :=
    settleStall_keeps (fun v => v.pcie.trans) st s (fun _ _ he => he.translations) (fun _ _ => rfl)
  rw [hk] at h
  exact bne_iff_ne.mp (List.mem_filter.mp h).2

/-- The orders whose abandonment receipt was due are gone (03 R160). -/
theorem settleStall_orders {o : Order} (h : o ∈ (settleStall st s).orders) : ¬ (o.stall = st ∧ o.abandoned.isSome = true) := by
  have hk : (settleStall st s).orders = (ordersDropped (owedReceipts s st) s).orders :=
    (settleStall_keeps State.orders st s (fun _ _ he => he.orders) (fun _ _ => rfl)).trans
      (ringsAtReset_keeps (st := st) State.orders (fun _ _ => rfl) (ordersDropped (owedReceipts s st) s))
  rw [hk, ordersDropped_orders, List.mem_filter] at h
  obtain ⟨hm, hn⟩ := h
  rintro ⟨hst, ha⟩
  have ho : o ∈ owedReceipts s st := List.mem_filter.mpr ⟨List.mem_filter.mpr ⟨hm, beq_iff_eq.mpr hst⟩, ha⟩
  simpa using List.all_eq_true.mp hn o ho

end

/-- The receipts that a reset answers change no Stall (03 R133, R162). -/
theorem answerReset_stalls (st : Nat) (x : Stall) (s : State) : (answerReset st x s).stalls = s.stalls := by
  refine foldl_keeps State.stalls _ ?_ _ s
  intro s id
  split
  · rfl
  · rfl

/-- A reset for which no order waits is answered by no receipt. -/
theorem answerReset_nobody {x : Stall} (h : x.resetOrder = []) (st : Nat) (s : State) : answerReset st x s = s := by
  rw [answerReset, h]
  rfl

/-- What a reset waits for before it completes (03 R161, R162; 10 R461). -/
def ResetDue (s : State) (st : Nat) (twin : Bool) : Prop :=
  (stall s st).state = .resetting ∧ canWriteOwed s st = false ∧ (∀ y ∈ s.egress, y.stall ≠ st) ∧ (mirrored s = true → twin = true)

/-- The test of the model finds the reset complete exactly when nothing is left to wait for. -/
theorem resetTest_iff (s : State) (st : Nat) (twin : Bool) :
    ((stall s st).state != .resetting || canWriteOwed s st || s.egress.any (fun y => y.stall == st) || (mirrored s && !twin)) = true ↔
      ¬ ResetDue s st twin := by
  rw [ResetDue]
  cases twin <;> simp [imp_iff_not_or, or_assoc]

section
variable {s : State} (hs : Serving s) {st : Nat} {twin : Bool} (t : Nat)
include hs

theorem stallResetComplete_due (h : ResetDue s st twin) : exec (.stallResetComplete st twin t) s =
    .next (gate s (answerReset st (stall s st) (settleStall st (tick t s)))) := by
  refine coreAct_next hs (by rfl) ?_
  exact if_neg (mt (resetTest_iff (tick t s) st twin).mp (not_not.mpr h))

theorem stallResetComplete_early (h : ¬ ResetDue s st twin) : exec (.stallResetComplete st twin t) s = .next (tick t s) := by
  refine coreAct_next_quiet hs (by rfl) ?_ rfl rfl
  exact if_pos ((resetTest_iff (tick t s) st twin).mpr h)

end

/-! ### The reset of the function -/

/-- A second request changes orders, egress queue, the Muniment and one Stall, whose TDI it keeps (03 R163). -/
theorem mergeReset_keeps {β : Type} (g : State → β) {st : Nat} (hdrop : ∀ s id, g (dropOrder (dropTlps id s) id) = g s)
    (hstall : ∀ f s, (∀ x, (f x).tdi = x.tdi) → g (modStall s st f) = g s) (hard : Bool) (cause : Nat) (s : State) :
    g (mergeReset st hard cause s) = g s := by
  unfold mergeReset
  split
  · refine (hstall _ _ ?_).trans ?_
    · exact fun _ => rfl
    · refine foldl_keeps g _ ?_ _ s
      exact fun s o => hdrop s o.id
  · rfl

/-- A second request during a reset changes no other Stall (03 R163). -/
theorem mergeReset_stall_other {st n : Nat} (h : n ≠ st) (hard : Bool) (cause : Nat) (s : State) :
    stall (mergeReset st hard cause s) n = stall s n :=
  mergeReset_keeps (fun v => stall v n) (fun _ _ => rfl) (fun f s _ => stall_modStall_other h s f) hard cause s

/-- A state in which the reset of the function has met a Stall: it is Resetting, to be freed unless it is Stall 0 (14 R597). -/
def functionCaught (st : Nat) (s : State) : State :=
  modStall (match (stall s st).state with
    | .resetting => mergeReset st true causeFunction s
    | _ => beginReset st true causeFunction s) st (fun x => { x with freeAfter := st != 0, lastCause := causeFunction })

/-- The reset of one Stall by that of the function, which completes at once (14 R597). -/
def functionStep (s : State) (st : Nat) : State :=
  let v := functionCaught st s
  answerReset st (stall v st) (settleStall st { v with egress := v.egress.filter (fun y => y.stall != st) })

/-- The Stall is Free, or Bound when it is Stall 0 (14 R597). -/
theorem functionStep_same (s : State) (st : Nat) :
    (stall (functionStep s st) st).state = if st = 0 then .bound else .free := by
  rw [functionStep, stall_congr (answerReset_stalls _ _ _), settleStall_stall_same]
  have hf : (stall (functionCaught st s) st).freeAfter = (st != 0) := by rw [functionCaught, stall_modStall_same]
  change (stallAfterReset _ (stall (functionCaught st s) st)).state = _
  rw [stallAfterReset, hf]
  by_cases h : st = 0
  · subst h
    rfl
  · rw [if_neg h, if_pos (bne_iff_ne.mpr h)]
    rfl

theorem functionStep_other {s : State} {st n : Nat} (h : n ≠ st) : stall (functionStep s st) n = stall s n := by
  rw [functionStep, stall_congr (answerReset_stalls _ _ _), settleStall_stall_other _ _ h]
  change stall (functionCaught st s) n = _
  rw [functionCaught, stall_modStall_other h]
  split
  · exact mergeReset_stall_other h _ _ _
  · exact beginReset_stall_other _ _ _ _ h

/-- After the Stalls of a list have met the reset of the function, each of them is Free, or Bound when it is Stall 0. -/
theorem functionSteps_state (l : List Nat) (s : State) {n : Nat}
    (h : n ∈ l ∨ (stall s n).state = if n = 0 then .bound else .free) :
    (stall (l.foldl functionStep s) n).state = if n = 0 then .bound else .free := by
  induction l generalizing s with
  | nil => exact h.resolve_left List.not_mem_nil
  | cons m l ih =>
    refine ih (functionStep s m) ?_
    by_cases hm : n = m
    · subst hm
      exact .inr (functionStep_same s n)
    · rw [functionStep_other hm]
      exact h.imp_left fun hl => (List.mem_cons.mp hl).resolve_left hm

theorem tellReset_frame (st cause : Nat) (s : State) : EvidenceOnly s (tellReset st cause s) := by
  unfold tellReset
  split
  · exact sendFrame_frame _ _ _
  · rfl

/-- What the evidence and a new transaction keep, the news of unbound Stalls keep (10 R461). -/
theorem tellUnbinds_keeps {β : Type} (g : State → β) (hev : ∀ s v, EvidenceOnly s v → g v = g s)
    (hown : ∀ s n p, g { s with nextId := n, pair := p } = g s) (l : List Item) (s : State) : g (tellUnbinds l s) = g s := by
  unfold tellUnbinds
  split
  · exact (hev _ _ (sendFrame_frame _ _ _)).trans (hown _ _ _)
  · rfl

/-- A state in which the reset of the function has met its Stalls and emptied the registers of its messages and translations
(14 R597). -/
def functionEmptied (s : State) : State :=
  let v := ((boundStalls s).map (fun p => p.1)).foldl functionStep s
  { v with pcie := { v.pcie with unmasked := [], pba := [], trans := [], heldMsgs := [], msixTable := [] } }

/-- The news of the reset of the function, for the twin and for the host (10 R461; 15 R639). -/
def functionTold (l : List Item) (s : State) : State := event 16 (tellUnbinds l (tellReset 0 causeFunction s))

theorem functionTold_keeps {β : Type} (g : State → β) (hev : ∀ s v, EvidenceOnly s v → g v = g s)
    (hown : ∀ s n p, g { s with nextId := n, pair := p } = g s) (l : List Item) (s : State) : g (functionTold l s) = g s :=
  (hev _ _ (event_frame _ _)).trans ((tellUnbinds_keeps g hev hown l _).trans (hev _ _ (tellReset_frame _ _ _)))

theorem functionReset_next {s : State} (hs : Serving s) (c : FnReset) (t : Nat) :
    ∃ l, exec (.functionReset c t) s = .next (gate s (functionTold l (functionEmptied (tick t s)))) :=
  ⟨_, coreAct_next hs (by rfl) rfl⟩

/-- Settles O35: the end of a reset, what is no reset, and the reset of the function. -/
theorem stallEndRows : Obligations.StallEndRows := by
  unfold Obligations.StallEndRows
  intro s st t hs
  refine ⟨fun twin hx hw he hm hro => ?complete, fun twin hx => stallResetComplete_early hs t fun h => hx h.1, fun c => ?function⟩
  case complete =>
    refine ⟨_, stallResetComplete_due hs t ⟨hx, hw, he, hm⟩, ?_⟩
    rw [answerReset_nobody hro]
    have hv : stall (settleStall st (tick t s)) st = stallAfterReset (owedReceipts s st).length (stall s st) :=
      settleStall_stall_same st (tick t s)
    have hr := stallAfterReset_leaves (owedReceipts s st).length (stall s st)
    rw [← hv] at hr
    obtain ⟨h1, h2, h3, h4, h5, h6, h7, h8, h9⟩ := hr
    exact ⟨h1, h2, h3, h4, h5, h6, h7, h8, h9, fun n hn => settleStall_stall_other st (tick t s) hn,
      fun q hq => settleStall_ring st (tick t s) hq, fun y hy => settleStall_trans st (tick t s) hy,
      fun o ho => settleStall_orders st (tick t s) ho⟩
  case function =>
    obtain ⟨l, hx⟩ := functionReset_next hs c t
    refine ⟨_, hx, ?_, ?_, ?_, fun p hp hf => ?_⟩
    · exact functionTold_keeps (fun v => v.pcie.unmasked) (fun _ _ h => h.unmasked) (fun _ _ _ => rfl) l _
    · exact functionTold_keeps (fun v => v.pcie.trans) (fun _ _ h => h.translations) (fun _ _ _ => rfl) l _
    · exact functionTold_keeps (fun v => v.pcie.msixTable) (fun _ _ h => h.msixTable) (fun _ _ _ => rfl) l _
    · rw [stall_gate, stall_congr (functionTold_keeps State.stalls (fun _ _ h => h.stalls) (fun _ _ _ => rfl) l _)]
      have hb : p ∈ boundStalls s := List.mem_filter.mpr ⟨hp, bne_iff_ne.mpr hf⟩
      exact functionSteps_state _ (tick t s) (.inl (List.mem_map_of_mem hb))

end Machine
end Sys2Proof
end
section
/-!
PROOFS. TDISP, in its own rows and inside a vendor-defined request, and the IDE streams that locked interfaces rest on (03 R143 to
R146; 13 R590; 15 R631).
-/
namespace Sys2Proof
namespace Machine

/-! ### Resets by the TDI state -/

/-- What the beginning of a reset, a second request and the evidence keep, a reset request keeps (03 R155, R163; 10 R461). -/
theorem requestReset_keeps {β : Type} (g : State → β) {st cause : Nat} {hard : Bool} (hbegin : ∀ s, g (beginReset st hard cause s) = g s)
    (hmerge : ∀ s, g (mergeReset st hard cause s) = g s) (hev : ∀ s v, EvidenceOnly s v → g v = g s) (s : State) :
    g (requestReset st hard cause s) = g s := by
  unfold requestReset
  split
  · exact (hev _ _ (tellReset_frame _ _ _)).trans (hbegin s)
  · split
    · exact (hev _ _ (tellReset_frame _ _ _)).trans (hmerge s)
    · exact hmerge s
  · rfl

theorem beginReset_tdi (st : Nat) (hard : Bool) (cause : Nat) (s : State) (n : Nat) :
    (stall (beginReset st hard cause s) n).tdi = (stall s n).tdi := by
  by_cases h : n = st
  · subst h
    exact (congrArg Stall.tdi (beginReset_stall_same n hard cause s) :)
  · rw [beginReset_stall_other _ _ _ _ h]

/-- A reset request alone changes no TDI state (03 R145). -/
theorem requestReset_tdi (st : Nat) (hard : Bool) (cause : Nat) (s : State) (n : Nat) :
    (stall (requestReset st hard cause s) n).tdi = (stall s n).tdi :=
  requestReset_keeps (fun v => (stall v n).tdi) (fun s => beginReset_tdi st hard cause s n)
    (mergeReset_keeps (fun v => (stall v n).tdi) (fun _ _ => rfl)
      (fun _ s hf => stall_modStall_keeps Stall.tdi hf s st n) hard cause)
    (fun _ _ h => congrArg Stall.tdi (stall_congr h.stalls n)) s

theorem requestReset_spdm (st : Nat) (hard : Bool) (cause : Nat) (s : State) : (requestReset st hard cause s).spdm = s.spdm :=
  requestReset_keeps State.spdm
    (fun s => resetParts_field State.spdm (fun _ => rfl) (beginReset_parts st hard cause s s))
    (mergeReset_keeps State.spdm (fun _ _ => rfl) (fun _ _ _ => rfl) hard cause) (fun _ _ h => h.spdm) s

/-- A Stall whose TDI goes into ERROR, with its hard reset (03 R145, R146). -/
def erredReset (s : State) (p : Nat × Stall) : State := requestReset p.1 true causeTdi (tdiToError p.1 s)

theorem erredReset_tdi (s : State) (p : Nat × Stall) (n : Nat) :
    (stall (erredReset s p) n).tdi = if p.1 = n then tdiErred (stall s n).tdi else (stall s n).tdi := by
  rw [erredReset, requestReset_tdi]
  split
  · next h => rw [h, tdiToError_stall_same]
  · next h => rw [tdiToError_stall_other (Ne.symm h)]

theorem tdiErred_tdiErred (d : Tdi) : tdiErred (tdiErred d) = tdiErred d := by cases d <;> rfl

/-- Of the Stalls of a list, the locked and running TDIs go into ERROR, and no other TDI changes state (03 R145). -/
theorem erredResets_tdi (l : List (Nat × Stall)) (s : State) (n : Nat) :
    (stall (l.foldl erredReset s) n).tdi = if ∃ p ∈ l, p.1 = n then tdiErred (stall s n).tdi else (stall s n).tdi := by
  induction l generalizing s with
  | nil => simp
  | cons p l ih =>
    rw [List.foldl_cons, ih, erredReset_tdi]
    by_cases h : p.1 = n
    · rw [if_pos h, tdiErred_tdiErred, ite_self, if_pos ⟨p, List.mem_cons_self, h⟩]
    · rw [if_neg h]
      exact if_congr (by simp [h]) rfl rfl

/-! ### TDISP -/

@[simp] theorem stall_emit (o : Out) (s : State) (n : Nat) : stall (emit o s) n = stall s n := rfl

/-- An answer over DOE with a state that has put nothing out passes the egress gate outside Silence (15 R631). -/
theorem gate_doe {s v : State} (hl : s.faults.silent = false) (ho : v.out = s.out) (hp : v.pending = s.pending) (b : Bytes) :
    gate s (emit (.doe b) v) = emit (.doe b) v :=
  gate_appends s _ [.doe b] hl (congrArg (· ++ _) ho) hp

/-- An answer to a TDISP request leaves over DOE, outside Silence (15 R631). -/
theorem tdispRun_tells {c : Instr} {g : State → Bytes × State} {s v : State} {b : Bytes} (hs : Open s)
    (hc : exec c s = tdispRun g s) (hg : g s = (b, v)) (ho : v.out = s.out) (hp : v.pending = s.pending) :
    exec c s = .next (emit (.doe b) v) := by
  rw [hc, tdispRun, coreAct_running _ s hs.1, hg]
  exact congrArg _ (gate_doe hs.2 ho hp b)

/-- The rows of TDISP (03 R143). -/
def tdispRows (q : TdispReq) (t : Nat) : List Instr :=
  [.tdispGetVersion q, .tdispGetCapabilities q, .lockInterfaceRequest q t, .getDeviceInterfaceReport q,
    .getDeviceInterfaceState q, .startInterfaceRequest q t, .stopInterfaceRequest q t]

/-- Every row of TDISP answers after the checks that all share. -/
theorem tdispRows_answer {q : TdispReq} {t : Nat} {c : Instr} (h : c ∈ tdispRows q t) :
    ∃ f, ∀ s, exec c s = tdispRun (tdispAnswer q f) s := by
  simp only [tdispRows, List.mem_cons, List.not_mem_nil, or_false] at h
  rcases h with rfl | rfl | rfl | rfl | rfl | rfl | rfl <;> exact ⟨_, fun _ => rfl⟩

/-- An interface of a request is a TDI of this function (03 R143). -/
def NamesTdi (s : State) (q : TdispReq) : Prop := q.func = s.pcie.rid ∧ q.stall < 4096 ∧ (stall s q.stall).tdi ≠ .none

/-- The test of the model refuses exactly the interfaces that are no TDI. -/
theorem interfaceTest_iff (s : State) (q : TdispReq) :
    (q.func ≠ s.pcie.rid ∨ 4096 ≤ q.stall ∨ (stall s q.stall).tdi = .none) ↔ ¬ NamesTdi s q := by
  simp [NamesTdi, imp_iff_not_or]

section
variable {s : State} {q : TdispReq} {f : State → Bytes × State}

theorem tdispAnswer_unsecured (h : secured s q.session = false) : tdispAnswer q f s = (spdmError eSessionRequired s, s) := by
  simp [tdispAnswer, h]

variable (h : secured s q.session = true)
include h

theorem tdispAnswer_version (hv : q.version ≠ 0x10) : tdispAnswer q f s = (vendorRsp s (tdispError tVersion q), s) := by
  simp [tdispAnswer, h, hv]

variable (hv : q.version = 0x10)
include hv

theorem tdispAnswer_interface (hi : ¬ NamesTdi s q) : tdispAnswer q f s = (vendorRsp s (tdispError tInterface q), s) := by
  rw [tdispAnswer, h, if_neg (by decide), if_neg (not_not.mpr hv), if_pos ((interfaceTest_iff s q).mpr hi)]

/-- A request that passes the shared checks is answered by its row, in the session's version. -/
theorem tdispAnswer_passes (hi : NamesTdi s q) {b : Bytes} {v : State} (hf : f s = (b, v)) (hx : v.spdm = s.spdm) :
    tdispAnswer q f s = (vendorRsp s b, v) := by
  have hr : vendorRsp v b = vendorRsp s b := by rw [vendorRsp, vendorRsp, spdmVer, spdmVer, hx]
  rw [tdispAnswer, h, if_neg (by decide), if_neg (not_not.mpr hv), if_neg (mt (interfaceTest_iff s q).mp (not_not.mpr hi)), hf, ← hr]

end

section
variable {s : State} (hs : Open s) {q : TdispReq} (h : secured s q.session = true) (hv : q.version = 0x10) (hi : NamesTdi s q)
include hs h hv hi

/-- A row that a TDI may answer tells what it finds, and leaves the state it makes (03 R143). -/
theorem tdi_tells {c : Instr} {f : State → Bytes × State} {b : Bytes} {v : State} (hc : exec c s = tdispRun (tdispAnswer q f) s)
    (hf : f s = (b, v)) (hx : v.spdm = s.spdm) (ho : v.out = s.out) (hp : v.pending = s.pending) :
    exec c s = .next (emit (.doe (vendorRsp s b)) v) :=
  tdispRun_tells hs hc (tdispAnswer_passes h hv hi hf hx) ho hp

/-- A row that changes nothing tells what it finds. -/
theorem tdi_says {c : Instr} {f : State → Bytes × State} {b : Bytes} (hc : exec c s = tdispRun (tdispAnswer q f) s)
    (hf : f s = (b, s)) : exec c s = .next (emit (.doe (vendorRsp s b)) s) :=
  tdi_tells hs h hv hi hc hf rfl rfl rfl

/-- The report is given of a locked or running TDI alone (03 R144). -/
theorem getDeviceInterfaceReport_tells : exec (.getDeviceInterfaceReport q) s = .next (emit (.doe (vendorRsp s
    (if (stall s q.stall).tdi = .locked ∨ (stall s q.stall).tdi = .run then
      tdispHead 0x04 q ++ leBytes 2 (tdiReport q.stall).length ++ leBytes 2 0 ++ tdiReport q.stall
     else tdispError tState q))) s) := by
  by_cases hl : (stall s q.stall).tdi = .locked ∨ (stall s q.stall).tdi = .run
  · rw [if_pos hl]
    refine tdi_says hs h hv hi (by rfl) ?_
    exact if_pos hl
  · rw [if_neg hl]
    refine tdi_says hs h hv hi (by rfl) ?_
    exact if_neg hl

theorem lockInterfaceRequest_state (t : Nat) (hu : (stall s q.stall).tdi ≠ .unlocked) :
    exec (.lockInterfaceRequest q t) s = .next (emit (.doe (vendorRsp s (tdispError tState q))) s) := by
  refine tdi_says hs h hv hi (by rfl) ?_
  exact if_pos hu

theorem lockInterfaceRequest_config (t : Nat) (hu : (stall s q.stall).tdi = .unlocked)
    (hq : 8 ≤ q.stream ∨ q.stream ∉ s.spdm.ideSecure) :
    exec (.lockInterfaceRequest q t) s = .next (emit (.doe (vendorRsp s (tdispError tConfig q))) s) := by
  refine tdi_says hs h hv hi (by rfl) ?_
  exact (if_neg (not_not.mpr hu)).trans (if_pos (by simpa using hq))

theorem startInterfaceRequest_state (t : Nat) (hl : (stall s q.stall).tdi ≠ .locked) :
    exec (.startInterfaceRequest q t) s = .next (emit (.doe (vendorRsp s (tdispError tState q))) s) := by
  refine tdi_says hs h hv hi (by rfl) ?_
  exact if_pos hl

/-- START with the nonce of the lock runs the TDI, with another it is refused (03 R145). -/
theorem startInterfaceRequest_locked (t : Nat) (hl : (stall s q.stall).tdi = .locked) {n : Nat}
    (hn : (stall s q.stall).tdiNonce = some n) :
    exec (.startInterfaceRequest q t) s = .next (if q.nonce = take 32 (fun i => Config.drbg (n + i))
      then emit (.doe (vendorRsp s (tdispHead 0x06 q)))
        (modStall (tick t s) q.stall (fun y => { y with tdi := .run, tdiNonce := none }))
      else emit (.doe (vendorRsp s (tdispError tNonce q))) s) := by
  by_cases he : q.nonce = take 32 (fun i => Config.drbg (n + i))
  · rw [if_pos he]
    refine tdi_tells hs h hv hi (by rfl) ?_ rfl rfl rfl
    refine (if_neg (not_not.mpr hl)).trans ?_
    rw [hn]
    exact if_neg (not_not.mpr he)
  · rw [if_neg he]
    refine tdi_says hs h hv hi (by rfl) ?_
    refine (if_neg (not_not.mpr hl)).trans ?_
    rw [hn]
    exact if_pos he

theorem stopInterfaceRequest_tells (t : Nat) : exec (.stopInterfaceRequest q t) s =
    .next (emit (.doe (vendorRsp s (tdispHead 0x07 q)))
      (modStall (tick t s) q.stall (fun y => { y with tdi := .unlocked, stream := none, tdiNonce := none }))) :=
  tdi_tells hs h hv hi (by rfl) rfl rfl rfl rfl

end

/-- A Stall whose TDI is locked, with its stream and the place of its nonce (03 R145). -/
def lockedStall (stream nonce : Nat) (x : Stall) : Stall := { x with tdi := .locked, stream := some stream, tdiNonce := some nonce }

/-- The state in which LOCK has taken a nonce from the DRBG and locked the TDI (03 R145). -/
def tdiLocked (q : TdispReq) (s : State) : State := modStall (draw 32 s).2 q.stall (lockedStall q.stream s.drbg.next)

theorem tdiLocked_stall_same (q : TdispReq) (s : State) :
    stall (tdiLocked q s) q.stall = lockedStall q.stream s.drbg.next (stall s q.stall) :=
  stall_modStall_same (draw 32 s).2 q.stall _

/-- LOCK of an unlocked TDI on a secure stream locks it and resets its Stall, on a part without a twin (03 R145). -/
theorem lockInterfaceRequest_locks {s : State} (hs : Open s) {q : TdispReq} (h : secured s q.session = true) (hv : q.version = 0x10)
    (hi : NamesTdi s q) (t : Nat) (hu : (stall s q.stall).tdi = .unlocked) (hq : q.stream < 8) (hm : q.stream ∈ s.spdm.ideSecure)
    (hb : (stall s q.stall).state = .bound) (ha : mirrored s = false) :
    exec (.lockInterfaceRequest q t) s = .next (emit (.doe (vendorRsp s (tdispHead 0x03 q ++
      take 32 (fun i => Config.drbg (s.drbg.next + i))))) (beginReset q.stall true causeTdi (tdiLocked q (tick t s)))) := by
  have hx := beginReset_parts q.stall true causeTdi (tdiLocked q (tick t s)) s
  have hl : (stall (tdiLocked q (tick t s)) q.stall).state = .bound := by
    rw [tdiLocked_stall_same]
    exact hb
  refine tdi_tells hs h hv hi (by rfl) ?_ (resetParts_field State.spdm (fun _ => rfl) hx :)
    (resetParts_field State.out (fun _ => rfl) hx :) (resetParts_field State.pending (fun _ => rfl) hx :)
  rw [← requestReset_alone q.stall true causeTdi (tdiLocked q (tick t s)) hl ha]
  exact (if_neg (not_not.mpr hu)).trans (if_neg (by simp [hq, hm]))

/-! ### Vendor-defined requests -/

/-- A response by the path of its request comes after all that was put out (13 R590). -/
theorem spdmSend_appends (q : SpdmReq) (b : Bytes) (s : State) : Appends s (spdmSend q b s) := by
  unfold spdmSend
  split
  · exact ⟨List.prefix_append _ _, rfl⟩
  · exact ⟨List.prefix_append _ _, rfl⟩

/-- The TDISP message that a vendor-defined request carries, by its type (03 R143). -/
def tdispMeaning (type : Byte) (r : TdispReq) (s : State) : Bytes × State :=
  match type.toNat with
  | 0x81 => tdispVersion r s
  | 0x82 => tdispCapabilities r s
  | 0x83 => tdispLock r 0 s
  | 0x84 => tdispReportOf r s
  | 0x85 => tdispStateOf r s
  | 0x86 => tdispStart r 0 s
  | 0x87 => tdispStop r 0 s
  | _ => tdispAnswer r (fun s => (tdispError 0x0007 r, s)) s

section
variable {s : State} (hs : Open s) {q : SpdmReq}
include hs

/-- What a vendor-defined request of another protocol, or over MCTP, is answered with leaves outside Silence. -/
theorem vendorDefined_sends {b : Bytes} {f : State → State} (hc : exec (.vendorDefinedRequest q) s = coreAct f s)
    (hf : f s = spdmSend q b s) : exec (.vendorDefinedRequest q) s = .next (spdmSend q b s) :=
  (coreAct_next hs.1 hc hf).trans (congrArg _ ((spdmSend_appends q b s).gate hs.2))

theorem vendorDefined_other (hd : slice q.data 0 5 ≠ [3, 0, 2, 1, 0]) :
    exec (.vendorDefinedRequest q) s = .next (spdmSend q [spdmVer s, 0x7F, 0x07, 0x7E] s) := by
  refine vendorDefined_sends hs (by rfl) ?_
  exact if_pos (.inl hd)

variable (hd : slice q.data 0 5 = [3, 0, 2, 1, 0]) (h7 : q.data.getD 7 0 = 1)
include hd h7

theorem vendorDefined_mctp (hm : q.mctp = true) :
    exec (.vendorDefinedRequest q) s = .next (spdmSend q (spdmError eSessionRequired s) s) := by
  refine vendorDefined_sends hs (by rfl) ?_
  exact (if_neg (not_or.mpr ⟨not_not.mpr hd, not_not.mpr h7⟩)).trans (if_pos hm)

/-- TDISP over DOE does what the row of its type does (15 R631). -/
theorem vendorDefined_tdisp (hm : q.mctp = false) : exec (.vendorDefinedRequest q) s =
    tdispRun (tdispMeaning ((q.data.drop 8).getD 1 0) (parseTdisp q.session (q.data.drop 8))) s := by
  rw [tdispRun, coreAct_running _ s hs.1]
  refine coreAct_next hs.1 (by rfl) ?_
  refine (if_neg (not_or.mpr ⟨not_not.mpr hd, not_not.mpr h7⟩)).trans ((if_neg (ne_true_of_eq_false hm)).trans ?_)
  rw [spdmSend, hm]
  rfl

end

/-! ### IDE -/

/-- The TDIs of a state that are locked or run on a stream (03 R145). -/
def tdisOn (stream : Nat) (s : State) : List (Nat × Stall) :=
  s.stalls.filter (fun p => p.2.stream = some stream && (p.2.tdi == .locked || p.2.tdi == .run))

/-- A stream that has left its secure state is none of those that are secure, which else stay so (15 R631). -/
theorem streamLost_secure (stream : Nat) (s : State) (k : Nat) :
    k ∈ (streamLost stream s).spdm.ideSecure ↔ k ∈ s.spdm.ideSecure ∧ k ≠ stream := by
  have h : (streamLost stream s).spdm = { s.spdm with ideSecure := s.spdm.ideSecure.filter (fun i => i != stream) } :=
    foldl_keeps State.spdm erredReset (fun s p => requestReset_spdm p.1 true causeTdi (tdiToError p.1 s)) (tdisOn stream s) _
  rw [h, List.mem_filter, bne_iff_ne]

/-- The TDIs on a stream that is lost go into ERROR (03 R145, R146). -/
theorem streamLost_tdi {stream n : Nat} {s : State} (hm : (n, stall s n) ∈ s.stalls) (hs : (stall s n).stream = some stream)
    (ht : (stall s n).tdi = .locked ∨ (stall s n).tdi = .run) : (stall (streamLost stream s) n).tdi = .error := by
  have hon : (n, stall s n) ∈ tdisOn stream s := List.mem_filter.mpr ⟨hm, by simpa [hs] using ht⟩
  refine (erredResets_tdi (tdisOn stream s) _ n).trans ((if_pos ⟨_, hon, rfl⟩).trans ?_)
  exact if_pos ht

theorem ideStreamFailure_next {s : State} (hs : Open s) (stream : Nat) (i : Bool) (t : Nat) :
    exec (.ideStreamFailure stream i t) s = .next (gate s (streamLost stream (tick t s))) :=
  coreAct_next hs.1 (by rfl) rfl

theorem ideKmMessage_unsecured {s : State} (hs : Open s) {k : Option Nat} (h : secured s k = false) (m : IdeKm) :
    exec (.ideKmMessage k m) s = .next (emit (.doe (spdmError eSessionRequired s)) s) := by
  refine (coreAct_next hs.1 (by rfl) ?_).trans (congrArg _ (gate_doe hs.2 rfl rfl _))
  rw [h]
  rfl

/-- What an IDE_KM message does inside a secure session (15 R631). -/
def ideKmAnswer (m : IdeKm) (s : State) : State :=
  match m with
  | .query p => emit (.doe (ideRsp s (1 :: 0 :: BitVec.ofNat 8 p :: Config.ideQuery p))) s
  | .keyProg st ks d sub =>
    emit (.doe (ideRsp s [3, 0, 0, BitVec.ofNat 8 st, if decide (st < 9) then 0 else 3, ideSel ks d sub, 0]))
      (if decide (st < 9) then { s with spdm := { s.spdm with ideKeys := s.spdm.ideKeys.filter (fun i => i != st) ++ [st] } } else s)
  | .goSet st ks d sub => emit (.doe (ideRsp s [6, 0, 0, BitVec.ofNat 8 st, 0, ideSel ks d sub, 0]))
      (if s.spdm.ideKeys.contains st then
        { s with spdm := { s.spdm with ideSecure := s.spdm.ideSecure.filter (fun i => i != st) ++ [st] } } else s)
  | .stop st ks d sub => emit (.doe (ideRsp s [6, 0, 0, BitVec.ofNat 8 st, 0, ideSel ks d sub, 0])) (streamLost st s)

section
variable {s : State} (hs : Open s) {k : Option Nat} (h : secured s k = true)
include hs h

theorem ideKmMessage_secured (m : IdeKm) : exec (.ideKmMessage k m) s = .next (gate s (ideKmAnswer m s)) := by
  refine coreAct_next hs.1 (by rfl) ?_
  rw [h]
  rfl

theorem ideKmMessage_tells {m : IdeKm} {b : Bytes} {v : State} (hf : ideKmAnswer m s = emit (.doe b) v) (ho : v.out = s.out)
    (hp : v.pending = s.pending) : exec (.ideKmMessage k m) s = .next (emit (.doe b) v) := by
  rw [ideKmMessage_secured hs h, hf]
  exact congrArg _ (gate_doe hs.2 ho hp b)

theorem ideKmMessage_query (p : Nat) : exec (.ideKmMessage k (.query p)) s =
    .next (emit (.doe (ideRsp s (1 :: 0 :: BitVec.ofNat 8 p :: Config.ideQuery p))) s) :=
  ideKmMessage_tells hs h rfl rfl rfl

/-- KEY_PROG of a stream that exists gives it keys (15 R631). -/
theorem ideKmMessage_keyProg {st : Nat} (ks d sub : Nat) (hst : st < 9) : exec (.ideKmMessage k (.keyProg st ks d sub)) s =
    .next (emit (.doe (ideRsp s [3, 0, 0, BitVec.ofNat 8 st, 0, ideSel ks d sub, 0]))
      { s with spdm := { s.spdm with ideKeys := s.spdm.ideKeys.filter (fun i => i != st) ++ [st] } }) :=
  ideKmMessage_tells hs h (by rw [ideKmAnswer, decide_eq_true hst]; rfl) rfl rfl

/-- GO makes a stream with keys secure (15 R631). -/
theorem ideKmMessage_goSet (st ks d sub : Nat) : exec (.ideKmMessage k (.goSet st ks d sub)) s =
    .next (emit (.doe (ideRsp s [6, 0, 0, BitVec.ofNat 8 st, 0, ideSel ks d sub, 0]))
      (if st ∈ s.spdm.ideKeys then
        { s with spdm := { s.spdm with ideSecure := s.spdm.ideSecure.filter (fun i => i != st) ++ [st] } } else s)) :=
  ideKmMessage_tells hs h (by simp only [ideKmAnswer, List.contains_iff_mem]) (by split <;> rfl) (by split <;> rfl)

end

/-- Settles O43: TDISP by session, version, interface and TDI state, its vendor-defined form, and the IDE streams. -/
theorem tdispAndIdeRows : Obligations.TdispAndIdeRows := by
  unfold Obligations.TdispAndIdeRows
  intro s t hs tells
  refine ⟨fun q => ⟨fun h c hc => ?unsecured, fun h hv c hc => ?version, fun h hv hi c hc => ?interface, fun h hv hi =>
      ⟨tdi_says hs h hv hi (by rfl) rfl, tdi_says hs h hv hi (by rfl) rfl, getDeviceInterfaceReport_tells hs h hv hi,
        tdi_says hs h hv hi (by rfl) rfl, fun hu hq hm hb ha => ?locks, lockInterfaceRequest_state hs h hv hi t,
        lockInterfaceRequest_config hs h hv hi t, fun hl n hn => ?starts, startInterfaceRequest_state hs h hv hi t,
        stopInterfaceRequest_tells hs h hv hi t⟩⟩,
    fun q c n hm hd h7 hn hc => ?vendor, fun q hd => vendorDefined_other hs hd,
    fun q hm hd h7 => vendorDefined_mctp hs hd h7 hm, fun stream i => ?failure,
    fun k m h => ideKmMessage_unsecured hs h m, fun k h => ⟨ideKmMessage_query hs h,
      fun st ks d sub hst => ideKmMessage_keyProg hs h ks d sub hst, ideKmMessage_goSet hs h, fun st ks d sub => ?stopped⟩⟩
  case unsecured =>
    obtain ⟨f, hf⟩ := tdispRows_answer hc
    exact tdispRun_tells hs (hf s) (tdispAnswer_unsecured h) rfl rfl
  case version =>
    obtain ⟨f, hf⟩ := tdispRows_answer hc
    exact tdispRun_tells hs (hf s) (tdispAnswer_version h hv) rfl rfl
  case interface =>
    obtain ⟨f, hf⟩ := tdispRows_answer hc
    exact tdispRun_tells hs (hf s) (tdispAnswer_interface h hv hi) rfl rfl
  case locks =>
    refine ⟨_, lockInterfaceRequest_locks hs h hv hi t hu hq hm hb ha, ?_⟩
    have hx := beginReset_stall_same q.stall true causeTdi (tdiLocked q (tick t s))
    have hp := beginReset_parts q.stall true causeTdi (tdiLocked q (tick t s)) s
    rw [tdiLocked_stall_same] at hx
    simp only [stall_emit, emit_drbg, emit_out]
    refine ⟨congrArg Stall.tdi hx, congrArg Stall.state hx, congrArg Stall.gen hx, congrArg Stall.hardReset hx,
      congrArg Stall.stream hx, congrArg Stall.tdiNonce hx, (resetParts_field (fun v => v.drbg.next) (fun _ => rfl) hp :),
      fun n hn => ?_, congrArg (· ++ _) (resetParts_field State.out (fun _ => rfl) hp :)⟩
    exact (beginReset_stall_other _ _ _ _ hn).trans (stall_modStall_other hn _ _)
  case starts =>
    have hx := startInterfaceRequest_locked hs h hv hi t hl hn
    split
    · next he => exact hx.trans (by rw [if_pos he])
    · next he => exact hx.trans (by rw [if_neg he])
  case vendor =>
    refine (vendorDefined_tdisp hs hd h7 hm).trans ?_
    rw [hn]
    simp only [List.mem_cons, Prod.mk.injEq, List.not_mem_nil, or_false] at hc
    rcases hc with ⟨rfl, rfl⟩ | ⟨rfl, rfl⟩ | ⟨rfl, rfl⟩ | ⟨rfl, rfl⟩ | ⟨rfl, rfl⟩ | ⟨rfl, rfl⟩ | ⟨rfl, rfl⟩ <;> rfl
  case failure =>
    refine ⟨_, ideStreamFailure_next hs stream i t, ?_⟩
    have hk := streamLost_secure stream (tick t s)
    exact ⟨fun hm => ((hk stream).mp hm).2 rfl, fun k hn => (hk k).trans (and_iff_left hn),
      fun n hm hst ht => streamLost_tdi (s := tick t s) hm hst ht⟩
  case stopped =>
    exact ⟨_, ideKmMessage_secured hs h _, fun hm => ((streamLost_secure st s st).mp hm).2 rfl⟩

end Machine
end Sys2Proof
end
section
/-!
PROOFS. The rows of the firmware orders as plans, the Quorum Gate around them, and the orders that bind, unbind and reset a Stall
(03 R133 to R137, R681; 04 R225 to R230; 09 R431).
-/
namespace Sys2Proof
namespace Machine

/-! ### Firmware rows -/

/-- The row of a ready firmware order ends its decision with the plan of its handler (09 R431). -/
theorem fwRow_plans {c : Instr} {f : Handler} {s v : State} {id op : Nat} {o : Order} {e : FwEnv} {p : Plan}
    (hc : exec c s = runFw op f id e s) (h : FwReady s id op o e) (hf : f o e (tick e.t s) = (.done p, v)) : Plans c s id o p v := by
  obtain ⟨hs, ho, hop, hst, hk, hl, hfo⟩ := h
  have hx : (decide (o.opcode ≠ op) || o.stage != .ready || s.keeper.restarting || o.fwLost) = false := by simp [hop, hst, hk, hl]
  refine coreAct_next hs hc ?_
  dsimp only
  rw [order?_tick, ho]
  exact (if_neg (ne_true_of_eq_false hx)).trans ((if_neg (ne_true_of_eq_false hfo)).trans (congrArg _ hf))

/-! ### Verdicts and the Quorum Gate -/

/-- An order whose proposal has not been executed goes on (04 R226). -/
theorem appliedFirst_fresh {q : Bool} {o : Order} {owner : Nat} {u : State} (h : Fresh q u o owner) (k : FwOut × State) :
    appliedFirst q o owner u k = k := by
  have hn : (if q then ifApplied u o (gateFor u o owner) else none) = none := by
    split
    · next hq => exact h hq
    · rfl
  rw [appliedFirst, hn]

/-- A passed decision runs the rest of the handler, and its result is kept for a re-issue (04 R226, R229). -/
theorem withQuorum_approved {o : Order} {e : FwEnv} {g : GateArgs} {u v w : State} {a : Approval} {k : Approval → State → FwOut × State}
    {p : Plan} (h : Approved u o e g a v) (hk : k a v = (.done p, w)) (hs : p.status / 256 = 0) (hi : p.items.isEmpty = false) :
    withQuorum o e g u k = (.done { p with items := p.items ++ [.keep a.owner a.seq p.word] }, w) := by
  obtain ⟨ha, hc, masks, hd, rfl, rfl⟩ := h
  rw [withQuorum, ha, hc]
  simp [hd, hk, hs, hi]

/-- An order that goes on, with approval or without, ends with the plan of the rest of its handler and keeps an approved result. -/
theorem gated_goesOn {q : Bool} {o : Order} {e : FwEnv} {owner : Nat} {u v w : State} {ap : Option Approval}
    {k : Option Approval → State → FwOut × State} {p : Plan} (h : GoesOn q u o e owner ap v) (hk : k ap v = (.done p, w))
    (hs : p.status / 256 = 0) (hi : p.items.isEmpty = false) :
    gated q o e owner u k = (.done { p with items := p.items ++ keeps ap p.word }, w) := by
  cases q with
  | true =>
    obtain ⟨a, rfl, ha⟩ := h
    exact withQuorum_approved (k := fun a s => k (some a) s) ha hk hs hi
  | false =>
    obtain ⟨rfl, rfl⟩ := h
    refine hk.trans ?_
    rw [keeps, List.append_nil]

/-! ### STALL_BIND -/

/-- The plan of STALL_BIND: the Stall is bound under its next generation, which is the result word (03 R136). -/
def bindPlan (b : StallBlk) (ap : Option Approval) (s : State) : Plan :=
  { word := ((stall s b.stall).gen + 1).toNat, items := [.bind b ((stall s b.stall).gen + 1)] ++ seqItems s ap }

/-- STALL_BIND of a block whose Owner's record is loaded, its proposal not executed before (03 R134 to R136). -/
theorem stallBind_loaded {u : State} {o : Order} {r : OwnerRec} (e : FwEnv) (hr : ownerRec u (bindBlk o).owner = some r)
    (hf : Fresh (r.bindRule == 0) u o (bindBlk o).owner) :
    stallBind o e u =
      orElse (firstBad [bindFields (bindBlk o), refuse (!ownerActive u (bindBlk o).owner) 0x0324 0]) u
        (orElse (bindChecks u (bindBlk o) r) u (gated (r.bindRule == 0) o e (bindBlk o).owner u fun ap s =>
          (.done (bindPlan (bindBlk o) ap s), s))) := by
  unfold stallBind
  dsimp only
  rw [hr]
  exact appliedFirst_fresh hf _

/-! ### STALL_UNBIND and STALL_RESET -/

/-- The checks of a Stall that is to be reset by an order, in their order (03 R681). -/
def hardChecks (u : State) (st : Nat) : Verdict :=
  firstBad [refuse (4095 < st) 0x0118 0, refuse (st = 0) 0x0325 0, refuse ((stall u st).state == .free) 0x0320 0]

theorem hardChecks_past {st : Nat} (h : 4095 < st) (u : State) : hardChecks u st = some (0x0118, 0) := by
  simp [hardChecks, firstBad, refuse, h]

theorem hardChecks_zero (u : State) : hardChecks u 0 = some (0x0325, 0) := by
  simp [hardChecks, firstBad, refuse]

/-- Of any other Stall the state decides. -/
theorem hardChecks_state {u : State} {st : Nat} (h0 : 0 < st) (h : st ≤ 4095) :
    hardChecks u st = if (stall u st).state = .free then some (0x0320, 0) else none := by
  simp [hardChecks, firstBad, refuse, Nat.not_lt.mpr h, h0.ne']

theorem stallHard_eq (free : Bool) (o : Order) (e : FwEnv) (u : State) : stallHard free o e u =
    orElse (hardChecks u (par o 0 2)) u (.done { items := [.hardReset (par o 0 2) free] }, u) := rfl

/-- Settles O20: the checks of the three orders and the plan of each. -/
theorem stallRows : Obligations.StallRows := by
  unfold Obligations.StallRows
  intro s id op o e h
  refine ⟨fun hop r hr hf => ?bind, fun free c hc => ?hard⟩
  case bind =>
    have hx : exec (.stallBind id e) s = runFw op stallBind id e s := by rw [hop]; rfl
    have hb := stallBind_loaded e hr hf
    refine ⟨fun f hbad => fwRow_plans hx h ?_, fun hok hin => fwRow_plans hx h ?_, fun hok hact f hbad => fwRow_plans hx h ?_,
      fun hok hact hch ap v hgo => fwRow_plans hx h ?_⟩
    · rw [hb, hbad]
      rfl
    · rw [hb, hok, hin]
      rfl
    · rw [hb, hok, hact, hbad]
      rfl
    · rw [hb, hok, hact, hch]
      exact gated_goesOn (k := fun ap s => (.done (bindPlan (bindBlk o) ap s), s)) hgo rfl (Nat.zero_div 256) rfl
  case hard =>
    have hx : exec c s = runFw op (stallHard free) id e s := by
      rcases hc with ⟨rfl, rfl, rfl⟩ | ⟨rfl, rfl, rfl⟩ <;> rfl
    refine ⟨fun hn => fwRow_plans hx h ?_, fun hn => fwRow_plans hx h ?_, fun h0 hn hfree => fwRow_plans hx h ?_,
      fun h0 hn hb => fwRow_plans hx h ?_⟩
    · rw [stallHard_eq, hardChecks_past hn]
      rfl
    · rw [stallHard_eq, hn, hardChecks_zero]
      rfl
    · rw [stallHard_eq, hardChecks_state h0 hn, if_pos hfree]
      rfl
    · rw [stallHard_eq, hardChecks_state h0 hn, if_neg hb]
      rfl

end Machine
end Sys2Proof
end

section
/-!
PROOFS. The rows of the Loom: the cipher modes, the seals and opens, the tags and key wraps, and the translations (05 R247 to R278).
-/
namespace Sys2Proof
namespace Machine

/-! ### The run of a row -/

/-- The output cap does not bear on an output that fits it (02 R75). -/
theorem capped_fits {o : Order} {n : Nat} (h : Room o n) (r : Result) : capped o n r = r := by
  have hcap : capWord o n 0 = none := h
  rw [capped, hcap]

theorem matA_some {o : Order} {k : KeyRec} (h : o.recA = some k) : matA o = k.material := by rw [matA, h]
theorem matB_some {o : Order} {k : KeyRec} (h : o.recB = some k) : matB o = k.material := by rw [matB, h]
theorem typeA_some {o : Order} {k : KeyRec} (h : o.recA = some k) : typeA o = k.attrs.keyType := by rw [typeA, h]
theorem typeB_some {o : Order} {k : KeyRec} (h : o.recB = some k) : typeB o = k.attrs.keyType := by rw [typeB, h]

section
variable {c : Instr} {s : State} {id op n : Nat} {o : Order} {f : Engine} (h : Ready s id op o)
  (hc : exec c s = runEngine n noDraw f id s)
include h hc

/-- The row of a ready order that draws nothing computes what its engine answers (01 R45, R51). -/
theorem row_computes {r : Result} (hf : ∀ d, f o d s = r) (hop : op = n) : Computes c s id r := by
  subst hop
  exact hc.trans (runEngine_plain op f id s o r h hf)

/-- The same for an engine that checks the output cap, and an output that fits it. -/
theorem row_fits {m : Nat} {r : Result} (hr : Room o m) (hf : ∀ d, f o d s = capped o m r) (hop : op = n) : Computes c s id r :=
  row_computes h hc (fun d => (hf d).trans (capped_fits hr r)) hop

/-- The row of a verification gives its output, or 0x0112 and none (05 R263). -/
theorem row_verified {m : Nat} {out : Option Bytes} (hr : Room o m) (hf : ∀ d, f o d s = capped o m (verified out)) (hop : op = n) :
    (∀ b, out = some b → Computes c s id (resOk 0 b)) ∧ (out = none → Computes c s id (resFail 0x0112 0)) := by
  have hv : Computes c s id (verified out) := row_fits h hc hr hf hop
  constructor
  · rintro b rfl
    exact hv
  · rintro rfl
    exact hv

end

/-! ### The cipher modes -/

/-- Settles O1: each mode is the engine of its row, and the start of the instances keeps everything else. -/
theorem loomCipherModes : Obligations.LoomCipherModes := by
  unfold Obligations.LoomCipherModes
  intro s id op o ka h hA hr
  dsimp only
  rw [← matA_some hA]
  refine ⟨row_fits h (by rfl) hr fun _ => rfl, row_fits h (by rfl) hr fun _ => rfl, row_fits h (by rfl) hr fun _ => rfl,
    row_fits h (by rfl) hr fun _ => rfl, row_fits h (by rfl) hr fun _ => rfl, row_fits h (by rfl) hr fun _ => rfl,
    fun kb hB => ?xts, ?start⟩
  case xts =>
    rw [← matB_some hB]
    exact ⟨row_fits h (by rfl) hr fun _ => rfl, row_fits h (by rfl) hr fun _ => rfl⟩
  case start =>
    obtain ⟨-, ho, -⟩ := h
    rw [started, ho]
    refine ⟨begun_parts (begun o s) o s, ?_⟩
    rw [← order?_id ho]
    exact begun_orders o s

/-! ### TDEA -/

/-- TDEA answers whole blocks, and a text of another length with 0x0110 (05 R249, R250). -/
theorem tdeaText_fits {o : Order} (h : Room o o.inLen) (f : Order → Bytes) (d : Nat) (s : State) :
    tdeaText f o d s = if o.inLen % 8 = 0 then resOk 0 (f o) else resFail 0x0110 0 := by
  rw [tdeaText, capped_fits h, ite_not]

/-- Settles O2: each row is TDEA in its mode, on a length of whole blocks. -/
theorem tdeaRows : Obligations.TdeaRows := by
  unfold Obligations.TdeaRows
  intro s id op o ka h hA hr
  dsimp only
  rw [← matA_some hA]
  exact ⟨row_computes h (by rfl) fun d => tdeaText_fits hr _ d s, row_computes h (by rfl) fun d => tdeaText_fits hr _ d s,
    row_computes h (by rfl) fun d => tdeaText_fits hr _ d s, row_computes h (by rfl) fun d => tdeaText_fits hr _ d s⟩

/-! ### AEAD seals -/

/-- Settles O3: ciphertext and tag under the nonce given, or under the one the device makes of key and index. -/
theorem aeadSealRows : Obligations.AeadSealRows := by
  unfold Obligations.AeadSealRows
  intro s id op o ka h hA
  dsimp only
  have hn : fit 4 ka.kcv ++ beBytes 8 o.invIndex = dnNonce o.recA o.invIndex := by rw [hA, dnNonce]
  rw [← matA_some hA, hn]
  exact ⟨fun hop hr => row_fits h (by rfl) hr (fun _ => rfl) hop, fun hop hr => row_fits h (by rfl) hr (fun _ => rfl) hop,
    fun hop hr => row_fits h (by rfl) hr (fun _ => rfl) hop⟩

/-! ### AEAD opens -/

/-- The check tables are filled, and nothing but instances changes. -/
theorem checksFilled_parts (t : State) (ct : Bytes) (l : List (EngKind × Nat)) (s : State) :
    { l.foldl (fun s p => modInst s p.1 p.2 (fun x => { x with checks := chunkChecks s.free ct, checkKey := s.free })) s with
      insts := t.insts } = { s with insts := t.insts } :=
  foldl_keeps (fun v : State => { v with insts := t.insts }) _ (fun _ _ => by rfl) l s

/-- The first pass asks for the input again and has the order wait for it; beyond that it fills check tables (05 R264). -/
theorem firstPass_parts (id : Nat) (o : Order) (s : State) :
    firstPass id o s = { s with
      out := s.out ++ rangeReqs s o.stall o.inIova o.inLen, insts := (firstPass id o s).insts, free := s.free + 1
      orders := s.orders.map (fun y => if y.id = id then { y with stage := .waitInput } else y) } :=
  congrArg (fun v : State => emits (rangeReqs s o.stall o.inIova o.inLen)
      (modOrder { v with free := s.free + 1 } id (fun o => { o with stage := .waitInput })))
    (checksFilled_parts (firstPass id o s) ((inputOf o).take (o.inLen - openTag o)) o.insts s)

section
variable {c : Instr} {s : State} {id op : Nat} {o : Order} {f : Engine} (h : Ready s id op o) (hc : exec c s = runOpen op f id s)
include h hc

/-- What a ready open leaves, by the verdict of its engine, its length and its second reading (05 R263 to R265). -/
theorem open_next : exec c s = .next (gate s
    (if (f o 0 s).status ≠ 0 || !twoPass o then withResult (begun o s) id (f o 0 s)
     else if o.pass2.isSome then withResult s id (secondPass s o (f o 0 s)) else firstPass id o (begun o s))) := by
  obtain ⟨hs, ho, hop, hst, hsg, hb⟩ := h
  refine coreAct_next hs hc ?_
  simp [ho, hop, hst, hsg, hb, computed_eq]

/-- An open whose check fails, or whose text is no longer than one pass takes, ends with what its engine answers. -/
theorem open_onePass (h1 : (f o 0 s).status ≠ 0 ∨ twoPass o = false) : Computes c s id (f o 0 s) := by
  have ⟨_, ho, _⟩ := h
  have hw : (decide ((f o 0 s).status ≠ 0) || !twoPass o) = true := by simpa using h1
  rw [Computes, open_next h hc, if_pos hw, gate_begun o s s id _ rfl rfl, started, ho]

section
variable (hf : (f o 0 s).status = 0) (h2 : twoPass o = true)
include hf h2

/-- A long text that passes its check is read again, outside Silence. -/
theorem open_firstPass (hp : o.pass2 = none) (hl : s.faults.silent = false) :
    exec c s = .next (firstPass id o (begun o s)) := by
  have hout := congrArg State.out (firstPass_parts id o (begun o s))
  have hpend := congrArg State.pending (firstPass_parts id o (begun o s))
  rw [begun_out] at hout
  rw [open_next h hc, hf, h2, hp]
  exact congrArg _ (gate_appends s _ _ hl hout (hpend.trans (begun_pending o s)))

/-- With the second reading present the result is that of the second pass. -/
theorem open_secondPass {b : Bytes} (hp : o.pass2 = some b) :
    exec c s = .next (withResult s id (secondPass s o (f o 0 s))) := by
  rw [open_next h hc, hf, h2, hp]
  exact congrArg _ (gate_quiet s _ rfl rfl)

end
end

/-- The plaintext of an open, none when its tag does not match (05 R263). -/
def openedText (o : Order) : Option Bytes :=
  if o.opcode = 0x0142 then gcmOpenT (matA o) (slice o.inl 0 12) (auxOf o) (inputOf o) (par o 12 1)
  else chachaOpen (matA o) (slice o.inl 0 12) (auxOf o) ((inputOf o).take ((inputOf o).length - 16))
    ((inputOf o).drop ((inputOf o).length - 16))

/-- Both opens are the run of an engine that answers the text, or 0x0112. -/
theorem open_engine {c : Instr} {id op : Nat} {o : Order} (s : State) (hop : o.opcode = op) (hr : Room o (o.inLen - openTag o))
    (hc : op = 0x0142 ∧ c = .aesGcmOpen id ∨ op = 0x0171 ∧ c = .chachaOpen id) :
    ∃ f : Engine, exec c s = runOpen op f id s ∧ f o 0 s = verified (openedText o) := by
  subst hop
  rcases hc with ⟨ho, rfl⟩ | ⟨ho, rfl⟩
  · refine ⟨aesGcmOpen, by rw [ho]; rfl, ?_⟩
    rw [openTag, if_pos ho] at hr
    rw [openedText, if_pos ho]
    exact capped_fits hr _
  · have hne : o.opcode ≠ 0x0142 := by omega
    refine ⟨chachaOpenE, by rw [ho]; rfl, ?_⟩
    rw [openTag, if_neg hne] at hr
    rw [openedText, if_neg hne]
    exact capped_fits hr _

/-- Settles O4: a mismatch, one pass, the first pass and the second one. -/
theorem aeadOpenRows : Obligations.AeadOpenRows := by
  unfold Obligations.AeadOpenRows
  intro s id op o ka h hA hr
  dsimp only
  have ⟨_, _, hop, _⟩ := h
  rw [← matA_some hA, ← hop]
  intro c hcs
  obtain ⟨f, hc, hf⟩ := open_engine s rfl hr hcs
  rw [hop] at hc
  refine ⟨fun hbad => ?mismatch, fun x hx => ?text, firstPass_parts id o (begun o s)⟩
  case mismatch =>
    have hv : f o 0 s = resFail 0x0112 0 := hf.trans (congrArg verified hbad)
    rw [← hv]
    exact open_onePass h hc (.inl (by rw [hv]; decide))
  case text =>
    have hv : f o 0 s = resOk 0 x := hf.trans (congrArg verified hx)
    have hz : (f o 0 s).status = 0 := by rw [hv]; rfl
    refine ⟨fun hn => ?_, fun hn hp hl => open_firstPass h hc hz (decide_eq_true hn) hp hl, fun hn b2 hp => ?_⟩
    · rw [← hv]
      exact open_onePass h hc (.inr (decide_eq_false (Nat.not_lt.mpr hn)))
    · have hx2 := open_secondPass h hc hz (decide_eq_true hn) hp
      rw [hv, secondPass, hp] at hx2
      refine ⟨fun hj => ?_, fun k hj => ?_⟩
      · rw [hx2]
        simp [hj]
      · rw [hx2]
        simp [hj, resOk]

/-! ### Tags and key wraps -/

/-- AES_CMAC_VERIFY holds the tag it computes against the one given, and has no output (05 R263). -/
theorem aesCmacVerify_eq (o : Order) (d : Nat) (s : State) : aesCmacVerify o d s =
    if (cmac (aesE (matA o)) (inputOf o)).take (par o 0 1) = slice o.inl 8 (par o 0 1) then resOk 0 [] else resFail 0x0112 0 := by
  rw [aesCmacVerify, apply_ite verified]
  rfl

/-- Settles O5: each row is its algorithm, and a check that fails gives no output. -/
theorem macAndKeyWrapRows : Obligations.MacAndKeyWrapRows := by
  unfold Obligations.MacAndKeyWrapRows
  intro s id op o ka h hA
  dsimp only
  rw [← matA_some hA]
  exact ⟨fun hop hr => row_fits h (by rfl) hr (fun _ => rfl) hop,
    fun hop => ⟨fun ht => row_computes h (by rfl) (fun d => (aesCmacVerify_eq o d s).trans (if_pos ht)) hop,
      fun ht => row_computes h (by rfl) (fun d => (aesCmacVerify_eq o d s).trans (if_neg ht)) hop⟩,
    fun hop hr => row_fits h (by rfl) hr (fun _ => rfl) hop, fun hop hr => row_fits h (by rfl) hr (fun _ => rfl) hop,
    fun hr => ⟨row_verified h (by rfl) hr fun _ => rfl, row_verified h (by rfl) hr fun _ => rfl⟩⟩

/-! ### Translations -/

/-- A translation draws 16 bytes of fill at its first run (05 R273, R276). -/
theorem translation_computes {c : Instr} {s : State} {id op n : Nat} {o : Order} {f : Engine} {r : Nat → Result}
    (h : Ready s id op o) (hu : s.drbg.up = true) (hc : exec c s = runEngine n (fun _ => 16) f id s) (hop : op = n)
    (hf : ∀ d, f o d s = r d) : ComputesDrawn c s id 16 o r := by
  subst hop
  exact runEngine_drawn c op _ 16 f id s o r hc rfl h hu hf

/-- The PIN that a PIN_TRANSLATE finds in its input (05 R270 to R272). -/
def pinFound (o : Order) : Option (List Nat) :=
  pinOf (par o 0 1) (pinField (par o 0 1) (matA o) (panDigits o) (inputOf o))

/-- What PIN_TRANSLATE makes of the field it finds (05 R272, R273). -/
theorem pinTranslate_fits {o : Order} (h : Room o (pinBlock (par o 1 1))) (d : Nat) (s : State) : pinTranslate o d s =
    (pinFound o).elim (resFail 0x0113 0)
      (fun pin => resOk 0 (pinSeal (par o 1 1) (matB o) (panDigits o) pin (drawn d 0 16))) := by
  rw [pinTranslate, capped_fits h, ← pinFound]
  cases pinFound o <;> rfl

/-- Whether KEYBLOCK_TRANSLATE knows the version it is asked for: none, or that of its output key (05 R274). -/
def kbVersionKnown (o : Order) (kb : KeyRec) : Prop := par o 0 1 = 0 ∨ par o 0 1 = if isAes kb.attrs.keyType then 0x44 else 0x42

theorem kbVersionKnown_iff (o : Order) (kb : KeyRec) : kbVersionKnown o kb ↔
    (par o 0 1 != 0 && par o 0 1 != if isAes kb.attrs.keyType then 0x44 else 0x42) = false := by
  simp [kbVersionKnown, or_iff_not_imp_left]

/-- What becomes of the key of an authentic block: it may not leave or is too strong for the output key, the output key may not
encrypt, or it is sealed (05 R275, R276). -/
def kbKeyAnswer (kb : KeyRec) (d : Nat) (b : KeyBlock) (key : Bytes) : Result :=
  if b.exportable = 0x4E ∨ kbStrong kb.attrs.keyType b.algorithm key.length = false then resFail 0x0246 0
  else if isAes kb.attrs.keyType = false ∧ tdeaMayEncrypt kb.attrs = false then resFail 0x0242 0
  else resOk 0 (sealKeyBlock (isAes kb.attrs.keyType) kb.material b.header key (drawn d 0 16))

section
variable {o : Order} {ka kb : KeyRec} (hA : o.recA = some ka) (hB : o.recB = some kb) (d : Nat) (s : State)
include hB

theorem keyblockTranslate_unknown (h : ¬ kbVersionKnown o kb) : keyblockTranslate o d s = resFail 0x0118 0 := by
  rw [kbVersionKnown_iff, Bool.not_eq_false, ← typeB_some hB] at h
  exact if_pos h

include hA

theorem keyblockTranslate_malformed (h : kbVersionKnown o kb) (hp : parseKeyBlock (isAes ka.attrs.keyType) (inputOf o) = none) :
    keyblockTranslate o d s = resFail 0x0114 0 := by
  simp only [keyblockTranslate, typeA_some hA, typeB_some hB, (kbVersionKnown_iff o kb).mp h, hp, Bool.false_eq_true, if_false]

/-- A block that parses and fits: its MAC decides, then its key (05 R275). -/
theorem keyblockTranslate_parsed {b : KeyBlock} (h : kbVersionKnown o kb)
    (hp : parseKeyBlock (isAes ka.attrs.keyType) (inputOf o) = some b)
    (hr : Room o (kbLen (isAes kb.attrs.keyType) b.header.length (b.field.length - 2))) : keyblockTranslate o d s =
      (openKeyBlock (isAes ka.attrs.keyType) ka.material b).elim (resFail 0x0112 0) (kbKeyAnswer kb d b) := by
  simp only [keyblockTranslate, typeA_some hA, typeB_some hB, matA_some hA, matB_some hB, (kbVersionKnown_iff o kb).mp h, hp,
    Bool.false_eq_true, if_false, capped_fits hr]
  cases openKeyBlock (isAes ka.attrs.keyType) ka.material b with
  | none => rfl
  | some key => simp [kbKeyAnswer, hB]

end

/-- What CIPHER_TRANSLATE makes of the text it opens (05 R278). -/
theorem cipherTranslate_fits {o : Order} (h : Room o (ctPlain o + par o 3 1)) (d : Nat) (s : State) : cipherTranslate o d s =
    (ctOpen o).elim (resFail 0x0112 0) (fun p => resOk (if par o 1 1 = 4 then o.invIndex else 0) (ctSeal o p)) := by
  rw [cipherTranslate, capped_fits h]
  cases ctOpen o <;> rfl

/-- Settles O6: PIN, key block and ciphertext, each by the check that fails first. -/
theorem translateRows : Obligations.TranslateRows := by
  unfold Obligations.TranslateRows
  intro s id op o ka kb h hA hB hu
  dsimp only
  refine ⟨fun hop hr => ?pin, fun hop => ?keyBlock, fun hop hr => ?cipher⟩
  case pin =>
    rw [← matA_some hA, ← matB_some hB, ← pinFound]
    have hrow (d : Nat) := pinTranslate_fits hr d s
    refine ⟨fun hf => ?_, fun pin hf => ?_⟩
    · rw [hf] at hrow
      exact translation_computes h hu (by rfl) hop hrow
    · rw [hf] at hrow
      exact translation_computes h hu (by rfl) hop hrow
  case keyBlock =>
    have hrow (r : Nat → Result) (hf : ∀ d, keyblockTranslate o d s = r d) : ComputesDrawn (.keyblockTranslate id) s id 16 o r :=
      translation_computes h hu (by rfl) hop hf
    refine ⟨fun hk => hrow _ fun d => keyblockTranslate_unknown hB d s hk,
      fun hk hp => hrow _ fun d => keyblockTranslate_malformed hA hB d s hk hp, fun hk b hp hr => ?_⟩
    have hparsed (d : Nat) := keyblockTranslate_parsed hA hB d s hk hp hr
    refine ⟨fun hm => hrow _ fun d => ?_, fun key hm => ?_⟩
    · rw [hparsed, hm]
      rfl
    · rw [hm] at hparsed
      exact ⟨fun hb => hrow _ fun d => (hparsed d).trans (if_pos hb),
        fun hb hw => hrow _ fun d => (hparsed d).trans ((if_neg hb).trans (if_pos hw)),
        fun hb hw => hrow _ fun d => (hparsed d).trans ((if_neg hb).trans (if_neg hw))⟩
  case cipher =>
    have hrow (d : Nat) := cipherTranslate_fits hr d s
    refine ⟨fun hc => ?_, fun p hc => ?_⟩
    · rw [hc] at hrow
      exact row_computes h (by rfl) hrow hop
    · rw [hc] at hrow
      exact row_computes h (by rfl) hrow hop

end Machine
end Sys2Proof
end

section
/-!
PROOFS. The rows of the Forge: signatures and shared secrets on the curves, and the RSA orders (06 R297 to R311).
-/
namespace Sys2Proof
namespace Machine

/-! ### The run of a row that draws, or that checks its parameters once the key is known -/

/-- The row of a ready order whose output fits the cap computes what its engine answers for the shared draws (06 R288). -/
theorem row_drawn {c : Instr} {s : State} {id op n m : Nat} {o : Order} {f : Engine} (k : Order → Nat) {r : Nat → Result}
    (h : Ready s id op o) (hu : s.drbg.up = true) (hr : Room o m) (hc : exec c s = runEngine n k f id s)
    (hf : ∀ d, f o d s = capped o m (r d)) (hop : op = n) : ComputesDrawn c s id (k o) o r := by
  subst hop
  exact runEngine_drawn c op k (k o) f id s o r hc rfl h hu fun d => (hf d).trans (capped_fits hr (r d))

/-- The row of an order with a check that needs the type of its key: the check decides first (05 R249, 06 R302). -/
theorem row_checked {c : Instr} {s : State} {id op n : Nat} {o : Order} {f : Engine} {v : Verdict} {r : Result}
    (h : Ready s id op o) (hc : exec c s = runEngine n noDraw f id s) (hf : ∀ d, f o d s = unlessBad v r) (hop : op = n) :
    (∀ g, v = some g → Computes c s id (resFail g.1 g.2)) ∧ (v = none → Computes c s id r) := by
  have hv : Computes c s id (unlessBad v r) := row_computes h hc hf hop
  constructor
  · rintro g rfl
    exact hv
  · rintro rfl
    exact hv

/-! ### The curves -/

/-- A string cut or extended to `n` bytes has `n` bytes. -/
theorem length_fit (n : Nat) (b : Bytes) : (fit n b).length = n := by
  simp [fit, zeros]

/-- The private key of ECDH_DERIVE: key A, or an ephemeral one from the first of its shared draws (06 R309). -/
def ecdhKey (o : Order) (d : Nat) : Bytes :=
  if inlineKey o then take (ecBytes (curveOf o)) (Config.genKey (0x0200 + curveOf o) (ecBits (curveOf o)) d) else matA o

/-- What ECDH_DERIVE puts before its blob: the ephemeral public key, when one is drawn (06 R309). -/
def ecdhHead (o : Order) (d : Nat) : Bytes :=
  if inlineKey o then
    fit (roundUp (ecPoint (curveOf o)) 8) (take (ecPoint (curveOf o)) (Config.publicKey (0x0200 + curveOf o) (ecdhKey o d)))
  else []

theorem length_ecdhHead (o : Order) (d : Nat) :
    (ecdhHead o d).length = if inlineKey o then roundUp (ecPoint (curveOf o)) 8 else 0 := by
  rw [ecdhHead]
  split
  · exact length_fit _ _
  · rfl

/-- Settles O7: each row is the engine of its opcode, and the output of ECDH_DERIVE is as long as its cap check counts. -/
theorem forgeCurveRows : Obligations.ForgeCurveRows := by
  unfold Obligations.ForgeCurveRows
  intro s id op o h hu
  dsimp only
  refine ⟨fun hop hr => ?ecdsaSign, fun hop => ?ecdsaVerify, fun hop hr => ?eddsaSign, fun hop => ?eddsaVerify, fun hop hr => ?ecdh⟩
  case ecdsaSign => exact row_drawn (fun _ => 32) h hu hr (by rfl) (fun _ => rfl) hop
  case ecdsaVerify => exact row_computes h (by rfl) (fun _ => rfl) hop
  case eddsaSign => exact row_checked h (by rfl) (fun _ => capped_fits hr _) hop
  case eddsaVerify => exact row_checked h (by rfl) (fun _ => rfl) hop
  case ecdh =>
    refine row_drawn ecdhDraws h hu hr (by rfl) (fun d => ?_) hop
    rw [← length_ecdhHead o d]
    rfl

/-! ### RSA -/

/-- The engines test for raw RSA by a Boolean, the statement by a proposition. -/
theorem ite_raw {α : Type} (o : Order) (x y : α) : (if par o 0 1 == 3 then x else y) = if par o 0 1 = 3 then x else y :=
  if_congr beq_iff_eq rfl rfl

/-- Settles O8: each row is the engine of its opcode, with the key held or given inline. -/
theorem forgeRsaRows : Obligations.ForgeRsaRows := by
  unfold Obligations.ForgeRsaRows
  intro s id op o h hu
  dsimp only
  refine ⟨fun hop hr => ?sign, fun hop => ?verify, fun hop hr => ?encrypt, fun hop hr => ?decrypt, fun hop hr => ?unwrap⟩
  case sign => exact row_drawn (fun o => par o 2 1) h hu hr (by rfl) (fun _ => rfl) hop
  case verify => exact row_computes h (by rfl) (fun _ => rfl) hop
  case encrypt =>
    refine row_drawn (fun o => hashLen (par o 1 1)) h hu hr (by rfl) (fun d => ?_) hop
    simp only [rsaEncryptE, ite_raw]
  case decrypt =>
    exact row_fits h (by rfl) hr (fun _ => congrArg₂ (capped o) (ite_raw o _ _) (congrArg (validated _) (ite_raw o _ _))) hop
  case unwrap => exact row_drawn (fun _ => 12) h hu hr (by rfl) (fun _ => rfl) hop

end Machine
end Sys2Proof
end

section
/-!
PROOFS. The rows of the Kiln and the Mill: ML-KEM, ML-DSA and SLH-DSA, digests, tags, key derivation and LMS (07 R338 to R358).
-/
namespace Sys2Proof
namespace Machine

/-! ### The Kiln -/

/-- `n` bytes taken are `n` bytes. -/
theorem length_take (n : Nat) (f : Nat → Byte) : (take n f).length = n := by
  simp [take]

/-- Settles O9: each row is the engine of its opcode, and the ciphertext of ML-KEM is as long as its cap check counts. -/
theorem kilnRows : Obligations.KilnRows := by
  unfold Obligations.KilnRows
  intro s id op o h hu
  dsimp only
  refine ⟨fun hop hr => ?encaps, fun hop hr => ?decaps, fun hop hr => ?mldsaSign, fun hop => ?mldsaVerify,
    fun hop hr => ?slhdsaSign, fun hop => ?slhdsaVerify⟩
  case encaps =>
    refine row_drawn (fun _ => 44) h hu hr (by rfl) (fun d => ?_) hop
    rw [mlkemEncapsE, length_take]
  case decaps => exact row_drawn (fun _ => 12) h hu hr (by rfl) (fun _ => rfl) hop
  case mldsaSign =>
    exact row_drawn (fun o => if bitOf (par o 2 1) 1 then 0 else 32) h hu hr (by rfl) (fun _ => rfl) hop
  case mldsaVerify => exact row_computes h (by rfl) (fun _ => rfl) hop
  case slhdsaSign =>
    exact row_drawn (fun o => if bitOf (par o 2 1) 1 then 0 else slhN (psetOf o)) h hu hr (by rfl) (fun _ => rfl) hop
  case slhdsaVerify => exact row_computes h (by rfl) (fun _ => rfl) hop

/-! ### The Mill -/

/-- A tag is held against the one in the parameter block, without any output (07 R355). -/
theorem verified_tag (p : Prop) [Decidable p] :
    verified (if p then some [] else none) = if p then resOk 0 [] else resFail 0x0112 0 :=
  apply_ite verified p (some []) none

/-- When the layout is the only check, an auxiliary input of the wrong length is 0x0125 (07 R346). -/
theorem kilnValidated_layout (len want fld : Nat) (r : Result) :
    kilnValidated (finding (len != want) 0x0125 fld) r = if len = want then r else resFail 0x0125 fld := by
  by_cases h : len = want <;> simp [h, finding, kilnValidated, kilnPriorities]

/-- A malformed key or signature ends LMS_VERIFY with the status and word of its first malformed part (07 R357). -/
theorem lmsVerify_malformed {o : Order} {st w : Nat} (h : lmsForm (par o 0 1 == 2) (auxOf o) = .error (st, w)) (d : Nat)
    (s : State) : lmsVerifyE o d s = resFail st w := by
  simp only [lmsVerifyE, h]

/-- A key and a signature of the right form get a verdict (07 R357). -/
theorem lmsVerify_wellFormed {o : Order} {n : Nat} (h : lmsForm (par o 0 1 == 2) (auxOf o) = .ok n) (d : Nat) (s : State) :
    lmsVerifyE o d s = verdict (Config.lmsVerify (par o 0 1 == 2) ((auxOf o).take n) (inputOf o) ((auxOf o).drop n)) := by
  simp only [lmsVerifyE, h]

/-- Settles O10: each row is the engine of its opcode; a tag, a layout or a form that is wrong decides alone. -/
theorem millRows : Obligations.MillRows := by
  unfold Obligations.MillRows
  intro s id op o h
  dsimp only
  refine ⟨fun hop hr => ?hash, fun hop => ?lms, fun ka hA => ?keyed⟩
  case hash => exact row_fits h (by rfl) hr (fun _ => rfl) hop
  case lms =>
    exact ⟨fun st w hf => row_computes h (by rfl) (fun d => lmsVerify_malformed hf d s) hop,
      fun n hf => row_computes h (by rfl) (fun d => lmsVerify_wellFormed hf d s) hop⟩
  case keyed =>
    rw [← matA_some hA]
    refine ⟨fun hop hr => ?hmac, fun hop => ?hmacVerify, fun hop hr => ?kmac, fun hop => ?kmacVerify, fun hop hu hr => ?kdf⟩
    case hmac => exact row_fits h (by rfl) hr (fun _ => rfl) hop
    case hmacVerify => exact row_computes h (by rfl) (fun _ => verified_tag _) hop
    case kmac => exact row_fits h (by rfl) hr (fun _ => rfl) hop
    case kmacVerify => exact row_computes h (by rfl) (fun _ => verified_tag _) hop
    case kdf => exact row_drawn (fun _ => 12) h hu hr (by rfl) (fun _ => congrArg (capped o _) (kilnValidated_layout _ _ _ _)) hop

end Machine
end Sys2Proof
end

section
/-!
PROOFS. The acknowledgements, the event registers, the Daybook window and the GPIO edges (08 R397; 09 R424; 13 R593, R594;
15 R636 to R641, R653).
-/
namespace Sys2Proof
namespace Machine

/-! ### What the evidence operations leave of the event registers -/

theorem sendMsix_ev (v : Nat) (s : State) : (sendMsix v s).ev = s.ev := by
  unfold sendMsix; repeat (first | rfl | split)

theorem ibiCheck_ev (s : State) : (ibiCheck s).ev = s.ev := by
  unfold ibiCheck; repeat (first | rfl | split)

/-- The bit of an event source within its group (15 R638). -/
def srcBit (src : Nat) : BitVec 32 := BitVec.twoPow 32 (src % 32)

theorem getLsbD_srcBit (src : Nat) : (srcBit src).getLsbD (src % 32) = true := by
  rw [srcBit, BitVec.getLsbD_twoPow]
  simp [Nat.mod_lt]

/-- A source whose STATUS bit is set does nothing when it occurs again (15 R640). -/
theorem event_known {src : Nat} {s : State} (h : evStatus s (src / 32) &&& srcBit src ≠ 0) : event src s = s := by
  have hb : ((evStatus s (src / 32) &&& srcBit src) != 0) = true := bne_iff_ne.mpr h
  exact if_pos hb

/-- A source that occurs for the first time sets its STATUS bit, and no other event register changes (15 R640). -/
theorem event_fresh {src : Nat} {s : State} (h : evStatus s (src / 32) &&& srcBit src = 0) :
    (event src s).ev =
      { s.ev with status := Tbl.put 0 s.ev.status (src / 32) (evStatus s (src / 32) ||| srcBit src) } := by
  have hb : ¬ ((evStatus s (src / 32) &&& srcBit src) != 0) = true := by simp [h]
  have e : event src s = _ := if_neg hb
  rw [e, ibiCheck_ev]
  split
  · exact sendMsix_ev _ _
  · rfl

/-- A source that occurs has its STATUS bit set afterwards (15 R640). -/
theorem event_status (src : Nat) (s : State) : (evStatus (event src s) (src / 32)).getLsbD (src % 32) = true := by
  by_cases h : evStatus s (src / 32) &&& srcBit src = 0
  · have e : evStatus (event src s) (src / 32) = evStatus s (src / 32) ||| srcBit src := by
      rw [evStatus, event_fresh h]
      exact Tbl.getD_put_same _ _ _ _
    rw [e, BitVec.getLsbD_or, getLsbD_srcBit, Bool.or_true]
  · rw [event_known h]
    by_contra hn
    exact h (by rw [srcBit, BitVec.and_twoPow, if_neg hn]; rfl)

theorem event_enable (src : Nat) (s : State) : (event src s).ev.enable = s.ev.enable := by
  by_cases h : evStatus s (src / 32) &&& srcBit src = 0
  · rw [event_fresh h]
  · rw [event_known h]

/-! ### EVENT_STATUS_CLEAR and EVENT_ENABLE_WRITE -/

/-- A state in which bits of a STATUS group are cleared (15 R640). -/
def statusCleared (g : Nat) (m : BitVec 32) (s : State) : State :=
  { s with ev := { s.ev with status := Tbl.put 0 s.ev.status g (evStatus s g &&& ~~~m) } }

/-- With no source that occurs in the same cycle, the clearing only looks at the event IBI. -/
theorem clearStatus_alone {g : Nat} (hg : g < 48) (m : BitVec 32) (s : State) :
    clearStatus g m 0 s = ibiCheck (statusCleared g m s) := by
  rw [clearStatus, if_neg (Nat.not_le.mpr hg)]
  simp [maskSources, statusCleared]

theorem maskSources_single (g : Nat) {i : Nat} (hi : i < 32) : maskSources g ((1 : BitVec 32) <<< i) = [32 * g + i] := by
  have h : ∀ i < 32, (List.range 32).filter (fun j => ((1 : BitVec 32) <<< i).getLsbD j) = [i] := by decide
  rw [maskSources, h i hi]
  rfl

/-- A source that occurs in the cycle that clears its bit is an event after the clearing (15 R640). -/
theorem clearStatus_met {g i : Nat} (hg : g < 48) (hi : i < 32) (he : sourceExists (32 * g + i) = true) (s : State) :
    clearStatus g ((1 : BitVec 32) <<< i) ((1 : BitVec 32) <<< i) s =
      ibiCheck (event (32 * g + i) (statusCleared g ((1 : BitVec 32) <<< i) s)) := by
  rw [clearStatus, if_neg (Nat.not_le.mpr hg), BitVec.and_self, maskSources_single g hi]
  simp [he, statusCleared]

theorem sendAll_ev (f : State → Nat → Nat) (l : List Nat) (s : State) :
    (l.foldl (fun s n => sendMsix (f s n) s) s).ev = s.ev :=
  foldl_keeps State.ev _ (fun s n => sendMsix_ev (f s n) s) l s

theorem sendAll_frame (f : State → Nat → Nat) (l : List Nat) (s : State) :
    EvidenceOnly s (l.foldl (fun s n => sendMsix (f s n) s) s) := by
  induction l generalizing s with
  | nil => exact EvidenceOnly.refl s
  | cons n l ih => exact (sendMsix_frame _ s).trans (ih _)

/-- The write of ENABLE sends messages and changes no other event register (15 R638, R640). -/
theorem writeEnable_leaves (g : Nat) (x : BitVec 32) (s : State) :
    (writeEnable g x s).ev = { s.ev with enable := Tbl.put 0 s.ev.enable g x } ∧ EvidenceOnly s (writeEnable g x s) := by
  unfold writeEnable
  dsimp only
  split
  · exact ⟨sendAll_ev _ _ _, (sendAll_frame _ _ _).after rfl⟩
  · exact ⟨rfl, rfl⟩

section
variable {s : State} (hs : Serving s)
include hs

theorem eventStatusClear_clears {g : Nat} (hg : g < 48) (m : BitVec 32) :
    Does (.eventStatusClear g m 0) s (fun v => evStatus v g = evStatus s g &&& ~~~m ∧
      (∀ x, x ≠ g → evStatus v x = evStatus s x) ∧ v.ev.enable = s.ev.enable ∧ EvidenceOnly s v) := by
  have hv : (gate s (clearStatus g m 0 s)).ev = (statusCleared g m s).ev := by
    rw [clearStatus_alone hg]
    exact ibiCheck_ev _
  refine ⟨_, hostAct_next hs (by rfl) rfl, ?_, fun x hx => ?_, ?_, EvidenceOnly.gate ?_ rfl⟩
  · rw [evStatus, hv]
    exact Tbl.getD_put_same _ _ _ _
  · rw [evStatus, hv]
    exact Tbl.getD_put_other _ _ _ _ _ hx
  · rw [hv]
    rfl
  · rw [clearStatus_alone hg]
    exact (ibiCheck_frame _).after rfl

theorem eventStatusClear_met {g i : Nat} (hg : g < 48) (hi : i < 32) (he : sourceExists (32 * g + i) = true) :
    Does (.eventStatusClear g ((1 : BitVec 32) <<< i) ((1 : BitVec 32) <<< i)) s (fun v => (evStatus v g).getLsbD i = true ∧
      v.ev.enable = s.ev.enable ∧ EvidenceOnly s v) := by
  have hg' : (32 * g + i) / 32 = g := by omega
  have hi' : (32 * g + i) % 32 = i := by omega
  have hv := ibiCheck_ev (event (32 * g + i) (statusCleared g ((1 : BitVec 32) <<< i) s))
  have hb := event_status (32 * g + i) (statusCleared g ((1 : BitVec 32) <<< i) s)
  rw [hg', hi', evStatus, ← hv] at hb
  refine ⟨_, hostAct_next hs (by rfl) (clearStatus_met hg hi he s), hb, ?_, EvidenceOnly.gate ?_ rfl⟩
  · exact (congrArg Events.enable hv).trans (event_enable _ _)
  · exact (ibiCheck_frame _).after ((event_frame _ _).after rfl)

theorem eventStatusClear_past {g : Nat} (hg : 48 ≤ g) (m meet : BitVec 32) :
    exec (.eventStatusClear g m meet) s = .next s := by
  refine hostAct_next_quiet hs (by rfl) ?_ rfl rfl
  exact if_pos hg

theorem eventEnableWrite_enable {g : Nat} (hg : g < 48) (x : BitVec 32) :
    Does (.eventEnableWrite g false x) s (fun v => evEnable v g = x ∧ v.ev.status = s.ev.status ∧
      v.ev.bmc = s.ev.bmc ∧ EvidenceOnly s v) := by
  obtain ⟨hv, hf⟩ := writeEnable_leaves g x s
  rw [← gate_ev s] at hv
  refine ⟨gate s (writeEnable g x s), hostAct_next hs (by rfl) ?_, ?_, by rw [hv], by rw [hv], hf.gate rfl⟩
  · exact if_neg (Nat.not_le.mpr hg)
  · rw [evEnable, hv]
    exact Tbl.getD_put_same _ _ _ _

/-- A state in which BMC_ENABLE of a group is written (15 R638). -/
def bmcEnabled (g : Nat) (x : BitVec 32) (s : State) : State :=
  { s with ev := { s.ev with bmc := Tbl.put 0 s.ev.bmc g x } }

theorem eventEnableWrite_bmc {g : Nat} (hg : g < 48) (x : BitVec 32) :
    Does (.eventEnableWrite g true x) s (fun v => evBmc v g = x ∧ v.ev.status = s.ev.status ∧
      v.ev.enable = s.ev.enable ∧ EvidenceOnly s v) := by
  have hv := ibiCheck_ev (bmcEnabled g x s)
  have hf : EvidenceOnly s (ibiCheck (bmcEnabled g x s)) := (ibiCheck_frame _).after rfl
  rw [← gate_ev s] at hv
  refine ⟨gate s (ibiCheck (bmcEnabled g x s)), hostAct_next hs (by rfl) ?_, ?_, by rw [hv]; rfl, by rw [hv]; rfl, hf.gate rfl⟩
  · exact if_neg (Nat.not_le.mpr hg)
  · rw [evBmc, hv]
    exact Tbl.getD_put_same _ _ _ _

theorem eventEnableWrite_past {g : Nat} (hg : 48 ≤ g) (b : Bool) (x : BitVec 32) :
    exec (.eventEnableWrite g b x) s = .next s := by
  refine hostAct_next_quiet hs (by rfl) ?_ rfl rfl
  exact if_pos hg

/-! ### The Daybook window -/

theorem winBaseWrite_next {x : Nat} (hx : x < 2 ^ 13) :
    exec (.winBaseWrite x) s = .next (if 5504 < x then { s with day := { s.day with winErr := true } }
      else { s with day := { s.day with winBase := x, winValid := false, winBusy := true,
                                        winData := (List.range 128).map (fun k => viewRec s (x + k)) } }) := by
  refine hostAct_next_quiet hs (by rfl) ?_ ?_ ?_
  · rw [Nat.mod_eq_of_lt hx]
  · split <;> rfl
  · split <;> rfl

theorem winSnapshotDone_next :
    exec .winSnapshotDone s = .next (if s.day.winBusy then { s with day := { s.day with winBusy := false, winValid := true } }
      else s) := by
  refine coreAct_next_quiet hs (by rfl) rfl ?_ ?_
  · split <;> rfl
  · split <;> rfl

end

/-! ### GPIO_EDGE -/

/-- A state in which a pin has a level (15 R653). -/
def pinLevel (pin : Nat) (level : Bool) (s : State) : State :=
  { s with side := { s.side with gpioIn := setBit s.side.gpioIn pin level } }

/-- A pin has an enabled edge to a level (15 R653). -/
def EdgeOn (s : State) (pin : Nat) (level : Bool) : Prop :=
  bitOf s.side.gpioIn pin ≠ level ∧ (if level then bitOf s.side.gpioRise pin else bitOf s.side.gpioFall pin) = true

/-- A command of every phase that puts nothing out answers what its meaning leaves. -/
theorem act_next_quiet {c : Instr} {f : State → State} {s v : State} (hc : exec c s = act f s) (hv : f s = v)
    (ho : v.out = s.out) (hp : v.pending = s.pending) : exec c s = .next v :=
  hc.trans (act_quiet hv ho hp)

section
variable {s : State} {pin : Nat} (hp : pin < 16) (level : Bool) (t : Nat)
include hp

/-- Without an enabled edge the pin takes its level, and nothing else changes (15 R653). -/
theorem gpioEdge_silent (h : ¬ EdgeOn s pin level) :
    exec (.gpioEdge pin level t) s = .next (pinLevel pin level (tick t s)) := by
  refine act_next_quiet (by rfl) ?_ rfl rfl
  refine (if_neg (Nat.not_le.mpr hp)).trans (if_neg fun hx => h ?_)
  simp only [Bool.and_eq_true, bne_iff_ne] at hx
  exact hx.1.1

/-- An enabled edge on a pin of the Shop world that does not change world is its event (15 R653). -/
theorem gpioEdge_event (h : EdgeOn s pin level) (hk : bitOf s.worlds.gpioKeeper pin = false)
    (hm : ∀ y ∈ s.worlds.pinMoving, y.1 ≠ pin) :
    exec (.gpioEdge pin level t) s = .next (gate s (event (148 + pin) (pinLevel pin level (tick t s)))) := by
  refine congrArg (fun v => Host.Outcome.next (gate s v)) ?_
  refine (if_neg (Nat.not_le.mpr hp)).trans (if_pos ?_)
  have hmove : s.worlds.pinMoving.any (fun y => y.1 == pin) = false := by simpa using hm
  simp [pinKeeper, hk, hmove, h.1, h.2]

end

/-- Settles O41: each field acknowledged or written is the one the manual names, and a GPIO edge is an event. -/
theorem registerRows : Obligations.RegisterRows := by
  unfold Obligations.RegisterRows
  intro s
  refine ⟨fun hs => ⟨hostAct_next_quiet hs (by rfl) rfl rfl rfl, hostAct_next_quiet hs (by rfl) rfl rfl rfl,
    hostAct_next_quiet hs (by rfl) rfl rfl rfl, hostAct_next_quiet hs (by rfl) rfl rfl rfl,
    fun g m hg => eventStatusClear_clears hs hg m, fun g i hg hi he => eventStatusClear_met hs hg hi he,
    fun g m meet hg => eventStatusClear_past hs hg m meet, fun g x hg => eventEnableWrite_enable hs hg x,
    fun g x hg => eventEnableWrite_bmc hs hg x, fun g b x hg => eventEnableWrite_past hs hg b x,
    fun x hx => winBaseWrite_next hs hx, winSnapshotDone_next hs⟩,
    fun pin level t hp => ⟨fun h => ?silent, fun hc ho hk hm => ?edge⟩⟩
  case silent =>
    refine gpioEdge_silent hp level t fun ⟨hc, ho⟩ => ?_
    rcases h with h | h
    · exact hc h
    · exact Bool.false_ne_true (h.symm.trans ho)
  case edge =>
    exact ⟨_, gpioEdge_event hp level t ⟨hc, ho⟩ hk hm, event_status _ _, (event_frame _ _).gate rfl⟩

end Machine
end Sys2Proof
end

section
/-!
PROOFS. The timers of the record store (13 R556, R557, R577, R582).
-/
namespace Sys2Proof
namespace Machine

/-! ### Commands of the record store -/

section
variable {c : Instr} {f : State → State} {s v : State}

/-- A command of the record store answers what its meaning leaves behind the egress gate. -/
theorem storeAct_next (hp : s.faults.phase ≠ .off) (hc : exec c s = storeAct f s) (hv : f s = v) :
    exec c s = .next (gate s v) := by
  rw [hc, storeAct_on f s hp, hv]

/-- A command of the record store that puts nothing out answers what its meaning leaves. -/
theorem storeAct_next_quiet (hp : s.faults.phase ≠ .off) (hc : exec c s = storeAct f s) (hv : f s = v) (ho : v.out = s.out)
    (hq : v.pending = s.pending) : exec c s = .next v :=
  (storeAct_next hp hc hv).trans (congrArg _ (gate_quiet s v ho hq))

/-- With the part off the record store stands still. -/
theorem storeAct_off (hp : s.faults.phase = .off) (hc : exec c s = storeAct f s) : Ignores c s := by
  refine hc.trans (act_quiet (if_pos ?_) rfl rfl)
  rw [hp]
  rfl

/-- Outside operation a command of the core has no effect. -/
theorem coreAct_ignored (hp : s.faults.phase ≠ .running) (hc : exec c s = coreAct f s) : Ignores c s :=
  hc.trans (coreAct_idle f s hp)

end

/-! ### The flush -/

/-- A record placed in MRAM leaves the buffer as it is (13 R558, R559). -/
theorem placeRec_buf (s : State) (r : DbRec) : (placeRec s r).day.buf = s.day.buf := by
  unfold placeRec; dsimp only; split
  · rfl
  · split
    · rfl
    · split
      · rfl
      · split <;> rfl

/-- A flush empties the buffer (13 R556). -/
theorem flushAll_buf (s : State) : (flushAll s).day.buf = [] :=
  foldl_keeps (fun v => v.day.buf) placeRec placeRec_buf _ _

/-- A state whose buffer has gone to MRAM with no count of R558 to record. -/
def bufferTaken (s : State) : State :=
  { s with mram := { s.mram with nextSeq := s.mram.nextSeq % 2 ^ 16 }, day := { s.day with buf := [] } }

/-- A flush of one record places it (13 R556, R559, R560). -/
theorem flushAll_single {s : State} {r : DbRec} (hb : s.day.buf = [r]) (h0 : s.day.dropped + s.day.replaced = 0) :
    flushAll s = placeRec (bufferTaken s) r := by
  have hd : dropRec s = [] := if_pos h0
  simp [flushAll, hd, hb, bufferTaken]

theorem placeRec_general {s : State} {r : DbRec} (hp : isProt r = false) (hn : s.mram.general.length < 4096) :
    (placeRec s r).mram.general = Tbl.ins s.mram.general s.mram.general.length r := by
  simp [placeRec, hp, hn]

theorem placeRec_protected {s : State} {r : DbRec} (hp : isProt r = true) (hn : s.mram.protCount.getD (protIx r) 0 < 256) :
    Tbl.find? (placeRec s r).mram.protect (512 * protIx r + s.mram.protCount.getD (protIx r) 0) = some r := by
  simp only [placeRec, hp, hn, if_true]
  exact Tbl.find?_ins_same _ _ _

/-- A record that a flush finds alone in the buffer is in its area afterwards, while that has room (13 R559, R560). -/
theorem flushAll_places {s : State} {r : DbRec} (hb : s.day.buf = [r]) (h0 : s.day.dropped + s.day.replaced = 0) :
    (isProt r = false → s.mram.general.length < 4096 →
      (flushAll s).mram.general = Tbl.ins s.mram.general s.mram.general.length r) ∧
    (isProt r = true → s.mram.protCount.getD (protIx r) 0 < 256 →
      Tbl.find? (flushAll s).mram.protect (512 * protIx r + s.mram.protCount.getD (protIx r) 0) = some r) := by
  rw [flushAll_single hb h0]
  exact ⟨placeRec_general (s := bufferTaken s), placeRec_protected (s := bufferTaken s)⟩

/-- A state after a flush that ends well (13 R556, R561). -/
def flushEnded (s : State) : State :=
  { flushAll s with day := { (flushAll s).day with flushing := false, flushAgain := false } }

theorem flushEnded_frame (s : State) : EvidenceOnly s (flushEnded s) := (flushAll_frame s).trans rfl

/-! ### A Tally -/

/-- A state in which a Tally has advanced (13 R583). -/
def tallyCounted (n k : Nat) (s : State) : State :=
  let x := tally s n
  { s with mram := { s.mram with
      tallies := Tbl.put Tally.reset s.mram.tallies n { x with value := x.value + k, writes := x.writes + 1 } } }

section
variable {n : Nat} (k : Nat) {s : State}

/-- A Tally stands still in a start that reads none, and when it is exhausted (13 R583; 14 R682). -/
theorem tallyAdd_stopped (h : s.faults.skipStep4 = true ∨ (tally s n).exhausted = true) : tallyAdd n k s = s := by
  refine if_pos ?_
  rw [Bool.or_eq_true]
  exact h

/-- A Tally with writes and values left advances (13 R583). -/
theorem tallyAdd_counts {k : Nat} (h4 : s.faults.skipStep4 = false) (hx : (tally s n).exhausted = false)
    (hw : (tally s n).writes < 8000000000) (hv : (tally s n).value + k ≤ tallyMax) : tallyAdd n k s = tallyCounted n k s := by
  refine (if_neg ?_).trans ((if_neg (Nat.not_le.mpr hw)).trans (if_neg (Nat.not_lt.mpr hv)))
  simp [h4, hx]

end

/-! ### The timers -/

section
variable {s : State} (hp : s.faults.phase ≠ .off) (t : Nat)
include hp

theorem daybookFlushTimer_idle (hb : s.day.buf = []) (h0 : s.day.dropped + s.day.replaced = 0) :
    exec (.daybookFlushTimer t) s = .next (tick t s) := by
  refine storeAct_next_quiet hp (by rfl) ?_ rfl rfl
  exact if_pos (by simp [hb, h0])

theorem daybookFlushTimer_begins (h : s.day.buf ≠ [] ∨ s.day.dropped + s.day.replaced ≠ 0) :
    exec (.daybookFlushTimer t) s = .next (beginFlush (tick t s)) := by
  refine storeAct_next_quiet hp (by rfl) ?_ (beginFlush_out _) (beginFlush_frame _).pending
  refine if_neg ?_
  simp only [Bool.and_eq_true, List.isEmpty_iff, decide_eq_true_eq]
  rintro ⟨hb, h0⟩
  rcases h with h | h
  · exact h hb
  · exact h h0

theorem daybookFlushDone_idle (ok : Bool) (h : s.day.flushing = false) :
    exec (.daybookFlushDone ok t) s = .next (tick t s) := by
  refine storeAct_next_quiet hp (by rfl) ?_ rfl rfl
  exact if_pos (by simp [h])

theorem daybookFlushDone_failed (h : s.day.flushing = true) : exec (.daybookFlushDone false t) s = .next (gate s
    (silence 0x000A { tick t s with day := { s.day with flushing := false, flushAgain := false } })) := by
  refine storeAct_next hp (by rfl) ?_
  exact (if_neg (by simp [h])).trans (if_pos rfl)

theorem daybookFlushDone_written (h : s.day.flushing = true) :
    exec (.daybookFlushDone true t) s = .next (gate s (flushEnded (tick t s))) := by
  refine storeAct_next hp (by rfl) ?_
  exact (if_neg (by simp [h])).trans (if_neg Bool.false_ne_true)

/-- Without the anchor MAC key, in a start that reads no Tally, or with Tally 2 exhausted, the tick only moves the time
(13 R579, R582, R583). -/
theorem operatingTimeTick_idle
    (h : s.munim.anchorKey = none ∨ s.faults.skipStep4 = true ∨ (tally s 2).exhausted = true) :
    exec (.operatingTimeTick t) s = .next (tick t s) := by
  refine storeAct_next_quiet hp (by rfl) ?_ rfl rfl
  by_cases hk : s.munim.anchorKey.isSome = true
  · refine (if_pos hk).trans (tallyAdd_stopped 1 ?_)
    exact h.resolve_left fun hn => by simp [hn] at hk
  · exact if_neg hk

theorem operatingTimeTick_counts (hk : s.munim.anchorKey.isSome = true) (h4 : s.faults.skipStep4 = false)
    (hx : (tally s 2).exhausted = false) (hw : (tally s 2).writes < 8000000000) (hv : (tally s 2).value + 1 ≤ tallyMax) :
    exec (.operatingTimeTick t) s = .next (tallyCounted 2 1 (tick t s)) := by
  refine storeAct_next_quiet hp (by rfl) ?_ rfl rfl
  exact (if_pos hk).trans (tallyAdd_counts h4 hx hw hv)

end

/-! ### BOOT_CLOSE_TIMER -/

theorem sendMsix_day (v : Nat) (s : State) : (sendMsix v s).day = s.day := by
  unfold sendMsix; repeat (first | rfl | split)

theorem ibiCheck_day (s : State) : (ibiCheck s).day = s.day := by
  unfold ibiCheck; repeat (first | rfl | split)

/-- An event source leaves the Daybook as it is. -/
theorem event_day (src : Nat) (s : State) : (event src s).day = s.day := by
  unfold event; dsimp only; split
  · rfl
  · refine (ibiCheck_day _).trans ?_
    split
    · exact sendMsix_day _ _
    · rfl

theorem EvidenceOnly.broll {s t : State} (h : EvidenceOnly s t) : t.mram.broll = s.mram.broll := by
  have e := congrArg (fun v => v.mram.broll) h; exact e

/-- A state in which the intake of the Boot Roll has closed, before its event (13 R577). -/
def bootClosed (reason : Nat) (s : State) : State :=
  let v := recordThrough 0x0302 sevInfo ((tally s 0).value % 2 ^ 32) reason (missingMask s)
    (bootAppend 0x30 0 reason (missingMask s) [] s)
  { v with day := { v.day with bootOpen := false } }

theorem closeBoot_open {s : State} (h : s.day.bootOpen = true) (reason : Nat) :
    closeBoot reason s = event 13 (bootClosed reason s) := if_pos h

/-- The close block enters the Boot Roll, which takes no other block by it (13 R577). -/
theorem bootClosed_broll (reason : Nat) (s : State) :
    (bootClosed reason s).mram.broll = (bootAppend 0x30 0 reason (missingMask s) [] s).mram.broll :=
  (recordThrough_frame _ _ _ _ _ _).broll

section
variable {s : State} (hs : Serving s) (t : Nat)
include hs

theorem bootCloseTimer_idle (h : s.faults.pdbStart = none ∨ s.day.bootOpen = false) :
    exec (.bootCloseTimer t) s = .next (tick t s) := by
  refine coreAct_next_quiet hs (by rfl) ?_ rfl rfl
  rcases h with h | h
  · exact if_neg (by simp [h])
  · have hc : closeBoot 2 (tick t s) = tick t s := if_neg (by simp [h])
    exact (congrArg (fun v => ite _ v _) hc).trans (ite_self _)

theorem bootCloseTimer_closes (hp : s.faults.pdbStart.isSome = true) (h : s.day.bootOpen = true) :
    exec (.bootCloseTimer t) s = .next (gate s (event 13 (bootClosed 2 (tick t s)))) := by
  refine coreAct_next hs (by rfl) ?_
  exact (if_pos hp).trans (closeBoot_open (s := tick t s) h 2)

end

end Machine
end Sys2Proof
end

section
/-!
PROOFS. The Bindery and the Stacks: failures, requests and what comes back for them, patrol, remapping, heat and command errors
(08 R381 to R391, R684, R687).
-/
namespace Sys2Proof
namespace Machine

/-! ### Failures of the Stacks -/

/-- The part is in Silence with a cause (11 R495, R497). -/
def Lost (cause : Nat) (v : State) : Prop := v.faults.silent = true ∧ v.faults.lastCause = cause

theorem silence_lost (cause : Nat) {s : State} (h : s.faults.silent = false) : Lost cause (silence cause s) := by
  obtain ⟨hs, -, hc, -⟩ := silenceAt_loud 1 cause h
  exact ⟨hs, hc⟩

theorem silenceFrame_stk (level cause : Nat) (s : State) : (silenceFrame level cause s).stk = s.stk := by
  unfold silenceFrame; split <;> rfl

/-- Entry to Silence clears the Bindery keys and leaves the rest of the Stacks (11 R495). -/
theorem silenceAt_stk (level cause : Nat) {s : State} (h : s.faults.silent = false) :
    (silenceAt level cause s).stk = { s.stk with keysFormed := false } := by
  have hl : ¬ s.faults.silent = true := by simp [h]
  unfold silenceAt
  rw [if_neg hl]
  calc (beginFlush (stopEngines (silenceFrame level cause (silenceEvidence level cause s)))).stk
      = { (silenceFrame level cause (silenceEvidence level cause s)).stk with keysFormed := false } := (beginFlush_frame _).stk
    _ = { s.stk with keysFormed := false } := by rw [silenceFrame_stk, (silenceEvidence_frame level cause s).stk]

/-- What a failure leaves of the Stacks: the first one fills the failure report, and nothing is pending (08 R391, R684). -/
def failureTaken (f : Failing) (x : Stacks) : Stacks :=
  let y := if !x.ifValid && f.kind != 12 then { x with
      ifValid := true, ifKind := f.kind, ifChannel := f.channel, ifLevel := f.level, ifMaster := f.master, ifAddr := f.addr,
      ifIndex := f.index } else x
  let z := if f.kind = 4 || f.kind = 5 then { y with owed := y.owed ++ [(f.kind, f.channel, f.level, f.index, f.addr)] } else y
  { z with reqs := [] }

/-- A failure of the Stacks is a record and then Silence (08 R391, R392). -/
theorem stacksFail_eq (f : Failing) (s : State) : stacksFail f s = silence (0x0100 + f.kind)
    (record 0x0801 sevSilence (f.kind + f.channel * 2 ^ 8 + f.level * 2 ^ 12) f.index f.addr
      { s with stk := failureTaken f s.stk }) := rfl

section
variable {s : State} (h : s.faults.silent = false)
include h

theorem stacksFail_lost (f : Failing) : Lost (0x0100 + f.kind) (stacksFail f s) := by
  rw [stacksFail_eq]
  refine silence_lost _ ?_
  rw [(record_frame _ _ _ _ _ _).faults]
  exact h

theorem stacksFail_stk (f : Failing) : (stacksFail f s).stk = { failureTaken f s.stk with keysFormed := false } := by
  have hr := record_frame 0x0801 sevSilence (f.kind + f.channel * 2 ^ 8 + f.level * 2 ^ 12) f.index f.addr
    { s with stk := failureTaken f s.stk }
  rw [stacksFail_eq, silence, silenceAt_stk _ _ (by rw [hr.faults]; exact h), hr.stk]

/-- A failure at any item is Silence with its kind (08 R391, R392). -/
theorem failItem_lost (kind ch a master : Nat) : Lost (0x0100 + kind) (failItem kind ch a master s) := by
  unfold failItem
  split
  · exact stacksFail_lost h _
  · exact stacksFail_lost h _
  · exact stacksFail_lost h _
  · exact stacksFail_lost h _

theorem failPlain_lost (kind ch master : Nat) : Lost (0x0100 + kind) (failPlain kind ch master s) := stacksFail_lost h _

end

/-- The report of the first failure names its kind and its index (08 R684). -/
theorem failureTaken_report {f : Failing} {x : Stacks} (hv : x.ifValid = false) (hk : f.kind ≠ 12) :
    (failureTaken f x).ifKind = f.kind ∧ (failureTaken f x).ifIndex = f.index := by
  have hl : (!x.ifValid && f.kind != 12) = true := by simp [hv, hk]
  unfold failureTaken
  rw [if_pos hl]
  dsimp only
  split <;> exact ⟨rfl, rfl⟩

/-! ### Requests and their access check -/

/-- An access whose Deed entry shows no error is checked and performed or refused (09 R416). -/
theorem accessCheck_next {s : State} (hs : Serving s) (q : AccReq) (t : Nat) :
    exec (.accessCheck q 0 t) s = .next (gate s (checkAccess q (tick t s))) := by
  have ha : alive s = true := by rw [alive, show s.faults.phase = .running from hs]; rfl
  refine worldAct_next ha (by rfl) ?_
  have hm : meetDeedError q 0 (tick t s) = tick t s := by
    unfold meetDeedError
    split <;> rfl
  have hd : ∀ v, deedHold q 0 v = v := fun v => if_pos (by simp)
  dsimp only
  rw [hm, hd]

section
variable {s : State} (hs : Serving s) {q : BindReq} (b : Bytes) (t : Nat)
include hs

/-- A request of another shape has no effect (08 R381). -/
theorem binderyRead_malformed (hq : bindReqOk q = false) : exec (.binderyRead q t) s = .next (tick t s) := by
  refine coreAct_next_quiet hs (by rfl) ?_ rfl rfl
  exact if_pos (by simp [hq])

theorem binderyWrite_malformed (hq : bindReqOk q = false) : exec (.binderyWrite q b t) s = .next (tick t s) := by
  refine coreAct_next_quiet hs (by rfl) ?_ rfl rfl
  exact if_pos (by simp [hq])

/-- The access check runs before anything else (08 R381). -/
theorem binderyRead_next (hq : bindReqOk q = true) :
    exec (.binderyRead q t) s = .next (gate s (checkAccess ⟨q.who, 1, q.sla, q.len, .read⟩ (tick t s))) := by
  refine coreAct_next hs (by rfl) ?_
  exact if_neg (by simp [hq])

theorem binderyWrite_next (hq : bindReqOk q = true) : exec (.binderyWrite q b t) s =
    .next (gate s (checkAccess ⟨q.who, 1, q.sla, q.len, .write (fit q.len b)⟩ (tick t s))) := by
  refine coreAct_next hs (by rfl) ?_
  exact if_neg (by simp [hq])

end

/-! ### The queue of the Bindery -/

/-- With every request issued, or in Silence, the Bindery waits (08 R385). -/
theorem pump_waits {s : State} (h : s.faults.silent = true ∨ ∀ r ∈ s.stk.reqs, r.issued = true) (n : Nat) : pump n s = s := by
  cases n with
  | zero => rfl
  | succ n =>
    rw [pump]
    rcases h with h | h
    · exact if_pos (by simp [h])
    · have hf : s.stk.reqs.find? (fun r => !r.issued && !mustWait s r) = none := by
        rw [List.find?_eq_none]
        intro r hr
        simp [h r hr]
      rw [hf]
      exact ite_self _

theorem runBindery_waits {s : State} (h : s.faults.silent = true ∨ ∀ r ∈ s.stk.reqs, r.issued = true) : runBindery s = s :=
  pump_waits h _

theorem runBindery_empty {s : State} (h : s.stk.reqs = []) : runBindery s = s :=
  runBindery_waits (.inr fun _ hr => absurd (h ▸ hr) List.not_mem_nil)

/-- A request alone in the Bindery, with no block being copied, need not wait (08 R385, R390). -/
theorem mustWait_alone {s : State} {r : BReq} (hr : s.stk.reqs = [r]) (hm : ∀ ch, (chan s ch).remapping = []) :
    mustWait s r = false := by
  simp [mustWait, hr, remapBusy, hm]

/-- A request alone in the Bindery is issued (08 R382, R385). -/
theorem runBindery_alone {s : State} {r : BReq} (hl : s.faults.silent = false) (hc : s.stk.catReady = true)
    (hr : s.stk.reqs = [r]) (hi : r.issued = false) (hm : ∀ ch, (chan s ch).remapping = []) :
    runBindery s = pump 17 (issueReq r s) := by
  have hf : s.stk.reqs.find? (fun r => !r.issued && !mustWait s r) = some r := by
    rw [hr]
    simp [hi, mustWait_alone hr hm]
  rw [runBindery, show 2 * s.stk.reqs.length + 16 = 17 + 1 by rw [hr]; rfl, pump, hf]
  exact if_neg (by simp [hl, hc])

/-- A state in which a request has its plan (08 R382). -/
def reqPlanned (r : BReq) (s : State) : State :=
  { s with stk := { s.stk with
      reqs := s.stk.reqs.map (fun x => if x.id = r.id then { x with issued := true, plan := planOf s r } else x) } }

/-- The DRAM read of an item of a plan (08 R382, R390). -/
def readFor (s : State) (r : BReq) (p : Nat × Nat) : Out :=
  let a := planAddr (channels s) (reqSector r) p
  .dramRead r.id a.1 (physical s a.1 a.2)

/-- Outputs that no output changes go out in order. -/
theorem foldl_emit {α : Type} {f : State → α → Out} (hf : ∀ s o a, f (emit o s) a = f s a) (l : List α) (s : State) :
    l.foldl (fun s a => emit (f s a) s) s = emits (l.map (f s)) s := by
  induction l generalizing s with
  | nil => exact (congrArg (fun o => { s with out := o }) (List.append_nil s.out)).symm
  | cons a l ih =>
    rw [List.foldl_cons, ih, funext (hf s (f s a))]
    simp [emits, emit]

/-- The DRAM reads of a plan are issued (08 R382). -/
theorem issueReq_reads {r : BReq} {s : State} (h : planOf s r ≠ []) :
    issueReq r s = emits ((planOf s r).map (readFor s r)) (reqPlanned r s) := by
  have he : ¬ (planOf s r).isEmpty = true := by simpa using h
  refine (if_neg he).trans ?_
  exact foldl_emit (f := fun v p => .dramRead r.id (planAddr (channels s) (reqSector r) p).1
    (physical v (planAddr (channels s) (reqSector r) p).1 (planAddr (channels s) (reqSector r) p).2)) (fun _ _ _ => rfl) _ _

/-- A request that needs no read ends at once (08 R382). -/
theorem issueReq_whole {r : BReq} {s : State} (h : planOf s r = []) : issueReq r s = finishReq r [] (reqPlanned r s) :=
  if_pos (by simp [h])

/-! ### The end of a read -/

/-- The plaintext of a sector by the lines read (08 R375, R379, R382). -/
def sectorText (s : State) (n : Nat) (lines : List (Nat × Bytes)) : Bytes :=
  if (versionOf s 0 n).getD 0 = 0 then zeros 512
  else decryptSector s n (((List.range 8).map (fun l =>
    ((lines.find? (fun p => p.1 == l)).map (fun p => fit 64 p.2)).getD (zeros 64))).flatten)

/-- A state in which a read has ended and its bytes are still to be delivered (08 R382, R384). -/
def readEnded (r : BReq) (s : State) : State := perfAdd 16 r.len (touchPath (reqSector r) (dropReq r.id s))

section
variable (r : BReq) (s : State)

theorem readEnded_faults : (readEnded r s).faults = s.faults := by rw [readEnded, perfAdd_faults]; rfl

theorem readEnded_out : (readEnded r s).out = s.out := by rw [readEnded, perfAdd_out]; rfl

theorem readEnded_pending : (readEnded r s).pending = s.pending := by rw [readEnded, perfAdd_pending]; rfl

theorem readEnded_nextId : (readEnded r s).nextId = s.nextId := by rw [readEnded, perfAdd_nextId]; rfl

theorem readEnded_roots : (readEnded r s).stk.roots = s.stk.roots := by rw [readEnded, perfAdd_stk]; rfl

theorem readEnded_reqs : (readEnded r s).stk.reqs = s.stk.reqs.filter (fun x => x.id != r.id) := by
  rw [readEnded, perfAdd_stk]; rfl

/-- The only request of the Bindery leaves none (08 R382). -/
theorem readEnded_alone {x : BReq} (h : s.stk.reqs = [x]) (hx : x.id = r.id) : (readEnded r s).stk.reqs = [] := by
  rw [readEnded_reqs, h]
  simp [hx]

end

/-- A read ends with the delivery of its bytes (08 R382). -/
theorem finishReq_read {r : BReq} (hw : r.write = none) (lines : List (Nat × Bytes)) (s : State) : finishReq r lines s =
    deliver r (slice (sectorText s (reqSector r) lines) (r.sla % 512) r.len) (readEnded r s) := by
  simp only [finishReq, hw]
  rfl

theorem sectorText_empty {s : State} {n : Nat} (hv : versionOf s 0 n = some 0) (lines : List (Nat × Bytes)) :
    sectorText s n lines = zeros 512 := if_pos (by rw [hv]; rfl)

/-- The bytes of a sector of which one line has been read. -/
def oneLine (l : Nat) (b : Bytes) : Bytes := ((List.range 8).map (fun k => if k = l then fit 64 b else zeros 64)).flatten

/-- With one line read the other lines of the sector count as zero (08 R382). -/
theorem sectorText_line {s : State} {n l v : Nat} (b : Bytes) (hv : versionOf s 0 n = some v) (h0 : v ≠ 0) :
    sectorText s n [(l, b)] = decryptSector s n (oneLine l b) := by
  have hk : ∀ k, (([(l, b)].find? (fun p => p.1 == k)).map (fun p => fit 64 p.2)).getD (zeros 64) =
      if k = l then fit 64 b else zeros 64 := by
    intro k
    by_cases h : k = l
    · simp [h]
    · simp [h, Ne.symm h]
  rw [sectorText, hv, if_neg (by simpa using h0)]
  simp only [hk]
  rfl

/-- A read for a master that takes data answers it (08 R382). -/
theorem deliver_answers {r : BReq} (hd : r.dest = none) (hm : r.who ≠ .none) (b : Bytes) (s : State) :
    deliver r b s = emit (.clerkData b) s := by
  simp only [deliver, hd]
  exact if_neg hm

theorem addWrites_faults (who : Master) (a : Nat) (b : Bytes) (s : State) : (addWrites who a b s).faults = s.faults := by
  refine foldl_keeps State.faults _ ?_ _ s
  exact fun _ _ => rfl

/-- The delivery of data raises no fault. -/
theorem deliver_faults (r : BReq) (b : Bytes) (s : State) : (deliver r b s).faults = s.faults := by
  unfold deliver
  split
  · split <;> rfl
  · rfl
  · exact addWrites_faults _ _ _ _
  · rfl

/-- The issue of a read raises no fault. -/
theorem issueReq_faults {r : BReq} (hw : r.write = none) (s : State) : (issueReq r s).faults = s.faults := by
  by_cases h : planOf s r = []
  · rw [issueReq_whole h, finishReq_read hw, deliver_faults, readEnded_faults, reqPlanned]
  · rw [issueReq_reads h, emits_faults, reqPlanned]

/-! ### BINDERY_READ -/

/-- A request for a read as it reaches the Bindery (08 R381). -/
def readReq (q : BindReq) (id : Nat) : BReq :=
  { id := id, write := none, sla := q.sla, len := q.len, who := q.who, issued := false, plan := [], retried := false, lost := 0,
    dest := none }

/-- A state in which the Bindery has a further request (08 R381). -/
def readQueued (q : BindReq) (s : State) : State := addReq q.who q.sla q.len none none s

/-- An access within one sector is one piece (08 R381). -/
theorem sectorPieces_within {a n : Nat} (h0 : 0 < n) (h : a % 512 + n ≤ 512) (fuel : Nat) :
    sectorPieces (fuel + 2) a n = [(a, n)] := by
  have hk : min n (512 - a % 512) = n := Nat.min_eq_left (by omega)
  simp [sectorPieces, hk, Nat.pos_iff_ne_zero.mp h0]

/-- A request of a proper shape is not empty and lies within one sector (08 R381). -/
theorem bindReqOk_within {q : BindReq} (hq : bindReqOk q = true) : 0 < q.len ∧ q.sla % 512 + q.len ≤ 512 := by
  simp only [bindReqOk, Bool.and_eq_true, decide_eq_true_eq, beq_iff_eq] at hq
  omega

section
variable {s : State} {q : BindReq} (hq : bindReqOk q = true)
include hq

theorem addReads_within : addReads q.who q.sla q.len none s = readQueued q s := by
  obtain ⟨h0, hw⟩ := bindReqOk_within hq
  rw [addReads, sectorPieces_within h0 hw]
  rfl

/-- A read that passes its check goes to the Bindery (08 R381, 09 R416). -/
theorem checkAccess_read (hv : violationOf s ⟨q.who, 1, q.sla, q.len, .read⟩ = none) :
    checkAccess ⟨q.who, 1, q.sla, q.len, .read⟩ s = runBindery (readQueued q s) := by
  rw [← addReads_within hq]
  simp [checkAccess, hv, perform]

end

/-- A state in which a request alone in the Bindery has its plan (08 R382). -/
def readWaiting (q : BindReq) (plan : List (Nat × Nat)) (s : State) : State :=
  { s with nextId := s.nextId + 1, stk := { s.stk with reqs := [{ readReq q s.nextId with issued := true, plan := plan }] } }

theorem readWaiting_reqs (q : BindReq) (plan : List (Nat × Nat)) (s : State) :
    (readWaiting q plan s).stk.reqs = [{ readReq q s.nextId with issued := true, plan := plan }] := rfl

theorem planOf_readQueued (q : BindReq) (s : State) (r : BReq) : planOf (readQueued q s) r = planOf s r := rfl

theorem readQueued_reqs (q : BindReq) (s : State) : (readQueued q s).stk.reqs = s.stk.reqs ++ [readReq q s.nextId] := rfl

theorem reqPlanned_readQueued (q : BindReq) {s : State} (hr : s.stk.reqs = []) :
    reqPlanned (readReq q s.nextId) (readQueued q s) = readWaiting q (planOf s (readReq q s.nextId)) s := by
  rw [reqPlanned, readQueued_reqs, hr, planOf_readQueued]
  simp [readWaiting, readQueued, addReq, readReq]

section
variable {s : State} (q : BindReq) (hl : s.faults.silent = false) (hc : s.stk.catReady = true) (hr : s.stk.reqs = [])
  (hm : ∀ ch, (chan s ch).remapping = [])
include hl hc hr hm

/-- A read that finds the Bindery idle is issued (08 R382, R385). -/
theorem runBindery_readQueued :
    runBindery (readQueued q s) = pump 17 (issueReq (readReq q s.nextId) (readQueued q s)) := by
  refine runBindery_alone hl hc ?_ rfl hm
  rw [readQueued_reqs, hr, List.nil_append]

/-- A read with a plan waits for its lines (08 R382). -/
theorem runBindery_reads (hp : planOf s (readReq q s.nextId) ≠ []) : runBindery (readQueued q s) =
    emits ((planOf s (readReq q s.nextId)).map (readFor s (readReq q s.nextId)))
      (readWaiting q (planOf s (readReq q s.nextId)) s) := by
  rw [runBindery_readQueued q hl hc hr hm, issueReq_reads (s := readQueued q s) hp, reqPlanned_readQueued q hr,
    planOf_readQueued, pump_waits]
  · rfl
  · exact .inr fun r h => by rw [List.mem_singleton.mp h]

/-- A read of a sector that holds nothing is answered at once (08 R379, R382). -/
theorem runBindery_answers (hp : planOf s (readReq q s.nextId) = []) (hv : versionOf s 0 (q.sla / 512) = some 0)
    (hw : q.who ≠ .none) : runBindery (readQueued q s) =
    emit (.clerkData (slice (zeros 512) (q.sla % 512) q.len)) (readEnded (readReq q s.nextId) (readWaiting q [] s)) := by
  have hz : sectorText (readWaiting q [] s) (q.sla / 512) [] = zeros 512 := sectorText_empty hv []
  rw [runBindery_readQueued q hl hc hr hm, issueReq_whole (s := readQueued q s) hp, reqPlanned_readQueued q hr, hp,
    finishReq_read (by rfl), deliver_answers (by rfl) hw, show reqSector (readReq q s.nextId) = q.sla / 512 from rfl, hz,
    pump_waits]
  · rfl
  · refine .inr fun x h => ?_
    rw [emit_stk, readEnded_alone (readReq q s.nextId) _ (readWaiting_reqs q [] s) rfl] at h
    exact absurd h List.not_mem_nil

end

section
variable {s : State} (hs : Open s) {q : BindReq} (t : Nat) (hq : bindReqOk q = true)
  (hv : violationOf (tick t s) ⟨q.who, 1, q.sla, q.len, .read⟩ = none) (hc : s.stk.catReady = true) (hr : s.stk.reqs = [])
  (hm : ∀ ch, (chan s ch).remapping = [])
include hs hq hv hc hr hm

/-- A read that needs lines issues their DRAM reads (08 R382). -/
theorem binderyRead_reads (hp : planOf s (readReq q s.nextId) ≠ []) : exec (.binderyRead q t) s =
    .next (emits ((planOf s (readReq q s.nextId)).map (readFor s (readReq q s.nextId)))
      (readWaiting q (planOf s (readReq q s.nextId)) (tick t s))) := by
  have hb := runBindery_reads (s := tick t s) q hs.2 hc hr hm hp
  rw [binderyRead_next hs.1 t hq, checkAccess_read hq hv, hb]
  exact congrArg _ (gate_appends s _ _ hs.2 rfl rfl)

/-- A read that needs none is answered, and nothing is pending (08 R379, R382). -/
theorem binderyRead_answers (hp : planOf s (readReq q s.nextId) = []) (h0 : versionOf s 0 (q.sla / 512) = some 0)
    (hw : q.who ≠ .none) : Does (.binderyRead q t) s (fun v =>
      .clerkData (slice (zeros 512) (q.sla % 512) q.len) ∈ v.out ∧ v.stk.reqs = [] ∧ v.nextId = s.nextId + 1 ∧
      v.stk.roots = s.stk.roots ∧ v.faults = (tick t s).faults) := by
  have hb := runBindery_answers (s := tick t s) q hs.2 hc hr hm hp h0 hw
  have hx := binderyRead_next hs.1 t hq
  rw [checkAccess_read hq hv, hb,
    gate_appends s _ [_] hs.2 (by rw [emit_out, readEnded_out]; rfl) (by rw [emit_pending, readEnded_pending]; rfl)] at hx
  refine ⟨_, hx, ?_, ?_, ?_, ?_, ?_⟩
  · rw [emit_out]
    exact List.mem_append_right _ (List.mem_singleton_self _)
  · rw [emit_stk]
    exact readEnded_alone _ _ (readWaiting_reqs q [] _) rfl
  · rw [emit_nextId, readEnded_nextId]
    rfl
  · rw [emit_stk, readEnded_roots]
    rfl
  · rw [emit_faults, readEnded_faults]
    rfl

end

/-! ### DRAM_READ_COMPLETION -/

/-- What follows from the lines of a request (08 R382, R388). -/
def linesAnswered (r : BReq) (lines : List (LineEcc × Bytes)) (s : State) : State :=
  let s1 := runBindery (answerReq r lines s)
  if r.retried && !s1.faults.silent && !s1.stk.reqs.any (fun x => x.retried) then holdClear .bindery s1 else s1

/-- What follows from the data of a request: a bad store, datapaths that differ, or its lines (08 R382, R391). -/
def completedRead (r : BReq) (d : DramData) (s : State) : State :=
  if d.storeBad then failPlain 7 0 0xFFFF s else if d.differ then datapathsDiffer r s else linesAnswered r d.lines s

/-- The only request of the Bindery is found by its name once it is issued. -/
theorem find_alone {s : State} {r : BReq} (hr : s.stk.reqs = [r]) (hi : r.issued = true) :
    s.stk.reqs.find? (fun x => x.id == r.id && x.issued) = some r := by
  rw [hr]
  simp [hi]

section
variable {s : State} (hs : Serving s) (d : DramData) (t : Nat)
include hs

/-- A completion that no issued request waits for has no effect. -/
theorem dramReadCompletion_stray {i : Nat} (h : s.stk.reqs.find? (fun r => r.id == i && r.issued) = none) :
    exec (.dramReadCompletion i d t) s = .next (tick t s) := by
  refine coreAct_next_quiet hs (by rfl) ?_ rfl rfl
  dsimp only
  rw [tick_stk, h]

variable {r : BReq} (hr : s.stk.reqs = [r]) (hi : r.issued = true)
include hr hi

/-- A completion with another number of lines has no effect. -/
theorem dramReadCompletion_length (h : d.lines.length ≠ r.plan.length) :
    exec (.dramReadCompletion r.id d t) s = .next (tick t s) := by
  refine coreAct_next_quiet hs (by rfl) ?_ rfl rfl
  dsimp only
  rw [tick_stk, find_alone hr hi]
  exact if_pos h

theorem dramReadCompletion_next (h : d.lines.length = r.plan.length) :
    exec (.dramReadCompletion r.id d t) s = .next (gate s (completedRead r d (tick t s))) := by
  refine coreAct_next hs (by rfl) ?_
  dsimp only
  rw [tick_stk, find_alone hr hi]
  refine (if_neg (not_not.mpr h)).trans ?_
  rfl

end

/-- A state that has entered the time of a difference of the datapaths (11 R499). -/
def differNoted (s : State) : State :=
  { s with faults := { s.faults with binderyTimes := within 1000000000 s.faults.binderyTimes s.clock } }

/-- Datapaths that differ a second time end in Silence 0x0108 (08 R391). -/
theorem datapathsDiffer_again {s : State} {r : BReq} (hl : s.faults.silent = false)
    (h : (∃ x ∈ s.faults.binderyTimes, s.clock < x + 1000000000) ∨ r.retried = true) :
    Lost 0x0108 (datapathsDiffer r s) := by
  have e : datapathsDiffer r s = failItem 8 (lineAddr (channels s) (reqSector r) (r.sla % 512 / 64)).1
      (lineAddr (channels s) (reqSector r) (r.sla % 512 / 64)).2 (masterId s r.who) (differNoted s) := by
    refine if_pos ?_
    rw [Bool.or_eq_true]
    refine h.imp_left fun ⟨x, hx, hlt⟩ => ?_
    exact List.any_eq_true.mpr ⟨x, hx, decide_eq_true hlt⟩
  rw [e]
  exact failItem_lost (s := differNoted s) hl _ _ _ _

/-- A cause that arises outside Silence is one of the Hold in force (11 R488). -/
theorem holdEnter_holds {s : State} (hl : s.faults.silent = false) (c : HoldCause) (tainting : Bool) :
    c ∈ (holdEnter c tainting s).faults.holds ∧ (holdEnter c tainting s).faults.holdCovered = true := by
  cases hh : s.faults.holdCovered with
  | false =>
    obtain ⟨hc, -, hm, -⟩ := holdEnter_begins c tainting hl hh
    exact ⟨hm, hc⟩
  | true =>
    have hm : c ∈ (if s.faults.holds.contains c then s.faults.holds else s.faults.holds ++ [c]) := by
      split
      · simpa using ‹s.faults.holds.contains c = true›
      · exact List.mem_append_right _ (List.mem_singleton_self c)
    simp only [holdEnter, hl, hh, Bool.false_eq_true, if_false, if_true]
    exact ⟨hm, trivial⟩

/-- Datapaths that differ for the first time hold the part (08 R391; 11 R499). -/
theorem datapathsDiffer_first {s : State} {r : BReq} (hl : s.faults.silent = false)
    (h : ∀ x ∈ s.faults.binderyTimes, x + 1000000000 ≤ s.clock) (hr : r.retried = false) (hw : r.write = none) :
    HoldCause.bindery ∈ (datapathsDiffer r s).faults.holds ∧ (datapathsDiffer r s).faults.holdCovered = true := by
  have ha : ¬ (s.faults.binderyTimes.any (fun x => decide (s.clock < x + 1000000000)) || r.retried) = true := by
    simpa [hr] using h
  have e : datapathsDiffer r s = _ := if_neg ha
  rw [e, issueReq_faults (by exact hw)]
  refine holdEnter_holds ?_ _ _
  rw [(record_frame _ _ _ _ _ _).faults]
  exact hl

/-! ### One line that comes back -/

/-- The failure of a line whose tag is wrong (08 R382, R684). -/
def tagFailure (s : State) (r : BReq) (l : Nat) : Failing :=
  let a := lineAddr (channels s) (reqSector r) l
  ⟨4, a.1, 0, a.2, reqSector r, masterId s r.who⟩

theorem evict_within {s : State} (h : s.stk.nodes.length ≤ 32768) (n : Nat) : evict n s = s := by
  cases n with
  | zero => rfl
  | succ n => exact if_pos h

section
variable {s : State} {r : BReq} {l v : Nat} {tags : Bytes} (b : Bytes)

/-- The tags of one line are right (08 R382). -/
theorem checkTags_right (h : slice tags (8 * l) 8 = lineTag s (reqSector r) l v (fit 64 b)) :
    checkTags r v tags [(l, b)] s = s := by
  simp [checkTags, h]

/-- The tags of one line are wrong: a failure of kind 4 (08 R382, R391). -/
theorem checkTags_wrong (h : slice tags (8 * l) 8 ≠ lineTag s (reqSector r) l v (fit 64 b)) :
    checkTags r v tags [(l, b)] s = stacksFail (tagFailure s r l) s := by
  simp [checkTags, h, tagFailure]

variable (hp : r.plan = [(0, l)]) (hl : s.faults.silent = false) (hn : s.stk.nodes.length ≤ 32768)
  (hv : versionOf s 0 (reqSector r) = some v) (hv0 : v ≠ 0) (ht : tagsOf s (reqSector r) = some tags)
include hp hl hn hv hv0 ht

/-- A clean line of a written sector is judged by its tag (08 R382). -/
theorem answerReq_line : answerReq r [(.clean, b)] s =
    (if (checkTags r v tags [(l, b)] s).faults.silent then checkTags r v tags [(l, b)] s
     else finishReq r [(l, b)] (checkTags r v tags [(l, b)] s)) := by
  simp [answerReq, hp, eccOf, badOf, evict_within hn, hl, hv, hv0, ht]

variable (hret : r.retried = false)
include hret

/-- A line with the right tag answers the plaintext (08 R382). -/
theorem linesAnswered_right (hr : s.stk.reqs = [r]) (hw : r.write = none) (hd : r.dest = none) (hm : r.who ≠ .none)
    (h : slice tags (8 * l) 8 = lineTag s (reqSector r) l v (fit 64 b)) : linesAnswered r [(.clean, b)] s =
      emit (.clerkData (slice (decryptSector s (reqSector r) (oneLine l b)) (r.sla % 512) r.len)) (readEnded r s) := by
  have hq : (readEnded r s).stk.reqs = [] := readEnded_alone r s hr rfl
  have ha : answerReq r [(.clean, b)] s =
      emit (.clerkData (slice (decryptSector s (reqSector r) (oneLine l b)) (r.sla % 512) r.len)) (readEnded r s) := by
    rw [answerReq_line b hp hl hn hv hv0 ht, checkTags_right b h, if_neg (by simp [hl]), finishReq_read hw, deliver_answers hd hm,
      sectorText_line b hv hv0]
  rw [linesAnswered, ha, runBindery_empty (by rw [emit_stk, hq])]
  exact if_neg (by simp [hret])

/-- A line with a wrong tag is Silence 0x0104 (08 R382, R391). -/
theorem linesAnswered_wrong (h : slice tags (8 * l) 8 ≠ lineTag s (reqSector r) l v (fit 64 b)) :
    linesAnswered r [(.clean, b)] s = stacksFail (tagFailure s r l) s := by
  have hf := (stacksFail_lost hl (tagFailure s r l)).1
  rw [linesAnswered, answerReq_line b hp hl hn hv hv0 ht, checkTags_wrong b h, if_pos hf, runBindery_waits (.inl hf)]
  exact if_neg (by simp [hret])

end

section
variable {s : State} (hs : Open s) (t : Nat) {r : BReq} {l v : Nat} {tags b : Bytes} (hr : s.stk.reqs = [r]) (hi : r.issued = true)
  (hp : r.plan = [(0, l)]) (hret : r.retried = false) (hn : s.stk.nodes.length ≤ 32768)
  (hv : versionOf s 0 (reqSector r) = some v) (hv0 : v ≠ 0) (ht : tagsOf s (reqSector r) = some tags)
include hs hr hi hp

/-- The only line of a plan comes back clean. -/
theorem dramReadCompletion_line : exec (.dramReadCompletion r.id ⟨[(.clean, b)], false, false⟩ t) s =
    .next (gate s (linesAnswered r [(.clean, b)] (tick t s))) :=
  dramReadCompletion_next hs.1 ⟨[(.clean, b)], false, false⟩ t hr hi (by rw [hp]; rfl)

include hret hn hv hv0 ht

/-- A line with the right tag answers the plaintext, and the request is over (08 R382). -/
theorem dramReadCompletion_right (hw : r.write = none) (hd : r.dest = none) (hm : r.who ≠ .none)
    (h : slice tags (8 * l) 8 = lineTag s (reqSector r) l v (fit 64 b)) :
    Does (.dramReadCompletion r.id ⟨[(.clean, b)], false, false⟩ t) s (fun x =>
      .clerkData (slice (decryptSector s (reqSector r) (oneLine l b)) (r.sla % 512) r.len) ∈ x.out ∧ x.stk.reqs = [] ∧
      x.faults = (tick t s).faults) := by
  have hx := dramReadCompletion_line hs t hr hi hp (b := b)
  rw [linesAnswered_right (s := tick t s) b hp hs.2 hn hv hv0 ht hret hr hw hd hm h,
    gate_appends s _ [_] hs.2 (by rw [emit_out, readEnded_out]; rfl) (by rw [emit_pending, readEnded_pending]; rfl)] at hx
  refine ⟨_, hx, ?_, ?_, ?_⟩
  · rw [emit_out]
    exact List.mem_append_right _ (List.mem_singleton_self _)
  · rw [emit_stk]
    exact readEnded_alone r _ hr rfl
  · rw [emit_faults, readEnded_faults]

/-- A line with a wrong tag is Silence 0x0104, with its report, and nothing is pending (08 R382, R391, R684). -/
theorem dramReadCompletion_wrong (h : slice tags (8 * l) 8 ≠ lineTag s (reqSector r) l v (fit 64 b)) :
    Does (.dramReadCompletion r.id ⟨[(.clean, b)], false, false⟩ t) s (fun x => Lost 0x0104 x ∧ x.stk.reqs = [] ∧
      (s.stk.ifValid = false → x.stk.ifKind = 4 ∧ x.stk.ifIndex = reqSector r)) := by
  have hx := dramReadCompletion_line hs t hr hi hp (b := b)
  rw [linesAnswered_wrong (s := tick t s) b hp hs.2 hn hv hv0 ht hret h] at hx
  refine ⟨_, hx, stacksFail_lost (s := tick t s) hs.2 _, ?_, fun hf => ?_⟩
  · rw [gate_stk, stacksFail_stk (by exact hs.2)]
    rfl
  · rw [gate_stk, stacksFail_stk (by exact hs.2)]
    exact failureTaken_report hf (show 4 ≠ 12 by decide)

end

end Machine
end Sys2Proof
end

section
/-!
PROOFS. The Stacks without a request: patrol, remapping, heat and command errors (08 R388 to R391, R687); and the statement of
the timers and the Stacks.
-/
namespace Sys2Proof
namespace Machine

/-! ### One channel -/

theorem chan_congr {s t : State} (h : t.stk = s.stk) (ch : Nat) : chan t ch = chan s ch := by rw [chan, h]; rfl

theorem chan_modChan_same {s : State} {ch : Nat} (f : Chan → Chan) (h : ch < s.stk.chans.length) :
    chan (modChan ch f s) ch = f (chan s ch) := modAt_getD f _ _ _ h

theorem modAt_length {α : Type} (f : α → α) (l : List α) (i : Nat) : (modAt f l i).length = l.length := by
  simpa using congrArg List.length (modAt_map (fun _ => ()) f (fun _ => rfl) l i)

/-- What a change of one channel keeps of a channel is as it was in all of them. -/
theorem chan_modChan_keeps {β : Type} (g : Chan → β) {f : Chan → Chan} (hg : ∀ x, g (f x) = g x) (s : State) (ch j : Nat) :
    g (chan (modChan ch f s) j) = g (chan s j) := by
  have hd (l : List Chan) : g (l.getD j Chan.reset) = (l.map g).getD j (g Chan.reset) := (List.getD_map l Chan.reset g).symm
  rw [chan, chan, hd, hd]
  exact congrArg (fun l : List β => l.getD j (g Chan.reset)) (modAt_map g f hg s.stk.chans ch)

/-! ### PATROL_READ -/

/-- A channel after the patrol of a line (08 R389). -/
def patrolled (a : Nat) (x : Chan) : Chan :=
  { x with
    patrolAt := if channelEnd ≤ a + 64 then 0 else a + 64
    scrubPasses := if channelEnd ≤ a + 64 then x.scrubPasses + 1 else x.scrubPasses }

/-- What the patrol does with a line that holds an item (08 R388, R389, R391). -/
def patrolMet (ch l : Nat) (e : LineEcc) (written : Bool) (s : State) : State :=
  match e with
  | .clean => s
  | .corrected n => (List.range (min n 8)).foldl (fun s _ => correctedOne ch l s) s
  | .bad => badMet ch l written s

/-- What a physical line of a channel holds depends on the remap table alone (08 R390). -/
theorem heldAt_patrolled (s : State) (ch a b : Nat) : heldAt (modChan ch (patrolled b) s) ch a = heldAt s ch a := by
  have h : (chan (modChan ch (patrolled b) s) ch).remap = (chan s ch).remap :=
    chan_modChan_keeps Chan.remap (f := patrolled b) (fun _ => rfl) s ch ch
  rw [heldAt, heldAt, h]

section
variable {s : State} (hs : Serving s) {ch : Nat} (e : LineEcc) (written : Bool) (t : Nat)
include hs

/-- The patrol of a channel that the part does not have, or before the Catalogue stands, only moves the time. -/
theorem patrolRead_idle (h : channels s ≤ ch ∨ s.stk.catReady = false) :
    exec (.patrolRead ch e written t) s = .next (tick t s) := by
  refine coreAct_next_quiet hs (by rfl) ?_ rfl rfl
  refine if_pos ?_
  rw [Bool.or_eq_true]
  exact h.imp decide_eq_true fun hc => by rw [tick_stk, hc]; rfl

variable (hch : ch < channels s) (hc : s.stk.catReady = true)
include hch hc

/-- A clean line, whatever it holds, only moves the patrol on (08 R389). -/
theorem patrolRead_clean : exec (.patrolRead ch .clean written t) s =
    .next (modChan ch (patrolled (chan s ch).patrolAt) (tick t s)) := by
  refine coreAct_next_quiet hs (by rfl) ?_ rfl rfl
  refine (if_neg ?_).trans ?_
  · simp [hc, Nat.not_le.mpr hch, show channels (tick t s) = channels s from rfl]
  · simp only [decide_eq_true_eq]
    split
    · exact if_neg (by simp)
    · rfl

/-- The patrol of a line that holds an item (08 R389). -/
theorem patrolRead_next {l : Nat} (hl : heldAt s ch (chan s ch).patrolAt = some l) : exec (.patrolRead ch e written t) s =
    .next (gate s (patrolMet ch l e written (modChan ch (patrolled (chan s ch).patrolAt) (tick t s)))) := by
  have hh : heldAt (modChan ch (patrolled (chan s ch).patrolAt) (tick t s)) ch (chan s ch).patrolAt = some l :=
    (heldAt_patrolled _ _ _ _).trans hl
  refine coreAct_next hs (by rfl) ?_
  refine (if_neg ?_).trans ?_
  · simp [hc, Nat.not_le.mpr hch, show channels (tick t s) = channels s from rfl]
  · simp only [decide_eq_true_eq]
    split
    next hn => exact absurd (hh.symm.trans hn) (Option.some_ne_none l)
    next m hm =>
      obtain rfl : l = m := Option.some.inj (hh.symm.trans hm)
      rfl

end

/-- The first corrected codeword of a channel, with no Note asked for, only counts (08 R388, R390). -/
theorem correctedOne_counts {s : State} {ch : Nat} (a : Nat) (h0 : s.stk.ceNoteTh = 0) (h1 : 1 < s.stk.ceRemapTh)
    (hb : (chan s ch).blockErrs = []) :
    ∃ f, (∀ x, (f x).ceCount = satAdd 32 x.ceCount 1 ∧ (f x).lastCe = a) ∧ correctedOne ch a s = modChan ch f s := by
  refine ⟨_, ?_, (if_neg ?_).trans (if_neg ?_)⟩
  · exact fun x => ⟨rfl, rfl⟩
  · simp [hb, Nat.not_le.mpr h1]
  · simp [h0]

/-- An uncorrectable codeword in a written line, met without an access, is Silence 0x0101 (08 R389, R391). -/
theorem badMet_line {s : State} {ch a n l : Nat} {written : Bool} (hl : s.faults.silent = false)
    (hi : itemAt (channels s) ch a = .line n l) (hw : lineWritten s n written = true) : Lost 0x0101 (badMet ch a written s) := by
  simp only [badMet, hi, hw, if_true]
  exact stacksFail_lost hl _

/-- One corrected codeword counts in its channel (08 R388, R389). -/
theorem patrolRead_counts {s : State} {ch l : Nat} (hs : Serving s) (w : Bool) (t : Nat) (hch : ch < channels s)
    (hc : s.stk.catReady = true) (hlen : ch < s.stk.chans.length) (hl : heldAt s ch (chan s ch).patrolAt = some l)
    (h0 : s.stk.ceNoteTh = 0) (h1 : 1 < s.stk.ceRemapTh) (hb : (chan s ch).blockErrs = []) :
    Does (.patrolRead ch (.corrected 1) w t) s (fun v => (chan v ch).ceCount = satAdd 32 (chan s ch).ceCount 1 ∧
      (chan v ch).lastCe = l ∧ v.faults = (tick t s).faults) := by
  set p := modChan ch (patrolled (chan s ch).patrolAt) (tick t s)
  have hcp : chan p ch = patrolled (chan s ch).patrolAt (chan s ch) := chan_modChan_same (s := tick t s) _ hlen
  obtain ⟨f, hf, he⟩ := correctedOne_counts (s := p) (ch := ch) l h0 h1 (by rw [hcp]; exact hb)
  have hlp : ch < p.stk.chans.length := (modAt_length _ s.stk.chans ch).symm ▸ hlen
  have hcf : chan (modChan ch f p) ch = f (patrolled (chan s ch).patrolAt (chan s ch)) := by
    rw [chan_modChan_same f hlp, hcp]
  have hx := patrolRead_next hs (.corrected 1) w t hch hc hl
  rw [show patrolMet ch l (.corrected 1) w p = correctedOne ch l p from rfl, he] at hx
  refine ⟨_, hx, ?_, ?_, rfl⟩
  · exact (congrArg Chan.ceCount hcf).trans (hf _).1
  · exact (congrArg Chan.lastCe hcf).trans (hf _).2

/-! ### REMAP_DONE -/

/-- A channel whose first block due is copied (08 R390). -/
def remapped (p : Nat × Nat) (rest : List (Nat × Nat)) (x : Chan) : Chan :=
  { x with remapping := rest, remap := x.remap.filter (fun q => q.1 != p.1) ++ [p], remapUsed := min 65536 (x.remapUsed + 1) }

/-- The news of a block remapped (08 R390). -/
def remapTold (ch : Nat) (s : State) : State :=
  event 166 (record 0x0802 sevNote ch (chan s ch).ceCount (chan s ch).lastCe s)

theorem remapTold_frame (ch : Nat) (s : State) : EvidenceOnly s (remapTold ch s) :=
  (record_frame _ _ _ _ _ _).trans (event_frame _ _)

section
variable {s : State} {ch : Nat} (t : Nat)

theorem remapDone_idle (hs : Serving s) (bad : Option (Nat × Bool)) (h : (chan s ch).remapping = []) :
    exec (.remapDone ch bad t) s = .next (tick t s) := by
  refine coreAct_next_quiet hs (by rfl) ?_ rfl rfl
  dsimp only
  rw [chan_congr (tick_stk s t), h]

/-- A copy that meets no uncorrectable codeword enters its block in the map (08 R390). -/
theorem remapDone_next (hs : Open s) {p : Nat × Nat} {rest : List (Nat × Nat)} (h : (chan s ch).remapping = p :: rest) :
    exec (.remapDone ch none t) s = .next (gate s (runBindery (remapTold ch (modChan ch (remapped p rest) (tick t s))))) := by
  refine coreAct_next hs.1 (by rfl) ?_
  dsimp only
  rw [chan_congr (tick_stk s t), h]
  refine (if_neg ?_).trans ?_
  · simp [hs.2]
  · rfl

end

/-- The copy of a block ends: it is in the map, and the next one is due (08 R390). -/
theorem remapDone_maps {s : State} {ch : Nat} (t : Nat) (hs : Open s) {p : Nat × Nat} {rest : List (Nat × Nat)}
    (h : (chan s ch).remapping = p :: rest) (hlen : ch < s.stk.chans.length) (hr : s.stk.reqs = []) :
    Does (.remapDone ch none t) s (fun v => (chan v ch).remapping = rest ∧ p ∈ (chan v ch).remap ∧
      (chan v ch).remapUsed = min 65536 ((chan s ch).remapUsed + 1) ∧ v.faults = (tick t s).faults) := by
  have hf := remapTold_frame ch (modChan ch (remapped p rest) (tick t s))
  have hx := remapDone_next t hs h
  rw [runBindery_empty ((congrArg Stacks.reqs hf.stk).trans hr)] at hx
  have hc : chan (gate s (remapTold ch (modChan ch (remapped p rest) (tick t s)))) ch = remapped p rest (chan s ch) :=
    (chan_congr hf.stk ch).trans (chan_modChan_same (s := tick t s) _ hlen)
  refine ⟨_, hx, ?_, ?_, ?_, hf.faults⟩
  · rw [hc]
    rfl
  · rw [hc]
    exact List.mem_append_right _ (List.mem_singleton_self p)
  · rw [hc]
    rfl

/-! ### DRAM_TEMP_POLL -/

/-- A channel after a temperature report (08 R391, R687). -/
def heatTaken (code clock : Nat) (x : Chan) : Chan :=
  { x with
    tempCode := code
    coolAt := if heatOf code = 0 then (if x.coolAt.isSome then x.coolAt else some clock) else none }

/-- What follows from a temperature report (08 R391). -/
def heatJudged (ch code : Nat) (s : State) : State :=
  if heatOf code = 2 then failPlain 12 ch 0xFFFF s
  else if heatOf code = 1 then
    if s.mon.stacksThrottle then s
    else event 167 (event 3 (record 0x0803 sevThrottle ch code 1 { s with mon := { s.mon with stacksThrottle := true } }))
  else if s.mon.stacksThrottle && stacksCool s then
    record 0x0803 sevInfo ch code 2 { s with mon := { s.mon with stacksThrottle := false } }
  else s

section
variable {s : State} (hs : Serving s) {ch : Nat} {codes : List Nat} (t : Nat)
include hs

theorem dramTempPoll_idle (h : channels s ≤ ch ∨ s.stk.trained = false ∨ codes = []) :
    exec (.dramTempPoll ch codes t) s = .next (tick t s) := by
  refine coreAct_next_quiet hs (by rfl) ?_ rfl rfl
  refine if_pos ?_
  rcases h with h | h | h
  · simp [h, show channels (tick t s) = channels s from rfl]
  · simp [h]
  · simp [h]

theorem dramTempPoll_next (hch : ch < channels s) (ht : s.stk.trained = true) (hc : codes ≠ []) :
    exec (.dramTempPoll ch codes t) s = .next (gate s (heatJudged ch (hottest codes % 8)
      (modChan ch (heatTaken (hottest codes % 8) (tick t s).clock) (tick t s)))) := by
  refine coreAct_next hs (by rfl) ?_
  refine (if_neg ?_).trans ?_
  · simp [ht, hc, Nat.not_le.mpr hch, show channels (tick t s) = channels s from rfl]
  · rfl

end

theorem heatTaken_cool {code : Nat} (h : heatOf code = 0) (clock : Nat) : heatTaken code clock =
    fun x => { x with tempCode := code, coolAt := if x.coolAt.isSome then x.coolAt else some clock } := by
  funext x
  rw [heatTaken, if_pos h]

section
variable {s : State} {code : Nat} (ch : Nat)

/-- Above 95 degrees is a failure of kind 12 (08 R391). -/
theorem heatJudged_hot (h : heatOf code = 2) : heatJudged ch code s = failPlain 12 ch 0xFFFF s := if_pos h

/-- Above 85 degrees the Stacks are throttled (08 R391). -/
theorem heatJudged_warm (h : heatOf code = 1) : (heatJudged ch code s).mon.stacksThrottle = true ∧
    (heatJudged ch code s).stk = s.stk ∧ (heatJudged ch code s).faults = s.faults := by
  have hj : heatJudged ch code s = if s.mon.stacksThrottle then s else _ := (if_neg (by omega)).trans (if_pos h)
  rw [hj]
  split
  · exact ⟨‹_›, rfl, rfl⟩
  · have hf := ((record_frame 0x0803 sevThrottle ch code 1 { s with mon := { s.mon with stacksThrottle := true } }).trans
      (event_frame 3 _)).trans (event_frame 167 _)
    exact ⟨by rw [hf.mon], hf.stk, hf.faults⟩

variable (h : heatOf code = 0)
include h

/-- Up to 85 degrees, outside a throttle nothing more happens (08 R391). -/
theorem heatJudged_calm (hm : s.mon.stacksThrottle = false) : heatJudged ch code s = s :=
  (if_neg (by omega)).trans ((if_neg (by omega)).trans (if_neg (by simp [hm])))

/-- Once every channel has been cool for 1 s no throttle is left (08 R391). -/
theorem heatJudged_cool (hc : stacksCool s = true) : (heatJudged ch code s).mon.stacksThrottle = false := by
  cases hm : s.mon.stacksThrottle with
  | false => rw [heatJudged_calm ch h hm, hm]
  | true =>
    have hj : heatJudged ch code s = _ := (if_neg (by omega)).trans ((if_neg (by omega)).trans (if_pos (by simp [hm, hc])))
    rw [hj, (record_frame _ _ _ _ _ _).mon]

end

theorem modAt_getD_or {α : Type} (f : α → α) (l : List α) (i j : Nat) (d : α) :
    (modAt f l i).getD j d = l.getD j d ∨ (modAt f l i).getD j d = f (l.getD j d) := by
  induction l generalizing i j with
  | nil => exact .inl rfl
  | cons a l ih =>
    cases i with
    | zero =>
      cases j with
      | zero => exact .inr rfl
      | succ j => exact .inl rfl
    | succ i =>
      cases j with
      | zero => exact .inl rfl
      | succ j => exact ih i j

/-- A report of up to 85 degrees leaves every channel cool since the time it was (08 R391). -/
theorem stacksCool_heatTaken {s : State} {code clock : Nat} (h : heatOf code = 0) (ch : Nat)
    (hc : ∀ j < channels s, ∃ x, (chan s j).coolAt = some x ∧ x + 1000000000 ≤ s.clock) :
    stacksCool (modChan ch (heatTaken code clock) s) = true := by
  refine List.all_eq_true.mpr fun j hj => ?_
  obtain ⟨x, hx, hle⟩ := hc j (List.mem_range.mp hj)
  have hk : (chan (modChan ch (heatTaken code clock) s) j).coolAt = some x := by
    rcases modAt_getD_or (heatTaken code clock) s.stk.chans ch j Chan.reset with e | e
    · exact (congrArg Chan.coolAt e).trans hx
    · refine (congrArg Chan.coolAt e).trans ?_
      change (heatTaken code clock (chan s j)).coolAt = some x
      simp [heatTaken, h, hx]
  rw [hk]
  exact decide_eq_true hle

section
variable {s : State} (hs : Open s) {ch : Nat} {codes : List Nat} (t : Nat) (hch : ch < channels s) (ht : s.stk.trained = true)
  (hc : codes ≠ [])
include hs hch ht hc

theorem dramTempPoll_hot (h : heatOf (hottest codes % 8) = 2) : Does (.dramTempPoll ch codes t) s (Lost 0x010C) := by
  refine ⟨_, dramTempPoll_next hs.1 t hch ht hc, ?_⟩
  rw [heatJudged_hot ch h]
  exact failPlain_lost (s := modChan ch _ (tick t s)) hs.2 12 ch 0xFFFF

theorem dramTempPoll_warm (hlen : ch < s.stk.chans.length) (h : heatOf (hottest codes % 8) = 1) :
    Does (.dramTempPoll ch codes t) s (fun v => v.mon.stacksThrottle = true ∧ (chan v ch).tempCode = hottest codes % 8 ∧
      (chan v ch).coolAt = none ∧ v.faults = (tick t s).faults) := by
  obtain ⟨hth, hstk, hf⟩ := heatJudged_warm (s := modChan ch (heatTaken (hottest codes % 8) (tick t s).clock) (tick t s)) ch h
  have hv := (chan_congr hstk ch).trans (chan_modChan_same (s := tick t s) _ hlen)
  refine ⟨_, dramTempPoll_next hs.1 t hch ht hc, hth, congrArg Chan.tempCode hv, (congrArg Chan.coolAt hv).trans ?_, hf⟩
  exact if_neg (by omega)

theorem dramTempPoll_calm (h : heatOf (hottest codes % 8) = 0) (hm : s.mon.stacksThrottle = false) :
    exec (.dramTempPoll ch codes t) s = .next (modChan ch (fun x => { x with
      tempCode := hottest codes % 8
      coolAt := if x.coolAt.isSome then x.coolAt else some (tick t s).clock }) (tick t s)) := by
  rw [dramTempPoll_next hs.1 t hch ht hc, heatJudged_calm ch h (by exact hm), heatTaken_cool h]
  exact congrArg _ (gate_quiet s _ rfl rfl)

end

/-! ### DRAM_CMD_ERROR and DRAM_TIMEOUT -/

/-- A state in which one command has had some errors (08 R391). -/
def cmdErrNoted (i a n : Nat) (s : State) : State := { s with stk := { s.stk with cmdErrs := [(i, a, n)] } }

/-- A channel after the retry of a command (08 R391). -/
def cmdRetried (wcrc : Bool) (x : Chan) : Chan :=
  if wcrc then { x with wcrcRetry := satAdd 16 x.wcrcRetry 1 } else { x with caparRetry := satAdd 16 x.caparRetry 1 }

section
variable {s : State} (hs : Serving s) {ch : Nat} (i a : Nat) (w : Bool) (t : Nat)
include hs

theorem dramCmdError_idle (h : channels s ≤ ch) : exec (.dramCmdError ch i a w t) s = .next (tick t s) := by
  refine coreAct_next_quiet hs (by rfl) ?_ rfl rfl
  exact if_pos h

theorem dramTimeout_idle (h : channels s ≤ ch) : exec (.dramTimeout ch t) s = .next (tick t s) := by
  refine coreAct_next_quiet hs (by rfl) ?_ rfl rfl
  exact if_pos h

variable (hch : ch < channels s)
include hch

/-- The first error on a command is counted, noted and retried (08 R391). -/
theorem dramCmdError_first (h : s.stk.cmdErrs = []) : exec (.dramCmdError ch i a w t) s = .next (gate s
    (record 0x0805 sevNote ch (if w then 2 else 1) 1 (modChan ch (cmdRetried w) (cmdErrNoted i a 1 (tick t s))))) := by
  refine coreAct_next hs (by rfl) ?_
  refine (if_neg (Nat.not_le.mpr hch)).trans ?_
  dsimp only
  rw [tick_stk, h]
  rfl

/-- The third error on a command is a failure of kind 10 (08 R391). -/
theorem dramCmdError_third (h : s.stk.cmdErrs = [(i, a, 2)]) : exec (.dramCmdError ch i a w t) s = .next (gate s
    (failItem 10 ch a (masterOf s i) (cmdErrNoted i a 3 (tick t s)))) := by
  refine coreAct_next hs (by rfl) ?_
  refine (if_neg (Nat.not_le.mpr hch)).trans ?_
  dsimp only
  rw [tick_stk, h, show [(i, a, 2)].find? (fun p => p.1 == i && p.2.1 == a) = some (i, a, 2) by simp,
    show [(i, a, 2)].filter (fun p => !(p.1 == i && p.2.1 == a)) = [] by simp]
  rfl

/-- Data that do not come are a failure of kind 11 (08 R391). -/
theorem dramTimeout_next : ∃ who, exec (.dramTimeout ch t) s = .next (gate s (failPlain 11 ch who (tick t s))) := by
  apply Exists.intro
  refine coreAct_next hs (by rfl) ?_
  exact if_neg (Nat.not_le.mpr hch)

end

/-! ### Outside operation -/

/-- Outside operation no command of the Bindery or of the DRAM has an effect. -/
theorem bindery_ignored {s : State} (h : s.faults.phase ≠ .running) (q : BindReq) (b : Bytes) (i : Nat) (d : DramData)
    (c : Nat) (e : LineEcc) (w ok : Bool) (bad : Option (Nat × Bool)) (codes : List Nat) (n t : Nat) :
    ∀ r ∈ [Instr.binderyRead q t, .binderyWrite q b t, .dramReadCompletion i d t, .patrolRead c e w t, .remapDone c bad t,
      .dramTempPoll c codes t, .dramCmdError c i n ok t, .dramTimeout c t], Ignores r s := by
  simp only [List.forall_mem_cons, List.not_mem_nil, IsEmpty.forall_iff, implies_true, and_true]
  exact ⟨coreAct_ignored h (by rfl), coreAct_ignored h (by rfl), coreAct_ignored h (by rfl), coreAct_ignored h (by rfl),
    coreAct_ignored h (by rfl), coreAct_ignored h (by rfl), coreAct_ignored h (by rfl), coreAct_ignored h (by rfl)⟩

/-- Settles O54: the timers of the record store, and the Bindery with the Stacks behind it. -/
theorem recordTimersAndStacksRows : Obligations.RecordTimersAndStacksRows := by
  unfold Obligations.RecordTimersAndStacksRows
  intro s t u lost
  refine ⟨fun hp ok => ⟨storeAct_off hp (by rfl), storeAct_off hp (by rfl), storeAct_off hp (by rfl)⟩,
    fun hp => ⟨daybookFlushTimer_idle hp t, daybookFlushTimer_begins hp t, daybookFlushDone_idle hp t,
      fun hf hl => ⟨_, daybookFlushDone_failed hp t hf, silence_lost _ hl⟩,
      fun hf => ⟨_, daybookFlushDone_written hp t hf, flushAll_buf u, rfl, rfl, (flushEnded_frame u).gate rfl,
        fun r hb h0 => flushAll_places (s := u) hb h0⟩,
      operatingTimeTick_idle hp t, operatingTimeTick_counts hp t⟩,
    fun hp => coreAct_ignored hp (by rfl), fun hs => bootCloseTimer_idle hs t,
    fun hs hb ho => ⟨_, bootCloseTimer_closes hs t hb ho, ?bootOpen, ?bootRoll⟩,
    fun hp q b i d c e w bad codes ok => bindery_ignored hp q b i d c e w ok bad codes _ t,
    fun hs => ⟨fun q b hq => ⟨binderyRead_malformed hs.1 t hq, binderyWrite_malformed hs.1 b t hq⟩,
      fun q b hq => ⟨(binderyRead_next hs.1 t hq).trans (accessCheck_next hs.1 _ t).symm,
        (binderyWrite_next hs.1 b t hq).trans (accessCheck_next hs.1 _ t).symm⟩,
      fun q hq hv hc hr hm => ⟨binderyRead_reads hs t hq hv hc hr hm, binderyRead_answers hs t hq hv hc hr hm⟩,
      fun i d h => dramReadCompletion_stray hs.1 d t h, ?completion,
      fun c e w h => patrolRead_idle hs.1 e w t h, ?patrol, fun c bad h => remapDone_idle t hs.1 bad h,
      fun c p rest h hlen hr => remapDone_maps t hs h hlen hr,
      fun c codes h => dramTempPoll_idle hs.1 t h, ?heat,
      fun c i a w h => ⟨dramCmdError_idle hs.1 i a w t h, dramTimeout_idle hs.1 t h⟩, ?command⟩⟩
  case bootOpen => exact congrArg Daybook.bootOpen (event_day 13 (bootClosed 2 u))
  case bootRoll => exact (event_frame 13 _).broll.trans (bootClosed_broll 2 u)
  case completion =>
    intro i d r hr hid hi
    subst hid
    refine ⟨dramReadCompletion_length hs.1 d t hr hi, fun hl hb => ⟨_, dramReadCompletion_next hs.1 d t hr hi hl, ?_⟩,
      fun hl hb hd => ⟨fun h => ⟨_, dramReadCompletion_next hs.1 d t hr hi hl, ?_⟩,
        fun h hret hw => ⟨_, dramReadCompletion_next hs.1 d t hr hi hl, ?_⟩⟩, ?_⟩
    · rw [completedRead, if_pos hb]
      exact failPlain_lost (s := u) hs.2 7 0 0xFFFF
    · rw [completedRead, if_neg (by simp [hb]), if_pos hd]
      exact datapathsDiffer_again (s := u) hs.2 h
    · rw [completedRead, if_neg (by simp [hb]), if_pos hd]
      exact datapathsDiffer_first (s := u) hs.2 h hret hw
    · intro l b v tags hp hd hw hde hm hret hn hv hv0 ht good
      subst hd
      exact ⟨dramReadCompletion_right hs t hr hi hp hret hn hv hv0 ht hw hde hm,
        dramReadCompletion_wrong hs t hr hi hp hret hn hv hv0 ht⟩
  case patrol =>
    intro c w hch hc hlen a next
    exact ⟨patrolRead_clean hs.1 w t hch hc, fun p n l hh hi hw => ⟨_, patrolRead_next hs.1 .bad w t hch hc hh,
      badMet_line (s := modChan c (patrolled a) u) hs.2 hi hw⟩,
      fun p hh h0 h1 hb => patrolRead_counts hs.1 w t hch hc hlen hh h0 h1 hb⟩
  case heat =>
    intro c codes hch ht hc hlen k
    exact ⟨dramTempPoll_hot hs t hch ht hc, dramTempPoll_warm hs t hch ht hc hlen, dramTempPoll_calm hs t hch ht hc,
      fun hk hcool => ⟨_, dramTempPoll_next hs.1 t hch ht hc, heatJudged_cool c hk (stacksCool_heatTaken hk c hcool)⟩⟩
  case command =>
    intro c i a w hch
    obtain ⟨who, hto⟩ := dramTimeout_next hs.1 t hch
    refine ⟨fun h => ⟨_, dramCmdError_first hs.1 i a w t hch h, ?_, ?_⟩,
      fun h => ⟨_, dramCmdError_third hs.1 i a w t hch h, failItem_lost (s := cmdErrNoted i a 3 u) hs.2 _ _ _ _⟩,
      ⟨_, hto, failPlain_lost (s := u) hs.2 11 c who⟩⟩
    · exact congrArg Stacks.cmdErrs (record_frame _ _ _ _ _ _).stk
    · exact (record_frame _ _ _ _ _ _).gate rfl

end Machine
end Sys2Proof
end

section
/-!
PROOFS. What keeps a firmware order from being decided, and what becomes of its plan: settled, committed at once, or held until its
output is written (01 R41; 02 R100, R106; 09 R431, R433; 10 R467, R468).
-/
namespace Sys2Proof
namespace Machine

/-! ### Firmware orders that wait -/

/-- Every firmware row runs the handler of its opcode (09 R431). -/
theorem fwRow_runs {c : Instr} {op id : Nat} {e : FwEnv} (h : fwRow c = some (op, id, e)) :
    ∃ f, ∀ s, exec c s = runFw op f id e s := by
  unfold fwRow at h
  split at h <;> cases h
  all_goals exact ⟨_, fun _ => rfl⟩

section
variable {c : Instr} {f : Handler} {s : State} {id op : Nat} {e : FwEnv} (hs : Serving s) (hc : exec c s = runFw op f id e s)
include hs hc

theorem runFw_absent (h : order? s id = none) : exec c s = .next (tick e.t s) := by
  refine coreAct_next_quiet hs hc ?_ rfl rfl
  dsimp only
  rw [order?_tick, h]

variable {o : Order} (ho : order? s id = some o)
include ho

/-- An order of another opcode, one that is not ready, one during a restart of the Keeper world and one whose request is lost
are left (01 R41; 09 R433). -/
theorem runFw_blocked (h : o.opcode ≠ op ∨ o.stage ≠ .ready ∨ s.keeper.restarting = true ∨ o.fwLost = true) :
    exec c s = .next (tick e.t s) := by
  refine coreAct_next_quiet hs hc ?_ rfl rfl
  dsimp only
  rw [order?_tick, ho]
  refine if_pos ?_
  simpa [or_assoc] using h

/-- A Follow leaves an order for which its Lead has sent no PREPARE (10 R467, R468). -/
theorem runFw_unprepared (hf : followOnly (tick e.t s) o = true) (hp : prepareFor (tick e.t s) o = none) :
    exec c s = .next (tick e.t s) := by
  refine coreAct_next_quiet hs hc ?_ rfl rfl
  dsimp only
  rw [order?_tick, ho]
  dsimp only
  rw [if_pos hf, hp, ite_self]

end

/-- Settles O11: every firmware row moves only the time on while its order cannot be decided here. -/
theorem firmwareRowsWait : Obligations.FirmwareRowsWait := by
  unfold Obligations.FirmwareRowsWait
  intro c op id e s hc hs u
  obtain ⟨f, hf⟩ := fwRow_runs hc
  exact ⟨runFw_absent hs (hf s), fun o ho => ⟨runFw_blocked hs (hf s) ho, runFw_unprepared hs (hf s) ho⟩⟩

/-! ### Plans -/

theorem isFirmware_not_loom {op : Nat} (h : isFirmware op = true) : classKind op ≠ some .loom := by
  simp only [isFirmware, Bool.or_eq_true, beq_iff_eq] at h
  unfold classKind
  rcases h with (h | h) | h <;> simp [h]

/-- The result of an order that no write fault has met stays as it is (02 R680). -/
theorem withWriteFault_clean {o : Order} (h : o.wfault = []) (r : Result) : withWriteFault o r = r := by
  have hn : (writeRanges o r).findSome? (fun w => (pagesOf w.1 w.2).findSome? (fun p =>
      (o.wfault.find? (fun f => f.1 == p)).map (fun f => (f.2, (inPage w.1 w.2 p).1)))) = none := by
    simp [h, List.findSome?_eq_none_iff]
  rw [withWriteFault, hn]

/-- What a plan makes the order's result. -/
def planResult (p : Plan) : Result := { status := p.status, word := p.word, out := p.out, aux := p.aux }

/-- An order whose change is staged with it until its output has crossed the release point (09 R431). -/
def changeHeld (p : Plan) (clock : Nat) (o : Order) : Order :=
  { o with result := some (planResult p), items := p.items, stage := .waitCommit, compareAt := clock }

theorem planned_settles {p : Plan} {o : Order} (hw : o.wfault = []) (hp : p.items = []) (id : Nat) (u : State) :
    planned id o (.done p, u) = queueOutput id (settle id (planResult p) u) := by
  simp only [planned, hp, List.isEmpty_nil, if_true, withWriteFault_clean hw, planResult]

theorem planned_holds {p : Plan} {o : Order} (hw : o.wfault = []) (hp : p.items ≠ []) (id : Nat) (u : State) :
    planned id o (.done p, u) = afterOutput id (queueOutput id (modOrder u id (changeHeld p u.clock))) := by
  have he : ¬ p.items.isEmpty = true := by simpa using hp
  simp only [planned, if_neg he, withWriteFault_clean hw, ne_eq, not_true_eq_false, if_false]
  rfl

/-- The output of a firmware order is queued or counts as sent, and nothing else changes (02 R76, R106). -/
theorem queueOutput_firmware {s : State} {id : Nat} {o : Order} {r : Result} (h : order? s id = some o) (hr : o.result = some r)
    (hf : isFirmware o.opcode = true) :
    order? (queueOutput id s) id = some { o with outSent := true } ∧
      { queueOutput id s with orders := s.orders, egress := s.egress } = s := by
  by_cases hk : (o.outSent || inlineOut o) = true
  · rw [queueOutput_kept h hr hk]
    exact ⟨order?_modOrder_same (fun _ => rfl) h, rfl⟩
  · rw [queueOutput_whole h hr hk (isFirmware_not_loom hf)]
    exact ⟨order?_modOrder_same (fun _ => rfl) h, rfl⟩

/-- Output makes at least one write, in the name of its order (01 R54). -/
theorem outTlps_named (s : State) (o : Order) {r : Result} (h : r.out ≠ []) :
    (outTlps s o r).any (fun x => x.order == o.id) = true := by
  have hp : outPieces r.out.length.succ o.outIova r.out ≠ [] := by
    rw [outPieces, if_neg (by simpa using h)]
    exact List.cons_ne_nil _ _
  obtain ⟨p, l, hl⟩ := List.exists_cons_of_ne_nil hp
  simp [outTlps, hl, mkTlp]

section
variable {s : State} {id : Nat} {o : Order} {r : Result} (ho : order? s id = some o) (hst : o.stage = .waitCommit)
  (hc : o.commit = .none) (hr : o.result = some r)
include ho hst hc hr

/-- A change waits while output of its order is in the egress queue (09 R431). -/
theorem afterOutput_waits (he : s.egress.any (fun x => x.order == id) = true) : afterOutput id s = s := by
  simp only [afterOutput, ho, hst, hc, hr, he, Bool.or_true, if_true]

/-- A part on its own makes a change whose approvals stand as soon as the output has left (09 R431; 04 R228). -/
theorem afterOutput_commits (hi : o.items ≠ []) (he : s.egress.any (fun x => x.order == id) = false)
    (hov : overtaken s o.items = false) (hm : mirrored s = false) (hj : joining s = false) :
    afterOutput id s = commitOwn id o.items s := by
  have hn : o.items.isEmpty = false := by simpa using hi
  simp only [afterOutput, ho, hst, hc, hr, he, hn, hov, hm, hj, Bool.or_self, Bool.false_and, Bool.false_eq_true, if_false]

end

/-- Settles O12: a plan settles its order, takes effect at once, or waits for the output. -/
theorem plansTakeEffect : Obligations.PlansTakeEffect := by
  unfold Obligations.PlansTakeEffect
  intro u id o p ho hf hw
  dsimp only
  refine ⟨fun hp => ?settled, fun hp hc hin he hov hm hj => ?committed, fun hp hc hin hsent hout => ?held⟩
  case settled =>
    obtain ⟨hord, hframe⟩ := queueOutput_firmware (order?_settle (planResult p) ho) rfl hf
    rw [planned_settles hw hp]
    exact ⟨_, hord, rfl, rfl, rfl, rfl, (congrArg State.mram hframe :), (congrArg State.stalls hframe :),
      (congrArg State.keeper hframe :)⟩
  case committed =>
    have hh := order?_modOrder_same (f := changeHeld p u.clock) (fun _ => rfl) ho
    have hk : ((changeHeld p u.clock o).outSent || inlineOut (changeHeld p u.clock o)) = true := by
      rw [Bool.or_eq_true]
      exact hin.symm
    have hq := queueOutput_kept hh rfl hk
    obtain ⟨hord, -⟩ := queueOutput_firmware hh rfl hf
    rw [hq] at hord
    rw [planned_holds hw hp, hq, afterOutput_commits hord rfl hc rfl hp he hov hm hj]
    rfl
  case held =>
    have hh := order?_modOrder_same (f := changeHeld p u.clock) (fun _ => rfl) ho
    have hk : ¬ ((changeHeld p u.clock o).outSent || inlineOut (changeHeld p u.clock o)) = true := by
      have e : (o.outSent || inlineOut o) = false := by rw [hsent, hin]; rfl
      exact ne_true_of_eq_false e
    have hq := queueOutput_whole hh rfl hk (isFirmware_not_loom hf)
    obtain ⟨hord, hframe⟩ := queueOutput_firmware hh rfl hf
    have hany : (queueOutput id (modOrder u id (changeHeld p u.clock))).egress.any (fun y => y.order == id) = true := by
      have hn := outTlps_named (modOrder u id (changeHeld p u.clock)) (changeHeld p u.clock o) (r := planResult p) hout
      rw [show (changeHeld p u.clock o).id = id from order?_id hh] at hn
      rw [hq, modOrder_egress, List.any_append, hn, Bool.or_true]
    rw [planned_holds hw hp, afterOutput_waits hord rfl hc rfl hany]
    exact ⟨_, hord, rfl, rfl, rfl, hc, (congrArg State.mram hframe :), (congrArg State.munim hframe :),
      (congrArg State.stalls hframe :), (congrArg State.keeper hframe :), hany⟩

end Machine
end Sys2Proof
end

section
/-!
PROOFS. Access checks and their reports, the Deed unit, the region table and debug access (09 R402 to R424; 11 R499; 15 R656).
-/
namespace Sys2Proof
namespace Machine

/-! ### Commands of the worlds -/

/-- A command of the worlds on a live part outside Silence answers what its meaning leaves, when that only adds outputs. -/
theorem worldAct_next_appends {c : Instr} {f : State → State} {s v : State} (ha : alive s = true) (hl : s.faults.silent = false)
    (hc : exec c s = worldAct f s) (hv : f s = v) (h : Appends s v) : exec c s = .next v :=
  (worldAct_next ha hc hv).trans (congrArg _ (h.gate hl))

/-- A command of the worlds that puts nothing out answers what its meaning leaves. -/
theorem worldAct_next_quiet {c : Instr} {f : State → State} {s v : State} (ha : alive s = true) (hc : exec c s = worldAct f s)
    (hv : f s = v) (ho : v.out = s.out) (hp : v.pending = s.pending) : exec c s = .next v :=
  (worldAct_next ha hc hv).trans (congrArg _ (gate_quiet s v ho hp))

theorem alive_running {s : State} (h : s.faults.phase = .running) : alive s = true := by
  rw [alive, h]
  rfl

/-- The time changes no Clerk. -/
@[simp] theorem clerk_tick (t : Nat) (s : State) (i : Nat) : clerk (tick t s) i = clerk s i := rfl

/-- What appends to a state at a later time appends to the state. -/
theorem Appends.ofTick {t : Nat} {s v : State} (h : Appends (tick t s) v) : Appends s v := Appends.after h rfl rfl

/-- A part Hold changes nothing of the worlds (11 R488). -/
theorem holdEnter_worlds (c : HoldCause) (tainting : Bool) (s : State) : (holdEnter c tainting s).worlds = s.worlds := by
  unfold holdEnter
  split
  · rfl
  · dsimp only
    split
    · rfl
    · exact (event_frame 2 _).worlds

/-! ### Reports of refused accesses -/

/-- What a report leaves of the worlds: it stands in the log and is counted, and the first one is latched (09 R423, R424). -/
def reportTaken (e : Viol) (w : Worlds) : Worlds :=
  { w with log := modAt (fun _ => e) w.log w.logNext, logNext := (w.logNext + 1) % 16,
           logWrapped := w.logWrapped || w.logNext == 15, violTotal := satAdd 32 w.violTotal 1,
           violSeq := (w.violSeq + 1) % 2 ^ 16, first := if w.first.isNone then some e else w.first }

theorem reportTaken_first (e : Viol) (w : Worlds) : (reportTaken e w).first.isSome = true := by
  unfold reportTaken
  cases hf : w.first <;> simp

/-- A change of the evidence is one under other worlds, too. -/
theorem EvidenceOnly.withWorlds {s t : State} (h : EvidenceOnly s t) (w : Worlds) :
    EvidenceOnly { s with worlds := w } { t with worlds := w } := by
  unfold EvidenceOnly at *
  have e := congrArg (fun x : State => { x with worlds := w }) h
  exact e

/-- The record of a report (09 R424). -/
def reportRecord (sev : Nat) (v : Viol) (s : State) : State :=
  record 0x0901 sev v.addr (v.master + v.cause * 2 ^ 16 + v.space * 2 ^ 20) (v.addr / 2 ^ 32) s

theorem reportRecord_frame (sev : Nat) (v : Viol) (s : State) : EvidenceOnly s (reportRecord sev v s) := record_frame _ _ _ _ _ _

/-- A report is its record, its entry in the report registers, and event 8 when it is latched (09 R424). -/
theorem report_eq (sev : Nat) (v : Viol) (s : State) : ∃ n,
    let s1 := reportRecord sev v s
    let s2 := { s1 with worlds := reportTaken { v with dbkSeq := n } s1.worlds }
    report sev v s = if s1.worlds.first.isNone then event 8 s2 else s2 := ⟨_, rfl⟩

/-- A report changes the report registers and the evidence, and nothing else (09 R423, R424). -/
theorem report_frame (sev : Nat) (v : Viol) (s : State) :
    ∃ n, EvidenceOnly { s with worlds := reportTaken { v with dbkSeq := n } s.worlds } (report sev v s) := by
  obtain ⟨n, h⟩ := report_eq sev v s
  have hr := reportRecord_frame sev v s
  dsimp only at h
  rw [hr.worlds] at h
  refine ⟨n, ?_⟩
  rw [h]
  split
  · exact (event_frame 8 _).after (hr.withWorlds _)
  · exact hr.withWorlds _

theorem report_appends (sev : Nat) (v : Viol) (s : State) : Appends s (report sev v s) := by
  obtain ⟨n, h⟩ := report_eq sev v s
  have hr : Appends s (reportRecord sev v s) := (reportRecord_frame sev v s).appends (record_out _ _ _ _ _ _)
  dsimp only at h
  rw [h]
  split
  · exact hr.trans (Appends.after (event_appends 8 _) rfl rfl)
  · exact hr

/-- A Shop Clerk is told of the refusal, and the part responds with no more than the report (09 R418). -/
theorem refuseAccess_shop {q : AccReq} {i : Nat} {user : Bool} {s : State} (v : Viol) (hw : q.who = .clerk i user)
    (hk : inKeeper (clerk s i) = false) : refuseAccess v q s = emit .refused (report (refusalSev s q.who) v s) := by
  obtain ⟨n, h⟩ := report_frame (refusalSev s q.who) v s
  have hc : inKeeper (clerk (report (refusalSev s q.who) v s) i) = false := by
    rw [clerk, h.worlds]
    exact hk
  rw [hw] at hc ⊢
  rw [refuseAccess, hw]
  simp only [respond, hc, Bool.false_eq_true, if_false]

/-- What the refusal of a Shop Clerk's access leaves: the report, and everything but it and the evidence (09 R418, R423). -/
theorem refuseAccess_shop_leaves {q : AccReq} {i : Nat} {user : Bool} {s : State} (v : Viol) (hw : q.who = .clerk i user)
    (hk : inKeeper (clerk s i) = false) :
    (∃ n, EvidenceOnly { s with worlds := reportTaken { v with dbkSeq := n } s.worlds } (refuseAccess v q s)) ∧
      Appends s (refuseAccess v q s) ∧ .refused ∈ (refuseAccess v q s).out := by
  rw [refuseAccess_shop v hw hk]
  obtain ⟨n, h⟩ := report_frame (refusalSev s q.who) v s
  have ha := report_appends (refusalSev s q.who) v s
  exact ⟨⟨n, h.trans (emit_frame _ _)⟩, ha.trans ⟨List.prefix_append _ _, rfl⟩, List.mem_append_right _ (List.mem_singleton_self _)⟩

/-! ### ACCESS_CHECK -/

/-- Bytes stored in the Clerk SRAM (09 R402). -/
def sramStored (a : Nat) (b : Bytes) (s : State) : State :=
  { s with worlds := { s.worlds with sram := memWrite 0 s.worlds.sram a b } }

theorem checkAccess_passes {q : AccReq} {s : State} (h : violationOf s q = none) : checkAccess q s = perform q s := by
  rw [checkAccess, h]

theorem checkAccess_refuses {q : AccReq} {s : State} {v : Viol} (h : violationOf s q = some v) :
    checkAccess q s = refuseAccess v q s := by
  rw [checkAccess, h]

/-- The Deed entry of an SRAM page is its own (09 R405). -/
theorem deedKey_sram (s : State) (page : Nat) : deedKey s 0 page = if page < 4096 then some page else none := by
  simp only [deedKey, if_true]

theorem deedKey_sram_congr (s v : State) (page : Nat) : deedKey v 0 page = deedKey s 0 page := by
  rw [deedKey_sram, deedKey_sram]

/-- A Shop Clerk's read of the SRAM, answered or refused, changes neither the response ladder nor the SRAM (09 R416, R418). -/
theorem checkAccess_shopRead {i : Nat} (a n : Nat) {s : State} (hk : inKeeper (clerk s i) = false) :
    let v := checkAccess ⟨.clerk i false, 0, a, n, .read⟩ s
    v.faults = s.faults ∧ v.worlds.sram = s.worlds.sram := by
  dsimp only
  cases hv : violationOf s ⟨.clerk i false, 0, a, n, .read⟩ with
  | none =>
    rw [checkAccess_passes hv]
    exact ⟨rfl, rfl⟩
  | some v =>
    obtain ⟨⟨m, h⟩, -, -⟩ := refuseAccess_shop_leaves (q := ⟨.clerk i false, 0, a, n, .read⟩) v rfl hk
    rw [checkAccess_refuses hv]
    exact ⟨h.faults, by rw [h.worlds]; rfl⟩

section
variable {s : State} (ha : alive s = true) (q : AccReq) (t : Nat)
include ha

/-- What `accessCheck_next` says in operation holds of every live part: also while it starts (09 R416). -/
theorem accessCheck_sound : exec (.accessCheck q 0 t) s = .next (gate s (checkAccess q (tick t s))) := by
  refine worldAct_next ha (by rfl) ?_
  have hm : meetDeedError q 0 (tick t s) = tick t s := by
    unfold meetDeedError
    split <;> rfl
  have hd : ∀ v, deedHold q 0 v = v := fun v => if_pos (by simp)
  dsimp only
  rw [hm, hd]

/-- An access that meets an error in a Deed entry of the SRAM is answered or refused before the part responds (09 R409). -/
theorem accessCheck_deedError {i a n err k : Nat} (hk : inKeeper (clerk s i) = false) (hd : deedKey s 0 (a / 4096) = some k)
    (he : err ≠ 0) : ∃ v, v.faults = s.faults ∧ v.worlds.sram = s.worlds.sram ∧
      exec (.accessCheck ⟨.clerk i false, 0, a, n, .read⟩ err t) s = .next (gate s
        (if err = 1 then holdEnter .deed true v else silence 0x0009 v)) := by
  set q : AccReq := ⟨.clerk i false, 0, a, n, .read⟩
  have hm : meetDeedError q err (tick t s) = { tick t s with worlds := { s.worlds with
      deedBad := Tbl.put 0 s.worlds.deedBad k (if err = 1 then 1 else 3) } } := by
    have hu : deedKey (tick t s) q.space (q.addr / 4096) = some k := (deedKey_sram_congr s _ _).trans hd
    rw [meetDeedError, hu]
    exact if_neg he
  obtain ⟨hf, hs⟩ := checkAccess_shopRead a n (s := meetDeedError q err (tick t s)) (i := i) (by rw [hm]; exact hk)
  rw [hm] at hf hs
  refine ⟨_, hf, hs, worldAct_next ha (by rfl) ?_⟩
  have hn : ∀ v, ¬ (err = 0 || (deedKey v q.space (q.addr / 4096)).isNone) = true := by
    intro v
    have hv : deedKey v q.space (q.addr / 4096) = some k := (deedKey_sram_congr s _ _).trans hd
    simp [hv, he]
  dsimp only
  rw [hm]
  exact if_neg (hn _)

variable (hl : s.faults.silent = false)
include hl

variable {q} in
/-- An access that passes is performed, and what it puts out leaves the part (09 R416). -/
theorem accessCheck_performs {v : State} (hv : violationOf (tick t s) q = none) (hp : perform q (tick t s) = v)
    (h : Appends s v) : exec (.accessCheck q 0 t) s = .next v := by
  rw [accessCheck_sound ha, checkAccess_passes hv, hp, h.gate hl]

variable {q} in
/-- A Shop Clerk's access that is refused leaves the SRAM, the orders and the response ladder (09 R418, R423, R424). -/
theorem accessCheck_refused {i : Nat} {user : Bool} {v : Viol} (hv : violationOf (tick t s) q = some v)
    (hw : q.who = .clerk i user) (hk : inKeeper (clerk s i) = false) : Does (.accessCheck q 0 t) s (fun x =>
      x.worlds.sram = s.worlds.sram ∧ x.worlds.violTotal = satAdd 32 s.worlds.violTotal 1 ∧ x.worlds.first.isSome = true ∧
        .refused ∈ x.out ∧ x.orders = s.orders ∧ x.faults = (tick t s).faults) := by
  obtain ⟨⟨n, h⟩, hap, ho⟩ := refuseAccess_shop_leaves (s := tick t s) v hw hk
  have hx := accessCheck_sound ha q t
  rw [checkAccess_refuses hv, hap.ofTick.gate hl] at hx
  refine ⟨_, hx, ?_, ?_, ?_, ho, h.orders, h.faults⟩
  · rw [h.worlds]; rfl
  · rw [h.worlds]; rfl
  · rw [h.worlds]; exact reportTaken_first _ _

end

/-! ### ACU_CHECKER_DISAGREEMENT and ACU_SELFTEST_DONE -/

/-- No time of a list lies within 1 s before a time. -/
theorem any_within_second_false {l : List Nat} {c : Nat} (h : ∀ x ∈ l, x + 1000000000 ≤ c) :
    l.any (fun x => decide (c < x + 1000000000)) = false := by simpa using h

theorem any_within_second {l : List Nat} {c : Nat} (h : ∃ x ∈ l, c < x + 1000000000) :
    l.any (fun x => decide (c < x + 1000000000)) = true := by simpa using h

/-- The state in which a disagreement of the checkers has refused its access, with its time kept (11 R499). -/
def disagreed (s : State) : State :=
  emit .refused { s with faults := { s.faults with acuTimes := within 1000000000 s.faults.acuTimes s.clock } }

/-- What a disagreement reports leaves the part outside Silence, with one report more and the SRAM as it was. -/
theorem disagreed_report_leaves (v : Viol) (s : State) :
    let w := report sevHold v (disagreed s)
    w.faults.silent = s.faults.silent ∧ w.worlds.violTotal = satAdd 32 s.worlds.violTotal 1 ∧ w.worlds.sram = s.worlds.sram := by
  obtain ⟨n, h⟩ := report_frame sevHold v (disagreed s)
  dsimp only
  rw [h.faults, h.worlds]
  exact ⟨rfl, rfl, rfl⟩

section
variable {s : State} (ha : alive s = true) (t : Nat)
include ha

/-- The first disagreement within 1 s is reported and holds the part (11 R499). -/
theorem acuCheckerDisagreement_first (q : AccReq) (h : ∀ x ∈ s.faults.acuTimes, x + 1000000000 ≤ (tick t s).clock) :
    ∃ v, exec (.acuCheckerDisagreement q t) s = .next (gate s (holdEnter .acuChecker true (report sevHold v (disagreed (tick t s))))) := by
  apply Exists.intro
  refine worldAct_next ha (by rfl) ?_
  exact if_neg (ne_true_of_eq_false (any_within_second_false h))

/-- A second one within 1 s is Silence (11 R499). -/
theorem acuCheckerDisagreement_again (q : AccReq) (h : ∃ x ∈ s.faults.acuTimes, (tick t s).clock < x + 1000000000) :
    ∃ v, exec (.acuCheckerDisagreement q t) s = .next (gate s (silence 0x0009 (report sevHold v (disagreed (tick t s))))) := by
  apply Exists.intro
  refine worldAct_next ha (by rfl) ?_
  exact if_pos (any_within_second h)

theorem acuSelftestDone_idle (ok : Bool) (h : s.faults.holds.contains .acuChecker = false) :
    exec (.acuSelftestDone ok t) s = .next (tick t s) := by
  refine worldAct_next_quiet ha (by rfl) ?_ rfl rfl
  refine if_pos ?_
  rw [tick_faults, h]
  rfl

/-- The self-test clears its cause of the Hold, or fails into Silence (11 R499). -/
theorem acuSelftestDone_next (ok : Bool) (h : s.faults.holds.contains .acuChecker = true) : exec (.acuSelftestDone ok t) s =
    .next (gate s (if ok then holdClear .acuChecker (tick t s) else silence 0x0009 (tick t s))) := by
  refine worldAct_next ha (by rfl) ?_
  refine if_neg ?_
  rw [tick_faults, h]
  exact Bool.false_ne_true

end

/-! ### The Deed unit -/

/-- A new entry that waits to be written (09 R408). -/
def deedQueued (space page entry : Nat) (s : State) : State :=
  { s with worlds := { s.worlds with deedPend := s.worlds.deedPend ++ [⟨space, page, cleanEntry entry⟩] } }

/-- The access of a Clerk to the control page of the Deed unit (09 R407). -/
def deedUnitAccess (core : Nat) (user : Bool) : AccReq :=
  { who := .clerk core user, space := 2, addr := 4096 * Config.deedUnitPage, len := 8, kind := .write (zeros 8) }

section
variable {s : State} (ha : alive s = true) (t : Nat)
include ha

section
variable {core : Nat} (hcore : core < 8) (space page : Nat) (entry : BitVec 32)
include hcore

/-- A Keeper-user Clerk, and an entry that may not be written, are refused by the unit (09 R407, R408). -/
theorem deedSet_refused (hl : s.faults.silent = false)
    (h : (clerk s core).level = 1 ∨ (clerk s core).level = 0 ∧ deedSetOk s space page entry.toNat = false) :
    exec (.deedSet core space page entry t) s = .next (emit .refused (tick t s)) := by
  have hlt : ¬ 2 ≤ (clerk s core).level := by omega
  have hr : ((clerk s core).level = 1 || !deedSetOk s space page entry.toNat) = true := by
    rcases h with h | ⟨-, h⟩ <;> simp [h]
  refine worldAct_next_appends ha hl (by rfl) ?_ ⟨List.prefix_append _ _, rfl⟩
  exact (if_neg (Nat.not_le.mpr hcore)).trans ((if_neg hlt).trans (if_pos hr))

/-- An entry that may be written, of a page that is Free, waits for the unit (09 R408). -/
theorem deedSet_taken {k : Nat} (h0 : (clerk s core).level = 0) (hok : deedSetOk s space page entry.toNat = true)
    (hk : deedKey s space page = some k) (hfree : Tbl.getD s.worlds.deeds k 0 % 8 = 0) :
    exec (.deedSet core space page entry t) s = .next (deedQueued space page entry.toNat (tick t s)) := by
  have hlt : ¬ 2 ≤ (clerk s core).level := by omega
  have hr : ¬ ((clerk s core).level = 1 || !deedSetOk s space page entry.toNat) = true := by simp [h0, hok]
  have hu : deedKey (tick t s) space page = some k := hk
  refine worldAct_next_quiet ha (by rfl) ?_ rfl rfl
  refine (if_neg (Nat.not_le.mpr hcore)).trans ((if_neg hlt).trans ((if_neg hr).trans ?_))
  rw [hu]
  exact if_neg (by simp [hfree])

/-- A Shop Clerk reaches no page of the unit: its access is refused and reported (09 R407). -/
theorem deedSet_shop (h : 2 ≤ (clerk s core).level) : ∃ v, exec (.deedSet core space page entry t) s =
    .next (gate s (refuseAccess v (deedUnitAccess core ((clerk s core).level == 3)) (tick t s))) := by
  apply Exists.intro
  refine worldAct_next ha (by rfl) ?_
  exact (if_neg (Nat.not_le.mpr hcore)).trans (if_pos h)

end

/-- The entry that waited is written when no request of the Bindery touches the page (09 R408 steps 4 and 5). -/
theorem deedSetDone_writes {space page k : Nat} {p : DeedPend}
    (hp : s.worlds.deedPend.find? (fun p => p.space == space && p.page == page) = some p) (hk : deedKey s space page = some k)
    (hb : pageBusy s space page = false) : exec (.deedSetDone space page) s = .next { s with worlds := { s.worlds with
      deeds := Tbl.put 0 s.worlds.deeds k p.entry
      deedPend := s.worlds.deedPend.filter (fun x => !(x.space == space && x.page == page)) } } := by
  refine worldAct_next_quiet ha (by rfl) ?_ rfl rfl
  dsimp only
  rw [hp, hk]
  exact if_neg (by simp [hb])

theorem deedSetDone_idle {space page : Nat} (hp : s.worlds.deedPend.find? (fun p => p.space == space && p.page == page) = none) :
    exec (.deedSetDone space page) s = .next s := by
  refine worldAct_next_quiet ha (by rfl) ?_ rfl rfl
  dsimp only
  rw [hp]

variable {space page k : Nat} (hk : deedKey s space page = some k)
include hk

theorem deedEntryRestored_idle (h : Tbl.getD s.worlds.deedBad k 0 ≠ 1) :
    exec (.deedEntryRestored space page t) s = .next (tick t s) := by
  have hu : deedKey (tick t s) space page = some k := hk
  refine worldAct_next_quiet ha (by rfl) ?_ rfl rfl
  dsimp only
  rw [hu]
  exact if_neg h

/-- An entry is whole again, and the last one clears the cause of the Hold (09 R409; 11 R499). -/
theorem deedEntryRestored_clears (h : Tbl.getD s.worlds.deedBad k 0 = 1) : exec (.deedEntryRestored space page t) s = .next
    (let v := { tick t s with worlds := { s.worlds with deedBad := Tbl.del s.worlds.deedBad k } }
     if v.worlds.deedBad.isEmpty then holdClear .deed v else v) := by
  have hu : deedKey (tick t s) space page = some k := hk
  refine worldAct_next_quiet ha (by rfl) ?_ ?_ ?_
  · dsimp only
    rw [hu]
    exact if_pos h
  · dsimp only
    split <;> rfl
  · dsimp only
    split <;> rfl

end

/-! ### ACU_REGION_WRITE -/

section
variable {s : State} (ha : alive s = true) (t : Nat) {i : Nat} (hi : i < 64) {f : RegionField} {x : Nat}
include ha hi

theorem acuRegionWrite_writes {r : Region} (h : regionWrite (s.worlds.regions.getD i Region.reset) f x = some r) :
    exec (.acuRegionWrite 0 i f x t) s = .next { tick t s with
      worlds := { s.worlds with regions := modAt (fun _ => r) s.worlds.regions i } } := by
  refine worldAct_next_quiet ha (by rfl) ?_ rfl rfl
  refine (if_neg (Nat.not_le.mpr hi)).trans ?_
  rw [if_pos rfl, tick_worlds, h]

/-- A write of a Clerk of another level, and one that R411 to R414 rule out, leave a Note (09 R413). -/
theorem acuRegionWrite_refused {l : Nat} (h : l ≠ 0 ∨ regionWrite (s.worlds.regions.getD i Region.reset) f x = none) :
    exec (.acuRegionWrite l i f x t) s = .next (gate s (emit .refused (note 0x09 9 (tick t s)))) := by
  have hn : (if l = 0 then regionWrite (s.worlds.regions.getD i Region.reset) f x else none) = none := by
    rcases h with h | h
    · exact if_neg h
    · rw [h, ite_self]
  refine worldAct_next ha (by rfl) ?_
  refine (if_neg (Nat.not_le.mpr hi)).trans ?_
  rw [tick_worlds, hn]

end

/-! ### DBG_ACCESS -/

/-- The state of the debug port in an access (15 R654). -/
def dbgEntered (s : State) : State := { s with dbg := { s.dbg with ir := 0x12, pins := .functional } }

section
variable {s : State} (ha : alive s = true) (t : Nat)
include ha

theorem dbgAccess_read (space a n : Nat) : exec (.dbgAccess (.read space a n) t) s =
    .next (gate s (checkAccess ⟨.debug, space, a, n, .read⟩ (dbgEntered (tick t s)))) :=
  worldAct_next ha (by rfl) rfl

theorem dbgAccess_write (space a : Nat) (b : Bytes) : exec (.dbgAccess (.write space a b) t) s =
    .next (gate s (checkAccess ⟨.debug, space, a, b.length, .write b⟩ (dbgEntered (tick t s)))) :=
  worldAct_next ha (by rfl) rfl

theorem dbgAccess_run {i : Nat} (op : DbgRun) (hi : i < 8) : exec (.dbgAccess (.run i op) t) s =
    .next (gate s (runControl i op (dbgEntered (tick t s)))) := by
  refine worldAct_next ha (by rfl) ?_
  dsimp only
  rw [Nat.mod_eq_of_lt (by omega)]
  rfl

end

/-- Below unlock level 2 a run control command is refused (15 R656). -/
theorem runControl_refused {s : State} (i : Nat) (op : DbgRun) (h : s.faults.debugLevel < 2) : runControl i op s = refuseRun s :=
  if_pos (by simp [h])

/-- The refusal is counted and noted, and answered with a refusal (15 R656). -/
theorem refuseRun_leaves (s : State) : (refuseRun s).worlds = { s.worlds with dbgRefused := satAdd 16 s.worlds.dbgRefused 1 } ∧
    Appends s (refuseRun s) ∧ .refused ∈ (refuseRun s).out := by
  set w : State := { s with worlds := { s.worlds with dbgRefused := satAdd 16 s.worlds.dbgRefused 1 } }
  have hn : EvidenceOnly w (note 0x09 11 w) := note_frame _ _ _
  have ha : Appends w (note 0x09 11 w) := hn.appends (note_out _ _ _)
  exact ⟨hn.worlds, Appends.after (ha.trans ⟨List.prefix_append _ _, rfl⟩) rfl rfl,
    List.mem_append_right _ (List.mem_singleton_self _)⟩

/-- From level 2 on a Shop Clerk is halted at once (15 R656). -/
theorem runControl_halts {s : State} {i : Nat} (hi : i < 8) (h : 2 ≤ s.faults.debugLevel) (hk : inKeeper (clerk s i) = false) :
    runControl i .halt s = modClerk i (fun c => { c with halted := true }) s := by
  have hn : ¬ (8 ≤ i || s.faults.debugLevel < 2) = true := by
    simp only [Bool.or_eq_true, decide_eq_true_eq]
    omega
  exact (if_neg hn).trans (if_neg (by simp [hk]))

/-- A string of its own length is not cut. -/
theorem fit_own_length (b : Bytes) : fit b.length b = b := by simp [fit]

/-- Settles O49: each access, entry, region write and debug command does what it says, or is refused. -/
theorem accessRows : Obligations.AccessRows := by
  unfold Obligations.AccessRows
  intro s t ha hl u sram stored lost
  refine ⟨fun w a n k hv => ⟨?reads, ?stores, ?exchanges, ?copies⟩,
    fun q i v hv hw hk => ?refused, fun i a n k hk hd => ⟨?oneCopy, ?bothCopies⟩, fun q h => ?firstDisagreement, fun q h => ?secondDisagreement,
    fun ok h => acuSelftestDone_idle ha t ok h, fun h => ⟨?testPasses, ?testFails⟩,
    fun core space page entry hc h0 => ⟨fun h => deedSet_refused ha t hc space page entry hl (.inr ⟨h0, h⟩),
      fun k hok hk hf => deedSet_taken ha t hc space page entry h0 hok hk hf⟩,
    fun core space page entry hc h1 => deedSet_refused ha t hc space page entry hl (.inl h1),
    fun core space page entry hc h2 => ?deedShop,
    fun space page p k hp hk hb => deedSetDone_writes ha hp hk hb, fun space page hp => deedSetDone_idle ha hp,
    fun space page k hk => ⟨deedEntryRestored_idle ha t hk, deedEntryRestored_clears ha t hk⟩,
    fun i f x hi => ⟨fun r hr => acuRegionWrite_writes ha t hi hr, fun l h => ?regionRefused⟩,
    fun a b hv => ?debugWrites, fun a n hv => ?debugReads, fun i op hi h => ?runRefused, fun i hi h hk => ?halts⟩
  case reads =>
    rintro (rfl | rfl) <;> exact accessCheck_performs ha t hl hv rfl ⟨List.prefix_append _ _, rfl⟩
  case stores =>
    rintro b rfl
    exact accessCheck_performs ha t hl hv rfl ⟨List.prefix_rfl, rfl⟩
  case exchanges =>
    rintro b rfl
    exact accessCheck_performs ha t hl hv rfl ⟨List.prefix_append _ _, rfl⟩
  case copies =>
    rintro d rfl
    exact accessCheck_performs ha t hl hv rfl ⟨List.prefix_rfl, rfl⟩
  case refused =>
    rcases hw with hw | hw <;> exact accessCheck_refused ha t hl hv hw hk
  case oneCopy =>
    obtain ⟨v, hf, hs, hx⟩ := accessCheck_deedError ha t (n := n) hk hd one_ne_zero
    rw [if_pos rfl] at hx
    obtain ⟨hm, hc⟩ := holdEnter_holds (s := v) (by rw [hf]; exact hl) .deed true
    exact ⟨_, hx, hm, hc, (congrArg Worlds.sram (holdEnter_worlds _ _ _)).trans hs⟩
  case bothCopies =>
    obtain ⟨v, hf, -, hx⟩ := accessCheck_deedError ha t (n := n) hk hd two_ne_zero
    exact ⟨_, hx, silence_lost 0x0009 (s := v) (by rw [hf]; exact hl)⟩
  case firstDisagreement =>
    obtain ⟨v, hx⟩ := acuCheckerDisagreement_first ha t q h
    obtain ⟨hs, hn, hm⟩ := disagreed_report_leaves v u
    obtain ⟨hh, hc⟩ := holdEnter_holds (hs.trans hl) .acuChecker true
    have hw := holdEnter_worlds .acuChecker true (report sevHold v (disagreed u))
    exact ⟨_, hx, hh, hc, (congrArg Worlds.violTotal hw).trans hn, (congrArg Worlds.sram hw).trans hm⟩
  case secondDisagreement =>
    obtain ⟨v, hx⟩ := acuCheckerDisagreement_again ha t q h
    obtain ⟨hs, -, -⟩ := disagreed_report_leaves v u
    exact ⟨_, hx, silence_lost 0x0009 (hs.trans hl)⟩
  case testPasses =>
    exact (acuSelftestDone_next ha t true h).trans (congrArg _ (gate_quiet s (holdClear .acuChecker u) rfl rfl))
  case testFails => exact ⟨_, acuSelftestDone_next ha t false h, silence_lost 0x0009 (s := u) hl⟩
  case deedShop =>
    obtain ⟨v, hx⟩ := deedSet_shop ha t hc space page entry h2
    have hk : inKeeper (clerk u core) = false := decide_eq_false (Nat.not_lt.mpr h2)
    obtain ⟨⟨n, hf⟩, -, -⟩ := refuseAccess_shop_leaves (q := deedUnitAccess core _) v rfl hk
    refine ⟨_, hx, ?_, ?_, ?_⟩ <;> rw [gate_worlds, hf.worlds] <;> rfl
  case regionRefused =>
    have hf : EvidenceOnly u (emit .refused (note 0x09 9 u)) := (emit_frame _ _).after (note_frame _ _ _)
    have hap : Appends u (emit .refused (note 0x09 9 u)) := hf.appends ((note_out _ _ _).trans (List.prefix_append _ _))
    refine ⟨_, acuRegionWrite_refused ha t hi h, hf.gate rfl, ?_⟩
    rw [hap.ofTick.gate hl]
    exact List.mem_append_right _ (List.mem_singleton_self _)
  case debugWrites =>
    have hp : perform ⟨.debug, 0, a, b.length, .write b⟩ (dbgEntered u) = sramStored a (fit b.length b) (dbgEntered u) := rfl
    rw [dbgAccess_write ha, checkAccess_passes (s := dbgEntered u) hv, hp, fit_own_length]
    exact congrArg _ (gate_quiet s _ rfl rfl)
  case debugReads =>
    rw [dbgAccess_read ha, checkAccess_passes (s := dbgEntered u) hv]
    exact congrArg _ (gate_appends s _ [.clerkData (sram a n)] hl rfl rfl)
  case runRefused =>
    have hx := dbgAccess_run ha t op hi
    obtain ⟨hw, hap, ho⟩ := refuseRun_leaves (dbgEntered u)
    have hap' : Appends u (refuseRun (dbgEntered u)) := Appends.after hap rfl rfl
    rw [runControl_refused (s := dbgEntered u) i op h, hap'.ofTick.gate hl] at hx
    exact ⟨_, hx, by rw [hw]; rfl, by rw [hw]; rfl, ho⟩
  case halts =>
    have hx := dbgAccess_run ha t .halt hi
    rw [runControl_halts (s := dbgEntered u) hi h hk] at hx
    exact hx.trans (congrArg _ (gate_quiet s _ rfl rfl))

end Machine
end Sys2Proof
end

section
/-!
PROOFS. The World Gate, the worlds of pins and channels, claims and gating, and the restart of the Keeper world (09 R400, R420 to
R433).
-/
namespace Sys2Proof
namespace Machine

/-! ### The World Gate -/

theorem modAt_getD_other {α : Type} (f : α → α) (l : List α) {i j : Nat} (d : α) (h : j ≠ i) :
    (modAt f l i).getD j d = l.getD j d := by
  induction l generalizing i j with
  | nil => rfl
  | cons a l ih =>
    cases i with
    | zero =>
      cases j with
      | zero => exact absurd rfl h
      | succ j => rfl
    | succ i =>
      cases j with
      | zero => rfl
      | succ j => exact ih fun e => h (congrArg Nat.succ e)

/-- The host-visible counters are held, and of the worlds nothing else changes (09 R427). -/
theorem hideCounters_worlds (s : State) : (hideCounters s).worlds = { s.worlds with hidden := true } := by
  unfold hideCounters
  split
  · next h => rw [← h]
  · rfl

/-- The hold of the counters touches the worlds, the counters and the Stalls, and nothing else. -/
theorem hideCounters_parts (s : State) :
    { hideCounters s with worlds := s.worlds, perf := s.perf, stalls := s.stalls } = s := by
  unfold hideCounters
  split <;> rfl

/-- A Clerk in the Keeper world since a gate call: its Shop registers are saved and cleared (09 R400). -/
def inGate (clock : Nat) (c : Clerk) : Clerk :=
  { c with level := 0, saved := some c.level, savedRegs := c.shopRegs, shopRegs := [], keeperRegs := [], callAt := clock }

/-- A Clerk that enters the Keeper world hides the counters and changes no other Clerk (09 R400, R427). -/
theorem enterKeeper_worlds (i : Nat) (s : State) : (enterKeeper i s).worlds =
    { s.worlds with clerks := modAt (inGate s.clock) s.worlds.clerks i, hidden := true } := hideCounters_worlds _

/-- Its entry touches the worlds, the counters and the Stalls, and nothing else. -/
theorem enterKeeper_parts (i : Nat) (s : State) :
    { enterKeeper i s with worlds := s.worlds, perf := s.perf, stalls := s.stalls } = s :=
  congrArg (fun v : State => { v with worlds := s.worlds }) (hideCounters_parts { s with worlds := { s.worlds with
    clerks := modAt (inGate s.clock) s.worlds.clerks i } })

theorem letIn_nobody (n : Nat) {s : State} (h : s.keeper.waitGate = []) : letIn n s = s := by
  cases n with
  | zero => rfl
  | succ n => rw [letIn, h]

/-- The only Clerk at the gate enters when there is room and the Keeper world is there (09 R400). -/
theorem letIn_one (n : Nat) {i : Nat} {s : State} (h : s.keeper.waitGate = [i]) (hroom : keeperClerks s < 4)
    (hr : s.keeper.restarting = false) : letIn (n + 1) s = enterKeeper i { s with keeper := { s.keeper with waitGate := [] } } := by
  rw [letIn, h]
  refine (if_pos (by simp [hroom, hr])).trans (letIn_nobody n ?_)
  exact (congrArg (fun v => v.keeper.waitGate) (enterKeeper_parts i { s with keeper := { s.keeper with waitGate := [] } }) :)

/-- With four Clerks inside nobody enters (09 R400). -/
theorem letIn_full (n : Nat) {i : Nat} {s : State} (h : s.keeper.waitGate = [i]) (hfull : 4 ≤ keeperClerks s) :
    letIn (n + 1) s = s := by
  rw [letIn, h]
  exact if_neg (by simp [Nat.not_lt.mpr hfull])

/-- A Clerk waits at the gate. -/
def atGate (i : Nat) (s : State) : State := { s with keeper := { s.keeper with waitGate := [i] } }

section
variable {s : State} (ha : alive s = true) (t : Nat)
include ha

theorem worldGateCall_ignored {i : Nat}
    (h : 8 ≤ i ∨ inKeeper (clerk s i) = true ∨ (clerk s i).halted = true ∨ s.keeper.waitGate.contains i = true) :
    exec (.worldGateCall i t) s = .next (tick t s) := by
  refine worldAct_next_quiet ha (by rfl) ?_ rfl rfl
  refine if_pos ?_
  simpa [or_assoc] using h

section
variable {i : Nat} (hi : i < 8) (hk : inKeeper (clerk s i) = false) (hh : (clerk s i).halted = false) (hw : s.keeper.waitGate = [])
include hi hk hh hw

theorem worldGateCall_next : exec (.worldGateCall i t) s = .next (gate s (letIn 8 (atGate i (tick t s)))) := by
  have hn : ¬ (8 ≤ i || inKeeper (clerk s i) || (clerk s i).halted || s.keeper.waitGate.contains i) = true := by
    simp [hk, hh, hw, hi]
  refine worldAct_next ha (by rfl) ?_
  refine (if_neg hn).trans ?_
  rw [tick_keeper, hw]
  rfl

theorem worldGateCall_enters (hroom : keeperClerks s < 4) (hr : s.keeper.restarting = false) : exec (.worldGateCall i t) s =
    .next (enterKeeper i { tick t s with keeper := { s.keeper with waitGate := [] } }) := by
  have hl := letIn_one 7 (s := atGate i (tick t s)) rfl hroom hr
  have hp := enterKeeper_parts i { tick t s with keeper := { s.keeper with waitGate := [] } }
  rw [worldGateCall_next ha t hi hk hh hw, hl]
  exact congrArg _ (gate_quiet s _ (congrArg State.out hp :) (congrArg State.pending hp :))

theorem worldGateCall_waits (hfull : 4 ≤ keeperClerks s) : exec (.worldGateCall i t) s = .next (atGate i (tick t s)) := by
  have hl := letIn_full 7 (s := atGate i (tick t s)) rfl hfull
  rw [worldGateCall_next ha t hi hk hh hw, hl]
  exact congrArg _ (gate_quiet s _ rfl rfl)

end

theorem worldGateReturn_next (i : Nat) (hw : s.keeper.waitGate = []) : exec (.worldGateReturn i t) s = .next { tick t s with
    worlds := { s.worlds with clerks := modAt leaveKeeper s.worlds.clerks i } } := by
  refine worldAct_next_quiet ha (by rfl) ?_ rfl rfl
  exact letIn_nobody 8 hw

theorem perfHoldRelease_waits (h : 0 < keeperClerks s) : exec (.perfHoldRelease t) s = .next (tick t s) := by
  refine worldAct_next_quiet ha (by rfl) ?_ rfl rfl
  exact if_neg h.ne'

/-- The held counters take their counts when no Clerk is inside (09 R427). -/
theorem perfHoldRelease_releases (h : keeperClerks s = 0) : exec (.perfHoldRelease t) s = .next { tick t s with
    worlds := { s.worlds with hidden := false }
    perf := { s.perf with held := none }
    stalls := (s.stalls.map (fun p => (p.1, { p.2 with held := none }))).filter (fun p => p.2 != Stall.reset) } := by
  refine worldAct_next_quiet ha (by rfl) ?_ rfl rfl
  exact if_pos h

end

/-! ### Pins and channels -/

section
variable {s : State} (hs : Serving s) (t : Nat)
include hs

section
variable {i : Nat} (hi : i < 16) (k : Bool)

include hi in
theorem pinWorldSet_same (h : pinKeeper s (.gpio i) = k) : exec (.pinWorldSet (.gpio i) k t) s = .next (tick t s) := by
  refine coreAct_next_quiet hs (by rfl) ?_ rfl rfl
  exact (if_neg (by simp [pinExists, hi])).trans (if_pos h)

include hi in
/-- A new world of a GPIO turns its driver off, and the pin begins to move (09 R421). -/
theorem pinWorldSet_moves (h : pinKeeper s (.gpio i) ≠ k) :
    exec (.pinWorldSet (.gpio i) k t) s = .next (movePin (.gpio i) k (tick t s)) := by
  refine coreAct_next_quiet hs (by rfl) ?_ rfl rfl
  exact (if_neg (by simp [pinExists, hi])).trans (if_neg h)

theorem pinWorldTakeover_takes (h : s.worlds.pinMoving = [(i, k)]) : exec (.pinWorldTakeover (.gpio i)) s =
    .next { s with worlds := { s.worlds with pinMoving := [], gpioKeeper := setBit s.worlds.gpioKeeper i k } } := by
  refine coreAct_next_quiet hs (by rfl) ?_ rfl rfl
  have hf : [(i, k)].find? (fun y => y.1 == pinIx (.gpio i)) = some (i, k) := by simp [pinIx]
  have hr : [(i, k)].filter (fun z => z.1 != pinIx (.gpio i)) = [] := by simp [pinIx]
  rw [takePin, h, hf, hr]

theorem pinWorldTakeover_idle (h : s.worlds.pinMoving = []) : exec (.pinWorldTakeover (.gpio i)) s = .next s := by
  refine coreAct_next_quiet hs (by rfl) ?_ rfl rfl
  rw [takePin, h]
  rfl

end

theorem dmaChannelBind_refused (hl : s.faults.silent = false) {l : Nat} (c : Nat) (k : Bool) (o : Option Nat) (h : l ≠ 0) :
    exec (.dmaChannelBind l c k o t) s = .next (emit .refused s) := by
  have hap : Appends s (emit .refused s) := ⟨List.prefix_append _ _, rfl⟩
  refine (coreAct_next hs (by rfl) ?_).trans (congrArg _ (hap.gate hl))
  exact if_neg h

section
variable {c : Nat} (hc : c < 32) (k : Bool) (o : Option Nat)
include hc

theorem dmaChannelBind_busy (h : (dmaCh s c).busy = true) :
    exec (.dmaChannelBind 0 c k o t) s = .next (gate s (note 0x09 4 (tick t s))) := by
  refine coreAct_next hs (by rfl) ?_
  exact (if_pos rfl).trans ((if_neg (Nat.not_le.mpr hc)).trans (if_pos h))

/-- An idle channel is bound: its descriptors and its halt are cleared (09 R422). -/
theorem dmaChannelBind_idle (h : (dmaCh s c).busy = false) : exec (.dmaChannelBind 0 c k o t) s = .next { tick t s with
    worlds := { s.worlds with
      dma := modAt (fun d => { d with keeper := k, owner := o.map (· % 1024), desc := [], halted := false }) s.worlds.dma c } } := by
  refine coreAct_next_quiet hs (by rfl) ?_ rfl rfl
  exact (if_pos rfl).trans ((if_neg (Nat.not_le.mpr hc)).trans (if_neg (ne_true_of_eq_false h)))

end

end

/-! ### Claims and gating -/

/-- The fields of a block touch the worlds and the instances, and nothing else (09 R425). -/
theorem setGate_parts (b : Nat) (g : Gate) (s : State) :
    { setGate b g s with worlds := s.worlds, insts := s.insts } = s := by
  unfold setGate
  dsimp only
  split <;> rfl

theorem setGate_worlds (b : Nat) (g : Gate) (s : State) :
    (setGate b g s).worlds = { s.worlds with gates := Tbl.put Gate.reset s.worlds.gates b g } := by
  unfold setGate
  dsimp only
  split <;> rfl

/-- Of a block's fields only the gating in force shows at its engine. -/
theorem setGate_insts_congr {g g' : Gate} (h : g.gatedReq = g'.gatedReq) (b : Nat) (s : State) :
    (setGate b g s).insts = (setGate b g' s).insts := by
  unfold setGate
  rw [h]
  dsimp only
  split <;> rfl

theorem releasedGate_eq (g : Gate) : releasedGate g =
    { g with claimed := false, gatedReq := g.pendingReq.getD g.gatedReq, pendingReq := none, deferred := false } := by
  obtain ⟨c, r, p, d⟩ := g
  cases p <;> rfl

/-- A deferral is counted, and else only the evidence changes (09 R425). -/
theorem deferral_frame (first : Bool) (s : State) :
    EvidenceOnly { s with worlds := { s.worlds with deferrals := satAdd 16 s.worlds.deferrals 1 } } (deferral first s) := by
  unfold deferral
  dsimp only
  split
  · exact note_frame _ _ _
  · rfl

/-- What a deferral leaves of the block whose fields have been set: the fields, the count, and its engine (09 R425). -/
theorem deferral_setGate_leaves (first : Bool) (b : Nat) (g : Gate) (s : State) :
    let v := deferral first (setGate b g s)
    gateOf v b = g ∧ v.worlds.deferrals = satAdd 16 s.worlds.deferrals 1 ∧ v.insts = (setGate b g s).insts := by
  have hf := deferral_frame first (setGate b g s)
  dsimp only
  rw [gateOf, hf.worlds, setGate_worlds]
  exact ⟨Tbl.getD_put_same _ _ _ _, rfl, hf.insts⟩

section
variable {s : State} (ha : alive s = true) (t : Nat)
include ha

/-- A command whose meaning is to set the fields of a block answers the state with these fields. -/
theorem worldAct_setGate {c : Instr} {f : State → State} {b : Nat} {g : Gate} (hc : exec c s = worldAct f s)
    (hf : f s = setGate b g (tick t s)) : exec c s = .next (setGate b g (tick t s)) := by
  have h := setGate_parts b g (tick t s)
  exact worldAct_next_quiet ha hc hf (congrArg State.out h :) (congrArg State.pending h :)

section
variable {b : Nat} (hb : b < 97)
include hb

theorem claimSet_sets : exec (.claimSet b t) s = .next (setGate b { gateOf s b with claimed := true } (tick t s)) := by
  refine worldAct_setGate ha t (by rfl) ?_
  exact if_pos (decide_eq_true hb)

/-- A released block takes the request that waited (09 R425). -/
theorem claimRelease_applies : exec (.claimRelease b t) s = .next (setGate b { gateOf s b with
    claimed := false, gatedReq := (gateOf s b).pendingReq.getD (gateOf s b).gatedReq, pendingReq := none, deferred := false }
      (tick t s)) := by
  rw [← releasedGate_eq]
  refine worldAct_setGate ha t (by rfl) ?_
  exact if_pos (decide_eq_true hb)

theorem gatingRequest_ungates : exec (.gatingRequest b false t) s =
    .next (setGate b { gateOf s b with gatedReq := false, pendingReq := none } (tick t s)) := by
  refine worldAct_setGate ha t (by rfl) ?_
  exact (if_neg (by simp [gateExists, hb])).trans (if_pos rfl)

theorem gatingRequest_gates (h : (gateOf s b).claimed = false) : exec (.gatingRequest b true t) s =
    .next (setGate b { gateOf s b with gatedReq := true } (tick t s)) := by
  refine worldAct_setGate ha t (by rfl) ?_
  exact (if_neg (by simp [gateExists, hb])).trans ((if_neg Bool.false_ne_true).trans (if_neg (ne_true_of_eq_false h)))

/-- A claimed block keeps its gating, and the request waits for the release (09 R425). -/
theorem gatingRequest_defers (h : (gateOf s b).claimed = true) : exec (.gatingRequest b true t) s =
    .next (gate s (deferral (!(gateOf s b).deferred)
      (setGate b { gateOf s b with pendingReq := some true, deferred := true } (tick t s)))) := by
  refine worldAct_next ha (by rfl) ?_
  exact (if_neg (by simp [gateExists, hb])).trans ((if_neg Bool.false_ne_true).trans (if_pos h))

end

variable {b : Nat} (hb : 97 ≤ b)
include hb

theorem claimSet_past : exec (.claimSet b t) s = .next (tick t s) := by
  refine worldAct_next_quiet ha (by rfl) ?_ rfl rfl
  exact if_neg (by simp [gateExists, hb])

theorem claimRelease_past : exec (.claimRelease b t) s = .next (tick t s) := by
  refine worldAct_next_quiet ha (by rfl) ?_ rfl rfl
  exact if_neg (by simp [gateExists, hb])

theorem gatingRequest_past (on : Bool) : exec (.gatingRequest b on t) s = .next (tick t s) := by
  refine worldAct_next_quiet ha (by rfl) ?_ rfl rfl
  exact if_pos (by simp [gateExists, hb])

end

/-! ### The restart of the Keeper world -/

/-- The evidence of a restart: Tally 4, event 4 and the record with its trigger (09 R429). -/
def restartNoted (why : Nat) (s : State) : State :=
  let s1 := event 4 (tallyAdd 4 1 s)
  record 0x0B02 sevNote why ((tally s1 4).value % 2 ^ 32) 0 s1

theorem restartNoted_frame (why : Nat) (s : State) : EvidenceOnly s (restartNoted why s) :=
  (record_frame _ _ _ _ _ _).after ((event_frame 4 _).after (tallyAdd_frame 4 1 s))

/-- A restart within 1 s of another is Silence (09 R433). -/
theorem triggerRestart_beyond (why : Nat) {s : State} (h : ∃ x ∈ s.keeper.restartAt, s.clock < x + 1000000000) :
    triggerRestart why s = silence 0x0007 (restartNoted why s) :=
  if_pos (by simp only [any_within_second h, Bool.true_or])

theorem portClosed_keeper (p : Nat) (s : State) : (portClosed p s).keeper = s.keeper := by
  unfold portClosed
  split <;> rfl

/-- The registers of the Keeper world at the start of a restart: no Clerk waits at the gate, and the loaded records stay (09 R429,
R432). -/
def restartBegun (why clock : Nat) (times : List Nat) (k : Keeper) : Keeper :=
  { k with restarting := true, trigger := why, restartFrom := clock, restartAt := times, restarts := satAdd 16 k.restarts 1,
           results := [], waitGate := [] }

/-- The first restart begins (09 R429): the card ports, the transactions and the orders that it ends change none of its registers. -/
theorem triggerRestart_keeper (why : Nat) {s : State} (h : s.keeper.restartAt = []) :
    (triggerRestart why s).keeper = restartBegun why s.clock [s.clock] s.keeper := by
  have hn : ¬ (s.keeper.restartAt.any (fun x => decide (s.clock < x + 1000000000)) ||
      decide (4 ≤ (within (24 * 3600 * 1000000000) s.keeper.restartAt s.clock).length)) = true := by simp [h, within]
  refine (congrArg State.keeper (if_neg hn)).trans ?_
  refine (foldl_keeps State.keeper _ ?_ _ _).trans ?_
  · exact fun _ _ => rfl
  dsimp only
  refine (foldl_keeps State.keeper _ ?_ _ _).trans ?_
  · intro v x
    split
    · exact (sendFrame_frame _ _ _).keeper
    · rfl
  refine (foldl_keeps State.keeper _ ?_ _ _).trans ?_
  · exact fun v p => portClosed_keeper p v
  have hf := restartNoted_frame why s
  show restartBegun why (restartNoted why s).clock (within _ s.keeper.restartAt s.clock) (restartNoted why s).keeper = _
  rw [hf.keeper, hf.clock, h]
  rfl

theorem bootAppend_parts (kind index source detail : Nat) (value : Bytes) (s : State) :
    { bootAppend kind index source detail value s with mram := s.mram } = s := by
  unfold bootAppend
  split
  · rfl
  · split <;> rfl

/-- The block of a restart stands in the Boot Roll, and nothing else changes (13 R572, R575). -/
theorem restartBlock_parts (s : State) : { restartBlock s with mram := s.mram } = s := by
  unfold restartBlock
  split
  · rfl
  · dsimp only
    split
    · rfl
    · exact bootAppend_parts _ _ _ _ _ _

/-- The state in which a restart has ended: pages wiped, the block made, the records verified, the policies taken again (09 R429
steps 4 to 7). -/
def restartEnded (s : State) : State :=
  let s1 := verifyRecords (restartBlock (wipeKeeper s))
  { s1 with keeper := { s1.keeper with restarting := false }, munim := { s1.munim with policyStale := false } }

/-- The end of a restart changes neither the response ladder nor the keys, and lets nobody in by itself. -/
theorem restartEnded_leaves (s : State) : (restartEnded s).faults = s.faults ∧ (restartEnded s).munim.keys = s.munim.keys ∧
    (restartEnded s).keeper.waitGate = s.keeper.waitGate := by
  have h := restartBlock_parts (wipeKeeper s)
  exact ⟨(congrArg State.faults h :), (congrArg (fun v => v.munim.keys) h :), (congrArg (fun v => v.keeper.waitGate) h :)⟩

section
variable {s : State} (hr : s.keeper.restarting = true) (hl : s.faults.silent = false)
include hr hl

/-- Another image, or more than 10 ms, is Silence (09 R433). -/
theorem finishRestart_fails {ok : Bool} (h : ok = false ∨ s.keeper.restartFrom + 10000000 < s.clock) :
    finishRestart ok s = silence 0x0007 s := by
  have h1 : ¬ (!s.keeper.restarting || s.faults.silent) = true := by simp [hr, hl]
  have h2 : (!ok || decide (s.keeper.restartFrom + 10000000 < s.clock)) = true := by simpa using h
  exact (if_neg h1).trans (if_pos h2)

theorem finishRestart_ends (h : s.clock ≤ s.keeper.restartFrom + 10000000) (hw : s.keeper.waitGate = []) :
    finishRestart true s = restartEnded s := by
  have h1 : ¬ (!s.keeper.restarting || s.faults.silent) = true := by simp [hr, hl]
  have h2 : ¬ (!true || decide (s.keeper.restartFrom + 10000000 < s.clock)) = true := by simpa using h
  obtain ⟨-, -, hg⟩ := restartEnded_leaves s
  exact (if_neg h1).trans ((if_neg h2).trans (letIn_nobody 8 (hg.trans hw)))

end

section
variable {s : State} (hs : Serving s) (t : Nat)
include hs

theorem keeperWatchdogExpiry_idle {i : Nat} (h : 8 ≤ i ∨ inKeeper (clerk s i) = false ∨ s.keeper.restarting = true) :
    exec (.keeperWatchdogExpiry i t) s = .next (tick t s) := by
  have hn : ¬ (decide (i < 8) && inKeeper (clerk s i) && !s.keeper.restarting) = true := by
    rcases h with h | h | h <;> simp [h]
  refine coreAct_next_quiet hs (by rfl) ?_ rfl rfl
  exact if_neg hn

/-- A Clerk that makes no progress in the Keeper world restarts it (09 R428). -/
theorem keeperWatchdogExpiry_restarts {i : Nat} (hi : i < 8) (hk : inKeeper (clerk s i) = true)
    (hr : s.keeper.restarting = false) :
    exec (.keeperWatchdogExpiry i t) s = .next (gate s (triggerRestart 3 (tick t s))) := by
  have hn : (decide (i < 8) && inKeeper (clerk s i) && !s.keeper.restarting) = true := by simp [hi, hk, hr]
  refine coreAct_next hs (by rfl) ?_
  exact if_pos hn

/-- The restart that was triggered goes on to its end (09 R429). -/
theorem keeperRestart_finishes (k : Nat) (ok : Bool) (hr : s.keeper.restarting = true) :
    exec (.keeperRestart k ok t) s = .next (gate s (finishRestart ok (tick t s))) := by
  refine coreAct_next hs (by rfl) ?_
  exact congrArg (finishRestart ok) (if_pos hr)

theorem keeperRestartTimeout_silences (hr : s.keeper.restarting = true) :
    exec (.keeperRestartTimeout t) s = .next (gate s (silence 0x0007 (tick t s))) := by
  refine coreAct_next hs (by rfl) ?_
  exact if_pos hr

theorem keeperRestartTimeout_idle (hr : s.keeper.restarting = false) :
    exec (.keeperRestartTimeout t) s = .next (tick t s) := by
  refine coreAct_next_quiet hs (by rfl) ?_ rfl rfl
  exact if_neg (ne_true_of_eq_false hr)

end

/-- Settles O50: the gate, the pins and channels, the claims and the restarts each do what they say, and nothing where they do not
apply. -/
theorem worldRows : Obligations.WorldRows := by
  unfold Obligations.WorldRows
  intro s t hs hl u lost gated
  have ha := alive_running hs
  refine ⟨fun i h => worldGateCall_ignored ha t h,
    fun i c hi hlen hc hk hh hw => ⟨fun hroom hr => ?enters, fun hfull => ?waits⟩,
    fun i hw => worldGateReturn_next ha t i hw, perfHoldRelease_waits ha t, perfHoldRelease_releases ha t,
    fun i k hi => ⟨pinWorldSet_same hs t hi k, pinWorldSet_moves hs t hi k, pinWorldTakeover_takes hs k, pinWorldTakeover_idle hs⟩,
    fun l c k o h => dmaChannelBind_refused hs t hl c k o h,
    fun c k o hc => ⟨fun h => ⟨_, dmaChannelBind_busy hs t hc k o h, (note_frame _ _ _).gate rfl⟩, dmaChannelBind_idle hs t hc k o⟩,
    fun b hb => ⟨claimSet_sets ha t hb, claimRelease_applies ha t hb, gatingRequest_ungates ha t hb,
      gatingRequest_gates ha t hb, fun h => ?defers⟩,
    fun b g hb => ⟨claimSet_past ha t hb, claimRelease_past ha t hb, gatingRequest_past ha t hb g⟩,
    fun i h => keeperWatchdogExpiry_idle hs t h,
    fun i hi hk hr => ⟨fun h => ?restarts, fun h => ?restartsAgain⟩,
    fun hr => ⟨fun k h => ?tooLong, fun k => ?wrongImage, fun k h hw => ?ends, ?timeout⟩,
    keeperRestartTimeout_idle hs t⟩
  case enters =>
    subst hc
    have hp := enterKeeper_parts i { u with keeper := { s.keeper with waitGate := [] } }
    have hc := enterKeeper_worlds i { u with keeper := { s.keeper with waitGate := [] } }
    refine ⟨_, worldGateCall_enters ha t hi hk hh hw hroom hr, ?_, ?_, (congrArg (fun v => v.keeper.waitGate) hp :), fun j hj => ?_⟩
    · rw [clerk, hc]
      exact modAt_getD _ _ _ _ (hlen ▸ hi)
    · rw [hc]
    · rw [clerk, hc]
      exact modAt_getD_other _ _ _ hj
  case waits =>
    subst hc
    exact worldGateCall_waits ha t hi hk hh hw hfull
  case defers =>
    obtain ⟨hg, hn, hi⟩ := deferral_setGate_leaves (!(gateOf s b).deferred) b
      { gateOf s b with pendingReq := some true, deferred := true } u
    exact ⟨_, gatingRequest_defers ha t hb h, hg, hn, hi.trans (setGate_insts_congr (by rfl) b u)⟩
  case restarts =>
    have hx := triggerRestart_keeper 3 (s := tick t s) h
    refine ⟨_, keeperWatchdogExpiry_restarts hs t hi hk hr, ?_⟩
    simp only [gate_keeper, hx]
    exact ⟨rfl, rfl, rfl, rfl, rfl⟩
  case restartsAgain =>
    have hx := keeperWatchdogExpiry_restarts hs t hi hk hr
    rw [triggerRestart_beyond 3 (s := u) h] at hx
    exact ⟨_, hx, silence_lost 0x0007 (by rw [(restartNoted_frame 3 u).faults]; exact hl)⟩
  case tooLong =>
    have hx := keeperRestart_finishes hs t k true hr
    rw [finishRestart_fails (s := u) hr hl (.inr h)] at hx
    exact ⟨_, hx, silence_lost 0x0007 (s := u) hl⟩
  case wrongImage =>
    have hx := keeperRestart_finishes hs t k false hr
    rw [finishRestart_fails (s := u) hr hl (.inl rfl)] at hx
    exact ⟨_, hx, silence_lost 0x0007 (s := u) hl⟩
  case ends =>
    have hx := keeperRestart_finishes hs t k true hr
    rw [finishRestart_ends (s := u) hr hl h hw] at hx
    obtain ⟨hf, hk, -⟩ := restartEnded_leaves u
    exact ⟨_, hx, rfl, rfl, (congrArg Faults.silent hf).trans hl, hk⟩
  case timeout => exact ⟨_, keeperRestartTimeout_silences hs t hr, silence_lost 0x0007 (s := u) hl⟩

end Machine
end Sys2Proof
end

section
/-!
PROOFS. The orders that bind, unbind and join the pair, set the Vigil time and apply the platform records (10 R439, R479, R482;
12 R527; 14 R611, R613).
-/
namespace Sys2Proof
namespace Machine

/-! ### Handlers that say themselves what becomes of their order -/

/-- The row of a ready firmware order whose handler decides without a plan leaves what the handler leaves (09 R431). -/
theorem fwRow_settled {c : Instr} {f : Handler} {s v : State} {id op : Nat} {o : Order} {e : FwEnv}
    (hc : exec c s = runFw op f id e s) (h : FwReady s id op o e) (hf : f o e (tick e.t s) = (.settled, v)) :
    exec c s = .next (gate s v) := by
  obtain ⟨hs, ho, hop, hst, hk, hl, hfo⟩ := h
  have hx : (decide (o.opcode ≠ op) || o.stage != .ready || s.keeper.restarting || o.fwLost) = false := by simp [hop, hst, hk, hl]
  refine coreAct_next hs hc ?_
  dsimp only
  rw [order?_tick, ho]
  exact (if_neg (ne_true_of_eq_false hx)).trans ((if_neg (ne_true_of_eq_false hfo)).trans (congrArg _ hf))

/-- A passed decision before a handler without a plan keeps no result (04 R226). -/
theorem gated_settled {o : Order} {e : FwEnv} {owner : Nat} {u v w : State} {a : Approval}
    {k : Option Approval → State → FwOut × State} (h : GoesOn true u o e owner (some a) v) (hk : k (some a) v = (.settled, w)) :
    gated true o e owner u k = (.settled, w) := by
  obtain ⟨_, ⟨rfl⟩, ha, hc, masks, hd, rfl, rfl⟩ := h
  rw [gated, if_pos rfl, withQuorum, ha, hc]
  simp [hd, hk]

/-- An order with a list that can be read goes on to its data (04 R222). -/
theorem listFirst_good {o : Order} (h : ∃ l, approvalsOf o = .good l) (e : FwEnv) (g : GateArgs) (u : State) (k : FwOut × State) :
    listFirst o e g u k = k := by
  obtain ⟨l, hl⟩ := h
  rw [listFirst, hl]

/-! ### The pair -/

theorem pairUnbind_unpaired {u : State} {o : Order} (e : FwEnv) (hf : Fresh true u o 0) (h : u.mram.pairRec = none) :
    pairUnbind o e u = (.fail 0x0330 0, u) := by
  rw [pairUnbind, appliedFirst_fresh hf, h]
  rfl

/-- PAIR_UNBIND of a pair goes on to the quorum of Owner 0 (10 R479). -/
theorem pairUnbind_paired {u : State} {o : Order} (e : FwEnv) (hf : Fresh true u o 0) (h : u.mram.pairRec.isSome = true)
    (hr : (ownerRec u 0).isSome = true) :
    pairUnbind o e u = gated true o e 0 u fun ap s => (.done { items := seqItems s ap ++ [.pairGone] }, s) := by
  rw [pairUnbind, appliedFirst_fresh hf, Option.isNone_eq_false_iff.mpr h, Option.isNone_eq_false_iff.mpr hr]
  rfl

/-- A part that may be joined by its twin: Sole, in session with a twin that waits, and no join runs (10 R482). -/
def Joinable (p : Pair) : Prop :=
  p.state = psSole ∧ p.session = true ∧ (p.twinState = psWaiting ∨ p.twinState = psJoining) ∧ p.joinOrder = none

theorem joinTest_iff (p : Pair) : Joinable p ↔ ¬ (decide (p.state ≠ psSole) || !p.session ||
    (decide (p.twinState ≠ psWaiting) && decide (p.twinState ≠ psJoining)) || p.joinOrder.isSome) = true := by
  simp only [Joinable, Bool.or_eq_true, Bool.and_eq_true, decide_eq_true_eq, Bool.not_eq_true', Option.isSome_iff_ne_none,
    not_or, not_and_or, not_not, Bool.not_eq_false, and_assoc]

/-! ### The platform -/

section
variable {u : State} {o : Order} (e : FwEnv) (hf : Fresh true u o 0) (hr : (ownerRec u 0).isSome = true)
  (hl : ∃ l, approvalsOf o = .good l)
include hf hr hl

theorem pdbApply_bad {f : Nat × Nat} (h : checkPdb u (opAux o) = .error f) : pdbApply o e u = (.fail f.1 f.2, u) := by
  rw [pdbApply, appliedFirst_fresh hf, Option.isNone_eq_false_iff.mpr hr, if_neg Bool.false_ne_true, listFirst_good hl, h]

/-- PDB_APPLY of a block that passes its checks goes on to the quorum of Owner 0 (14 R611). -/
theorem pdbApply_good {p : Pdb} (h : checkPdb u (opAux o) = .ok p) : pdbApply o e u =
    gated true o e 0 u fun ap s => (.done { word := p.version, items := seqItems s ap ++ [.pdb p] }, s) := by
  rw [pdbApply, appliedFirst_fresh hf, Option.isNone_eq_false_iff.mpr hr, if_neg Bool.false_ne_true, listFirst_good hl, h]

/-- CALIB_APPLY checks the form of the record and its version before the quorum (14 R613). -/
theorem calibApply_eq : calibApply o e u =
      orElse (refuse (!calibForm (opAux o) || field (opAux o) 8 4 ≤ calibVersion u) 0x0352 0) u
        (gated true o e 0 u fun ap s =>
          (.done { word := (applyCalib (opAux o) s).1, items := seqItems s ap ++ [.calib (opAux o)] }, s)) := by
  rw [calibApply, appliedFirst_fresh hf, Option.isNone_eq_false_iff.mpr hr, if_neg Bool.false_ne_true, listFirst_good hl]

end

/-- The plan of VIGIL_SET_TIME: the time before and whether it was valid is the result word (12 R527). -/
def vigilPlan (cur v : Nat) (a : Approval) (s : State) : Plan :=
  { word := cur + (if s.vigil.timeValid then 2 ^ 32 else 0), items := [seqItem s a, .vigilTime v] }

/-- Settles O21: the checks of the six orders, the plans of four, and what the two that wait for the twin send. -/
theorem pairAndPlatformRows : Obligations.PairAndPlatformRows := by
  unfold Obligations.PairAndPlatformRows
  intro s id op o e h
  have hid : o.id = id := order?_id h.2.1
  refine ⟨fun hop hf a v hok hgo => ?bind, fun hop hf => ?unbind, fun hop => ?join, fun hop => ?time,
    fun hop hf hr hl => ?block, fun hop hf hr hl => ?calib⟩
  case bind =>
    refine fwRow_settled (f := pairBind) (by rw [hop]; rfl) h ?_
    rw [pairBind]
    dsimp only
    rw [appliedFirst_fresh hf, hok, orElse, hid]
    refine gated_settled hgo ?_
    rfl
  case unbind =>
    have hx : exec (.pairUnbind id e) s = runFw op pairUnbind id e s := by rw [hop]; rfl
    refine ⟨fun hn => fwRow_plans hx h (pairUnbind_unpaired e hf hn), fun hp hr a v hgo => fwRow_plans hx h
      ((pairUnbind_paired e hf hp hr).trans ?_)⟩
    exact gated_goesOn (k := fun ap s => (.done { items := seqItems s ap ++ [.pairGone] }, s)) hgo rfl (Nat.zero_div 256) rfl
  case join =>
    have hx : exec (.pairJoin id e) s = runFw op pairJoin id e s := by rw [hop]; rfl
    refine ⟨fun hn => fwRow_plans hx h (if_pos (by simpa only [not_not] using mt (joinTest_iff _).mpr hn)),
      fun hw => fwRow_settled hx h ((if_neg ((joinTest_iff _).mp hw)).trans ?_)⟩
    rw [hid]
  case time =>
    intro g cur hf
    have hx : exec (.vigilSetTime id e) s = runFw op vigilSetTime id e s := by rw [hop]; rfl
    refine ⟨fun hv hlt => fwRow_plans hx h ?_, fun a v hle ha => fwRow_plans hx h ?_⟩
    · rw [vigilSetTime]
      dsimp only
      rw [hf, hv, refuse, if_pos (by simpa using hlt)]
      rfl
    · rw [vigilSetTime]
      dsimp only
      rw [hf, refuse, if_neg ?_]
      · exact withQuorum_approved (k := fun a s => (.done (vigilPlan cur (par o 0 4) a s), s)) ha rfl (Nat.zero_div 256) rfl
      · rcases hle with hv | hle
        · simp [hv]
        · simp only [Bool.and_eq_true, decide_eq_true_eq, not_and, not_lt]
          exact fun _ => hle
  case block =>
    have hx : exec (.pdbApply id e) s = runFw op pdbApply id e s := by rw [hop]; rfl
    refine ⟨fun f hbad => fwRow_plans hx h ?_, fun p a v hok hgo => fwRow_plans hx h ?_⟩
    · exact pdbApply_bad e hf hr hl hbad
    · rw [pdbApply_good e hf hr hl hok]
      exact gated_goesOn (k := fun ap s => (.done { word := p.version, items := seqItems s ap ++ [.pdb p] }, s)) hgo rfl
        (Nat.zero_div 256) rfl
  case calib =>
    have hx : exec (.calibApply id e) s = runFw op calibApply id e s := by rw [hop]; rfl
    refine ⟨fun hbad => fwRow_plans hx h ?_, fun a v hform hver hgo => fwRow_plans hx h ?_⟩
    · rw [calibApply_eq e hf hr hl, refuse, if_pos (by simpa using hbad)]
      rfl
    · rw [calibApply_eq e hf hr hl, refuse, if_neg (by simpa [hform] using hver)]
      exact gated_goesOn (k := fun ap s =>
        (.done { word := (applyCalib (opAux o) s).1, items := seqItems s ap ++ [.calib (opAux o)] }, s)) hgo rfl
        (Nat.zero_div 256) rfl

end Machine
end Sys2Proof
end

section
/-!
PROOFS. Frames of the Courier Link: what every command of the link answers, what a frame in order leaves, and the rows of the frame
types (10 R443 to R447).
-/
namespace Sys2Proof
namespace Machine

/-! ### Evidence with its outputs -/

/-- Between two states nothing has changed but the evidence, and its outputs come after those before (13 R552 to R583). -/
def Logs (s v : State) : Prop := EvidenceOnly s v ∧ s.out <+: v.out

theorem Logs.refl (s : State) : Logs s s := ⟨rfl, List.prefix_rfl⟩

theorem Logs.trans {s t v : State} (h1 : Logs s t) (h2 : Logs t v) : Logs s v := ⟨h1.1.trans h2.1, h1.2.trans h2.2⟩

theorem Logs.appends {s v : State} (h : Logs s v) : Appends s v := ⟨h.2, h.1.pending⟩

theorem event_logs (src : Nat) (s : State) : Logs s (event src s) := ⟨event_frame src s, event_out src s⟩

theorem pairNote_logs (n : Nat) (s : State) : Logs s (pairNote n s) := ⟨note_frame _ _ s, note_out _ _ s⟩

theorem sendFrame_logs (ch : Nat) (b : FrameBody) (s : State) : Logs s (sendFrame ch b s) :=
  ⟨sendFrame_frame ch b s, sendFrame_out ch b s⟩

theorem recordThrough_logs (code sev p0 p1 p2 : Nat) (s : State) : Logs s (recordThrough code sev p0 p1 p2 s) :=
  ⟨recordThrough_frame code sev p0 p1 p2 s, recordThrough_out code sev p0 p1 p2 s⟩

theorem record_logs (code sev p0 p1 p2 : Nat) (s : State) : Logs s (record code sev p0 p1 p2 s) :=
  ⟨record_frame code sev p0 p1 p2 s, record_out code sev p0 p1 p2 s⟩

/-- A field of the pair that no frame and no evidence item touches is kept with the evidence. -/
theorem EvidenceOnly.pair {β : Type} {s v : State} (h : EvidenceOnly s v) (g : Pair → β)
    (hg : ∀ p ev tx rp, g { p with evidence := ev, txSeq := tx, replay := rp } = g p) : g v.pair = g s.pair :=
  (hg v.pair _ _ _).symm.trans (congrArg (fun x => g x.pair) h)

/-! ### Commands of the link -/

/-- A command of the link in operation answers what its meaning leaves behind the egress gate. -/
theorem frame_gate {c : Instr} {k : State → State} {s v : State} {t : Nat} (hs : Open s) (hc : exec c s = frameAct t k s)
    (hv : k (tick t s) = v) : exec c s = .next (gate s v) :=
  coreAct_next hs.1 hc hv

/-- A command of the link in operation and outside Silence answers what its meaning leaves, when that only adds outputs. -/
theorem frame_next {c : Instr} {k : State → State} {s v : State} {t : Nat} (hs : Open s) (hc : exec c s = frameAct t k s)
    (hv : k (tick t s) = v) (h : Appends s v) : exec c s = .next v :=
  (frame_gate hs hc hv).trans (congrArg _ (h.gate hs.2))

/-- A command of the link in operation that puts nothing out answers what its meaning leaves. -/
theorem frame_quiet {c : Instr} {k : State → State} {s v : State} {t : Nat} (hs : Open s) (hc : exec c s = frameAct t k s)
    (hv : k (tick t s) = v) (ho : v.out = s.out) (hp : v.pending = s.pending) : exec c s = .next v :=
  coreAct_next_quiet hs.1 hc hv ho hp

/-! ### A frame that is taken -/

/-- Receiving a frame changes what has been received, what waits for an acknowledgement and what evidence is left to send, and
nothing else (10 R444, R446, R474). -/
theorem arrived_frame (s : State) (f : Frame) (t : Nat) :
    { arrived s f t with pair := { (arrived s f t).pair with
      rxSeq := s.pair.rxSeq, replay := s.pair.replay, evidence := s.pair.evidence, pendRcpts := s.pair.pendRcpts
      rcptUnacked := s.pair.rcptUnacked } } = tick t s := by
  unfold arrived takeFrame
  cases f.ack <;> rfl

theorem arrived_keeps {β : Type} (g : State → β) (hg : ∀ v p, g { v with pair := p } = g v) (s : State) (f : Frame) (t : Nat) :
    g (arrived s f t) = g (tick t s) :=
  (hg _ _).symm.trans (congrArg g (arrived_frame s f t))

theorem arrived_pair {β : Type} (g : Pair → β) (hg : ∀ p rx rp ev pr n,
      g { p with rxSeq := rx, replay := rp, evidence := ev, pendRcpts := pr, rcptUnacked := n } = g p)
    (s : State) (f : Frame) (t : Nat) : g (arrived s f t).pair = g s.pair :=
  (hg _ _ _ _ _ _).symm.trans (congrArg (fun v => g v.pair) (arrived_frame s f t))

section
variable (s : State) (f : Frame) (t : Nat)

@[simp] theorem arrived_out : (arrived s f t).out = s.out := arrived_keeps State.out (fun _ _ => rfl) s f t
@[simp] theorem arrived_pending : (arrived s f t).pending = s.pending := arrived_keeps State.pending (fun _ _ => rfl) s f t
@[simp] theorem arrived_orders : (arrived s f t).orders = s.orders := arrived_keeps State.orders (fun _ _ => rfl) s f t
@[simp] theorem arrived_munim : (arrived s f t).munim = s.munim := arrived_keeps State.munim (fun _ _ => rfl) s f t
@[simp] theorem arrived_mram : (arrived s f t).mram = s.mram := arrived_keeps State.mram (fun _ _ => rfl) s f t
@[simp] theorem arrived_faults : (arrived s f t).faults = s.faults := arrived_keeps State.faults (fun _ _ => rfl) s f t

end

theorem arrived_appends (s : State) (f : Frame) (t : Nat) : Appends s (arrived s f t) :=
  ⟨(arrived_out s f t).symm ▸ List.prefix_rfl, arrived_pending s f t⟩

/-- A frame in order whose type the pair's mode permits has its effect and is acknowledged (10 R446, R447). -/
theorem receive_taken {s : State} {f : Frame} (h : InOrder s f) (hb : bodyPermitted s f.body = true) (t : Nat) (k : State → State) :
    receive f k (tick t s) = sendAck f.ch false (k (arrived s f t)) := by
  obtain ⟨-, ha, he, hq⟩ := h
  have hu : (!accepting (tick t s) || decide (f.epoch ≠ (tick t s).pair.sessionEpoch)) = false := by
    rw [Bool.or_eq_false_iff]
    exact ⟨congrArg _ ha, decide_eq_false (not_not.mpr he)⟩
  have hx : expected (tick t s) f.ch = f.seq := hq.symm
  have hp : bodyPermitted (tick t s) f.body = true := hb
  rw [receive, hu, hx, hp]
  simp only [Bool.false_eq_true, if_false, lt_irrefl, if_true]
  rfl

/-- A command that receives a frame in order, of a type that is permitted, leaves its effect behind the egress gate. -/
theorem receive_gate {c : Instr} {s v : State} {f : Frame} {t : Nat} {k : State → State} (h : InOrder s f)
    (hb : bodyPermitted s f.body = true) (hc : exec c s = frameAct t (receive f k) s) (hv : k (arrived s f t) = v) :
    exec c s = .next (gate s (sendAck f.ch false v)) :=
  frame_gate h.1 hc ((receive_taken h hb t k).trans (congrArg _ hv))

/-- A command takes a frame in order, of a type that is permitted, with an effect that only adds outputs. -/
theorem receive_takes {c : Instr} {s v : State} {f : Frame} {t : Nat} {k : State → State} (h : InOrder s f)
    (hb : bodyPermitted s f.body = true) (hc : exec c s = frameAct t (receive f k) s) (hv : k (arrived s f t) = v)
    (ha : Appends s v) : Takes c s f v :=
  (receive_gate h hb hc hv).trans (congrArg _ ((ha.trans (sendFrame_logs _ _ _).appends).gate h.1.2))

/-- What a taken frame leaves is its effect, but for the evidence of the acknowledgement. -/
theorem Takes.does {c : Instr} {s v : State} {f : Frame} {P : State → Prop} (h : Takes c s f v)
    (hp : ∀ y, EvidenceOnly v y → y.mram = v.mram → P y) : Does c s P := by
  refine ⟨_, h, hp _ (sendFrame_frame _ _ _) ?_⟩
  unfold sendAck sendFrame
  split <;> rfl

/-! ### The rows of the frame types -/

section
variable {f : Frame} (t : Nat) (s : State)

theorem heartbeat_row {b : Beat} (hb : f.body = .heartbeat b) :
    exec (.heartbeat f t) s = frameAct t (receive f (heartbeatIn b)) s := by
  refine Eq.trans (b := execHeartbeat f t s) rfl ?_
  rw [execHeartbeat, hb]

theorem claim_row {rs : List ClaimRec} (hb : f.body = .claim rs) :
    exec (.claim f t) s = frameAct t (receive f (fun s => rs.foldl claimIn s)) s := by
  refine Eq.trans (b := execClaim f t s) rfl ?_
  rw [execClaim, hb]

theorem deltaPrepare_row {d : Delta} (hb : f.body = .delta d) :
    exec (.deltaPrepare f t) s = frameAct t (receive f (fun s => if d.phase = 1 then prepareIn d s else s)) s := by
  refine Eq.trans (b := execDeltaPrepare f t s) rfl ?_
  rw [execDeltaPrepare, hb]

theorem stallReset_row {st : Nat} {gen : BitVec 16} {cause : Nat} (hb : f.body = .stallReset st gen cause) :
    exec (.deltaPrepare f t) s = frameAct t (receive f (twinReset st gen cause)) s := by
  refine Eq.trans (b := execDeltaPrepare f t s) rfl ?_
  rw [execDeltaPrepare, hb]

theorem deltaRow_receives {d : Delta} (hb : f.body = .delta d) (n : Nat) (k : Delta → State → State) :
    deltaRow n k f t s = frameAct t (receive f (fun s => if d.phase = n then k d s else s)) s := by
  rw [deltaRow, hb]

theorem reserveRow_receives {kd n rid v h : Nat} (hb : f.body = .reserve kd n rid v h) (kind : Nat)
    (k : Nat → Nat → Nat → Nat → State → State) :
    reserveRow kind k f t s = frameAct t (receive f (fun s => if kd = kind then k n rid v h s else s)) s := by
  rw [reserveRow, hb]

theorem evidence_row {k n : Nat} {b : Bytes} (hb : f.body = .evidence k n b) :
    exec (.evidence f t) s = frameAct t (receive f (evidenceIn k n b)) s := by
  refine Eq.trans (b := execEvidence f t s) rfl ?_
  rw [execEvidence, hb]

theorem otherFrame_row {n : Nat} (hb : f.body = .other n) : exec (.evidence f t) s = frameAct t (receive f id) s := by
  refine Eq.trans (b := execEvidence f t s) rfl ?_
  rw [execEvidence, hb]

theorem silence_row {a b c : Nat} (hb : f.body = .silence a b c) :
    exec (.silenceFrame f t) s = frameAct t (receive f silenceIn) s := by
  refine Eq.trans (b := execSilenceFrame f t s) rfl ?_
  rw [execSilenceFrame, hb]

theorem resync_row {its : List Item} (hb : f.body = .resync its) :
    exec (.resync f t) s = frameAct t (receive f (resyncIn its)) s := by
  refine Eq.trans (b := execResync f t s) rfl ?_
  rw [execResync, hb]

theorem resyncEnd_row {d : Bytes} (hb : f.body = .resyncEnd d) :
    exec (.resync f t) s = frameAct t (receive f (resyncEndIn d)) s := by
  refine Eq.trans (b := execResync f t s) rfl ?_
  rw [execResync, hb]

theorem ack_row {nak : Bool} (hb : f.body = .ack nak) : exec (.ack f t) s = frameAct t (ackIn f nak) s := by
  refine Eq.trans (b := execAck f t s) rfl ?_
  rw [execAck, hb]

end

/-- The row of every frame of a session receives it (10 R447). -/
theorem sessionRow_receives {f : Frame} {t : Nat} {c : Instr} (h : sessionRow f t = some c) :
    ∃ k, ∀ s, exec c s = frameAct t (receive f k) s := by
  unfold sessionRow at h
  split at h
  case h_1 hb => cases h; exact ⟨_, fun s => heartbeat_row t s hb⟩
  case h_2 hb => cases h; exact ⟨_, fun s => claim_row t s hb⟩
  case h_3 hb =>
    split at h <;> cases h
    · exact ⟨_, fun s => deltaPrepare_row t s hb⟩
    all_goals exact ⟨_, fun s => deltaRow_receives t s hb _ _⟩
  case h_4 hb => cases h; exact ⟨_, fun s => stallReset_row t s hb⟩
  case h_5 hb =>
    split at h <;> cases h
    all_goals exact ⟨_, fun s => reserveRow_receives t s hb _ _⟩
  case h_6 hb => cases h; exact ⟨_, fun s => evidence_row t s hb⟩
  case h_7 hb => cases h; exact ⟨_, fun s => otherFrame_row t s hb⟩
  case h_8 hb => cases h; exact ⟨_, fun s => silence_row t s hb⟩
  case h_9 hb => cases h; exact ⟨_, fun s => resync_row t s hb⟩
  case h_10 hb => cases h; exact ⟨_, fun s => resyncEnd_row t s hb⟩
  case h_11 => cases h

end Machine
end Sys2Proof
end

section
/-!
PROOFS. What the link does with a frame by its session and its order, with frame errors and with lanes (10 R443 to R447, R474).
-/
namespace Sys2Proof
namespace Machine

/-! ### Frames that are not the next in order -/

section
variable {s : State} {f : Frame} (k : State → State)

/-- A frame without a session that takes frames, or of another epoch, is discarded (10 R444, R446). -/
theorem receive_foreign (h : accepting s = false ∨ f.epoch ≠ s.pair.sessionEpoch) : receive f k s = s := by
  refine if_pos ?_
  simpa using h

variable (ha : accepting s = true) (he : f.epoch = s.pair.sessionEpoch)
include ha he

theorem receive_repeated (h : f.seq < expected s f.ch) : receive f k s = sendAck f.ch false s := by
  simp [receive, ha, he, h]

theorem receive_early (h : expected s f.ch < f.seq) : receive f k s = sendAck f.ch true s := by
  simp [receive, ha, he, h, Nat.lt_asymm h]

/-- A frame in order of a type that is not permitted is counted, noted and acknowledged (10 R447). -/
theorem receive_barred (h : f.seq = expected s f.ch) (hb : bodyPermitted s f.body = false) :
    receive f k s = sendAck f.ch false (pairNote pnFrame (takeFrame f s)) := by
  simp [receive, ha, he, h, hb]

end

/-! ### Acknowledgements -/

section
variable {s : State} {f : Frame} (nak : Bool)

theorem ackIn_foreign (h : accepting s = false ∨ f.epoch ≠ s.pair.sessionEpoch) : ackIn f nak s = s := by
  refine if_pos ?_
  rw [Bool.or_eq_true]
  exact .inl (by simpa using h)

theorem ackIn_repeated (h : f.seq < expected s f.ch) : ackIn f nak s = s := by
  simp [ackIn, h]

variable (ha : accepting s = true) (he : f.epoch = s.pair.sessionEpoch)
include ha he

theorem ackIn_early (h : expected s f.ch < f.seq) : ackIn f nak s = sendAck f.ch true s := by
  simp [ackIn, ha, he, h, Nat.lt_asymm h]

theorem ackIn_next (h : f.seq = expected s f.ch) :
    ackIn f nak s = if nak then resend f.ch (takeFrame f s) else takeFrame f s := by
  simp [ackIn, ha, he, h]

end

/-- An acknowledgement in order frees frames, and as a NAK sends the others again; it puts out no more than those (10 R446). -/
theorem acknowledged_appends (s : State) (f : Frame) (nak : Bool) (t : Nat) :
    Appends s (if nak then resend f.ch (arrived s f t) else arrived s f t) := by
  split
  · exact (arrived_appends s f t).trans ⟨List.prefix_append _ _, rfl⟩
  · exact arrived_appends s f t

theorem sendAck_appends (ch : Nat) (nak : Bool) (s : State) (t : Nat) : Appends s (sendAck ch nak (tick t s)) :=
  (sendFrame_logs ch _ (tick t s)).appends.after rfl rfl

/-- The evidence items that freed frames carried, as `acked` gathers them, and as they are found in the replay buffer. -/
theorem freed_evidence (l : List (Nat × Nat × Frame)) (p : Nat × Nat × Frame → Bool) (e : Nat × Nat × Bytes) :
    ((l.filter p).filterMap (fun x => match x.2.2.body with | .evidence k n b => some (k, n, b) | _ => none)).contains e =
      l.any (fun x => p x && x.2.2.body == .evidence e.1 e.2.1 e.2.2) := by
  rw [Bool.eq_iff_iff, List.contains_iff_mem, List.any_eq_true]
  simp only [List.mem_filterMap, List.mem_filter, Bool.and_eq_true, beq_iff_eq, and_assoc]
  refine exists_congr fun x => and_congr_right fun _ => and_congr_right fun _ => ?_
  split
  · next k n b hb => simp [hb, Prod.ext_iff]
  · next hb => simpa using hb _ _ _

/-- What the header of a frame of the bulk channel frees (10 R446, R474). -/
theorem arrived_bulk {s : State} {f : Frame} {n t : Nat} (hn : f.ack = some n) (hc : f.ch = 1) :
    arrived s f t = { tick t s with pair := { s.pair with
      rxSeq := modAt (· + 1) s.pair.rxSeq 1
      replay := s.pair.replay.filter (fun x => !(x.1 == 1 && decide (x.2.1 ≤ n)))
      evidence := s.pair.evidence.filter (fun e => !(s.pair.replay.any (fun x => x.1 == 1 && decide (x.2.1 ≤ n) &&
        x.2.2.body == .evidence e.1 e.2.1 e.2.2)))
      rcptUnacked := s.pair.pendRcpts.length } } := by
  rw [arrived, takeFrame, hn, hc]
  dsimp only [acked]
  simp only [← freed_evidence]
  rfl

theorem arrived_bare {s : State} {f : Frame} {t : Nat} (h : f.ack = none) :
    arrived s f t = { tick t s with pair := { s.pair with rxSeq := modAt (· + 1) s.pair.rxSeq f.ch } } := by
  rw [arrived, takeFrame, h]
  rfl

/-- An acknowledgement takes the next sequence of its channel and is kept for resending (10 R444, R446). -/
theorem sendAck_kept {s : State} {ch q n : Nat} (nak : Bool) (hs : s.pair.session = true) (hq : s.pair.txSeq[ch]? = some q)
    (hn : s.pair.rxSeq[ch]? = some (n + 1)) :
    let g : Frame := { ch := ch, epoch := s.pair.sessionEpoch, seq := q, ack := some n, body := .ack nak }
    sendAck ch nak s = { s with out := s.out ++ [.frame g], pair := { s.pair with
      txSeq := modAt (· + 1) s.pair.txSeq ch, replay := s.pair.replay ++ [(ch, q, g)] } } := by
  have hx : expected s ch = n + 1 := by simp [expected, hn]
  have hl : lastReceived s ch = some n := by simp [lastReceived, hx]
  have ht : s.pair.txSeq.getD ch 0 = q := by simp [hq]
  dsimp only
  rw [sendAck, sendFrame, if_pos hs, hl, ht]
  rfl

/-! ### Evidence of the twin -/

theorem evidenceIn_logs (kind seq : Nat) (b : Bytes) (s : State) : Logs s (evidenceIn kind seq b s) := by
  unfold evidenceIn
  split
  · exact recordThrough_logs _ _ _ _ _ _
  · exact ⟨(enterRec_frame _ s).trans (flushAll_frame _), by rw [flushAll_out]; exact enterRec_out _ s⟩
  · exact recordThrough_logs _ _ _ _ _ _
  · exact Logs.refl s

/-! ### Frame errors -/

section
variable {s : State} (ch : Nat)

theorem frameError_deaf (k : FrameErr) (h : accepting s = false) : frameError ch k s = s := if_pos (by simp [h])

theorem frameError_plain {k : FrameErr} (h : accepting s = true) (hk : k ≠ .tag) : frameError ch k s = sendAck ch true s := by
  have hn : ¬ (!accepting s) = true := by simp [h]
  refine (if_neg hn).trans ?_
  split
  · exact absurd rfl hk
  · rfl

/-- A tag failure is counted with its time (10 R446). -/
def tagFailed (s : State) : State :=
  { s with pair := { s.pair with tagFails := satAdd 16 s.pair.tagFails 1, tagTimes := within 1000000 s.pair.tagTimes s.clock } }

/-- A tag failure is noted and answered with a NAK, and the 64th within 1 ms closes the link instead (10 R446). -/
theorem frameError_tag (h : accepting s = true) :
    frameError ch .tag s =
      (let v := event 36 (pairNote pnTag (tagFailed s))
       if 64 ≤ (within 1000000 s.pair.tagTimes s.clock).length then { v with pair := { v.pair with closedRx := true } }
       else sendAck ch true v) := by
  rw [frameError, h]
  rfl

end

/-! ### Lanes -/

/-- A lane is taken out of service (10 R443). -/
def laneDropped (lane : Nat) (s : State) : State :=
  { s with pair := { s.pair with lanes := s.pair.lanes &&& ~~~((1 : BitVec 8) <<< lane) } }

/-- The session of a link that is down has ended (10 R443). -/
def sessionDropped (s : State) : State :=
  { s with pair := { s.pair with session := false, sessionKey := none, frameKeys := none, ptk := none, hsStep := 0 } }

theorem linkUp_congr {s v : State} (h : v.pair.lanes = s.pair.lanes) : linkUp v = linkUp s := by
  rw [linkUp, linkUp, h]

/-- The end of a session is no evidence, and leaves the evidence alone. -/
theorem Logs.sessionDropped {s v : State} (h : Logs s v) : Logs (sessionDropped s) (sessionDropped v) :=
  ⟨(congrArg Machine.sessionDropped h.1 :), h.2⟩

/-- A lane in service fails: it is noted, and a link with too few lanes loses its session (10 R443). -/
theorem laneFail_next {s : State} {lane : Nat} (hl : lane < 8) (hi : s.pair.lanes.getLsbD lane = true) :
    ∃ v, Logs (laneDropped lane s) v ∧ laneFail lane s = if linkUp (laneDropped lane s) then v else sessionDropped v := by
  have h := (pairNote_logs pnLane (laneDropped lane s)).trans (event_logs 35 _)
  refine ⟨_, h, ?_⟩
  rw [← linkUp_congr (h.1.pair Pair.lanes fun _ _ _ _ => rfl), laneFail, if_neg (by simp [hi, hl])]
  rfl

/-- Settles O45: frames by their order, acknowledgements, frame errors and lanes. -/
theorem linkRows : Obligations.LinkRows := by
  unfold Obligations.LinkRows
  intro s t hs u
  refine ⟨fun f c hc => ?frame, fun f k n b hb hi => ?evidence, fun f nak hb => ?ack, fun f n hn hc => arrived_bulk hn hc,
    fun f hn => arrived_bare hn, fun ch nak q n _ hss hq hn => sendAck_kept nak hss hq hn,
    fun ch k ha => frame_quiet (k := frameError ch k) hs (by rfl) (frameError_deaf ch k ha) rfl rfl,
    fun ch k ha hk => frame_next (k := frameError ch k) hs (by rfl) (frameError_plain ch ha hk) (sendAck_appends ch true s t),
    fun ch ha => ?tag, fun lane hl hi => ?lane, fun lane hl => ?noLane⟩
  case frame =>
    obtain ⟨k, hk⟩ := sessionRow_receives hc
    refine ⟨fun h => frame_quiet hs (hk s) (receive_foreign k h) rfl rfl,
      fun ha he hq => frame_next hs (hk s) (receive_repeated k ha he hq) (sendAck_appends f.ch false s t),
      fun ha he hq => frame_next hs (hk s) (receive_early k ha he hq) (sendAck_appends f.ch true s t),
      fun hi hb => frame_next hs (hk s) (receive_barred k hi.2.1 hi.2.2.1 hi.2.2.2 hb) ?_⟩
    exact (arrived_appends s f t).trans ((pairNote_logs pnFrame _).trans (sendFrame_logs f.ch _ _)).appends
  case evidence =>
    have hl := evidenceIn_logs k n b (arrived s f t)
    have ht : Takes (.evidence f t) s f (evidenceIn k n b (arrived s f t)) :=
      receive_takes hi (by rw [hb]; rfl) (evidence_row t s hb) rfl ((arrived_appends s f t).trans hl.appends)
    exact ht.does fun y hy _ => hl.1.trans hy
  case ack =>
    refine ⟨fun h => frame_quiet hs (ack_row t s hb) (ackIn_foreign nak h) rfl rfl, fun ha he =>
      ⟨fun hq => frame_quiet hs (ack_row t s hb) (ackIn_repeated nak hq) rfl rfl,
       fun hq => frame_next hs (ack_row t s hb) (ackIn_early nak ha he hq) (sendAck_appends f.ch true s t),
       fun hq => frame_next hs (ack_row t s hb) (ackIn_next nak ha he hq) (acknowledged_appends s f nak t)⟩⟩
  case tag =>
    have hv := (pairNote_logs pnTag (tagFailed u)).trans (event_logs 36 _)
    obtain ⟨hss, hcl⟩ : s.pair.session = true ∧ s.pair.closedRx = false := by simpa [accepting] using ha
    have hp := frame_gate (c := .frameError ch .tag t) (k := frameError ch .tag) hs (by rfl) (frameError_tag (s := u) ch ha)
    refine ⟨_, hp, ?_⟩
    by_cases h64 : 64 ≤ (within 1000000 u.pair.tagTimes u.clock).length
    · dsimp only
      rw [if_pos h64]
      exact ⟨hv.1.pair Pair.tagFails fun _ _ _ _ => rfl, hv.1.pair Pair.tagTimes fun _ _ _ _ => rfl, (decide_eq_true h64).symm,
        (hv.1.pair Pair.session fun _ _ _ _ => rfl).trans hss, hv.1.orders⟩
    · dsimp only
      rw [if_neg h64]
      have hv := hv.trans (sendFrame_logs ch (.ack true) _)
      exact ⟨hv.1.pair Pair.tagFails fun _ _ _ _ => rfl, hv.1.pair Pair.tagTimes fun _ _ _ _ => rfl,
        ((hv.1.pair Pair.closedRx fun _ _ _ _ => rfl).trans hcl).trans (decide_eq_false h64).symm,
        (hv.1.pair Pair.session fun _ _ _ _ => rfl).trans hss, hv.1.orders⟩
  case lane =>
    obtain ⟨v, hv, hl⟩ := laneFail_next (s := u) hl hi
    constructor
    · intro hup
      exact ⟨v, frame_next hs (by rfl) (hl.trans (if_pos hup)) (hv.appends.after rfl rfl), hv.1⟩
    · intro hdown
      exact ⟨_, frame_next hs (by rfl) (hl.trans (if_neg (ne_true_of_eq_false hdown)))
        (hv.sessionDropped.appends.after rfl rfl), hv.sessionDropped.1⟩
  case noLane =>
    refine frame_quiet (k := laneFail lane) hs (by rfl) (if_pos ?_) rfl rfl
    rcases hl with h | h
    · simp [h]
    · have h' : u.pair.lanes.getLsbD lane = false := h
      rw [h', Bool.not_false, Bool.or_true]

end Machine
end Sys2Proof
end

section
/-!
PROOFS. The handshake of the pair: the link coming up, HELLO, KEX, KEX_REPLY and CONFIRM, and the end of a ceremony (10 R439 to
R442).
-/
namespace Sys2Proof
namespace Machine

/-! ### The rows of the handshake -/

section
variable {f : Frame} (t : Nat) (s : State)

theorem hello_row {p e : Nat} {n pk pq : Bytes} (hb : f.body = .hello p e n pk pq) :
    exec (.hello f t) s = frameAct t (helloIn p e n pk pq) s := by
  refine Eq.trans (b := execHello f t s) rfl ?_
  rw [execHello, hb]

theorem kex_row {ek x a b : Bytes} (hb : f.body = .kex ek x a b) : exec (.kex f t) s = frameAct t (kexIn ek x a b) s := by
  refine Eq.trans (b := execKex f t s) rfl ?_
  rw [execKex, hb]

theorem kexReply_row {ct x a b : Bytes} (hb : f.body = .kexReply ct x a b) :
    exec (.kexReply f t) s = frameAct t (kexReplyIn ct x a b) s := by
  refine Eq.trans (b := execKexReply f t s) rfl ?_
  rw [execKexReply, hb]

theorem confirm_row {tag : Bytes} (hb : f.body = .confirm tag) : exec (.confirm f t) s = frameAct t (confirmIn tag) s := by
  refine Eq.trans (b := execConfirm f t s) rfl ?_
  rw [execConfirm, hb]

end

/-! ### A handshake that fails -/

/-- A handshake that has ended without a secret, the session and the orders being as they were (10 R440). -/
def HandshakeOver (s v : State) : Prop :=
  v.pair.hsStep = 0 ∧ v.pair.hsPurpose = 0 ∧ v.pair.hsSecret = none ∧ v.pair.session = s.pair.session ∧ v.orders = s.orders

/-- A session handshake that fails is noted and over; no order waits for it (10 R440, R442). -/
theorem hsFail_session {s : State} (h : s.pair.hsPurpose = 2) : hsFail s = hsClear (pairNote pnCeremony s) := by
  have hn : ¬ s.pair.hsPurpose = 1 := by omega
  unfold hsFail
  split
  · rw [if_neg hn]
  · rfl

theorem hsFail_over {s : State} (h : s.pair.hsPurpose = 2) : HandshakeOver s (hsFail s) ∧ Appends s (hsFail s) := by
  have hl := pairNote_logs pnCeremony s
  rw [hsFail_session h]
  exact ⟨⟨rfl, rfl, rfl, hl.1.pair Pair.session fun _ _ _ _ => rfl, hl.1.orders⟩, hl.appends⟩

/-- A command whose check of a session handshake fails ends it. -/
theorem frame_fails {c : Instr} {k : State → State} {s : State} {t : Nat} (hs : Open s) (hc : exec c s = frameAct t k s)
    (hp : s.pair.hsPurpose = 2) (hk : k (tick t s) = hsFail (tick t s)) : Does c s (HandshakeOver s) := by
  obtain ⟨ho, ha⟩ := hsFail_over (s := tick t s) hp
  exact ⟨_, frame_next hs hc hk (ha.after rfl rfl), ho⟩

/-! ### HELLO -/

theorem helloIn_bound {s : State} {e : Nat} {n pk pq : Bytes} (h : s.pair.bound = true) : helloIn 1 e n pk pq s = s := by
  simp [helloIn, h]

/-- A HELLO of a binding is kept for the ceremony (10 R440). -/
theorem helloIn_kept {s : State} {e : Nat} {n pk pq : Bytes} (hb : s.pair.bound = false) (hp : s.pair.hsPurpose ≠ 1) :
    helloIn 1 e n pk pq s = { s with pair := { s.pair with hsPeer := n ++ pk ++ pq } } := by
  simp [helloIn, helloBytes, hb, hp]

/-- The state with the twin's HELLO of a session (10 R442). -/
def helloHeard (peer : Bytes) (s : State) : State := { s with pair := { s.pair with hsPeer := peer } }

section
variable {s : State} {e : Nat} {n : Bytes} (pk pq : Bytes) (hb : s.pair.bound = true) (hp : s.pair.pairSecret.isSome = true)
include hb hp

/-- Side 0, whose session handshake has begun, goes on with the twin's HELLO (10 R442). -/
theorem helloIn_side0 (h0 : s.pair.side = 0) (h2 : s.pair.hsPurpose = 2) :
    helloIn 2 e n pk pq s = helloBoth (helloHeard (n ++ leBytes 4 e) s) := by
  have hn : s.pair.pairSecret.isNone = false := Option.isNone_eq_false_iff.mpr hp
  simp [helloIn, helloHeard, helloBytes, hb, hn, h0, h2]

/-- Side 1 begins its own session handshake on the twin's HELLO (10 R442). -/
theorem helloIn_side1 (h1 : s.pair.side = 1) :
    helloIn 2 e n pk pq s = helloBoth (helloHeard (n ++ leBytes 4 e) (startHandshake 2 s)) := by
  have hn : s.pair.pairSecret.isNone = false := Option.isNone_eq_false_iff.mpr hp
  have h2 : (startHandshake 2 s).pair.hsPurpose = 2 := rfl
  simp [helloIn, helloHeard, helloBytes, hb, hn, h1, h2]

end

theorem length_leBytes (k n : Nat) : (leBytes k n).length = k := by
  induction k generalizing n with
  | zero => rfl
  | succ k ih => rw [leBytes, List.length_cons, ih]

theorem ofLe_leBytes (k n : Nat) : ofLe (leBytes k n) = n % 256 ^ k := by
  induction k generalizing n with
  | zero => rw [pow_zero, Nat.mod_one]; rfl
  | succ k ih => rw [leBytes, ofLe, ih, pow_succ', Nat.mod_mul, BitVec.toNat_ofNat]

/-- The epoch of a session's HELLO is read back from its payload. -/
theorem field_helloBytes {n : Bytes} {e : Nat} (hn : n.length = 32) (he : e < 2 ^ 32) : field (n ++ leBytes 4 e) 32 4 = e := by
  have hd : (n ++ leBytes 4 e).drop 32 = leBytes 4 e := hn ▸ List.drop_left
  have hf : fit 4 (leBytes 4 e) = leBytes 4 e := by
    have h := fit_own_length (leBytes 4 e)
    rwa [length_leBytes] at h
  rw [field, slice, hd, hf, ofLe_leBytes]
  exact Nat.mod_eq_of_lt he

/-- What the two HELLO payloads of a session settle: its epoch, the transcript, and the step that comes next (10 R442). -/
def hellosMet (id tr : Bytes) (step : Nat) (s : State) : State :=
  { s with pair := { s.pair with
      hsTwinId := id, hsEpoch := max s.pair.hsEpoch (field s.pair.hsPeer 32 4), hsTranscript := tr, hsStep := step } }

section
variable {s : State} (h1 : s.pair.hsStep = 1) (hp : s.pair.hsPeer ≠ []) (h2 : s.pair.hsPurpose = 2)
include h1 hp h2

/-- With both payloads side 0 sends KEX (10 R440 step 2, R442). -/
theorem helloBoth_side0 (hs : s.pair.side = 0) :
    ∃ id tr ek x a b, helloBoth s = sendHandshake (.kex ek x a b) (hellosMet id tr 3 s) := by
  have hx : hsSide s = 0 := by rw [hsSide, h2, hs]; rfl
  rw [helloBoth, if_neg (by simp [h1, hp])]
  dsimp only
  rw [if_neg (by simp [h2]), if_pos h2, if_pos hx]
  exact ⟨_, _, _, _, _, _, rfl⟩

/-- With both payloads side 1 awaits KEX (10 R440 step 2, R442). -/
theorem helloBoth_side1 (hs : s.pair.side = 1) : ∃ id tr, helloBoth s = hellosMet id tr 2 s := by
  have hx : hsSide s ≠ 0 := by simp [hsSide, h2, hs]
  rw [helloBoth, if_neg (by simp [h1, hp])]
  dsimp only
  rw [if_neg (by simp [h2]), if_pos h2, if_neg hx]
  exact ⟨_, _, rfl⟩

end

theorem helloPayload_ne_nil {n : Bytes} (hn : n.length = 32) (l : Bytes) : n ++ l ≠ [] := by
  intro h
  have := congrArg List.length h
  simp [hn] at this

/-! ### KEX, KEX_REPLY and CONFIRM -/

/-- The secret of the exchange is formed, and CONFIRM is awaited (10 R440, R441). -/
def secretFormed (tr ss : Bytes) (s : State) : State :=
  { s with pair := { s.pair with hsStep := 4, hsTranscript := tr, hsSecret := some ss } }

/-- KEX that verifies is answered by KEX_REPLY and CONFIRM (10 R440 step 3). -/
theorem kexIn_verified {s : State} {ek x a b : Bytes} (h2 : s.pair.hsStep = 2)
    (hv : hsVerify s (sha384 (s.pair.hsTranscript ++ ek ++ x)) a b = true) :
    ∃ tr ss ct ox oa ob, kexIn ek x a b s = sendHandshake (.confirm (confirmTag (secretFormed tr ss s)))
      (sendHandshake (.kexReply ct ox oa ob) (secretFormed tr ss s)) := by
  rw [kexIn, if_neg (by simp [h2]), if_neg (by simp [h2])]
  dsimp only
  rw [if_neg (ne_true_of_eq_false (congrArg not hv))]
  exact ⟨_, _, _, _, _, _, rfl⟩

theorem kexIn_fails {s : State} {ek x a b : Bytes} (h2 : s.pair.hsStep = 2)
    (hv : hsVerify s (sha384 (s.pair.hsTranscript ++ ek ++ x)) a b = false) : kexIn ek x a b s = hsFail s :=
  (if_neg (by simp [h2])).trans ((if_neg (by simp [h2])).trans (if_pos (congrArg not hv)))

theorem kexIn_stray {s : State} {ek x a b : Bytes} (h2 : s.pair.hsStep ≠ 2) (h3 : s.pair.hsStep ≠ 3) : kexIn ek x a b s = s :=
  (if_neg (by simp [h3])).trans (if_pos h2)

/-- KEX_REPLY that verifies is answered by CONFIRM (10 R440 step 4). -/
theorem kexReplyIn_verified {s : State} {ct x a b : Bytes} (h3 : s.pair.hsStep = 3)
    (hv : hsVerify s (sha384 (s.pair.hsTranscript ++ ct ++ x)) a b = true) :
    ∃ tr ss, kexReplyIn ct x a b s = sendHandshake (.confirm (confirmTag (secretFormed tr ss s))) (secretFormed tr ss s) :=
  ⟨_, _, (if_neg (by simp [h3])).trans (if_neg (ne_true_of_eq_false (congrArg not hv)))⟩

theorem kexReplyIn_fails {s : State} {ct x a b : Bytes} (h3 : s.pair.hsStep = 3)
    (hv : hsVerify s (sha384 (s.pair.hsTranscript ++ ct ++ x)) a b = false) : kexReplyIn ct x a b s = hsFail s :=
  (if_neg (by simp [h3])).trans (if_pos (congrArg not hv))

/-- A session formed in Mirror mode with no evidence to send again (10 R442, R478). -/
theorem sessionFormed_mirror {s : State} (hm : s.pair.mode = 1) (he : s.pair.evidence = []) :
    let v := sessionFormed s
    v.pair.session = true ∧ v.pair.sessionKey = s.pair.hsSecret ∧ v.pair.frameKeys = s.pair.hsSecret.map frameKeysOf ∧
      v.pair.ptk = s.pair.hsSecret.map ptkOf ∧ v.pair.sessionEpoch = s.pair.hsEpoch ∧ v.pair.txSeq = [0, 0] ∧
      v.pair.rxSeq = [0, 0] ∧ v.pair.replay = [] ∧ v.pair.closedRx = false ∧ v.pair.hsStep = 0 ∧
      v.pair.decideDue = decide (s.pair.state = psLinking) ∧ v.out = s.out ∧ v.pending = s.pending := by
  have hn : ¬ s.pair.mode = 2 := by omega
  unfold sessionFormed
  dsimp only
  rw [if_neg hn]
  dsimp only [hsClear, modPairRec]
  rw [he, hm]
  exact ⟨rfl, rfl, rfl, rfl, rfl, rfl, rfl, rfl, rfl, rfl, rfl, rfl, rfl⟩

/-! ### The ceremony -/

/-- The order that waits for the ceremony is one of the part's orders. -/
theorem bindOrder_named {s : State} {o : Order} (h : bindOrder s = some o) : order? s o.id = some o := by
  obtain ⟨x, hx, ho⟩ := Option.bind_eq_some_iff.mp h
  obtain ⟨i, -, hi⟩ := Option.bind_eq_some_iff.mp hx
  obtain ⟨-, hxo⟩ : _ ∧ x = o := by simpa using ho
  subst hxo
  rwa [order?_id hi]

/-! ### The link comes up -/

/-- Every lane is in service, and the session has ended (10 R442, R443). -/
def lanesUp (s : State) : State :=
  { s with pair := { s.pair with lanes := 0xFF, session := false, sessionKey := none, frameKeys := none, ptk := none } }

/-- Settles O46: each message of the handshake where it is awaited, where it fails, and where it is not awaited. -/
theorem handshakeRows : Obligations.HandshakeRows := by
  unfold Obligations.HandshakeRows
  intro s t f hs u p finished
  have hup := event_logs 35 (lanesUp u)
  refine ⟨fun hb h0 hps => ?linkBound, fun hb ho => ?linkUnbound,
    fun e n pk pq hf hb => frame_quiet hs (hello_row t s hf) (helloIn_bound hb) rfl rfl,
    fun e n pk pq hf hb hp => frame_quiet hs (hello_row t s hf) (helloIn_kept hb hp) rfl rfl,
    fun e n pk pq hf hn he hb hps => ⟨fun h0 h2 h1 => ?hello0, fun h1 => ?hello1⟩,
    fun ek x a b hf => ⟨fun h2 h3 => frame_quiet hs (kex_row t s hf) (kexIn_stray h2 h3) rfl rfl, fun h2 hv => ?kex,
      fun h2 hp hv => frame_fails hs (kex_row t s hf) hp (kexIn_fails h2 hv)⟩,
    fun ct x a b hf => ⟨fun h3 => frame_quiet hs (kexReply_row t s hf) (if_pos h3) rfl rfl, fun h3 hv => ?reply,
      fun h3 hp hv => frame_fails hs (kexReply_row t s hf) hp (kexReplyIn_fails h3 hv)⟩,
    fun tag hf => ⟨fun h4 => frame_quiet hs (confirm_row t s hf) (if_pos h4) rfl rfl,
      fun h4 hp ht => frame_fails hs (confirm_row t s hf) hp ((if_neg (not_not.mpr h4)).trans (if_pos ht)),
      fun h4 hp ht hm he => ?confirm⟩,
    fun o ho => ?timeout, fun ho => ?noCeremony⟩
  case linkBound =>
    have hx : linkUpIn u = startHandshake 2 (event 35 (lanesUp u)) :=
      (if_pos hb).trans (if_pos (Bool.and_eq_true_iff.mpr ⟨decide_eq_true h0, hps⟩))
    refine ⟨_, frame_next hs (by rfl) hx ?_, hup.1.pair Pair.lanes fun _ _ _ _ => rfl, hup.1.pair Pair.session fun _ _ _ _ => rfl,
      hup.1.pair Pair.sessionKey fun _ _ _ _ => rfl, rfl, rfl, congrArg Drbg.next hup.1.drbg,
      congrArg (fun d => Drbg.next d + 128) hup.1.drbg⟩
    exact (hup.appends.after rfl rfl).trans ⟨List.prefix_append _ _, rfl⟩
  case linkUnbound =>
    have hx : linkUpIn u = event 35 (lanesUp u) :=
      (if_neg (ne_true_of_eq_false hb)).trans (if_neg (by rw [show bindOrder u = none from ho]; simp))
    exact ⟨_, frame_next hs (by rfl) hx (hup.appends.after rfl rfl), hup.1⟩
  case hello0 =>
    have hf0 := field_helloBytes hn he
    obtain ⟨id, tr, ek, x, a, b, hx⟩ := helloBoth_side0 (s := helloHeard (n ++ leBytes 4 e) u) h1 (helloPayload_ne_nil hn _) h2 h0
    have hk := (helloIn_side0 (s := u) pk pq hb hps h0 h2).trans hx
    refine ⟨_, frame_next hs (hello_row t s hf) hk ?_,
      rfl, congrArg (max p.hsEpoch) hf0, rfl, ek, x, a, b, rfl⟩
    exact ⟨List.prefix_append _ _, rfl⟩
  case hello1 =>
    have hf0 := field_helloBytes hn he
    obtain ⟨id, tr, hx⟩ := helloBoth_side1 (s := helloHeard (n ++ leBytes 4 e) (startHandshake 2 u)) rfl
      (helloPayload_ne_nil hn _) rfl h1
    have hk := (helloIn_side1 (s := u) pk pq hb hps h1).trans hx
    refine ⟨_, frame_next hs (hello_row t s hf) hk ?_,
      rfl, rfl, rfl, congrArg (max _) hf0, _, _, rfl⟩
    exact ⟨List.prefix_append _ _, rfl⟩
  case kex =>
    obtain ⟨tr, ss, ct, ox, oa, ob, hx⟩ := kexIn_verified (s := u) h2 hv
    refine ⟨_, frame_next hs (kex_row t s hf) hx ⟨?_, rfl⟩, rfl, rfl, rfl, rfl, ct, ox, oa, ob, List.append_assoc _ _ _⟩
    exact (List.prefix_append _ _).trans (List.prefix_append _ _)
  case reply =>
    obtain ⟨tr, ss, hx⟩ := kexReplyIn_verified (s := u) h3 hv
    exact ⟨_, frame_next hs (kexReply_row t s hf) hx ⟨List.prefix_append _ _, rfl⟩, rfl, rfl, rfl, rfl, rfl⟩
  case confirm =>
    have hk : confirmIn tag u = sessionFormed u :=
      (if_neg (not_not.mpr h4)).trans ((if_neg (not_not.mpr ht)).trans (if_neg (by rw [show u.pair.hsPurpose = 2 from hp]; decide)))
    obtain ⟨ha, hb, hc, hd, he, hf1, hg, hh, hi, hj, hl, ho, hpend⟩ := sessionFormed_mirror (s := u) hm he
    exact ⟨_, frame_quiet hs (confirm_row t s hf) hk ho hpend, ha, hb, hc, hd, he, hf1, hg, hh, hi, hj, hl, ho⟩
  case timeout =>
    have hx : exec (.pairBindTimeout t) s = .next (hsClear (complete o.id 0x0331 0 u)) := by
      refine frame_quiet hs (show _ = execPairBindTimeout t s from rfl) ?_ rfl rfl
      rw [show bindOrder (tick t s) = some o from ho]
    exact ⟨_, hx, rfl, rfl, rfl, rfl, order?_settle _ (bindOrder_named ho)⟩
  case noCeremony =>
    refine frame_quiet hs (show _ = execPairBindTimeout t s from rfl) ?_ rfl rfl
    rw [show bindOrder (tick t s) = none from ho]

end Machine
end Sys2Proof
end

section
/-!
PROOFS. Tallies under the evidence, and a Tally that takes the value of the twin's: it is raised, and keys bound to it may become
Spent (04 R187, R189; 10 R466, R471; 13 R579 to R583).
-/
namespace Sys2Proof
namespace Machine

/-! ### Evidence that keeps the Tallies -/

theorem sendMsix_mram (v : Nat) (s : State) : (sendMsix v s).mram = s.mram := by
  unfold sendMsix
  split
  · rfl
  · split
    · rfl
    · split <;> rfl

theorem ibiCheck_mram (s : State) : (ibiCheck s).mram = s.mram := by
  unfold ibiCheck
  split
  · rfl
  · split <;> rfl

/-- An event source leaves the MRAM as it is. -/
theorem event_mram (src : Nat) (s : State) : (event src s).mram = s.mram := by
  unfold event
  dsimp only
  split
  · rfl
  · refine (ibiCheck_mram _).trans ?_
    split
    · exact sendMsix_mram _ _
    · rfl

theorem sendFrame_mram (ch : Nat) (b : FrameBody) (s : State) : (sendFrame ch b s).mram = s.mram := by
  unfold sendFrame
  split <;> rfl

theorem placeRec_tallies (s : State) (r : DbRec) : (placeRec s r).mram.tallies = s.mram.tallies := by
  unfold placeRec
  dsimp only
  split
  · rfl
  · split
    · rfl
    · split
      · rfl
      · split <;> rfl

theorem flushAll_tallies (s : State) : (flushAll s).mram.tallies = s.mram.tallies :=
  foldl_keeps (fun v => v.mram.tallies) placeRec placeRec_tallies (s.day.buf ++ dropRec s) _

theorem beginFlush_mram (s : State) : (beginFlush s).mram = s.mram := by
  unfold beginFlush
  split <;> rfl

theorem enterRec_tallies (r : DbRec) (s : State) : (enterRec r s).mram.tallies = s.mram.tallies := by
  unfold enterRec
  dsimp only
  split
  · split
    · rw [beginFlush_mram]
    · rfl
  · split
    · split
      · rw [beginFlush_mram, event_mram]
      · split
        · rw [beginFlush_mram]
          exact flushAll_tallies _
        · rw [event_mram]
    · rw [event_mram]

theorem recordWith_tallies (enter : DbRec → State → State) (he : ∀ r s, (enter r s).mram.tallies = s.mram.tallies) (sub : Bool)
    (code sev p0 p1 p2 : Nat) (s : State) : (recordWith enter sub code sev p0 p1 p2 s).mram.tallies = s.mram.tallies := by
  unfold recordWith
  split
  · split
    · rfl
    · exact he _ _
  · exact he _ _

theorem note_tallies (cls which : Nat) (s : State) : (note cls which s).mram.tallies = s.mram.tallies :=
  recordWith_tallies enterRec enterRec_tallies _ _ _ _ _ _ s

theorem queueEvidence_tallies (kind seq : Nat) (b : Bytes) (s : State) :
    (queueEvidence kind seq b s).mram.tallies = s.mram.tallies := by
  unfold queueEvidence
  split
  · dsimp only
    rw [sendFrame_mram]
    split
    · exact note_tallies _ _ _
    · rfl
  · rfl

theorem enterOwn_tallies (r : DbRec) (s : State) : (enterOwn r s).mram.tallies = s.mram.tallies := by
  unfold enterOwn
  dsimp only
  split
  · exact (queueEvidence_tallies _ _ _ _).trans (enterRec_tallies r s)
  · exact enterRec_tallies r s

/-- A Daybook record leaves the Tallies as they are. -/
theorem record_tallies (code sev p0 p1 p2 : Nat) (s : State) : (record code sev p0 p1 p2 s).mram.tallies = s.mram.tallies :=
  recordWith_tallies enterOwn enterOwn_tallies _ _ _ _ _ _ s

theorem tally_congr {s v : State} (h : v.mram.tallies = s.mram.tallies) (n : Nat) : tally v n = tally s n := by
  rw [tally, h]
  rfl

/-! ### Keys that become Spent -/

/-- Between two states nothing has changed but the Muniment and the evidence, and its outputs come after those before. -/
def MunimOnly (s v : State) : Prop := Logs { s with munim := v.munim } v

theorem Logs.munimOnly {s v : State} (h : Logs s v) : MunimOnly s v := by
  rw [MunimOnly, h.1.munim]
  exact h

theorem MunimOnly.trans {s t v : State} (h1 : MunimOnly s t) (h2 : MunimOnly t v) : MunimOnly s v := by
  have hf : EvidenceOnly { s with munim := v.munim } { t with munim := v.munim } :=
    (congrArg (fun x : State => { x with munim := v.munim }) h1.1 :)
  exact ⟨hf.trans h2.1, h1.2.trans h2.2⟩

theorem MunimOnly.appends {s v : State} (h : MunimOnly s v) : Appends s v := (Logs.appends h).after rfl rfl

theorem MunimOnly.orders {s v : State} (h : MunimOnly s v) : v.orders = s.orders := h.1.orders

theorem makeSpent_idle {owner slot : Nat} {s : State} (h : ∀ k, (keySlot s owner slot).key = some k → k.attrs.kstate ≠ 0) :
    makeSpent owner slot s = s := by
  cases hk : (keySlot s owner slot).key with
  | none => rw [makeSpent, hk]
  | some k =>
    rw [makeSpent, hk]
    exact if_pos (h k hk)

/-- A key changed to Spent in its slot (04 R187). -/
def keySpent (owner slot : Nat) (k : KeyRec) (s : State) : State :=
  setKeySlot owner slot { keySlot s owner slot with key := some { k with attrs := { k.attrs with kstate := 1 }, res := none } } s

/-- A key that becomes Spent is changed in its slot, recorded and told by its Owner's event (04 R187). -/
theorem makeSpent_active {owner slot : Nat} {k : KeyRec} {s : State} (hk : (keySlot s owner slot).key = some k)
    (h0 : k.attrs.kstate = 0) :
    makeSpent owner slot s = event (512 + owner) (keyRecord (mkHandle owner slot k.gen) 1 (keySpent owner slot k s)) := by
  rw [makeSpent, hk]
  exact if_neg (not_not.mpr h0)

theorem makeSpent_logs {owner slot : Nat} {k : KeyRec} {s : State} (hk : (keySlot s owner slot).key = some k)
    (h0 : k.attrs.kstate = 0) : Logs (keySpent owner slot k s) (makeSpent owner slot s) := by
  rw [makeSpent_active hk h0]
  exact (record_logs _ _ _ _ _ _).trans (event_logs _ _)

theorem makeSpent_leaves (owner slot : Nat) (s : State) :
    MunimOnly s (makeSpent owner slot s) ∧ (makeSpent owner slot s).mram.tallies = s.mram.tallies := by
  by_cases h : ∀ k, (keySlot s owner slot).key = some k → k.attrs.kstate ≠ 0
  · rw [makeSpent_idle h]
    exact ⟨(Logs.refl s).munimOnly, rfl⟩
  · push Not at h
    obtain ⟨k, hk, h0⟩ := h
    have hl := makeSpent_logs hk h0
    constructor
    · rw [MunimOnly, hl.1.munim]
      exact hl
    · rw [makeSpent_active hk h0, event_mram]
      exact record_tallies _ _ _ _ _ _

theorem makeSpents_leaves (l : Tbl KeySlot) (s : State) :
    let v := l.foldl (fun s p => makeSpent (p.1 / 2 ^ 28) (p.1 % 2 ^ 28) s) s
    MunimOnly s v ∧ v.mram.tallies = s.mram.tallies := by
  induction l generalizing s with
  | nil => exact ⟨(Logs.refl s).munimOnly, rfl⟩
  | cons p l ih =>
    obtain ⟨hm, ht⟩ := makeSpent_leaves (p.1 / 2 ^ 28) (p.1 % 2 ^ 28) s
    obtain ⟨hms, hts⟩ := ih (makeSpent (p.1 / 2 ^ 28) (p.1 % 2 ^ 28) s)
    exact ⟨hm.trans hms, hts.trans ht⟩

/-- The keys of a Tally become Spent without a change of the Tallies (04 R189). -/
theorem spendBound_leaves (n : Nat) (s : State) :
    MunimOnly s (spendBound n s) ∧ (spendBound n s).mram.tallies = s.mram.tallies := by
  unfold spendBound
  split
  · exact makeSpents_leaves _ s
  · exact ⟨(Logs.refl s).munimOnly, rfl⟩

/-- Keys become Spent by their Tally only once it is Exhausted (04 R189). -/
theorem spendBound_idle {n : Nat} {s : State} (h : (tally s n).exhausted = false ∨ s.munim.keys = []) : spendBound n s = s := by
  rcases h with h | h
  · exact if_neg (ne_true_of_eq_false h)
  · unfold spendBound
    rw [h]
    exact ite_self _

/-! ### The twin's value of a Tally -/

/-- A Tally has a greater value (10 R466, R471). -/
def tallyRaised (n v : Nat) (s : State) : State :=
  { s with mram := { s.mram with
      tallies := Tbl.put Tally.reset s.mram.tallies n { tally s n with value := v, writes := (tally s n).writes + 1 } } }

theorem tally_tallyRaised (n v : Nat) (s : State) :
    tally (tallyRaised n v s) n = { tally s n with value := v, writes := (tally s n).writes + 1 } :=
  Tbl.getD_put_same _ _ _ _

theorem tallyTo_raises {n v : Nat} {s : State} (h : (tally s n).value < v) : tallyTo n v s = spendBound n (tallyRaised n v s) :=
  if_pos h

theorem tallyTo_stands {n v : Nat} {s : State} (h : ¬ (tally s n).value < v) : tallyTo n v s = s := if_neg h

/-- A Tally with no key to spend is raised, and that is all. -/
theorem tallyTo_plain {n v : Nat} {s : State} (h : (tally s n).exhausted = false ∨ s.munim.keys = []) :
    tallyTo n v s = if (tally s n).value < v then tallyRaised n v s else s := by
  split
  · next hv =>
    refine (tallyTo_raises hv).trans (spendBound_idle (h.imp_left fun hx => ?_))
    rw [tally_tallyRaised]
    exact hx
  · next hv => exact tallyTo_stands hv

/-- A Tally takes the greater of the two values, and else only the Muniment and the evidence change. -/
theorem tallyTo_leaves (n v : Nat) (s : State) :
    (tally (tallyTo n v s) n).value = max v (tally s n).value ∧ MunimOnly s (tallyTo n v s) := by
  by_cases h : (tally s n).value < v
  · obtain ⟨hm, ht⟩ := spendBound_leaves n (tallyRaised n v s)
    have hr : MunimOnly s (tallyRaised n v s) := (Logs.munimOnly ⟨rfl, List.prefix_rfl⟩)
    rw [tallyTo_raises h, tally_congr ht, tally_tallyRaised]
    exact ⟨(max_eq_left h.le).symm, hr.trans hm⟩
  · rw [tallyTo_stands h]
    exact ⟨(max_eq_right (Nat.not_lt.mp h)).symm, (Logs.refl s).munimOnly⟩

end Machine
end Sys2Proof
end

section
/-!
PROOFS. What the twin's CLAIM, DELTA and RESERVE frames do in Mirror mode (10 R455 to R472).
-/
namespace Sys2Proof
namespace Machine

/-! ### What a frame that is taken leaves alone -/

section
variable (s : State) (f : Frame) (t : Nat)

@[simp] theorem ring_arrived (st q : Nat) : ring (arrived s f t) st q = ring s st q :=
  arrived_keeps (fun v => ring v st q) (fun _ _ => rfl) s f t
@[simp] theorem stall_arrived (st : Nat) : stall (arrived s f t) st = stall s st :=
  arrived_keeps (fun v => stall v st) (fun _ _ => rfl) s f t
@[simp] theorem tally_arrived (n : Nat) : tally (arrived s f t) n = tally s n :=
  arrived_keeps (fun v => tally v n) (fun _ _ => rfl) s f t
@[simp] theorem heldKey_arrived (h : Nat) : heldKey (arrived s f t) h = heldKey s h :=
  arrived_keeps (fun v => heldKey v h) (fun _ _ => rfl) s f t
@[simp] theorem order?_arrived (id : Nat) : order? (arrived s f t) id = order? s id :=
  arrived_keeps (fun v => order? v id) (fun _ _ => rfl) s f t
@[simp] theorem deltaOrder_arrived (d : Delta) : deltaOrder (arrived s f t) d = deltaOrder s d :=
  arrived_keeps (fun v => deltaOrder v d) (fun _ _ => rfl) s f t
@[simp] theorem txns_arrived : (arrived s f t).pair.txns = s.pair.txns := arrived_pair Pair.txns (fun _ _ _ _ _ _ => rfl) s f t
@[simp] theorem reserveWait_arrived : (arrived s f t).pair.reserveWait = s.pair.reserveWait :=
  arrived_pair Pair.reserveWait (fun _ _ _ _ _ _ => rfl) s f t
@[simp] theorem divergences_arrived : (arrived s f t).pair.divergences = s.pair.divergences :=
  arrived_pair Pair.divergences (fun _ _ _ _ _ _ => rfl) s f t
@[simp] theorem isLead_arrived : isLead (arrived s f t) = isLead s :=
  arrived_pair (fun p => p.role == 0) (fun _ _ _ _ _ _ => rfl) s f t
@[simp] theorem txnOf_arrived (lead : Bool) (n : Nat) : txnOf (arrived s f t) lead n = txnOf s lead n :=
  arrived_pair (fun p => p.txns.find? (fun x : Txn => x.lead == lead && x.num == n)) (fun _ _ _ _ _ _ => rfl) s f t

theorem openItem_congr {s v : State} (h : v.pair.ptk = s.pair.ptk) (it : Item) : openItem v it = openItem s it := by
  unfold openItem
  split <;> simp only [h]

@[simp] theorem followTxn_arrived (d : Delta) : followTxn (arrived s f t) d = followTxn s d := by
  have hp : (arrived s f t).pair.ptk = s.pair.ptk := arrived_pair Pair.ptk (fun _ _ _ _ _ _ => rfl) s f t
  unfold followTxn
  rw [deltaOrder_arrived, funext (openItem_congr hp)]

end

/-- A change that puts nothing out, after one that appends. -/
theorem Appends.quiet {s w v : State} (h : Appends s w) (ho : v.out = w.out) (hp : v.pending = w.pending) : Appends s v :=
  h.trans ⟨ho.symm ▸ List.prefix_rfl, hp⟩

/-- A frame that is sent after such a change. -/
theorem Appends.sent {s w v : State} {ch : Nat} {b : FrameBody} (h : Appends s w) (ho : v.out = w.out) (hp : v.pending = w.pending) :
    Appends s (sendFrame ch b v) :=
  (h.quiet ho hp).trans (sendFrame_logs ch b v).appends

/-! ### CLAIM -/

section
variable {s : State} {st q n crc : Nat} {gen : BitVec 16} {count : BitVec 32}

/-- A commit record of another generation is past (10 R455). -/
theorem claimIn_past (h : gen ≠ (stall s st).gen) : claimIn s (.commit n st q gen count crc) = s :=
  if_pos (by simp [h])

/-- The ring position with a commit record of the twin (10 R458). -/
def withTwinCommit (n crc : Nat) (count : BitVec 32) (r : Ring) : Ring :=
  { r with twinCommits := r.twinCommits ++ [(count.toNat, n, crc)] }

/-- A commit record of a shared ring joins the twin's records, which are compared (10 R458, R460). -/
theorem claimIn_commit (hx : ringExists st q = true) (hg : gen = (stall s st).gen) (hs : (ring s st q).shared = true)
    (hc : (count - (ring s st q).h).toNat < 2 ^ 31) : claimIn s (.commit n st q gen count crc) =
      checkDivergence st q (setRing s st q (withTwinCommit n crc count (ring s st q))) :=
  (if_neg (by simp [hx, hg, hs])).trans (if_neg (Nat.not_le.mpr hc))

theorem checkDivergence_none {r : Ring} (h : divergence r = none) : checkDivergence st q (setRing s st q r) = setRing s st q r := by
  refine if_neg ?_
  rw [ring_setRing_same, h]
  exact Bool.false_ne_true

/-- A shared ring whose records differ is stopped, and the difference is counted (10 R460). -/
theorem checkDivergence_stops {r : Ring} (h : divergence r ≠ none) (hc : r.stopCode ≠ 0x0140) :
    ∃ v, Logs v (checkDivergence st q (setRing s st q r)) ∧ v.out = s.out ∧ v.pending = s.pending ∧
      ring v st q = { r with stopped := true, stopCode := 0x0140 } ∧
      v.pair.divergences = satAdd 16 s.pair.divergences 1 := by
  have hd : (divergence (ring (setRing s st q r) st q)).isSome && decide ((ring (setRing s st q r) st q).stopCode ≠ 0x0140) := by
    rw [ring_setRing_same, Option.isSome_iff_ne_none.mpr h, decide_eq_true hc]
    rfl
  rw [checkDivergence, if_pos hd]
  refine ⟨_, event_logs 34 _, rfl, rfl, ?_, rfl⟩
  refine (ring_setRing_same (setRing s st q r) st q _).trans ?_
  rw [ring_setRing_same]

/-- A ring record of a ring that is shared already gives the place of the twin's receipts (10 R455). -/
theorem claimIn_ring {lg : Nat} {base : BitVec 64} (hx : ringExists st q = true) (hg : gen = (stall s st).gen)
    (he : (ring s st q).enabled = true) (hs : (ring s st q).shared = true) :
    claimIn s (.ring st q gen lg base) = setRing s st q { ring s st q with
      twinRcpBase := base, twinRcpLog2 := lg, twinW := 0, shared := true } := by
  refine (if_neg (by simp [hx, hg])).trans ((if_neg (by simp [hs])).trans ?_)
  exact congrArg (fun b => setRing s st q { ring s st q with twinRcpBase := base, twinRcpLog2 := lg, twinW := 0, shared := b }) he

end

/-! ### DELTA -/

/-- A command takes a DELTA frame of its phase in Mirror mode with the effect of its row (10 R464). -/
theorem delta_takes {c : Instr} {s v : State} {f : Frame} {t n : Nat} {d : Delta} {k : Delta → State → State} (h : InOrder s f)
    (hm : s.pair.mode = 1) (hb : f.body = .delta d) (hc : exec c s = deltaRow n k f t s) (hn : d.phase = n)
    (hv : k d (arrived s f t) = v) (ha : Appends s v) : Takes c s f v :=
  receive_takes h (by rw [hb]; exact beq_iff_eq.mpr hm) (hc.trans (deltaRow_receives t s hb n k)) ((if_pos hn).trans hv) ha

theorem prepare_takes {s v : State} {f : Frame} {t : Nat} {d : Delta} (h : InOrder s f) (hm : s.pair.mode = 1)
    (hb : f.body = .delta d) (hn : d.phase = 1) (hv : prepareIn d (arrived s f t) = v) (ha : Appends s v) :
    Takes (.deltaPrepare f t) s f v :=
  receive_takes h (by rw [hb]; exact beq_iff_eq.mpr hm) (deltaPrepare_row t s hb) ((if_pos hn).trans hv) ha

/-- A PREPARE of the Stall's generation is kept while there is room (10 R467 step 2). -/
theorem prepareIn_kept {s : State} {d : Delta} (ha : d.apply = false) (hg : d.gen = (stall s d.stall).gen)
    (hl : s.pair.txns.length < 64) :
    prepareIn d s = { s with pair := { s.pair with txns := s.pair.txns ++ [followTxn s d] } } :=
  (if_neg (ne_true_of_eq_false ha)).trans (if_neg (by simp [hg, hl]))

/-- A PREPARE with APPLY that carries no item and names no order of this part is answered (10 R470). -/
theorem prepareIn_applied {s : State} {d : Delta} (ha : d.apply = true) (hi : d.items = []) (ho : deltaOrder s d = none) :
    prepareIn d s = replyDelta d 5 { s with pair := { s.pair with txns := s.pair.txns.filter (fun x => x.lead || x.num != d.txn) } } := by
  have hg : applyGiven (d.items.map (openItem s)) s = s := by
    rw [hi]
    rfl
  rw [prepareIn, if_pos ha, hg]
  dsimp only
  rw [ho]

/-! ### The Lead's next transaction -/

theorem commitVoted_idle {s : State} (h : leadNext s = none) (n : Nat) : commitVoted n s = s := by
  cases n with
  | zero => rfl
  | succ n => rw [commitVoted, h]

/-- A transaction voted for, with none after it, is the only one committed (10 R465, R467 step 3). -/
theorem commitVoted_one {s : State} {x : Txn} (h : leadNext s = some x) (hp : x.phase = 2) (hn : leadNext (leadCommit x s) = none)
    (n : Nat) : commitVoted (n + 1) s = leadCommit x s := by
  rw [commitVoted, h]
  exact (if_pos hp).trans (commitVoted_idle hn n)

theorem leadNext_only {s : State} {x : Txn} (h : s.pair.txns = [x]) :
    leadNext s = if x.lead && decide (x.phase < 4) then some x else none := by
  rw [leadNext, h, List.find?_singleton]

theorem txnOf_only {s : State} {x : Txn} {n : Nat} (h : s.pair.txns = [x]) (hl : x.lead = true) (hn : x.num = n) :
    txnOf s true n = some x := by
  rw [txnOf, h, List.find?_singleton, hl, hn, beq_self_eq_true, beq_self_eq_true]
  rfl

/-- A transaction has the vote of the twin (10 R467 step 3). -/
def voted (d : Delta) (s : State) : State :=
  { s with pair := { s.pair with txns := s.pair.txns.map (fun z => if z.lead && z.num = d.txn then { z with phase := 2 } else z) } }

/-- COMMIT has been sent for the only transaction (10 R467 step 3). -/
def commitSent (d : Delta) (x : Txn) (s : State) : State :=
  sendFrame 0 (deltaFrame (voted d s) { x with phase := 4 } 4 false)
    { s with pair := { s.pair with txns := [{ x with phase := 4 }] } }

theorem commitSent_txns (d : Delta) (x : Txn) (s : State) : (commitSent d x s).pair.txns = [{ x with phase := 4 }] :=
  (sendFrame_logs _ _ _).1.pair Pair.txns fun _ _ _ _ => rfl

/-- The only transaction of a Lead, without an item of its own, is committed by a vote for it (10 R467 step 3). -/
theorem voteYes_only {s : State} {d : Delta} {x : Txn} (hx : s.pair.txns = [x]) (hl : x.lead = true) (hn : x.num = d.txn)
    (hp : x.phase = 1) (ho : x.own = []) :
    voteYes d s = modOrder (commitSent d x s) x.order (fun o => { o with commit := .pending, items := [] }) := by
  have hv : (voted d s).pair.txns = [{ x with phase := 2 }] := by
    simp [voted, hx, hl, hn]
  have hm : (voted d s).pair.txns.map (fun z => if z.lead && z.num = x.num then { x with phase := 4 } else z) =
      [{ x with phase := 4 }] := by
    simp [hv, hl]
  have hc : leadCommit { x with phase := 2 } (voted d s) =
      modOrder (commitSent d x s) x.order (fun o => { o with commit := .pending, items := [] }) := by
    refine Eq.trans ?_ (congrArg (fun l => commitOwn x.order l (commitSent d x s)) ho)
    exact congrArg (fun l => commitOwn x.order x.own (sendFrame 0 (deltaFrame (voted d s) { x with phase := 4 } 4 false)
      { s with pair := { s.pair with txns := l } })) hm
  have h2 : leadNext (voted d s) = some { x with phase := 2 } := by
    rw [leadNext_only hv, hl]
    rfl
  rw [← hc, voteYes, txnOf_only hx hl hn]
  refine (if_neg (not_not.mpr hp)).trans (commitVoted_one h2 rfl ?_ 63)
  rw [hc]
  exact (leadNext_only (x := { x with phase := 4 }) (commitSent_txns d x s :)).trans (if_neg (by simp))

/-- The only transaction of a Lead ends by a vote against it, and its order with 0x0541 (10 R467, R468). -/
theorem voteNo_only {s : State} {d : Delta} {x : Txn} (hx : s.pair.txns = [x]) (hl : x.lead = true) (hn : x.num = d.txn)
    (hp : x.phase = 1) :
    ∃ v, Logs { s with pair := { s.pair with txns := [] } } v ∧
      voteNo d s = complete x.order 0x0541 0 (modOrder v x.order (fun o => { o with items := [] })) := by
  have hz : closeTxn true d.txn s = { s with pair := { s.pair with txns := [] } } := by
    simp [closeTxn, hx, hl, hn]
  have hlog := (sendFrame_logs 0 (.delta { d with phase := 6, apply := false, items := [] }) (closeTxn true d.txn s)).trans
    (pairNote_logs pnVote _)
  rw [hz] at hlog
  refine ⟨_, hlog, ?_⟩
  rw [voteNo, txnOf_only hx hl hn]
  refine (if_neg (not_not.mpr hp)).trans ?_
  dsimp only
  rw [hz]
  refine commitVoted_idle ?_ 64
  have h0 := hlog.1.pair Pair.txns fun _ _ _ _ => rfl
  exact (congrArg (List.find? _) h0 :)

/-! ### Reservations -/

section
variable {s v : State} {f : Frame} {t kd n rid x h : Nat} (hi : InOrder s f) (hm : s.pair.mode = 1)
  (hb : f.body = .reserve kd n rid x h)
include hi hm hb

/-- A command takes a RESERVE frame of its kind in Mirror mode with the effect of its row (10 R472). -/
theorem reserve_takes {c : Instr} {k : Nat → Nat → Nat → Nat → State → State} (hc : exec c s = reserveRow kd k f t s)
    (hv : k n rid x h (arrived s f t) = v) (ha : Appends s v) : Takes c s f v :=
  receive_takes hi (by rw [hb]; exact beq_iff_eq.mpr hm) (hc.trans (reserveRow_receives t s hb kd k)) ((if_pos rfl).trans hv) ha

end

theorem reserveRequest_unheld {s : State} {n rid h : Nat} (hk : heldKey s h = none) :
    reserveRequest n rid h s = sendFrame 0 (.reserve 5 n rid (tally s n).value h) s := by
  simp [reserveRequest, hk]

/-- A key within its limit takes one increment of its Tally, which is granted (10 R471). -/
theorem reserveRequest_granted {s : State} {n rid h : Nat} {k : KeyRec} (hk : heldKey s h = some k) (h0 : k.attrs.kstate = 0)
    (hx : (tally s n).exhausted = false) (hw : (tally s n).writes < 8000000000) (hv : (tally s n).value < tallyMax)
    (h4 : s.faults.skipStep4 = false) (hb : beyond k.attrs ((tally s n).value - k.attrs.ledgerBase) = false) :
    reserveRequest n rid h s =
      sendFrame 0 (.reserve 2 n rid ((tally s n).value + 1) h) (tallyRaised n ((tally s n).value + 1) s) := by
  have hadd : tallyAdd n 1 s = tallyRaised n ((tally s n).value + 1) s := tallyAdd_counts h4 hx hw hv
  rw [reserveRequest, hk]
  dsimp only
  rw [if_neg (by simp [hx, h0, hb]), hadd, tally_tallyRaised, if_pos rfl]

section
variable {s : State} {rid h : Nat} {x : Nat × Nat × Nat}

/-- The wait that a reply names is found by its name (10 R471). -/
theorem reserveWait_found (hu : ∀ y ∈ s.pair.reserveWait, y.1 = rid ↔ y = x) (hx : x ∈ s.pair.reserveWait) (h1 : x.1 = rid)
    (h2 : x.2.1 = h) : s.pair.reserveWait.find? (fun w => w.1 == rid && w.2.1 == h) = some x := by
  cases hf : s.pair.reserveWait.find? (fun w => w.1 == rid && w.2.1 == h) with
  | none => exact absurd (List.find?_eq_none.mp hf x hx) (by simp [h1, h2])
  | some y =>
    have hy := List.find?_some hf
    rw [Bool.and_eq_true, beq_iff_eq] at hy
    exact congrArg some ((hu y (List.mem_of_find?_eq_some hf)).mp hy.1)

theorem reserveWait_unknown (hu : ∀ y ∈ s.pair.reserveWait, y.1 ≠ rid) :
    s.pair.reserveWait.find? (fun w => w.1 == rid && w.2.1 == h) = none :=
  List.find?_eq_none.mpr fun y hy => by simp [hu y hy]

/-- Another wait of the same order goes on. -/
theorem reserveWait_left (hu : ∀ y ∈ s.pair.reserveWait, y.1 = rid ↔ y = x)
    (hy : ∃ y ∈ s.pair.reserveWait, y ≠ x ∧ y.2.2 = x.2.2) :
    (s.pair.reserveWait.filter (fun z => z.1 != rid)).any (fun z => z.2.2 == x.2.2) = true := by
  obtain ⟨y, hm, hne, he⟩ := hy
  refine List.any_eq_true.mpr ⟨y, List.mem_filter.mpr ⟨hm, ?_⟩, beq_iff_eq.mpr he⟩
  exact bne_iff_ne.mpr fun h => hne ((hu y hm).mp h)

end

/-- The wait of a name is over (10 R471). -/
def waitOver (rid : Nat) (s : State) : State :=
  { s with pair := { s.pair with reserveWait := s.pair.reserveWait.filter (fun z => z.1 != rid) } }

/-- A grant of a charge that waits for more gives the Tally its value and is noted with the order (10 R471). -/
theorem grantIn_more {s : State} {n rid v h : Nat} {x : Nat × Nat × Nat}
    (hf : s.pair.reserveWait.find? (fun w => w.1 == rid && w.2.1 == h) = some x)
    (ha : (s.pair.reserveWait.filter (fun z => z.1 != rid)).any (fun z => z.2.2 == x.2.2) = true) :
    grantIn n rid v h s = modOrder (tallyTo n v (waitOver rid s)) x.2.2
      (fun o => if o.firstGrant = 0 then { o with firstGrant := v } else o) := by
  have hw : (tallyTo n v (waitOver rid s)).pair.reserveWait = s.pair.reserveWait.filter (fun z => z.1 != rid) :=
    (tallyTo_leaves n v (waitOver rid s)).2.1.pair Pair.reserveWait fun _ _ _ _ => rfl
  rw [grantIn, hf]
  refine if_pos ?_
  rw [modOrder_pair]
  exact (congrArg (List.any · _) hw).trans ha

/-- A refusal of no wait changes a key that is not held in nothing, and an Active one to Spent (10 R471). -/
theorem reserveRefused_unheld {s : State} {rid h : Nat} (hu : ∀ y ∈ s.pair.reserveWait, y.1 ≠ rid) (hk : heldKey s h = none) :
    reserveRefused rid h s = s := by
  have hs : (if (heldKey s h).isSome then makeSpent (hOwner h) (hSlot h) s else s) = s := by
    rw [hk]
    rfl
  rw [reserveRefused, hs, reserveWait_unknown hu]

theorem heldKey_slot {s : State} {h : Nat} {k : KeyRec} (hk : heldKey s h = some k) :
    (keySlot s (hOwner h) (hSlot h)).key = some k ∧ k.gen = hGen h := by
  unfold heldKey at hk
  split at hk
  · next x hx =>
    split at hk
    · next hg =>
      cases hk
      exact ⟨hx, hg⟩
    · cases hk
  · cases hk

theorem keySlot_setKeySlot (owner slot : Nat) (k : KeySlot) (s : State) : keySlot (setKeySlot owner slot k s) owner slot = k :=
  Tbl.getD_put_same _ _ _ _

theorem heldKey_keySpent {s : State} {h : Nat} {k : KeyRec} (hg : k.gen = hGen h) :
    heldKey (keySpent (hOwner h) (hSlot h) k s) h =
      some { k with attrs := { k.attrs with kstate := 1 }, res := none } := by
  have hs : keySlot (keySpent (hOwner h) (hSlot h) k s) (hOwner h) (hSlot h) =
      { keySlot s (hOwner h) (hSlot h) with key := some { k with attrs := { k.attrs with kstate := 1 }, res := none } } :=
    keySlot_setKeySlot _ _ _ _
  rw [heldKey, hs]
  exact if_pos hg

theorem heldKey_congr {s v : State} (h : v.munim = s.munim) (x : Nat) : heldKey v x = heldKey s x := by
  unfold heldKey keySlot
  rw [h]

theorem reserveRefused_spends {s : State} {rid h : Nat} {k : KeyRec} (hu : ∀ y ∈ s.pair.reserveWait, y.1 ≠ rid)
    (hk : heldKey s h = some k) (h0 : k.attrs.kstate = 0) :
    Logs (keySpent (hOwner h) (hSlot h) k s) (reserveRefused rid h s) := by
  have hl := makeSpent_logs (heldKey_slot hk).1 h0
  have hs : (if (heldKey s h).isSome then makeSpent (hOwner h) (hSlot h) s else s) = makeSpent (hOwner h) (hSlot h) s := by
    rw [hk]
    rfl
  have hw : (makeSpent (hOwner h) (hSlot h) s).pair.reserveWait = s.pair.reserveWait :=
    hl.1.pair Pair.reserveWait fun _ _ _ _ => rfl
  rw [reserveRefused, hs, reserveWait_unknown (hw ▸ hu)]
  exact hl

/-! ### A transaction that closes, and one that is not known -/

/-- A transaction closes and its order is changed, after a frame has arrived. -/
theorem closeTxn_arrived (s : State) (f : Frame) (t : Nat) (lead : Bool) (n id : Nat) (g : Order → Order) :
    modOrder (closeTxn lead n (arrived s f t)) id g = { arrived s f t with
      pair := { (arrived s f t).pair with txns := s.pair.txns.filter (fun y => y.lead != lead || y.num != n) }
      orders := s.orders.map (fun o => if o.id = id then g o else o) } := by
  rw [modOrder, closeTxn, txns_arrived, arrived_orders]

section
variable {s : State} {d : Delta} {x : Txn}

/-- COMMIT of a change without an item commits the order of the Follow (10 R467 step 3). -/
theorem commitIn_own (hx : txnOf s false d.txn = some x) (hp : x.phase = 2) (hi : x.items = []) (ho : x.own = []) :
    commitIn d s = replyDelta d 5 (modOrder (closeTxn false d.txn s) x.order (fun o => { o with commit := .pending, items := [] })) := by
  rw [commitIn, hx]
  dsimp only
  rw [if_pos hp, hi, ho]
  rfl

theorem committedIn_closes (hx : txnOf s true d.txn = some x) (hp : x.phase = 4) :
    committedIn d s = modOrder (closeTxn true d.txn s) x.order (fun o =>
      if o.stage == .waitTwin then { o with stage := if o.commit == .pending then .waitCommit else .done } else o) := by
  rw [committedIn, hx]
  exact if_neg (not_not.mpr hp)

theorem abortIn_closes (hx : txnOf s false d.txn = some x) :
    abortIn d s = modOrder (closeTxn false d.txn s) x.order (fun o =>
      if o.stage == .waitTwin && o.commit == .none then { o with stage := .ready, result := none, outSent := false } else o) := by
  rw [abortIn, hx]

theorem voteYes_unknown (h : txnOf s true d.txn = none) : voteYes d s = s := by rw [voteYes, h]
theorem voteNo_unknown (h : txnOf s true d.txn = none) : voteNo d s = s := by rw [voteNo, h]
theorem commitIn_unknown (h : txnOf s false d.txn = none) : commitIn d s = s := by rw [commitIn, h]
theorem committedIn_unknown (h : txnOf s true d.txn = none) : committedIn d s = s := by rw [committedIn, h]
theorem abortIn_unknown (h : txnOf s false d.txn = none) : abortIn d s = s := by rw [abortIn, h]

theorem grantIn_unknown {n rid v h : Nat} (hu : ∀ y ∈ s.pair.reserveWait, y.1 ≠ rid) : grantIn n rid v h s = s := by
  rw [grantIn, reserveWait_unknown hu]

end

/-! ### The rows -/

section
variable {s : State} {f : Frame} {t : Nat} (hi : InOrder s f) (hm : s.pair.mode = 1)
include hi hm

theorem claim_takes {v : State} {c : ClaimRec} (hb : f.body = .claim [c]) (hv : claimIn (arrived s f t) c = v)
    (ha : Appends s v) : Takes (.claim f t) s f v :=
  receive_takes hi (by rw [hb]; exact beq_iff_eq.mpr hm) (claim_row t s hb) hv ha

/-- A commit record that differs stops the ring (10 R460). -/
theorem claim_diverges {n st q crc : Nat} {gen : BitVec 16} {count : BitVec 32}
    (hb : f.body = .claim [.commit n st q gen count crc]) (hx : ringExists st q = true) (hg : gen = (stall s st).gen)
    (hs : (ring s st q).shared = true) (hc : (count - (ring s st q).h).toNat < 2 ^ 31)
    (hd : divergence (withTwinCommit n crc count (ring s st q)) ≠ none)
    (h0 : (withTwinCommit n crc count (ring s st q)).stopCode ≠ 0x0140) :
    Does (.claim f t) s (fun v => ring v st q = { withTwinCommit n crc count (ring s st q) with
      stopped := true, stopCode := 0x0140 } ∧ v.pair.divergences = satAdd 16 s.pair.divergences 1) := by
  obtain ⟨v, hl, ho, hp, hr, hn⟩ := checkDivergence_stops (s := arrived s f t) (st := st) (q := q) hd h0
  have hk : claimIn (arrived s f t) (.commit n st q gen count crc) =
      checkDivergence st q (setRing (arrived s f t) st q (withTwinCommit n crc count (ring s st q))) := by
    rw [claimIn_commit hx (by rwa [stall_arrived]) (by rwa [ring_arrived]) (by rwa [ring_arrived]), ring_arrived]
  refine (claim_takes hi hm hb hk (((arrived_appends s f t).quiet ho hp).trans hl.appends)).does fun y hy _ => ⟨?_, ?_⟩
  · exact (ring_congr (hl.1.trans hy).rings _ _).trans hr
  · rw [(hl.1.trans hy).pair Pair.divergences fun _ _ _ _ => rfl, hn, divergences_arrived]

/-- VOTE_YES commits the only transaction of the Lead and its order (10 R467 step 3). -/
theorem voteYes_does {d : Delta} {x : Txn} (hb : f.body = .delta d) (h2 : d.phase = 2) (hx : s.pair.txns = [x])
    (hl : x.lead = true) (hn : x.num = d.txn) (hp : x.phase = 1) (ho : x.own = []) :
    Does (.deltaVoteYes f t) s (fun v => v.pair.txns = [{ x with phase := 4 }] ∧
      (∀ o, order? s x.order = some o → order? v x.order = some { o with commit := .pending, items := [] })) := by
  have hk := voteYes_only (s := arrived s f t) ((txns_arrived s f t).trans hx) hl hn hp ho
  have hw : Appends s (commitSent d x (arrived s f t)) :=
    (arrived_appends s f t).sent rfl rfl
  refine (delta_takes hi hm hb rfl h2 hk (hw.quiet rfl rfl)).does fun y hy _ => ⟨?_, fun o hso => ?_⟩
  · exact (hy.pair Pair.txns fun _ _ _ _ => rfl).trans (commitSent_txns d x (arrived s f t))
  · have hc : order? (commitSent d x (arrived s f t)) x.order = some o :=
      (order?_congr (sendFrame_frame _ _ _).orders _).trans ((order?_arrived s f t _).trans hso)
    exact (order?_congr hy.orders _).trans (order?_modOrder_same (fun _ => rfl) hc)

/-- VOTE_NO ends the only transaction of the Lead, and its order with 0x0541 (10 R467, R468). -/
theorem voteNo_does {d : Delta} {x : Txn} (hb : f.body = .delta d) (h3 : d.phase = 3) (hx : s.pair.txns = [x])
    (hl : x.lead = true) (hn : x.num = d.txn) (hp : x.phase = 1) :
    Does (.deltaVoteNo f t) s (fun v => v.pair.txns = [] ∧ (∀ o, order? s x.order = some o → order? v x.order = some { o with
      items := [], stage := .done, result := some { status := 0x0541, word := 0, out := [], aux := [] }
      copyA := none, copyB := none, insts := [], compareAt := (arrived s f t).clock })) := by
  obtain ⟨v, hlog, hk⟩ := voteNo_only (s := arrived s f t) ((txns_arrived s f t).trans hx) hl hn hp
  have hw : Appends s v := ((arrived_appends s f t).quiet rfl rfl).trans hlog.appends
  refine (delta_takes hi hm hb rfl h3 hk (hw.quiet rfl rfl)).does fun y hy _ => ⟨?_, fun o hso => ?_⟩
  · exact (hy.pair Pair.txns fun _ _ _ _ => rfl).trans (hlog.1.pair Pair.txns fun _ _ _ _ => rfl)
  · have hc : order? v x.order = some o := (order?_congr hlog.1.orders _).trans ((order?_arrived s f t _).trans hso)
    have hd := order?_settle { status := 0x0541, word := 0, out := [], aux := [] }
      (order?_modOrder_same (f := fun o => { o with items := [] }) (fun _ => rfl) hc)
    rw [modOrder_clock, hlog.1.clock] at hd
    exact (order?_congr hy.orders _).trans hd

/-- GRANT gives the Tally the value, and the order the first one it was granted (10 R471). -/
theorem grant_does {n rid v h : Nat} {x : Nat × Nat × Nat} (hu : ∀ y ∈ s.pair.reserveWait, y.1 = rid ↔ y = x)
    (hx : x ∈ s.pair.reserveWait) (h1 : x.1 = rid) (h2 : x.2.1 = h) (hy : ∃ y ∈ s.pair.reserveWait, y ≠ x ∧ y.2.2 = x.2.2)
    (hb : f.body = .reserve 2 n rid v h) (hv : (tally s n).value < v) : Does (.reserveGrant f t) s (fun y =>
      y.pair.reserveWait = s.pair.reserveWait.filter (fun z => z.1 != rid) ∧ (tally y n).value = v ∧
      (∀ o, order? s x.2.2 = some o → order? y x.2.2 = some (if o.firstGrant = 0 then { o with firstGrant := v } else o))) := by
  rw [← reserveWait_arrived s f t] at hu hx hy ⊢
  have hk := grantIn_more (n := n) (v := v) (reserveWait_found hu hx h1 h2) (reserveWait_left hu hy)
  obtain ⟨ht, hmu⟩ := tallyTo_leaves n v (waitOver rid (arrived s f t))
  have hw := ((arrived_appends s f t).quiet (v := waitOver rid (arrived s f t)) rfl rfl).trans hmu.appends
  refine (reserve_takes hi hm hb rfl hk (hw.quiet rfl rfl)).does fun y hy hym => ⟨?_, ?_, fun o ho => ?_⟩
  · exact (hy.pair Pair.reserveWait fun _ _ _ _ => rfl).trans (hmu.1.pair Pair.reserveWait fun _ _ _ _ => rfl)
  · have hz : tally (waitOver rid (arrived s f t)) n = tally s n := tally_arrived s f t n
    rw [tally_congr (congrArg _ hym)]
    exact ht.trans ((congrArg (max v ·.value) hz).trans (max_eq_left hv.le))
  · have hc : order? (tallyTo n v (waitOver rid (arrived s f t))) x.2.2 = some o :=
      (order?_congr hmu.orders _).trans ((order?_arrived s f t _).trans ho)
    refine (order?_congr hy.orders _).trans (order?_modOrder_same (fun o => ?_) hc)
    split <;> rfl

/-- NOTED ends the wait of an order that waits for more (10 R471). -/
theorem noted_takes {n rid v h : Nat} {x : Nat × Nat × Nat} (hu : ∀ y ∈ s.pair.reserveWait, y.1 = rid ↔ y = x)
    (hx : x ∈ s.pair.reserveWait) (h1 : x.1 = rid) (h2 : x.2.1 = h) (hy : ∃ y ∈ s.pair.reserveWait, y ≠ x ∧ y.2.2 = x.2.2)
    (hb : f.body = .reserve 4 n rid v h) : Takes (.reserveNoted f t) s f { arrived s f t with
      pair := { (arrived s f t).pair with reserveWait := s.pair.reserveWait.filter (fun z => z.1 != rid) } } := by
  rw [← reserveWait_arrived s f t] at hu hx hy ⊢
  refine reserve_takes hi hm hb rfl ?_ ((arrived_appends s f t).quiet rfl rfl)
  rw [reserveWait_found hu hx h1 h2]
  exact if_pos (reserveWait_left hu hy)

/-- NOTED of no wait changes nothing. -/
theorem noted_unknown {n rid v h : Nat} (hu : ∀ y ∈ s.pair.reserveWait, y.1 ≠ rid) (hb : f.body = .reserve 4 n rid v h) :
    Takes (.reserveNoted f t) s f (arrived s f t) := by
  refine reserve_takes hi hm hb rfl ?_ (arrived_appends s f t)
  rw [reserveWait_unknown (by rwa [reserveWait_arrived])]

/-- REFUSE makes an Active key Spent (10 R471). -/
theorem refuse_does {n rid v h : Nat} {k : KeyRec} (hu : ∀ y ∈ s.pair.reserveWait, y.1 ≠ rid)
    (hb : f.body = .reserve 5 n rid v h) (hk : heldKey s h = some k) (h0 : k.attrs.kstate = 0) :
    Does (.reserveRefuse f t) s (fun y =>
      heldKey y h = some { k with attrs := { k.attrs with kstate := 1 }, res := none } ∧ y.orders = s.orders) := by
  have hl := reserveRefused_spends (s := arrived s f t) (rid := rid) (by rwa [reserveWait_arrived])
    ((heldKey_arrived s f t h).trans hk) h0
  have hw := ((arrived_appends s f t).quiet (v := keySpent (hOwner h) (hSlot h) k (arrived s f t)) rfl rfl).trans hl.appends
  refine (reserve_takes hi hm hb rfl rfl hw).does fun y hy _ => ⟨?_, ?_⟩
  · exact (heldKey_congr (hl.1.trans hy).munim h).trans (heldKey_keySpent (heldKey_slot hk).2)
  · exact (hl.1.trans hy).orders.trans (arrived_orders s f t)

/-- NOTE gives the Tally the greater value and answers NOTED (10 R471). -/
theorem note_does {n rid v h : Nat} (hb : f.body = .reserve 3 n rid v h) (hv : (tally s n).value < v) :
    Does (.reserveNote f t) s (fun y => (tally y n).value = v ∧ y.orders = s.orders) := by
  obtain ⟨ht, hmu⟩ := tallyTo_leaves n v (arrived s f t)
  have hw := ((arrived_appends s f t).trans hmu.appends).trans
    (sendFrame_logs 0 (.reserve 4 n rid v h) (tallyTo n v (arrived s f t))).appends
  refine (reserve_takes hi hm hb rfl rfl hw).does fun y hy hym => ⟨?_, ?_⟩
  · rw [tally_congr (congrArg _ hym), tally_congr (congrArg _ (sendFrame_mram _ _ _)), ht, tally_arrived]
    exact max_eq_left hv.le
  · exact (hy.orders.trans (sendFrame_frame _ _ _).orders).trans (hmu.orders.trans (arrived_orders s f t))

/-- NOTE that spends no key gives the Tally the greater value and answers NOTED, and that is all. -/
theorem note_takes {n rid v h : Nat} (hb : f.body = .reserve 3 n rid v h)
    (hx : (tally s n).exhausted = false ∨ v ≤ (tally s n).value) : Takes (.reserveNote f t) s f
      (sendFrame 0 (.reserve 4 n rid v h) (if (tally s n).value < v then tallyRaised n v (arrived s f t) else arrived s f t)) := by
  have ht : tallyTo n v (arrived s f t) = if (tally s n).value < v then tallyRaised n v (arrived s f t) else arrived s f t := by
    rcases hx with hx | hx
    · rw [tallyTo_plain (.inl (by rwa [tally_arrived])), tally_arrived]
    · rw [tallyTo_stands (by rw [tally_arrived]; exact Nat.not_lt.mpr hx), if_neg (Nat.not_lt.mpr hx)]
  refine reserve_takes hi hm hb rfl (congrArg (sendFrame 0 (.reserve 4 n rid v h)) ht) ?_
  refine Appends.trans ?_ (sendFrame_logs _ _ _).appends
  split
  · exact (arrived_appends s f t).quiet rfl rfl
  · exact arrived_appends s f t

end

theorem tallyRaised_arrived (s : State) (f : Frame) (t n v : Nat) :
    tallyRaised n v (arrived s f t) = { arrived s f t with mram := { s.mram with
      tallies := Tbl.put Tally.reset s.mram.tallies n { tally s n with value := v, writes := (tally s n).writes + 1 } } } := by
  rw [tallyRaised, arrived_mram, tally_arrived]

/-- Settles O47: the rows of Mirror mode, each a frame that is taken and its effect on the part as it stands after the arrival. -/
theorem twinCommitRows : Obligations.TwinCommitRows := by
  intro s t f hi hm w raised
  have hw : Appends s w := arrived_appends s f t
  have hraised : ∀ n v, tallyRaised n v w = raised n v := tallyRaised_arrived s f t
  refine ⟨?_, ?_, ?_, ?_, ?_, ?_, ?_⟩
  · -- a commit record
    intro n st q gen count crc hb hx
    refine ⟨fun hg => claim_takes hi hm hb (claimIn_past (by rwa [stall_arrived])) hw,
      fun hg hs hc => ⟨fun hd => ?_, fun hd h0 => claim_diverges hi hm hb hx hg hs hc hd h0⟩⟩
    refine claim_takes hi hm hb ?_ (hw.quiet rfl rfl)
    rw [claimIn_commit hx (by rwa [stall_arrived]) (by rwa [ring_arrived]) (by rwa [ring_arrived]), ring_arrived]
    exact checkDivergence_none hd
  · -- a ring record
    intro st q gen lg base hb hx hg he hs
    refine claim_takes hi hm hb ?_ (hw.quiet rfl rfl)
    rw [claimIn_ring hx (by rwa [stall_arrived]) (by rwa [ring_arrived]) (by rwa [ring_arrived]), ring_arrived]
  · -- the DELTA frames
    intro d hb
    refine ⟨fun h1 ha hg hl => ?kept, fun h1 ha hi0 ho => ?applied,
      fun h2 x hx hl hn hp ho => voteYes_does hi hm hb h2 hx hl hn hp ho,
      fun h3 x hx hl hn hp => voteNo_does hi hm hb h3 hx hl hn hp, fun h4 x hx hp hit ho => ?commit, fun h5 x hx hp => ?committed,
      fun h6 x hx => ?abort, fun h2 hn => ?noYes, fun h3 hn => ?noNo, fun h4 hn => ?noCommit, fun h5 hn => ?noCommitted,
      fun h6 hn => ?noAbort⟩
    case kept =>
      refine prepare_takes hi hm hb h1 ?_ (hw.quiet rfl rfl)
      rw [prepareIn_kept ha (by rwa [stall_arrived]) (by rwa [txns_arrived]), txns_arrived, followTxn_arrived]
    case applied =>
      refine prepare_takes hi hm hb h1 ?_ (hw.sent rfl rfl)
      rw [prepareIn_applied ha hi0 ((deltaOrder_arrived s f t d).trans ho), txns_arrived]
    case commit =>
      refine delta_takes hi hm hb rfl h4 ?_ (hw.sent rfl rfl)
      rw [commitIn_own ((txnOf_arrived s f t _ _).trans hx) hp hit ho, closeTxn_arrived]
    case committed =>
      exact delta_takes hi hm hb rfl h5 ((committedIn_closes ((txnOf_arrived s f t _ _).trans hx) hp).trans
        (closeTxn_arrived s f t _ _ _ _)) (hw.quiet rfl rfl)
    case abort =>
      exact delta_takes hi hm hb rfl h6 ((abortIn_closes ((txnOf_arrived s f t _ _).trans hx)).trans
        (closeTxn_arrived s f t _ _ _ _)) (hw.quiet rfl rfl)
    case noYes =>
      exact delta_takes hi hm hb rfl h2 (voteYes_unknown ((txnOf_arrived s f t _ _).trans hn)) hw
    case noNo =>
      exact delta_takes hi hm hb rfl h3 (voteNo_unknown ((txnOf_arrived s f t _ _).trans hn)) hw
    case noCommit =>
      exact delta_takes hi hm hb rfl h4 (commitIn_unknown ((txnOf_arrived s f t _ _).trans hn)) hw
    case noCommitted =>
      exact delta_takes hi hm hb rfl h5 (committedIn_unknown ((txnOf_arrived s f t _ _).trans hn)) hw
    case noAbort =>
      exact delta_takes hi hm hb rfl h6 (abortIn_unknown ((txnOf_arrived s f t _ _).trans hn)) hw
  · -- REQUEST
    intro n rid v h hb
    refine ⟨fun hl => ?_, fun hl hk => ?_, fun hl k hk h0 hx hwr hv h4 hbe => ?_⟩
    · exact reserve_takes hi hm hb rfl (if_neg (ne_true_of_eq_false ((isLead_arrived s f t).trans hl))) hw
    · refine reserve_takes hi hm hb rfl ((if_pos ((isLead_arrived s f t).trans hl)).trans ?_)
        (hw.sent rfl rfl)
      rw [reserveRequest_unheld ((heldKey_arrived s f t h).trans hk), tally_arrived]
    · refine reserve_takes hi hm hb rfl ((if_pos ((isLead_arrived s f t).trans hl)).trans ?_)
        (hw.sent rfl rfl)
      have hta := tally_arrived s f t n
      rw [reserveRequest_granted ((heldKey_arrived s f t h).trans hk) h0 (hta ▸ hx) (hta ▸ hwr) (hta ▸ hv)
        ((congrArg _ (arrived_faults s f t)).trans h4) (hta ▸ hbe), hta, hraised]
  · -- GRANT and NOTED of a wait
    exact fun n rid v h x hu hx h1 h2 hy => ⟨fun hb hv => grant_does hi hm hu hx h1 h2 hy hb hv,
      fun hb => noted_takes hi hm hu hx h1 h2 hy hb⟩
  · -- replies of no wait
    intro n rid v h hu
    have hua : ∀ y ∈ w.pair.reserveWait, y.1 ≠ rid := by rwa [reserveWait_arrived]
    refine ⟨fun hb => reserve_takes hi hm hb rfl (grantIn_unknown hua) hw, fun hb => noted_unknown hi hm hu hb,
      fun hb hk => ?_, fun hb k hk h0 => refuse_does hi hm hu hb hk h0⟩
    exact reserve_takes hi hm hb rfl (reserveRefused_unheld hua ((heldKey_arrived s f t h).trans hk)) hw
  · -- NOTE
    intro n rid v h hb
    refine ⟨fun hx => ?_, fun _ hv => note_does hi hm hb hv⟩
    have h := note_takes (t := t) hi hm hb hx
    rwa [hraised] at h

end Machine
end Sys2Proof
end

section
/-!
PROOFS. What Mirror mode makes of the pair: the pair state, a twin that is lost, arbitration and takeover (10 R451, R475 to R480).
-/
namespace Sys2Proof
namespace Machine

/-! ### Commands of the link, for a part of what they leave -/

/-- What a frame in order leaves is its effect, but for outputs and the evidence of the acknowledgement. -/
theorem receive_does {c : Instr} {s v : State} {f : Frame} {t : Nat} {k : State → State} {P : State → Prop} (h : InOrder s f)
    (hb : bodyPermitted s f.body = true) (hc : exec c s = frameAct t (receive f k) s) (hv : k (arrived s f t) = v)
    (hq : v.pending = s.pending) (hp : ∀ y, EvidenceOnly v y → y.mram = v.mram → P y) : Does c s P := by
  refine ⟨_, receive_gate h hb hc hv, hp _ ?_ (sendFrame_mram _ _ _)⟩
  have he := sendFrame_frame f.ch (.ack false) v
  have hg : gate s (sendAck f.ch false v) = { sendAck f.ch false v with
      pending := v.pending, out := (gate s (sendAck f.ch false v)).out } := by
    rw [hq]
    rfl
  rw [hg, ← he.pending]
  exact he

theorem EvidenceOnly.pairRec {s v : State} (h : EvidenceOnly s v) : v.mram.pairRec = s.mram.pairRec :=
  (congrArg (fun x => x.mram.pairRec) h :)

theorem EvidenceOnly.master {s v : State} (h : EvidenceOnly s v) : v.mram.master = s.mram.master :=
  (congrArg (fun x => x.mram.master) h :)

/-- A change of the pair that keeps its evidence, made of two states that differ in evidence. -/
theorem EvidenceOnly.withPair {s v : State} (h : EvidenceOnly s v) (g : Pair → Pair)
    (hg : ∀ p ev tx rp, g { p with evidence := ev, txSeq := tx, replay := rp } =
      { g p with evidence := ev, txSeq := tx, replay := rp }) :
    EvidenceOnly { s with pair := g s.pair } { v with pair := g v.pair } := by
  have hs : g s.pair = { g s.pair with evidence := s.pair.evidence, txSeq := s.pair.txSeq, replay := s.pair.replay } :=
    hg s.pair _ _ _
  have he : (g s.pair).evidence = s.pair.evidence := (congrArg Pair.evidence hs :)
  have ht : (g s.pair).txSeq = s.pair.txSeq := (congrArg Pair.txSeq hs :)
  have hr : (g s.pair).replay = s.pair.replay := (congrArg Pair.replay hs :)
  unfold EvidenceOnly
  dsimp only
  rw [he, ht, hr, ← hg]
  exact (congrArg (fun x : State => { x with pair := g x.pair }) h :)

theorem Logs.withPair {s v : State} (h : Logs s v) (g : Pair → Pair)
    (hg : ∀ p ev tx rp, g { p with evidence := ev, txSeq := tx, replay := rp } =
      { g p with evidence := ev, txSeq := tx, replay := rp }) : Logs { s with pair := g s.pair } { v with pair := g v.pair } :=
  ⟨h.1.withPair g hg, h.2⟩

/-! ### The pair state -/

/-- The part has a pair state (10 R436). -/
def pairAt (st : Nat) (s : State) : State := { s with pair := { s.pair with state := st } }

/-- A change of the pair state is told by its event. -/
theorem setPair_logs (st : Nat) (s : State) : Logs (pairAt st s) (setPair st s) := by
  unfold setPair
  split
  · next h =>
    subst h
    exact Logs.refl s
  · exact event_logs 32 _

theorem setPair_mram (st : Nat) (s : State) : (setPair st s).mram = s.mram := by
  unfold setPair
  split
  · rfl
  · exact event_mram _ _

theorem setPair_state (st : Nat) (s : State) : (setPair st s).pair.state = st :=
  (setPair_logs st s).1.pair Pair.state fun _ _ _ _ => rfl

theorem holdClear_idle {c : HoldCause} {s : State} (h : s.faults.holds = []) : holdClear c s = s := by
  have hf : s.faults.holds.filter (fun x => x != c) = s.faults.holds := by
    rw [h]
    rfl
  rw [holdClear, hf]

/-- A Hold that begins or goes on changes nothing of the pair but its evidence. -/
theorem holdEnter_pair {β : Type} (g : Pair → β) (hg : ∀ p ev tx rp, g { p with evidence := ev, txSeq := tx, replay := rp } = g p)
    (c : HoldCause) (b : Bool) (s : State) : g (holdEnter c b s).pair = g s.pair := by
  unfold holdEnter
  split
  · rfl
  · dsimp only
    split
    · rfl
    · exact (event_frame 2 _).pair g hg

/-- Charges are tried again with no order that waits for one: the requests are forgotten (10 R471). -/
theorem retryCharges_quiet {s : State} (h : ∀ o ∈ s.orders, o.stage ≠ .waitCharge) :
    retryCharges s = { s with pair := { s.pair with reserveWait := [] } } := by
  have hn : s.orders.filter (fun o => o.stage == .waitCharge) = [] :=
    List.filter_eq_nil_iff.mpr fun o ho => by simpa using h o ho
  rw [retryCharges, hn]
  rfl

theorem Logs.retryCharges {s v : State} (h : Logs s v) (hq : ∀ o ∈ s.orders, o.stage ≠ .waitCharge) :
    Logs { s with pair := { s.pair with reserveWait := [] } } (retryCharges v) := by
  rw [retryCharges_quiet fun o ho => hq o (h.1.orders ▸ ho)]
  exact h.withPair (fun p => { p with reserveWait := [] }) fun _ _ _ _ => rfl

/-! ### Heartbeats -/

/-- What a heartbeat tells of the twin (10 R449). -/
def beatTaken (b : Beat) (p : Pair) : Pair :=
  { p with twinState := b.state, twinArbiter := b.arbiter, twinRestarts := b.restarts }

/-- A heartbeat may be noted as odd (10 R449). -/
def beatNoted (b : Beat) (s : State) : State := if beatOdd s b then pairNote pnBeat s else s

theorem beatNoted_logs (b : Beat) (s : State) : Logs s (beatNoted b s) := by
  unfold beatNoted
  split
  · exact pairNote_logs _ _
  · exact Logs.refl _

/-- A twin of a Lead that has restarted is answered (10 R470). -/
def beatRestarts (rose : Bool) (s : State) : State := if rose && mirrored s && isLead s then twinRestarted s else s

/-- The first heartbeat of a session decides whose state stands (10 R478). -/
def beatDecides (b : Beat) (s : State) : State := if s.pair.decideDue && s.pair.mode = 1 then decideStart b.arbiter s else s

/-- The steps of a heartbeat in order (10 R449, R450, R470, R478). -/
theorem heartbeatIn_eq (b : Beat) (s : State) :
    heartbeatIn b s =
      (let v := beatNoted b (holdClear .pairQuiet { s with pair := { s.pair with missRun := 0 } })
       retryCharges (beatDecides b (beatRestarts (decide (v.pair.twinRestarts < b.restarts))
         { v with pair := beatTaken b v.pair }))) := rfl

/-- A heartbeat that tells of no restart where nothing is to be decided (10 R449, R450). -/
theorem heartbeatIn_after {b : Beat} {s v : State}
    (hv : beatNoted b (holdClear .pairQuiet { s with pair := { s.pair with missRun := 0 } }) = v)
    (hr : b.restarts ≤ v.pair.twinRestarts) (hd : v.pair.decideDue = false) :
    heartbeatIn b s = retryCharges { v with pair := beatTaken b v.pair } := by
  have h4 (x : State) : beatRestarts (decide (v.pair.twinRestarts < b.restarts)) x = x := by
    rw [decide_eq_false (Nat.not_lt.mpr hr)]
    rfl
  have h5 : beatDecides b { v with pair := beatTaken b v.pair } = { v with pair := beatTaken b v.pair } :=
    if_neg (by simp [beatTaken, hd])
  rw [heartbeatIn_eq, hv]
  dsimp only
  rw [h4, h5]

/-- A heartbeat of a part that waits for nothing tells of the twin and ends the run of misses (10 R449, R450). -/
theorem heartbeatIn_plain {b : Beat} {s : State} (hq : ∀ o ∈ s.orders, o.stage ≠ .waitCharge) (hd : s.pair.decideDue = false)
    (hr : b.restarts ≤ s.pair.twinRestarts) (hh : s.faults.holds = []) :
    Logs { s with pair := { beatTaken b s.pair with missRun := 0, reserveWait := [] } } (heartbeatIn b s) := by
  have hl := beatNoted_logs b (holdClear .pairQuiet { s with pair := { s.pair with missRun := 0 } })
  have hrv := hl.1.pair Pair.twinRestarts fun _ _ _ _ => rfl
  have hdv := hl.1.pair Pair.decideDue fun _ _ _ _ => rfl
  rw [heartbeatIn_after rfl (hr.trans_eq hrv.symm) (hdv.trans hd)]
  rw [holdClear_idle (s := { s with pair := { s.pair with missRun := 0 } }) hh] at hl ⊢
  exact (hl.withPair (beatTaken b) fun _ _ _ _ => rfl).retryCharges hq

/-- A miss has been counted (10 R450). -/
def missCounted (s : State) : State :=
  { s with pair := { s.pair with hbMisses := satAdd 16 s.pair.hbMisses 1, missRun := s.pair.missRun + 1 } }

theorem beatMissed_idle {s : State} (h : s.pair.bound = false ∨ s.pair.casPending ≠ 0 ∨ s.pair.settling = true) :
    beatMissed s = s := by
  refine if_pos ?_
  rcases h with h | h | h <;> simp [h]

section
variable {s : State} (hb : s.pair.bound = true) (hc : s.pair.casPending = 0) (hs : s.pair.settling = false)
  (hm : s.pair.mode = 1) (hp : s.pair.state = psPaired)
include hb hc hs hm hp

/-- The first miss of a Paired part holds it (10 R450). -/
theorem beatMissed_first (h : s.pair.missRun = 0) : beatMissed s = holdEnter .pairQuiet false (missCounted s) := by
  have hr : (holdEnter .pairQuiet false (missCounted s)).pair.missRun = 1 :=
    (holdEnter_pair Pair.missRun (fun _ _ _ _ => rfl) _ _ _).trans (congrArg (· + 1) h)
  have h1 : (decide (s.pair.missRun + 1 = 1) && decide (s.pair.state = psPaired)) = true := by simp [h, hp]
  rw [beatMissed, if_neg (by simp [hb, hc, hs, hp])]
  dsimp only
  rw [if_neg (by omega), if_pos h1]
  refine if_neg ?_
  change ¬ 3 ≤ (holdEnter .pairQuiet false (missCounted s)).pair.missRun
  omega

/-- The third miss of a Paired part declares the twin failed and arbitrates (10 R451, R477). -/
theorem beatMissed_third (h : s.pair.missRun = 2) :
    beatMissed s = arbitrate (declareTwin (if s.pair.closedRx then 5 else 1) (missCounted s)) := by
  have h1 : ¬ (decide (s.pair.missRun + 1 = 1) && decide (s.pair.state = psPaired)) = true := by simp [h]
  rw [beatMissed, if_neg (by simp [hb, hc, hs, hp])]
  dsimp only
  rw [if_neg (by omega), if_neg h1]
  exact (if_pos (by simp [h])).trans (if_pos hp)

end

/-! ### A twin that is lost -/

/-- The twin is declared failed, and the session has ended (10 R451). -/
def twinGone (cause : Nat) (s : State) : State :=
  { s with pair := { s.pair with
      failovers := satAdd 32 s.pair.failovers 1, session := false, sessionKey := none, frameKeys := none, ptk := none, missRun := 0
      twinDeclared := true, hsStep := 0, lastLoss := cause } }

theorem lossRecord_logs (cause : Nat) (s : State) :
    Logs { s with pair := { s.pair with lastLoss := cause } } (lossRecord cause s) :=
  (record_logs _ _ _ _ _ _).trans (event_logs _ _)

theorem declareTwin_logs (cause : Nat) (s : State) : Logs (twinGone cause s) (declareTwin cause s) := lossRecord_logs _ _

theorem arbiter_congr {s v : State} (hr : v.mram.pairRec = s.mram.pairRec) : recArbiter v = recArbiter s := by
  rw [recArbiter, hr]
  rfl

theorem soleWord_congr {s v : State} (hr : v.mram.pairRec = s.mram.pairRec) (hs : v.pair.side = s.pair.side) :
    soleWord v = soleWord s := by
  rw [soleWord, arbiter_congr hr, hs, recPairId, hr]
  rfl

/-- The request on the Arbiter word (10 R477). -/
def casAsk (s : State) : Out := .casReq s.pair.arbAddr (recArbiter s) (soleWord s)

theorem casAsk_congr {s v : State} (h : EvidenceOnly s v) : casAsk v = casAsk s := by
  rw [casAsk, arbiter_congr h.pairRec, soleWord_congr h.pairRec (h.pair Pair.side fun _ _ _ _ => rfl),
    h.pair Pair.arbAddr fun _ _ _ _ => rfl]
  rfl

/-- An arbitration that is lost apart from a start is Silence (10 R477). -/
theorem arbLost_lost {s : State} (cause : Nat) (h : s.pair.arbOnStart = false) (hl : s.faults.silent = false) :
    Lost 0x000F (arbLost cause s) := by
  have he : arbLost cause s = silence 0x000F
      (lossRecord cause { s with pair := { s.pair with casPending := 0, casFailed := false } }) := if_neg (ne_true_of_eq_false h)
  rw [he]
  refine silence_lost _ ?_
  rw [(lossRecord_logs _ _).1.faults]
  exact hl

/-- A request made apart from a start (10 R477). -/
theorem arbitrate_asks {s : State} (h : s.pcie.atomicEn = true) :
    arbitrate s = emit (casAsk s) { s with pair := { s.pair with casPending := 1, casFailed := false } } := if_pos h

/-- A frame of Silence makes a Paired part Lead and the holder of the pair (10 R451, R477, R480). -/
theorem silenceIn_paired {s : State} (hm : s.pair.mode = 1) (hp : s.pair.state = psPaired) :
    silenceIn s = becomeSole (holdsAlone (emit (.arbWrite s.pair.arbAddr (soleWord (declareTwin 2 s))) (declareTwin 2 s))) :=
  (if_neg (by omega)).trans (if_pos (by simp [hp]))

/-! ### The end of a takeover -/

theorem Tbl.find?_mem {α : Type} {t : Tbl α} {i : Nat} {v : α} (h : Tbl.find? t i = some v) : (i, v) ∈ t := by
  induction t with
  | nil => cases h
  | cons p r ih =>
    by_cases hp : i = p.1
    · rw [Tbl.find?, if_pos hp] at h
      cases h
      rw [hp]
      exact List.mem_cons_self
    · rw [Tbl.find?, if_neg hp] at h
      exact List.mem_cons_of_mem _ (ih h)

/-- A part that is alone shares no ring (10 R480). -/
theorem ring_unshare (s : State) (st q : Nat) : (ring (unshare s) st q).shared = false := by
  rw [ring, Tbl.getD]
  cases hr : Tbl.find? (unshare s).rings (rix st q) with
  | none => rfl
  | some r =>
    have hm := List.mem_of_mem_filter (Tbl.find?_mem hr)
    obtain ⟨p, -, hp⟩ := List.mem_map.mp hm
    obtain ⟨-, rfl⟩ := Prod.mk.inj hp
    change (if p.2.shared then _ else p.2 : Ring).shared = false
    split
    · rfl
    · next h => exact Bool.eq_false_iff.mpr h

/-- The takeover has ended: the part is Sole, shares no ring, and its orders go on (10 R480). -/
def takenOver (s : State) : State :=
  { unshare (releaseFollow s) with pair := { s.pair with state := psSole, reserveWait := [] } }

/-- The takeover of a part whose orders wait for no charge ends with a Note (10 R480 steps 4 and 5). -/
theorem takeoverEnd_logs {s : State} (hq : ∀ o ∈ s.orders, o.stage ≠ .waitCharge) : Logs (takenOver s) (takeoverEnd s) := by
  have hn := pairNote_logs pnTakeover (unshare (releaseFollow s))
  have hl : Logs (pairAt psSole (unshare (releaseFollow s))) (setPair psSole (pairNote pnTakeover (unshare (releaseFollow s)))) :=
    (hn.withPair (fun p => { p with state := psSole }) fun _ _ _ _ => rfl).trans (setPair_logs _ _)
  refine hl.retryCharges fun o ho => ?_
  obtain ⟨x, hx, rfl⟩ := List.mem_map.mp ho
  split
  · split <;> simp
  · exact hq x hx

/-- The scan of a ring whose next slot is of the old phase finds nothing more (10 R480 step 3). -/
theorem scanSlots_old {r : Ring} {h : Bytes} (n : Nat)
    (hp : field h 6 1 % 2 ≠ (if r.twinW.toNat / 2 ^ r.twinRcpLog2 % 2 = 0 then 1 else 0)) :
    scanSlots r (n + 1) [h] = ([], 0, true) := by
  rw [scanSlots]
  exact if_pos hp

/-- The scan of the last ring ends the takeover (10 R480 steps 3 to 5). -/
theorem scanDone_last {s : State} {st q : Nat} {h : Bytes} (hx : ringExists st q = true) (hs : s.pair.scanning = [rix st q])
    (hp : field (fit 32 h) 6 1 % 2 ≠
      (if (ring s st q).twinW.toNat / 2 ^ (ring s st q).twinRcpLog2 % 2 = 0 then 1 else 0)) :
    ∃ r, scanDone st q [h] s = takeoverEnd { setRing s st q r with pair := { s.pair with scanning := [] } } := by
  have hf : s.pair.scanning.filter (fun i => i != rix st q) = [] := by simp [hs]
  rw [scanDone, if_neg (by simp [hx, hs])]
  dsimp only [List.length_singleton, List.map_singleton]
  rw [scanSlots_old 1 hp]
  refine ⟨{ ring s st q with twinW := (ring s st q).twinW + BitVec.ofNat 32 0 }, (if_pos rfl).trans ?_⟩
  refine (if_pos (congrArg List.isEmpty hf)).trans ?_
  exact congrArg (fun l => takeoverEnd { setRing s st q _ with pair := { s.pair with scanning := l } }) hf

end Machine
end Sys2Proof
end

section
/-!
PROOFS. Mirror mode: heartbeats, arbitration, takeover, and the part that returns (10 R449 to R451, R475 to R482).
-/
namespace Sys2Proof
namespace Machine

/-! ### A part that joins -/

@[simp] theorem joinDigest_arrived (s : State) (f : Frame) (t : Nat) : joinDigest (arrived s f t) = joinDigest s :=
  arrived_keeps joinDigest (fun _ _ => rfl) s f t

/-- What a part that joins keeps: the pair, and the Tallies (10 R482 step 1). -/
theorem joinClear_keeps (s : State) :
    ((joinClear s).pair, (joinClear s).pending, (joinClear s).mram.tallies) = (s.pair, s.pending, s.mram.tallies) := by
  refine foldl_keeps (fun v => (v.pair, v.pending, v.mram.tallies)) _ (fun v p => ?_) _ s
  refine (foldl_keeps (fun v => (v.pair, v.pending, v.mram.tallies)) (fun s q => setRing s p.1 q Ring.reset) ?_ _ _).trans ?_
  · exact fun _ _ => rfl
  · exact foldl_keeps (fun v => (v.pair, v.pending, v.mram.tallies)) (fun s o => dropOrder (dropTlps o.id s) o.id)
      (fun _ _ => rfl) (stallOrders v p.1) v

/-- The stream has brought one more item (10 R482 step 2). -/
def itemCounted (s : State) : State := { s with pair := { s.pair with resyncRecords := satAdd 32 s.pair.resyncRecords 1 } }

theorem joinItem_tally (n x : Nat) (s : State) :
    joinItem s (.tally n x) =
      if x < (tally s n).value then sendFrame 1 (.resync [.tally n (tally s n).value]) (itemCounted s)
      else tallyTo n x (itemCounted s) := rfl

/-- A Tally of the stream: the part without keys has the greater value, and one that is its own goes back (10 R473, R482). -/
theorem joinItem_tally_leaves {n x : Nat} {s : State} (hk : s.munim.keys = []) :
    (tally (joinItem s (.tally n x)) n).value = max x (tally s n).value ∧ Logs (itemCounted s) (joinItem s (.tally n x)) := by
  rw [joinItem_tally]
  split
  · next h =>
    rw [tally_congr (congrArg _ (sendFrame_mram _ _ _))]
    exact ⟨(max_eq_right h.le).symm, sendFrame_logs _ _ _⟩
  · refine ⟨(tallyTo_leaves n x (itemCounted s)).1, ?_⟩
    rw [tallyTo_plain (s := itemCounted s) (.inr hk)]
    split
    · exact ⟨rfl, List.prefix_rfl⟩
    · exact Logs.refl _

/-- The count of the stream begins anew. -/
def countCleared (s : State) : State := { s with pair := { s.pair with resyncRecords := 0 } }

/-- A Waiting part is Joining, in its first attempt (10 R482 step 1). -/
def joinOpened (s : State) : State :=
  let v := setPair psJoining (countCleared s)
  { v with pair := { v.pair with joinTries := 1 } }

theorem joinOpened_frame (s : State) :
    EvidenceOnly { s with pair := { s.pair with resyncRecords := 0, state := psJoining, joinTries := 1 } } (joinOpened s) :=
  ((setPair_logs psJoining (countCleared s)).1.withPair (fun p => { p with joinTries := 1 }) fun _ _ _ _ => rfl :)

theorem joinClear_pair (s : State) : (joinClear s).pair = s.pair := congrArg Prod.fst (joinClear_keeps s)

theorem joinClear_pending (s : State) : (joinClear s).pending = s.pending := congrArg (fun x => x.2.1) (joinClear_keeps s)

theorem joinClear_tally (s : State) (n : Nat) : tally (joinClear s) n = tally s n :=
  tally_congr (congrArg (fun x => x.2.2) (joinClear_keeps s)) n

theorem joinOpened_tally (s : State) (n : Nat) : tally (joinOpened s) n = tally s n :=
  tally_congr (s := s) (v := joinOpened s) (congrArg Mram.tallies (setPair_mram psJoining (countCleared s))) n

/-- The first frame of the stream makes a Waiting part Joining (10 R482 step 1). -/
theorem resyncIn_waiting {its : List Item} {s : State} (hw : s.pair.state = psWaiting) (h0 : s.pair.joinTries = 0) :
    resyncIn its s = its.foldl (fun s it => joinItem s (openItem s it)) (joinClear (joinOpened s)) := by
  have ht : (setPair psJoining (countCleared s)).pair.joinTries = 0 :=
    ((setPair_logs _ _).1.pair Pair.joinTries fun _ _ _ _ => rfl).trans h0
  rw [resyncIn, if_pos (by simp [hw])]
  dsimp only
  rw [if_pos hw]
  exact congrArg (its.foldl _) (if_pos ht)

theorem resyncIn_sole {n x : Nat} {s : State} (hs : s.pair.state = psSole) (hn : 32 ≤ n) :
    resyncIn [.tally n x] s = tallyTo n x s :=
  (if_neg (by simp [hs, psSole, psWaiting, psJoining])).trans ((if_pos hs).trans (if_pos hn))

theorem resyncIn_paired {its : List Item} {s : State} (hs : s.pair.state = psPaired) : resyncIn its s = s :=
  (if_neg (by simp [hs, psPaired, psWaiting, psJoining])).trans (if_neg (by simp [hs, psPaired, psSole]))

/-! ### Parts that are equal -/

/-- The new round of the Arbiter changes nothing of the pair but the value it names (10 R476). -/
theorem armArbiter_pair {β : Type} (g : Pair → β) (hg : ∀ p x, g { p with arbValue := x } = g p) (s : State) :
    g (armArbiter s).pair = g s.pair := by
  unfold armArbiter
  dsimp only
  split
  · exact hg _ _
  · rfl

theorem armArbiter_keeps (s : State) :
    (armArbiter s).orders = s.orders ∧ (armArbiter s).clock = s.clock ∧ (armArbiter s).pending = s.pending := by
  unfold armArbiter
  dsimp only
  split <;> exact ⟨rfl, rfl, rfl⟩

/-- The part is Paired in a role (10 R482 step 5). -/
def pairedAs (role : Nat) (s : State) : State :=
  { s with pair := { s.pair with role := role, joinTries := 0, state := psPaired } }

theorem joined_logs (role : Nat) (s : State) : ∃ v, Logs (pairedAs role s) v ∧ joined role s = armArbiter v :=
  ⟨_, (setPair_logs psPaired { s with pair := { s.pair with role := role, joinTries := 0 } }).trans (event_logs 37 _), rfl⟩

/-- Equal parts are Paired, with the orders they have (10 R482 step 5). -/
theorem joined_leaves (role : Nat) (s : State) :
    let v := joined role s
    v.pair.state = psPaired ∧ v.pair.role = role ∧ v.pair.joinTries = 0 ∧ v.pair.joinOrder = s.pair.joinOrder ∧
      v.orders = s.orders ∧ v.clock = s.clock ∧ v.pending = s.pending := by
  obtain ⟨v, hl, hv⟩ := joined_logs role s
  obtain ⟨ho, hc, hp⟩ := armArbiter_keeps v
  rw [hv]
  exact ⟨(armArbiter_pair Pair.state (fun _ _ => rfl) v).trans (hl.1.pair Pair.state fun _ _ _ _ => rfl),
    (armArbiter_pair Pair.role (fun _ _ => rfl) v).trans (hl.1.pair Pair.role fun _ _ _ _ => rfl),
    (armArbiter_pair Pair.joinTries (fun _ _ => rfl) v).trans (hl.1.pair Pair.joinTries fun _ _ _ _ => rfl),
    (armArbiter_pair Pair.joinOrder (fun _ _ => rfl) v).trans (hl.1.pair Pair.joinOrder fun _ _ _ _ => rfl),
    ho.trans hl.1.orders, hc.trans hl.1.clock, hp.trans hl.1.pending⟩

section
variable {d : Bytes} {s : State}

theorem resyncEndIn_equal (hj : s.pair.state = psJoining) (hd : d = joinDigest s) :
    resyncEndIn d s = joined 1 (sendFrame 1 (.resyncEnd (joinDigest s)) s) :=
  (if_pos (by simp [hj])).trans (if_pos hd)

theorem resyncEndIn_differs (hj : s.pair.state = psJoining) (hd : d ≠ joinDigest s) :
    resyncEndIn d s =
      (let v := sendFrame 1 (.resyncEnd (joinDigest s)) s
       { v with pair := { v.pair with joinTries := 0 } }) :=
  (if_pos (by simp [hj])).trans (if_neg hd)

/-- A Sole part whose join has made the parts equal completes its order (10 R482 step 5). -/
theorem resyncEndIn_sole {i : Nat} (hs : s.pair.state = psSole) (hj : s.pair.joinOrder = some i) (hd : d = joinDigest s) :
    resyncEndIn d s = complete i 0 0 (joined 0 { s with pair := { s.pair with joinOrder := none } }) := by
  rw [resyncEndIn, if_neg (by simp [hs, psSole, psWaiting, psJoining]), hj]
  exact if_pos hd

end

/-! ### Heartbeats and a twin that is lost -/

section
variable {s : State} {f : Frame} {t : Nat} (hs : Open s)
include hs

/-- The third miss makes the request on the Arbiter word (10 R451, R477). -/
theorem thirdMiss_asks (hb : s.pair.bound = true) (hc : s.pair.casPending = 0) (ht : s.pair.settling = false)
    (hm : s.pair.mode = 1) (hp : s.pair.state = psPaired) (h2 : s.pair.missRun = 2) (ha : s.pcie.atomicEn = true) :
    Does (.heartbeatMiss t) s (fun v => v.pair.twinDeclared = true ∧ v.pair.session = false ∧
      v.pair.failovers = satAdd 32 s.pair.failovers 1 ∧ v.pair.casPending = 1 ∧ casAsk s ∈ v.out) := by
  have hl := declareTwin_logs (if s.pair.closedRx then 5 else 1) (missCounted (tick t s))
  have hen := (congrArg (fun x => x.pcie.atomicEn) hl.1 :)
  have hk := (beatMissed_third (s := tick t s) hb hc ht hm hp h2).trans (arbitrate_asks (hen.trans ha))
  have hd := hl.appends.after (s := s) rfl rfl
  refine ⟨_, frame_next hs (by rfl) hk (hd.trans ⟨List.prefix_append _ _, rfl⟩), ?_, ?_, ?_, rfl, ?_⟩
  · exact hl.1.pair Pair.twinDeclared fun _ _ _ _ => rfl
  · exact hl.1.pair Pair.session fun _ _ _ _ => rfl
  · exact hl.1.pair Pair.failovers fun _ _ _ _ => rfl
  · exact List.mem_append_right _ (List.mem_singleton.mpr (casAsk_congr hl.1).symm)

/-- Without its enable the third miss is Silence (10 R477). -/
theorem thirdMiss_lost (hb : s.pair.bound = true) (hc : s.pair.casPending = 0) (ht : s.pair.settling = false)
    (hm : s.pair.mode = 1) (hp : s.pair.state = psPaired) (h2 : s.pair.missRun = 2) (ha : s.pcie.atomicEn = false)
    (h0 : s.pair.arbOnStart = false) : Does (.heartbeatMiss t) s (Lost 0x000F) := by
  have hl := declareTwin_logs (if s.pair.closedRx then 5 else 1) (missCounted (tick t s))
  have hen := (congrArg (fun x => x.pcie.atomicEn) hl.1 :)
  have hk := (beatMissed_third (s := tick t s) hb hc ht hm hp h2).trans (if_neg (ne_true_of_eq_false (hen.trans ha)))
  refine ⟨_, frame_gate hs (by rfl) hk, arbLost_lost 4 ?_ ?_⟩
  · exact (hl.1.pair Pair.arbOnStart fun _ _ _ _ => rfl).trans h0
  · exact (congrArg Faults.silent hl.1.faults).trans hs.2

end

/-- The Silence of the twin makes a Paired part Lead at once (10 R451, R477, R480). -/
theorem silence_takesOver {s : State} {f : Frame} {t a b c : Nat} (hb : f.body = .silence a b c) (hi : InOrder s f)
    (hm : s.pair.mode = 1) (hp : s.pair.state = psPaired) : Does (.silenceFrame f t) s (fun v =>
      v.pair.role = 0 ∧ v.pair.settling = true ∧ v.pair.twinDeclared = true ∧ v.pair.session = false ∧
      .arbWrite s.pair.arbAddr (soleWord s) ∈ v.out ∧
      v.mram.pairRec = s.mram.pairRec.map (fun r => { r with arbiter := soleWord s })) := by
  have hl := declareTwin_logs 2 (arrived s f t)
  have hw : ∀ {β : Type} (g : Pair → β), (∀ p rx rp ev pr n,
      g { p with rxSeq := rx, replay := rp, evidence := ev, pendRcpts := pr, rcptUnacked := n } = g p) →
      g (arrived s f t).pair = g s.pair := fun g hg => arrived_pair g hg s f t
  have hrec : (declareTwin 2 (arrived s f t)).mram.pairRec = s.mram.pairRec :=
    hl.1.pairRec.trans (congrArg Mram.pairRec (arrived_mram s f t))
  have hside : (declareTwin 2 (arrived s f t)).pair.side = s.pair.side :=
    (hl.1.pair Pair.side fun _ _ _ _ => rfl).trans (hw Pair.side fun _ _ _ _ _ _ => rfl)
  have hsole := soleWord_congr hrec hside
  have hk := silenceIn_paired (s := arrived s f t) ((hw Pair.mode fun _ _ _ _ _ _ => rfl).trans hm)
    ((hw Pair.state fun _ _ _ _ _ _ => rfl).trans hp)
  rw [hw Pair.arbAddr fun _ _ _ _ _ _ => rfl, hsole] at hk
  have ha := ((arrived_appends s f t).quiet (v := twinGone 2 (arrived s f t)) rfl rfl).trans hl.appends
  have hv : Appends s (silenceIn (arrived s f t)) := by
    rw [hk]
    exact ha.trans ⟨List.prefix_append _ _, rfl⟩
  have hy := sendFrame_logs f.ch (.ack false) (silenceIn (arrived s f t))
  refine ⟨_, receive_takes hi (by rw [hb]; rfl) (silence_row t s hb) rfl hv, ?_, ?_, ?_, ?_, ?_, ?_⟩
  · exact (hy.1.pair Pair.role fun _ _ _ _ => rfl).trans (by rw [hk]; rfl)
  · exact (hy.1.pair Pair.settling fun _ _ _ _ => rfl).trans (by rw [hk]; rfl)
  · refine (hy.1.pair Pair.twinDeclared fun _ _ _ _ => rfl).trans ?_
    rw [hk]
    exact hl.1.pair Pair.twinDeclared fun _ _ _ _ => rfl
  · refine (hy.1.pair Pair.session fun _ _ _ _ => rfl).trans ?_
    rw [hk]
    exact hl.1.pair Pair.session fun _ _ _ _ => rfl
  · refine hy.2.subset ?_
    rw [hk]
    exact List.mem_append_right _ (List.mem_singleton_self _)
  · refine hy.1.pairRec.trans ?_
    rw [hk, ← hsole, ← hrec]
    rfl

/-! ### Arbitration -/

section
variable {s : State} (h0 : s.pair.casPending ≠ 0)
include h0

/-- A request that finds the compare value wins (10 R477). -/
theorem casDone_wins : casDone (.value (recArbiter s)) s = arbWon { s with pair := { s.pair with arbValue := recArbiter s } } :=
  (if_neg h0).trans (if_pos rfl)

/-- A request that finds the twin has lost (10 R477). -/
theorem casDone_loses {x : Nat} (hx : x ≠ recArbiter s) (hb : bits x 48 16 = field (recPairId s) 0 2)
    (hh : arbHolder x = 1 - s.pair.side) :
    casDone (.value x) s = arbLost 3 { s with pair := { s.pair with arbValue := x } } :=
  (if_neg h0).trans ((if_neg hx).trans (if_pos (by simp [hb, hh])))

/-- A request that finds another value is made once more (10 R477). -/
theorem casDone_again {x : Nat} (hx : x ≠ recArbiter s) (hb : bits x 48 16 ≠ field (recPairId s) 0 2)
    (hf : s.pair.casFailed = false) :
    casDone (.value x) s = emit (casAsk s) { s with pair := { s.pair with arbValue := x, casFailed := true } } :=
  (if_neg h0).trans ((if_neg hx).trans ((if_neg (by simp [hb])).trans (if_neg (ne_true_of_eq_false hf))))

theorem casDone_error_again (hf : s.pair.casFailed = false) :
    casDone .error s = emit (casAsk s) { s with pair := { s.pair with casFailed := true } } :=
  (if_neg h0).trans (if_neg (ne_true_of_eq_false hf))

theorem casDone_error_lost (hf : s.pair.casFailed = true) : casDone .error s = arbLost 4 s :=
  (if_neg h0).trans (if_pos hf)

end

/-- The part that has won at a start (10 R478). -/
theorem arbWon_start {s : State} (h : s.pair.arbOnStart = true) :
    ∃ v, arbWon s = setPair psSole v ∧ v.pair.role = 0 ∧ v.pair.casPending = 0 ∧ v.orders = s.orders :=
  ⟨_, if_pos h, rfl, rfl, rfl⟩

section
variable {s : State} {t : Nat} (hs : Open s)
include hs

/-- A part without a session 100 ms after its start asks for the pair (10 R478). -/
theorem sessionForm_asks (hm : s.pair.mode = 1) (hp : s.pair.state = psLinking) (hb : s.pair.bound = true)
    (hn : s.pair.session = false) (hc : s.pair.casPending = 0) (ha : s.pcie.atomicEn = true) :
    exec (.sessionFormTimeout t) s = .next (emit (casAsk s) { tick t s with pair := { s.pair with
      arbOnStart := true, casPending := 1, casFailed := false } }) := by
  refine frame_next hs (show _ = execSessionFormTimeout t s from rfl) ((if_pos ?_).trans
    (arbitrate_asks (s := { tick t s with pair := { s.pair with arbOnStart := true } }) ha)) ⟨List.prefix_append _ _, rfl⟩
  simp [tick, hm, hp, hb, hn, hc]

theorem sessionForm_idle (h : s.pair.session = true ∨ s.pair.state ≠ psLinking) :
    exec (.sessionFormTimeout t) s = .next (tick t s) := by
  refine frame_quiet hs (show _ = execSessionFormTimeout t s from rfl) (if_neg ?_) rfl rfl
  rcases h with h | h <;> simp [tick, h]

end

/-! ### The settle time -/

/-- The settle time is over (10 R480 step 1). -/
def settleOver (s : State) : State :=
  { s with
    faults := { s.faults with holds := s.faults.holds.filter (fun x => x != .pairQuiet) }
    pair := { s.pair with settling := false, txns := [] } }

/-- The reads of the shared rings begin, or the takeover has ended (10 R480 steps 3 and 4). -/
def scanBegun (s : State) : State :=
  if (sharedRings s).isEmpty then takeoverEnd s
  else emits ((sharedRings s).map (scanReads s)).flatten { s with pair := { s.pair with scanning := sharedRings s } }

/-- The settle time of a part without an open transaction ends (10 R480 steps 1 to 3). -/
theorem settled_closed {s : State} (h : s.pair.settling = true) (ht : s.pair.txns = []) : settled s = scanBegun (settleOver s) := by
  have hf : s.pair.txns.foldl resolveTxn (settleOver s) = settleOver s := by
    rw [ht]
    rfl
  exact (if_neg (by simp [h])).trans (congrArg scanBegun hf)

/-! ### The part that returns -/

section
variable {s : State} {f : Frame} {t : Nat} (hi : InOrder s f) (hm : s.pair.mode = 1)
include hi hm

/-- A Sole part takes the greater Tally that comes back (10 R473). -/
theorem resync_sole_tally {n x : Nat} (hb : f.body = .resync [.tally n x]) (hp : s.pair.state = psSole) (hn : 32 ≤ n) :
    Does (.resync f t) s (fun v => (tally v n).value = max x (tally s n).value ∧ v.orders = s.orders ∧
      ((tally s n).exhausted = false → v.munim = s.munim)) := by
  have hk : resyncIn [.tally n x] (arrived s f t) = tallyTo n x (arrived s f t) :=
    resyncIn_sole ((arrived_pair Pair.state (fun _ _ _ _ _ _ => rfl) s f t).trans hp) hn
  obtain ⟨hv, hmu⟩ := tallyTo_leaves n x (arrived s f t)
  refine receive_does hi (by rw [hb]; exact beq_iff_eq.mpr hm) (resync_row t s hb) hk
    (hmu.appends.2.trans (arrived_pending s f t)) fun y hy hym => ⟨?_, ?_, fun hx => ?_⟩
  · rw [tally_congr (congrArg _ hym), hv, tally_arrived]
  · exact hy.orders.trans (hmu.orders.trans (arrived_orders s f t))
  · rw [hy.munim, tallyTo_plain (.inl (by rwa [tally_arrived]))]
    split <;> exact arrived_munim s f t

/-- The first item of the stream makes a Waiting part Joining and clears it (10 R482). -/
theorem resync_waiting_tally {n x : Nat} (hb : f.body = .resync [.tally n x]) (hp : s.pair.state = psWaiting)
    (h0 : s.pair.joinTries = 0) : Does (.resync f t) s (fun v =>
      v.pair.state = psJoining ∧ v.pair.joinTries = 1 ∧ v.pair.resyncRecords = 1 ∧ v.munim.keys = [] ∧ v.keeper.loaded = [] ∧
      v.mram.master = [] ∧ (tally v n).value = max x (tally s n).value) := by
  have hk : resyncIn [.tally n x] (arrived s f t) = joinItem (joinClear (joinOpened (arrived s f t))) (.tally n x) :=
    resyncIn_waiting ((arrived_pair Pair.state (fun _ _ _ _ _ _ => rfl) s f t).trans hp)
      ((arrived_pair Pair.joinTries (fun _ _ _ _ _ _ => rfl) s f t).trans h0)
  obtain ⟨hv, hl⟩ := joinItem_tally_leaves (n := n) (x := x) (s := joinClear (joinOpened (arrived s f t))) rfl
  have ho := joinOpened_frame (arrived s f t)
  refine receive_does hi (by rw [hb]; exact beq_iff_eq.mpr hm) (resync_row t s hb) hk ?_ fun y hy hym => ?_
  · exact hl.1.pending.trans ((joinClear_pending _).trans (ho.pending.trans (arrived_pending s f t)))
  have hly := hl.1.trans hy
  have hpair := joinClear_pair (joinOpened (arrived s f t))
  refine ⟨?_, ?_, ?_, ?_, ?_, ?_, ?_⟩
  · exact (hly.pair Pair.state fun _ _ _ _ => rfl).trans
      ((congrArg Pair.state hpair).trans (ho.pair Pair.state fun _ _ _ _ => rfl))
  · exact (hly.pair Pair.joinTries fun _ _ _ _ => rfl).trans
      ((congrArg Pair.joinTries hpair).trans (ho.pair Pair.joinTries fun _ _ _ _ => rfl))
  · have hr : (joinClear (joinOpened (arrived s f t))).pair.resyncRecords = 0 :=
      (congrArg Pair.resyncRecords hpair).trans (ho.pair Pair.resyncRecords fun _ _ _ _ => rfl)
    exact (hly.pair Pair.resyncRecords fun _ _ _ _ => rfl).trans (congrArg (satAdd 32 · 1) hr)
  · rw [hly.munim]
    rfl
  · rw [hly.keeper]
    rfl
  · rw [hly.master]
    rfl
  · rw [tally_congr (congrArg _ hym), hv, joinClear_tally, joinOpened_tally, tally_arrived]

/-- A Joining part whose digest is the twin's is Paired as Follow (10 R482 step 5). -/
theorem resyncEnd_equal (hb : f.body = .resyncEnd (joinDigest s)) (hp : s.pair.state = psJoining) :
    Does (.resync f t) s (fun v => v.pair.state = psPaired ∧ v.pair.role = 1 ∧ v.pair.joinTries = 0) := by
  have hk := resyncEndIn_equal ((arrived_pair Pair.state (fun _ _ _ _ _ _ => rfl) s f t).trans hp)
    (joinDigest_arrived s f t).symm
  obtain ⟨hst, hr, ht, -, -, -, hq⟩ := joined_leaves 1 (sendFrame 1 (.resyncEnd (joinDigest (arrived s f t))) (arrived s f t))
  refine receive_does hi (by rw [hb]; exact beq_iff_eq.mpr hm) (resyncEnd_row t s hb) hk
    (hq.trans ((sendFrame_logs _ _ _).1.pending.trans (arrived_pending s f t))) fun y hy _ => ⟨?_, ?_, ?_⟩
  · exact (hy.pair Pair.state fun _ _ _ _ => rfl).trans hst
  · exact (hy.pair Pair.role fun _ _ _ _ => rfl).trans hr
  · exact (hy.pair Pair.joinTries fun _ _ _ _ => rfl).trans ht

/-- A Joining part whose digest differs answers with its own and begins its next attempt (10 R482 step 5). -/
theorem resyncEnd_differs {d : Bytes} (hb : f.body = .resyncEnd d) (hd : d ≠ joinDigest s) (hp : s.pair.state = psJoining) :
    Takes (.resync f t) s f
      (let v := sendFrame 1 (.resyncEnd (joinDigest s)) (arrived s f t)
       { v with pair := { v.pair with joinTries := 0 } }) := by
  have hk := resyncEndIn_differs (s := arrived s f t) ((arrived_pair Pair.state (fun _ _ _ _ _ _ => rfl) s f t).trans hp)
    (by rwa [joinDigest_arrived])
  rw [joinDigest_arrived] at hk
  exact receive_takes hi (by rw [hb]; exact beq_iff_eq.mpr hm) (resyncEnd_row t s hb) hk
    (((arrived_appends s f t).trans (sendFrame_logs _ _ _).appends).quiet rfl rfl)

/-- A Sole part whose digest is the twin's is Paired as Lead, and PAIR_JOIN has ended (10 R482 step 5). -/
theorem resyncEnd_sole {i : Nat} {o : Order} (hb : f.body = .resyncEnd (joinDigest s)) (hp : s.pair.state = psSole)
    (hj : s.pair.joinOrder = some i) (ho : order? s i = some o) :
    Does (.resync f t) s (fun v => v.pair.state = psPaired ∧ v.pair.role = 0 ∧ v.pair.joinOrder = none ∧
      order? v i = some { o with stage := .done, result := some { status := 0, word := 0, out := [], aux := [] },
                                 copyA := none, copyB := none, insts := [], compareAt := (arrived s f t).clock }) := by
  have hk := resyncEndIn_sole ((arrived_pair Pair.state (fun _ _ _ _ _ _ => rfl) s f t).trans hp)
    ((arrived_pair Pair.joinOrder (fun _ _ _ _ _ _ => rfl) s f t).trans hj) (joinDigest_arrived s f t).symm
  obtain ⟨hst, hr, -, hjo, hor, hc, hq⟩ :=
    joined_leaves 0 { arrived s f t with pair := { (arrived s f t).pair with joinOrder := none } }
  refine receive_does hi (by rw [hb]; exact beq_iff_eq.mpr hm) (resyncEnd_row t s hb) hk
    (hq.trans (arrived_pending s f t)) fun y hy _ => ⟨?_, ?_, ?_, ?_⟩
  · exact (hy.pair Pair.state fun _ _ _ _ => rfl).trans hst
  · exact (hy.pair Pair.role fun _ _ _ _ => rfl).trans hr
  · exact (hy.pair Pair.joinOrder fun _ _ _ _ => rfl).trans hjo
  · have hd := order?_settle { status := 0, word := 0, out := [], aux := [] }
      ((order?_congr hor i).trans ((order?_arrived s f t i).trans ho))
    rw [hc] at hd
    exact (order?_congr hy.orders i).trans hd

end

/-- Settles O48: the rows of Mirror mode, each by what its step makes of the pair. -/
theorem mirrorRows : Obligations.MirrorRows := by
  intro s t f hs u p w quiet ask lost most
  refine ⟨fun h => ?noSession, fun h => ?beatSent, fun b hb hi hq hd hr hh => ?heartbeat, fun h => ?missIdle,
    fun hb hc ht hm hp => ⟨fun h => ?firstMiss, fun h ha => thirdMiss_asks hs hb hc ht hm hp h ha,
      fun h ha h0 => thirdMiss_lost hs hb hc ht hm hp h ha h0⟩,
    fun a b c hb hi hm hp => silence_takesOver hb hi hm hp, fun h => ⟨fun r => ?casIdle, ?timeoutIdle⟩,
    fun h0 hn => ⟨?wins, fun x hx hb hh => ?loses, fun x hx hb hf => ?again, fun hf => ?errorAgain, fun hf => ?errorLost,
      ?timeoutLost⟩, fun h0 hn => ?winsStart, fun h => ?settleIdle,
    fun h ht => ⟨fun hr hq => ?noneShared, fun hr => ?shared⟩, fun st q slots h => ?scanIdle,
    fun st q h hx hsc hq hp => ?scanLast,
    fun hm hp hb hn hc ha => sessionForm_asks hs hm hp hb hn hc ha, fun h => sessionForm_idle hs h,
    fun hm hi => ⟨fun its hb hp => ?streamPaired, fun n x hb hp hn => resync_sole_tally hi hm hb hp hn,
      fun n x hb hp h0 => resync_waiting_tally hi hm hb hp h0, fun hb hp => resyncEnd_equal hi hm hb hp,
      fun d hb hd hp => resyncEnd_differs hi hm hb hd hp, fun i o hb hp hj ho => resyncEnd_sole hi hm hb hp hj ho⟩⟩
  case noSession =>
    exact frame_quiet hs (show _ = execHeartbeatSend t s from rfl) (if_neg (ne_true_of_eq_false h)) rfl rfl
  case beatSent =>
    exact frame_next hs (show _ = execHeartbeatSend t s from rfl) (if_pos h) ((sendFrame_logs _ _ _).appends.after rfl rfl)
  case heartbeat =>
    have hl := heartbeatIn_plain (b := b) (s := w) (by rwa [arrived_orders])
      ((arrived_pair Pair.decideDue (fun _ _ _ _ _ _ => rfl) s f t).trans hd)
      (hr.trans_eq (arrived_pair Pair.twinRestarts (fun _ _ _ _ _ _ => rfl) s f t).symm) (by rwa [arrived_faults])
    exact receive_does hi (by rw [hb]; rfl) (heartbeat_row t s hb) rfl (hl.1.pending.trans (arrived_pending s f t))
      fun y hy _ => hl.1.trans hy
  case missIdle =>
    exact frame_quiet hs (show _ = execHeartbeatMiss t s from rfl) (beatMissed_idle h) rfl rfl
  case firstMiss =>
    have hh := holdEnter_holds (s := missCounted u) hs.2 .pairQuiet false
    refine ⟨_, frame_gate hs (show _ = execHeartbeatMiss t s from rfl) (beatMissed_first (s := u) hb hc ht hm hp h),
      ?_, ?_, hh.1, hh.2, ?_⟩
    · exact (holdEnter_pair Pair.missRun (fun _ _ _ _ => rfl) _ _ _).trans (congrArg (· + 1) h)
    · exact holdEnter_pair Pair.hbMisses (fun _ _ _ _ => rfl) _ _ _
    · exact holdEnter_pair Pair.session (fun _ _ _ _ => rfl) _ _ _
  case casIdle =>
    exact frame_quiet hs (show _ = execArbiterCasCompletion r t s from rfl) (if_pos h) rfl rfl
  case timeoutIdle =>
    exact frame_quiet hs (show _ = execArbiterCasTimeout t s from rfl) (if_pos h) rfl rfl
  case wins =>
    exact frame_quiet hs (show _ = execArbiterCasCompletion _ t s from rfl)
      ((casDone_wins (s := u) h0).trans (if_neg (ne_true_of_eq_false hn))) rfl rfl
  case loses =>
    exact ⟨_, frame_gate hs (show _ = execArbiterCasCompletion _ t s from rfl) (casDone_loses (s := u) h0 hx hb hh),
      arbLost_lost 3 hn hs.2⟩
  case again =>
    exact frame_next hs (show _ = execArbiterCasCompletion _ t s from rfl) (casDone_again (s := u) h0 hx hb hf)
      ⟨List.prefix_append _ _, rfl⟩
  case errorAgain =>
    exact frame_next hs (show _ = execArbiterCasCompletion _ t s from rfl) (casDone_error_again (s := u) h0 hf)
      ⟨List.prefix_append _ _, rfl⟩
  case errorLost =>
    exact ⟨_, frame_gate hs (show _ = execArbiterCasCompletion _ t s from rfl) (casDone_error_lost (s := u) h0 hf),
      arbLost_lost 4 hn hs.2⟩
  case timeoutLost =>
    exact ⟨_, frame_gate hs (show _ = execArbiterCasTimeout t s from rfl) (if_neg h0), arbLost_lost 4 hn hs.2⟩
  case winsStart =>
    obtain ⟨v, hv, hr, hc, ho⟩ := arbWon_start (s := { u with pair := { p with arbValue := recArbiter s } }) hn
    have hl := setPair_logs psSole v
    refine ⟨_, frame_gate hs (show _ = execArbiterCasCompletion _ t s from rfl) ((casDone_wins (s := u) h0).trans hv),
      setPair_state _ v, ?_, ?_, hl.1.orders.trans ho⟩
    · exact (hl.1.pair Pair.role fun _ _ _ _ => rfl).trans hr
    · exact (hl.1.pair Pair.casPending fun _ _ _ _ => rfl).trans hc
  case settleIdle =>
    exact frame_quiet hs (show _ = execSettleExpiry t s from rfl) (if_pos (congrArg not h)) rfl rfl
  case noneShared =>
    have hl := takeoverEnd_logs (s := settleOver u) hq
    refine ⟨_, frame_gate hs (show _ = execSettleExpiry t s from rfl)
      ((settled_closed (s := u) h ht).trans (if_pos (List.isEmpty_iff.mpr hr))), ?_, ?_, ?_⟩
    · exact hl.1.pair Pair.state fun _ _ _ _ => rfl
    · exact hl.1.pair Pair.settling fun _ _ _ _ => rfl
    · change _ ∉ (takeoverEnd (settleOver u)).faults.holds
      rw [hl.1.faults]
      exact fun hm => by simpa using (List.mem_filter.mp hm).2
  case shared =>
    exact frame_next hs (show _ = execSettleExpiry t s from rfl)
      ((settled_closed (s := u) h ht).trans (if_neg (mt List.isEmpty_iff.mp hr))) ⟨List.prefix_append _ _, rfl⟩
  case scanIdle =>
    refine frame_quiet hs (show _ = execTakeoverScanCompletion st q slots t s from rfl) (if_pos ?_) rfl rfl
    rcases h with h | h
    · simp [h]
    · exact Bool.or_eq_true_iff.mpr (.inr (congrArg not h))
  case scanLast =>
    obtain ⟨r, hk⟩ := scanDone_last (s := u) hx hsc hp
    have hl := takeoverEnd_logs (s := { setRing u st q r with pair := { p with scanning := [] } }) hq
    refine ⟨_, frame_gate hs (show _ = execTakeoverScanCompletion st q [h] t s from rfl) hk, ?_, ?_, fun a b => ?_⟩
    · exact hl.1.pair Pair.state fun _ _ _ _ => rfl
    · exact hl.1.pair Pair.scanning fun _ _ _ _ => rfl
    · exact (congrArg Ring.shared (ring_congr hl.1.rings a b)).trans (ring_unshare _ a b)
  case streamPaired =>
    exact receive_takes hi (by rw [hb]; exact beq_iff_eq.mpr hm) (resync_row t s hb)
      (resyncIn_paired ((arrived_pair Pair.state (fun _ _ _ _ _ _ => rfl) s f t).trans hp)) (arrived_appends s f t)

end Machine
end Sys2Proof
end

section
/-!
PROOFS. What every command answers, in Silence and outside it, and the limit of a part Hold (00 R16; 11 R490, R495).
-/
namespace Sys2Proof
namespace Machine

/-! ### What every command answers -/

/-- Every command answers a next state with the queue as it was, and appends to the outputs; nothing of the PCIe core while
Silence lasts (11 R495; 00 R16). -/
theorem exec_answers (c : Instr) (s : State) : ∃ v l, exec c s = .next v ∧ v.pending = s.pending ∧ v.out = s.out ++ l ∧
    (s.faults.silent = true → v.faults.silent = true → ∀ o ∈ l, o.pcie = false) := by
  obtain ⟨v, hv⟩ := exec_gate c s
  refine ⟨gate s v, _, hv, rfl, rfl, fun hs hg o ho => ?_⟩
  have hvs : v.faults.silent = true := hg
  rw [hs, hvs, Bool.and_self, if_pos rfl] at ho
  simpa using (List.mem_filter.mp ho).2

/-- A step over a queue that is not empty takes its front command and leaves the rest. -/
theorem step_answers {s : State} {c : Instr} {rest : List Instr} (h : s.pending = c :: rest) :
    ∃ v l, step s = .next v ∧ v.pending = rest ∧ v.out = s.out ++ l ∧
      (s.faults.silent = true → v.faults.silent = true → ∀ o ∈ l, o.pcie = false) := by
  rw [step, h]
  exact exec_answers c { s with pending := rest }

/-- A run over the queue ends with an empty one. -/
theorem runs_queue (q : List Instr) : ∀ s : State, s.pending = q → ∃ v, runs q.length s = .next v ∧ v.pending = [] := by
  induction q with
  | nil => exact fun s h => ⟨s, rfl, h⟩
  | cons c rest ih =>
    intro s h
    obtain ⟨v, -, hv, hp, -⟩ := step_answers h
    obtain ⟨w, hw, he⟩ := ih v hp
    exact ⟨w, by rw [List.length_cons, runs, hv]; exact hw, he⟩

/-- A step from Silence into Silence appends no output of the PCIe core. -/
theorem step_silent {s v : State} (h : step s = .next v) (hs : s.faults.silent = true) (hv : v.faults.silent = true) :
    ∃ l, v.out = s.out ++ l ∧ ∀ o ∈ l, o.pcie = false := by
  cases hq : s.pending with
  | nil =>
    rw [stepRunsFront.2 s hq] at h
    obtain rfl := Host.Outcome.next.inj h
    exact ⟨[], (List.append_nil _).symm, fun _ ho => absurd ho List.not_mem_nil⟩
  | cons c rest =>
    obtain ⟨w, l, hw, -, ho, hl⟩ := step_answers hq
    obtain rfl := Host.Outcome.next.inj (hw.symm.trans h)
    exact ⟨l, ho, hl hs hv⟩

theorem silentThrough_silent {n : Nat} {s : State} (h : silentThrough n s = true) : s.faults.silent = true := by
  cases n with
  | zero => exact h
  | succ n => exact (Bool.and_eq_true_iff.mp h).1

/-- A run whose states are all in Silence appends no output of the PCIe core. -/
theorem runs_silent (n : Nat) : ∀ s v : State, silentThrough n s = true → runs n s = .next v →
    ∃ l, v.out = s.out ++ l ∧ ∀ o ∈ l, o.pcie = false := by
  induction n with
  | zero =>
    intro s v _ h
    obtain rfl := Host.Outcome.next.inj h
    exact ⟨[], (List.append_nil _).symm, fun _ ho => absurd ho List.not_mem_nil⟩
  | succ n ih =>
    intro s v hs h
    obtain ⟨h0, ht⟩ := Bool.and_eq_true_iff.mp hs
    cases hw : step s with
    | fault f => rw [runs, hw] at h; nomatch h
    | refused r => rw [runs, hw] at h; nomatch h
    | next w =>
      rw [hw] at ht
      rw [runs, hw] at h
      obtain ⟨l1, ho1, hl1⟩ := step_silent hw h0 (silentThrough_silent ht)
      obtain ⟨l2, ho2, hl2⟩ := ih w v ht h
      refine ⟨l1 ++ l2, by rw [ho2, ho1, List.append_assoc], fun o ho => ?_⟩
      exact (List.mem_append.mp ho).elim (hl1 o) (hl2 o)

/-- Settles O59: every command passes the egress gate, and a run is one command after another. -/
theorem silenceClosesEgress : Obligations.SilenceClosesEgress :=
  ⟨exec_answers, fun s => runs_queue s.pending s rfl, runs_silent⟩

/-- Settles O36: the Hold's limit is Silence 0x0001, and nothing but the time moves before it. -/
theorem holdTimeoutRule : Obligations.HoldTimeoutRule := by
  unfold Obligations.HoldTimeoutRule
  intro s t ha hl hh
  dsimp only
  refine ⟨fun ht => ?limit, fun ht => ?before⟩
  case limit =>
    refine does_silence (u := tick t s) (worldAct_next ha (by rfl) ?_) hl
    exact if_pos (Bool.and_eq_true_iff.mpr ⟨hh, decide_eq_true ht⟩)
  case before =>
    refine worldAct_next_quiet ha (by rfl) (v := tick t s) ?_ rfl rfl
    exact if_neg fun h => Nat.not_le_of_lt ht (of_decide_eq_true (Bool.and_eq_true_iff.mp h).2)

end Machine
end Sys2Proof
end

section
/-!
PROOFS. The entries of the monitors, the Seal latch and Zeroize: what a measurement, an alarm, a Zeroize and the entry to Silence leave
(11 R495 to R498; 12 R528, R531, R539, R542, R548).
-/
namespace Sys2Proof
namespace Machine

/-! ### Monitor entries -/

/-- The time changes no MON entry. -/
@[simp] theorem mon_tick (t : Nat) (s : State) (m : Nat) : mon (tick t s) m = mon s m := rfl

theorem mon_congr {s v : State} (h : v.mon = s.mon) (m : Nat) : mon v m = mon s m := by rw [mon, h]; rfl

@[simp] theorem mon_modMon_same (m : Nat) (f : MonEnt → MonEnt) (s : State) : mon (modMon m f s) m = f (mon s m) :=
  Tbl.getD_put_same _ _ _ _

theorem mon_modMon_other {m j : Nat} (h : j ≠ m) (f : MonEnt → MonEnt) (s : State) : mon (modMon m f s) j = mon s j := by
  unfold mon modMon setMon Tbl.put Tbl.getD
  dsimp only
  split
  · rw [Tbl.find?_del_other _ _ _ h]
  · rw [Tbl.find?_ins_other _ _ _ _ h]

/-- What a measurement makes of its MON entry (12 R548). -/
def measured (x : Int) (worse : Int → Int → Bool) (e : MonEnt) : MonEnt :=
  { e with value := i16 x, measured := true, present := true,
           extreme := if !e.measured || worse x e.extreme.toInt then i16 x else e.extreme }

@[simp] theorem mon_measure (m : Nat) (x : Int) (worse : Int → Int → Bool) (s : State) :
    mon (measure m x worse s) m = measured x worse (mon s m) := mon_modMon_same m _ s

@[simp] theorem modMon_faults (m : Nat) (f : MonEnt → MonEnt) (s : State) : (modMon m f s).faults = s.faults := rfl

@[simp] theorem measure_faults (m : Nat) (x : Int) (w : Int → Int → Bool) (s : State) : (measure m x w s).faults = s.faults := rfl

/-- What an alarm makes of its MON entry (12 R548). -/
def raised (e : MonEnt) : MonEnt := { e with alarm := true, latched := true, alarms := satAdd 32 e.alarms 1 }

/-- An alarm changes its MON entry and else only the evidence (12 R548; 15 R639). -/
theorem alarmOn_frame (m : Nat) (s : State) : EvidenceOnly (modMon m raised s) (alarmOn m s) := by
  unfold alarmOn
  dsimp only
  split
  · rfl
  · exact event_frame (64 + m) _

@[simp] theorem alarmOn_faults (m : Nat) (s : State) : (alarmOn m s).faults = s.faults := (alarmOn_frame m s).faults

@[simp] theorem mon_alarmOn (m : Nat) (s : State) : mon (alarmOn m s) m = raised (mon s m) :=
  (mon_congr (alarmOn_frame m s).mon m).trans (mon_modMon_same m raised s)

theorem crossed_frame (m sev limit : Nat) (s : State) : EvidenceOnly s (crossed m sev limit s) := record_frame _ _ _ _ _ _

@[simp] theorem crossed_faults (m sev limit : Nat) (s : State) : (crossed m sev limit s).faults = s.faults :=
  (crossed_frame m sev limit s).faults

@[simp] theorem mon_crossed (m sev limit : Nat) (s : State) (j : Nat) : mon (crossed m sev limit s) j = mon s j :=
  mon_congr (crossed_frame m sev limit s).mon j

@[simp] theorem thermAlert_faults (low : Bool) (s : State) : (thermAlert low s).faults = s.faults := by
  unfold thermAlert; split <;> rfl

/-- The end of a dip leaves the response ladder as it is: its Note is evidence (11 R508). -/
@[simp] theorem dipNote_faults (n : Nat) (s : State) (r : Nat) : (dipNote n s r).faults = s.faults := by
  unfold dipNote
  dsimp only
  split
  · rfl
  · exact (record_frame _ _ _ _ _ _).faults

/-! ### The Seal latch, Zeroize and Silence -/

@[simp] theorem tbufAdd_faults (source detail param : Nat) (s : State) : (tbufAdd source detail param s).faults = s.faults := by
  unfold tbufAdd
  dsimp only
  split
  · rfl
  · split <;> rfl

/-- An entry of the tamper buffer leaves the Seal latch as it is (12 R539). -/
theorem tbufAdd_seal (source detail param : Nat) (s : State) : (tbufAdd source detail param s).vigil.seed = s.vigil.seed ∧
    (tbufAdd source detail param s).vigil.seedInv = s.vigil.seedInv := by
  unfold tbufAdd
  dsimp only
  split
  · exact ⟨rfl, rfl⟩
  · split <;> exact ⟨rfl, rfl⟩

@[simp] theorem clearSeal_faults (s : State) : (clearSeal s).faults = s.faults := tbufAdd_faults _ _ _ _

theorem clearSeal_seal (s : State) : (clearSeal s).vigil.seed = 0 ∧ (clearSeal s).vigil.seedInv = 0 := tbufAdd_seal _ _ _ _

@[simp] theorem clearKeys_faults (s : State) : (clearKeys s).faults = s.faults := rfl

/-- In Silence no part Hold begins (11 R488). -/
theorem holdEnter_silent {s : State} (h : s.faults.silent = true) (c : HoldCause) (tainting : Bool) :
    holdEnter c tainting s = s := if_pos h

/-- A cause of a part Hold changes neither the monitors nor Silence (11 R488). -/
theorem holdEnter_leaves (c : HoldCause) (tainting : Bool) (s : State) : (holdEnter c tainting s).mon = s.mon ∧
    (holdEnter c tainting s).faults.silent = s.faults.silent := by
  unfold holdEnter
  split
  · exact ⟨rfl, rfl⟩
  · dsimp only
    split
    · exact ⟨rfl, rfl⟩
    · have hb := (perfAdd_frame 12 1 _).after (event_frame 2 (holdBegun c tainting s))
      have hs := congrArg Faults.silent hb.faults
      exact ⟨hb.mon, hs⟩

theorem silenceFrame_leaves (level cause : Nat) (s : State) : (silenceFrame level cause s).mon = s.mon ∧
    (silenceFrame level cause s).vigil = s.vigil ∧ (silenceFrame level cause s).munim = s.munim ∧
    (silenceFrame level cause s).pair.pairSecret = s.pair.pairSecret ∧ (silenceFrame level cause s).faults = s.faults := by
  unfold silenceFrame
  split <;> exact ⟨rfl, rfl, rfl, rfl, rfl⟩

/-- The entry to Silence leaves the monitors, the Vigil, the Muniment, the pairing secret and the zeroize line (11 R495). -/
theorem silenceAt_leaves (level cause : Nat) {s : State} (h : s.faults.silent = false) :
    let v := silenceAt level cause s
    v.mon = s.mon ∧ v.vigil = s.vigil ∧ v.munim = s.munim ∧ v.pair.pairSecret = s.pair.pairSecret ∧
      v.faults.zeroizeLine = s.faults.zeroizeLine := by
  have hb : EvidenceOnly (stopEngines (silenceFrame level cause (silenceEvidence level cause s)))
      (beginFlush (stopEngines (silenceFrame level cause (silenceEvidence level cause s)))) := beginFlush_frame _
  have he := silenceEvidence_frame level cause s
  obtain ⟨hm, hv, hk, hp, hf⟩ := silenceFrame_leaves level cause (silenceEvidence level cause s)
  have hps := (hb.pair Pair.pairSecret fun _ _ _ _ => rfl).trans (hp.trans (he.pair Pair.pairSecret fun _ _ _ _ => rfl))
  have hz := congrArg Faults.zeroizeLine (hb.faults.trans (hf.trans he.faults))
  have hn : ¬ s.faults.silent = true := by simp [h]
  unfold silenceAt
  rw [if_neg hn]
  exact ⟨hb.mon.trans (hm.trans he.mon), hb.vigil.trans (hv.trans he.vigil), hb.munim.trans (hk.trans he.munim), hps, hz⟩

/-- The Seal latch of a Zeroize is cleared before Silence comes (11 R498; 12 R531). -/
def zeroizing (cause : Nat) (s : State) : State :=
  tbufAdd tbMainZeroize 0 cause (clearSeal { s with faults := { s.faults with zeroizeLine := true } })

theorem zeroizing_faults (cause : Nat) (s : State) : (zeroizing cause s).faults = { s.faults with zeroizeLine := true } := by
  simp [zeroizing]

/-- What the part has lost after a Zeroize (11 R498): it is in Silence of level 2, and the keys that the Seal seed gives are
gone with it. -/
def Gone (cause : Nat) (v : State) : Prop :=
  Lost cause v ∧ v.faults.lastLevel = 2 ∧ v.faults.zeroizeLine = true ∧ v.munim.deviceRoot = none ∧
    v.vigil.seed = 0 ∧ v.vigil.seedInv = 0

theorem zeroize_gone (cause : Nat) {s : State} (h : s.faults.silent = false) : Gone cause (zeroize cause s) := by
  have hz : (zeroizing cause s).faults.silent = false := by rw [zeroizing_faults]; exact h
  obtain ⟨hs, -, hc, hl, -⟩ := silenceAt_loud 2 cause hz
  obtain ⟨-, hv, -, -, hline⟩ := silenceAt_leaves 2 cause hz
  obtain ⟨h1, h2⟩ := tbufAdd_seal tbMainZeroize 0 cause (clearSeal { s with faults := { s.faults with zeroizeLine := true } })
  obtain ⟨h3, h4⟩ := clearSeal_seal { s with faults := { s.faults with zeroizeLine := true } }
  refine ⟨⟨hs, hc⟩, hl, hline.trans (by rw [zeroizing_faults]), rfl, ?_, ?_⟩
  · exact (congrArg Vigil.seed hv).trans (h1.trans h3)
  · exact (congrArg Vigil.seedInv hv).trans (h2.trans h4)

end Machine
end Sys2Proof
end

section
/-!
PROOFS. Silence lasts: no command changes the phase, Silence or its latch, but for the three that end it (11 R497, R509, R510, R512;
14 R598).
-/
namespace Sys2Proof
namespace Machine

/-! ### Where the part stands with Silence -/

/-- Where the part stands with Silence: its phase, Silence itself, and the latch (11 R495, R512). -/
def stand (s : State) : Phase × Bool × Bool := (s.faults.phase, s.faults.silent, s.faults.silenceLatched)

theorem stand_congr {s v : State} (h : v.faults = s.faults) : stand v = stand s := by rw [stand, h]; rfl

theorem EvidenceOnly.stand {s v : State} (h : EvidenceOnly s v) : stand v = stand s := stand_congr h.faults

/-- Of two branches that keep where the part stands, either may be taken. -/
theorem stand_ite {p : Prop} [Decidable p] {a b s : State} (ha : stand a = stand s) (hb : stand b = stand s) :
    stand (if p then a else b) = stand s := by
  split
  · exact ha
  · exact hb

/-- A further cause in Silence changes the cause and the level shown at most (11 R497). -/
theorem silenceAt_stand (level cause : Nat) {s : State} (h : s.faults.silent = true) : stand (silenceAt level cause s) = stand s := by
  have hr (sev : Nat) : stand (record 0x0D01 sev cause level (startNumber s) s) = stand s := (record_frame _ _ _ _ _ _).stand
  unfold silenceAt
  rw [if_pos h]
  exact stand_ite ((tallyAdd_frame _ _ _).stand.trans (hr _)) (hr _)

/-- A cause of Silence that arises in Silence leaves the part there. -/
theorem silence_stand (cause : Nat) {s v : State} (hv : v.faults = s.faults) (h : s.faults.silent = true) :
    stand (silence cause v) = stand s :=
  (silenceAt_stand 1 cause (by rw [hv]; exact h)).trans (stand_congr hv)

/-- So does Zeroize. -/
theorem zeroize_stand (cause : Nat) {s v : State} (hv : v.faults = s.faults) (h : s.faults.silent = true) :
    stand (zeroize cause v) = stand s := by
  have hz := zeroizing_faults cause v
  calc stand (zeroize cause v) = stand (silenceAt 2 cause (zeroizing cause v)) := stand_congr (clearKeys_faults _)
    _ = stand (zeroizing cause v) := silenceAt_stand 2 cause (by rw [hz, hv]; exact h)
    _ = stand s := by rw [stand, hz, hv]; rfl

/-- A command leaves the part where it stood with Silence. -/
def Stays (c : Instr) (s : State) : Prop := ∃ v, exec c s = .next v ∧ stand v = stand s

theorem stays_act {c : Instr} {f : State → State} {s : State} (hc : exec c s = act f s) (h : stand (f s) = stand s) :
    Stays c s := ⟨_, hc, h⟩

/-- A command that needs main power does nothing without it, so that only its meaning counts. -/
theorem stays_powered {c : Instr} {f : State → State} {s : State} (hc : exec c s = powered f s) (h : stand (f s) = stand s) :
    Stays c s := stays_act hc (stand_ite h rfl)

/-- The same for a command of the sideband or of JTAG. -/
theorem stays_bus {c : Instr} {f : State → State} {s : State} (hc : exec c s = busAct f s) (h : stand (f s) = stand s) :
    Stays c s := stays_act hc (stand_ite h rfl)

/-- The same for a command of the I3C bus. -/
theorem stays_i3c {c : Instr} {f : State → State} {s : State} (hc : exec c s = onI3c f s)
    (h : stand (f { s with side := { s.side with smbus := false } }) = stand s) : Stays c s :=
  stays_bus hc h

/-- The same for a command of the record store. -/
theorem stays_store {c : Instr} {f : State → State} {s : State} (hc : exec c s = storeAct f s) (h : stand (f s) = stand s) :
    Stays c s := stays_act hc (stand_ite rfl h)

/-- The part, whatever else it is, in the phase of Silence. -/
def inSilentPhase (s : State) : State := { s with faults := { s.faults with phase := .silent } }

/-- A command whose meaning is none in the phase of Silence, as those of the core, the host, the worlds and the start, leaves
the part where it stood. -/
theorem stays_stopped {c : Instr} {s : State} (hp : s.faults.phase = .silent)
    (h : ∀ u, exec c (inSilentPhase u) = .next (gate (inSilentPhase u) (inSilentPhase u))) : Stays c s := by
  have e : inSilentPhase s = s := by rw [inSilentPhase, ← hp]
  have hs := h s
  rw [e] at hs
  exact ⟨_, hs, rfl⟩

/-! ### The environment monitors in Silence -/

theorem supplyRecovered_stays (s : State) (t : Nat) : Stays (.supplyRecovered t) s := by
  refine stays_powered (show _ = execSupplyRecovered t s from rfl) ?_
  have hf (n : Nat) : ((List.range 6).foldl (dipNote n) (tick t s)).faults = s.faults :=
    foldl_keeps State.faults _ (dipNote_faults n) _ _
  dsimp only
  rw [stand, holdClear, hf]
  rfl

theorem glitchHoldEnd_stays (s : State) (t : Nat) : Stays (.glitchHoldEnd t) s := by
  have hf (v : State) (i : Nat) : stand (alarmOff (40 + i) (holdClear (.glitch i) v)) = stand v := rfl
  refine stays_powered (show _ = execGlitchHoldEnd t s from rfl) ?_
  refine stand_ite rfl ?_
  exact foldl_keeps stand _ hf (List.range 8) (tick t s)

section
variable {s : State} (h : s.faults.silent = true) (t : Nat)
include h

theorem supplyWarning_stays (r mv : Nat) : Stays (.supplyWarning r mv t) s := by
  refine stays_powered (show _ = execSupplyWarning r mv t s from rfl) ?_
  refine stand_ite rfl ?_
  dsimp only
  split
  · rfl
  · rw [holdEnter_silent (by simpa using h)]
    have hb := fun v : State => (beginFlush_frame v).faults
    exact stand_ite (silence_stand _ (by simp [hb]) h) (stand_congr (by simp [hb]))

theorem dipTimeout_stays : Stays (.dipTimeout t) s := by
  refine stays_powered (show _ = execDipTimeout t s from rfl) ?_
  exact stand_ite (silence_stand _ rfl h) rfl

theorem supplyOvervoltage_stays (r mv : Nat) : Stays (.supplyOvervoltage r mv t) s := by
  refine stays_powered (show _ = execSupplyOvervoltage r mv t s from rfl) ?_
  exact stand_ite rfl (zeroize_stand _ (by simp) h)

theorem glitchAlarm_stays (i : Nat) : Stays (.glitchAlarm i t) s := by
  refine stays_powered (show _ = execGlitchAlarm i t s from rfl) ?_
  refine stand_ite rfl ?_
  dsimp only
  rw [holdEnter_silent (by simpa using h)]
  exact stand_ite (zeroize_stand _ (by simp) h) (stand_congr (by simp))

theorem lightAlarm_stays (i : Nat) : Stays (.lightAlarm i t) s := by
  refine stays_powered (show _ = execLightAlarm i t s from rfl) ?_
  exact stand_ite rfl (zeroize_stand _ (by simp) h)

theorem tempSample_stays (i : Nat) (x : Int) : Stays (.tempSample i x t) s := by
  refine stays_powered (show _ = execTempSample i x t s from rfl) ?_
  refine stand_ite rfl ?_
  refine stand_ite (zeroize_stand _ (by simp) h) ?_
  refine stand_ite (silence_stand _ (by simp) h) ?_
  refine stand_ite ?_ ?_
  · refine stand_ite (stand_congr (by simp)) (stand_congr ?_)
    rw [thermAlert_faults, (event_frame 3 _).faults]
    simp
  · refine stand_ite (stand_congr ?_) (stand_ite rfl rfl)
    rw [thermAlert_faults]
    dsimp only
    split <;> rfl

theorem clockWindow_stays (c : Nat) (x : Int) : Stays (.clockWindow c x t) s := by
  refine stays_powered (show _ = execClockWindow c x t s from rfl) ?_
  refine stand_ite rfl ?_
  refine stand_ite (silence_stand _ (by simp) h) ?_
  refine stand_ite ?_ (stand_ite rfl rfl)
  rw [holdEnter_silent (by simpa using h)]
  exact stand_congr (by simp)

theorem pllLockLoss_stays (p : Nat) : Stays (.pllLockLoss p t) s := by
  refine stays_powered (show _ = execPllLockLoss p t s from rfl) ?_
  exact silence_stand _ rfl h

end
/-! ### The Vigil in Silence -/

/-- A move of the Vigil's source leaves the response ladder as it is (12 R518). -/
theorem moveSource_faults (src : Option Nat) (s : State) : (moveSource src s).faults = s.faults := by
  cases src with
  | none => rfl
  | some k => exact tbufAdd_faults _ _ _ _

/-- An alarm of a tamper input clears the Seal latch, and its Zeroize leaves a part in Silence there (12 R538). -/
theorem tamperAlarm_stand {s v : State} (i detail : Nat) (hv : v.faults = s.faults) (h : s.faults.silent = true) :
    stand (tamperAlarm i detail v) = stand s :=
  stand_ite (zeroize_stand _ (by simp [modTamper, hv]) h) (stand_congr (by simp [modTamper, hv]))

theorem tamperSample_stays {s : State} (h : s.faults.silent = true) (i : Nat) (v : TamperSmp) (t : Nat) :
    Stays (.tamperSample i v t) s := by
  refine stays_act (show _ = execTamperSample i v t s from rfl) ?_
  refine stand_ite rfl ?_
  have hm (f : TamperIn → TamperIn) (v : State) : stand (modTamper i f v) = stand v := rfl
  dsimp only
  generalize hw : (if i < 8 then tick t s
    else modTamper i (fun x => { x with lfsr := Config.meshLfsr x.lfsr % 2 ^ 32 }) (tick t s)) = w
  have hs : w.faults = s.faults := by
    rw [← hw]
    split <;> rfl
  rcases sampleOf (tamperIn (tick t s) i) v with ⟨bad, detail⟩
  have hv := stand_congr hs
  refine stand_ite (stand_ite ?_ (stand_ite ?_ ?_)) (stand_ite ?_ (stand_ite ?_ ?_))
  · exact (hm _ w).trans hv
  · exact (show stand (alarmOff _ (modMon _ _ (modTamper i _ w))) = stand w from rfl).trans hv
  · exact (hm _ w).trans hv
  · exact (hm _ w).trans hv
  · exact tamperAlarm_stand i detail hs h
  · exact (hm _ w).trans hv

theorem meshExcursionTimeout_stays {s : State} (h : s.faults.silent = true) (m t : Nat) :
    Stays (.meshExcursionTimeout m t) s := by
  refine stays_act (show _ = execMeshExcursionTimeout m t s from rfl) ?_
  exact stand_ite rfl (stand_ite rfl (tamperAlarm_stand _ _ rfl h))

section
variable (s : State) (t : Nat)

theorem vigilSourceChange_stays (d a b : Nat) : Stays (.vigilSourceChange d a b t) s := by
  have hm (src : Option Nat) : stand (moveSource src (measureCells d a b (tick t s))) = stand s :=
    stand_congr (moveSource_faults _ _)
  refine stays_act (show _ = execVigilSourceChange d a b t s from rfl) ?_
  refine stand_ite rfl (stand_ite (stand_ite (hm _) rfl) ?_)
  exact stand_ite (hm _) (stand_ite (hm _) rfl)

theorem vigilSourceReturn_stays (d : Nat) : Stays (.vigilSourceReturn d t) s := by
  refine stays_act (show _ = execVigilSourceReturn d t s from rfl) ?_
  exact stand_ite rfl (stand_congr (moveSource_faults _ _))

theorem cellMeasure_stays (d a b : Nat) : Stays (.cellMeasure d a b t) s := by
  refine stays_act (show _ = execCellMeasure d a b t s from rfl) ?_
  refine stand_ite rfl (stand_congr ?_)
  dsimp only
  split <;> split <;> simp only [tbufAdd_faults] <;> rfl

theorem vigilPowerOn_stays : Stays (.vigilPowerOn t) s := by
  refine stays_act (show _ = execVigilPowerOn t s from rfl) ?_
  exact stand_ite rfl (stand_congr (tbufAdd_faults _ _ _ _))

theorem oscStop_stays : Stays (.oscStop t) s := by
  refine stays_act (show _ = execOscStop t s from rfl) ?_
  exact stand_ite rfl (stand_congr (tbufAdd_faults _ _ _ _))

theorem vigilReachesDead_stays : Stays (.vigilReachesDead t) s := by
  refine stays_act (show _ = execVigilReachesDead t s from rfl) ?_
  exact stand_ite rfl rfl

theorem sealWrite_stays (l : Nat) (x y : BitVec 256) : Stays (.sealWrite l x y t) s := by
  refine stays_powered (show _ = execSealWrite l x y t s from rfl) ?_
  refine stand_ite rfl (stand_ite (stand_congr (tbufAdd_faults _ _ _ _)) ?_)
  exact (recordThrough_frame _ _ _ _ _ _).stand

end

/-! ### The sideband, JTAG and the record store in Silence -/

theorem drainHopper_stand (s : State) : stand (drainHopper s) = stand s := stand_ite rfl rfl

/-- Clearing event status is evidence (15 R640). -/
theorem clearStatus_stand (g : Nat) (mask meet : BitVec 32) (s : State) : stand (clearStatus g mask meet s) = stand s := by
  refine stand_ite rfl ((ibiCheck_frame _).stand.trans ?_)
  exact foldl_keeps stand _ (fun v n => (event_frame n v).stand) _ _

section
variable (s : State) (t : Nat)

theorem i3cPrivateWrite_stays (b : Bytes) (ok : Bool) : Stays (.i3cPrivateWrite b ok t) s := by
  refine stays_bus (show _ = execI3cPrivateWrite b ok t s from rfl) ?_
  refine stand_ite ((drainHopper_stand _).trans ?_) ?_
  · exact drainHopper_stand (tick t s)
  · exact drainHopper_stand (tick t s)

theorem mctpHostMeasure_stays (p : Bytes) : Stays (.mctpHostMeasure p t) s := by
  refine stays_bus (show _ = execMctpHostMeasure p t s from rfl) ?_
  refine stand_ite (stand_ite rfl ?_) rfl
  split
  · rfl
  · have hb := congrArg stand
      (bootAppend_parts 0x10 (hostIndex (tick t s)) (field p 0 2) (field p 4 4) (slice p 16 48) (tick t s))
    exact hb

theorem eventRead_stays (g : Nat) : Stays (.eventRead g) s := by
  refine stays_bus (show _ = execEventRead g s from rfl) ?_
  exact stand_ite (stand_ite rfl rfl) rfl

theorem eventClear_stays (g : Nat) (mask meet : BitVec 32) : Stays (.eventClear g mask meet) s := by
  refine stays_bus (show _ = execEventClear g mask meet s from rfl) ?_
  exact stand_ite (stand_ite rfl (clearStatus_stand g mask meet s)) rfl

theorem entdaa_stays (a : Nat) : Stays (.entdaa a) s :=
  stays_i3c (show _ = execEntdaa a s from rfl) (stand_ite rfl rfl)

theorem setdasa_stays (a : Nat) : Stays (.setdasa a) s :=
  stays_i3c (show _ = execSetdasa a s from rfl) (stand_ite rfl rfl)

theorem enec_stays (e : BitVec 8) : Stays (.enec e) s :=
  stays_i3c (show _ = execEnec e s from rfl) (ibiCheck_frame _).stand

theorem setmwl_stays (n : Nat) : Stays (.setmwl n) s :=
  stays_i3c (show _ = execSetmwl n s from rfl) (stand_ite rfl rfl)

theorem setmrl_stays (n : Nat) : Stays (.setmrl n) s :=
  stays_i3c (show _ = execSetmrl n s from rfl) (stand_ite rfl rfl)

theorem dbgChallenge_stays : Stays (.dbgChallenge t) s := by
  refine stays_bus (show _ = execDbgChallenge t s from rfl) ?_
  exact stand_ite rfl rfl

theorem dbgToken_stays (p : Bytes) : Stays (.dbgToken p t) s := by
  refine stays_bus (show _ = execDbgToken p t s from rfl) ?_
  refine stand_ite rfl (stand_ite ((event_frame 15 _).stand.trans ?_) ?_)
  · exact (note_frame _ _ _).stand
  · exact (note_frame _ _ _).stand

theorem gpioEdge_stays (pin : Nat) (level : Bool) : Stays (.gpioEdge pin level t) s := by
  refine stays_act (show _ = execGpioEdge pin level t s from rfl) ?_
  exact stand_ite rfl (stand_ite (event_frame _ _).stand rfl)

theorem configWrite_stays (rid : Nat) (reg : CfgReg) : Stays (.configWrite rid reg t) s := by
  refine stays_act (show _ = execConfigWrite rid reg t s from rfl) ?_
  have hm (v : State) (b : Nat × Stall) : stand (modStall v b.1 fun x => { x with rid := rid % 2 ^ 16 }) = stand v := rfl
  exact foldl_keeps stand _ hm _ _

theorem daybookFlushTimer_stays : Stays (.daybookFlushTimer t) s := by
  refine stays_store (show _ = execDaybookFlushTimer t s from rfl) ?_
  exact stand_ite rfl (beginFlush_frame (tick t s)).stand

theorem daybookFlushDone_stays (h : s.faults.silent = true) (ok : Bool) : Stays (.daybookFlushDone ok t) s := by
  refine stays_store (show _ = execDaybookFlushDone ok t s from rfl) ?_
  exact stand_ite rfl (stand_ite (silence_stand _ rfl h) (flushAll_frame (tick t s)).stand)

theorem operatingTimeTick_stays : Stays (.operatingTimeTick t) s := by
  refine stays_store (show _ = execOperatingTimeTick t s from rfl) ?_
  exact stand_ite (tallyAdd_frame 2 1 (tick t s)).stand rfl

end

/-! ### How Silence ends -/

/-- A warm reset too early, or in a latched Silence, only moves the time. -/
theorem warmReset_stays {s : State} (e : StartEnv) (h : ¬ (s.faults.silenceLatched = false ∧
    s.faults.silentAt + 1000000 ≤ (tick e.t s).clock)) : Stays (.warmReset e) s := by
  refine stays_act (show _ = execWarmReset e s from rfl) ?_
  refine (congrArg stand (if_pos ?_)).trans (show stand (tick e.t s) = stand s from rfl)
  rw [Bool.or_eq_true, Bool.or_eq_true]
  cases hl : s.faults.silenceLatched with
  | true => exact .inl (.inr hl)
  | false => exact .inr (decide_eq_true (Nat.lt_of_not_le fun ht => h ⟨hl, ht⟩))

/-- In Silence no start runs whose time could end (14 R601). -/
theorem startTimeout_stays {s : State} (hp : s.faults.phase = .silent) (t : Nat) : Stays (.startTimeout t) s := by
  refine stays_act (show _ = execStartTimeout t s from rfl) ?_
  refine (congrArg stand (if_neg ?_)).trans (show stand (tick t s) = stand s from rfl)
  simp [hp]

/-- In Silence no part waits for the provisioning exchange (14 R618). -/
theorem provisioningExchange_stays {s : State} (hp : s.faults.phase = .silent) (m : ProvMsg) (t : Nat) :
    Stays (.provisioningExchange m t) s := by
  refine stays_act (show _ = execProvisioningExchange m t s from rfl) ?_
  refine (congrArg stand (if_pos ?_)).trans (show stand (tick t s) = stand s from rfl)
  simp [hp]

/-- The commands that end Silence (11 R497, R509, R510, R512; 14 R598). -/
def EndsSilence (c : Instr) (s : State) : Prop :=
  (∃ t, c = .perstAssert t) ∨ (∃ r m t, c = .supplyBelowReset r m t) ∨
    (∃ e, c = .warmReset e ∧ s.faults.silenceLatched = false ∧ s.faults.silentAt + 1000000 ≤ (tick e.t s).clock)

/-- A command that ends no Silence leaves a part in Silence where it stood. -/
theorem exec_stays (c : Instr) {s : State} (hp : s.faults.phase = .silent) (h : s.faults.silent = true) (hc : ¬ EndsSilence c s) :
    Stays c s := by
  cases c with
  | perstAssert t => exact absurd (.inl ⟨t, rfl⟩) hc
  | supplyBelowReset r m t => exact absurd (.inr (.inl ⟨r, m, t, rfl⟩)) hc
  | warmReset e => exact warmReset_stays e fun he => hc (.inr (.inr ⟨e, rfl, he⟩))
  | supplyWarning r mv t => exact supplyWarning_stays h t r mv
  | supplyRecovered t => exact supplyRecovered_stays s t
  | dipTimeout t => exact dipTimeout_stays h t
  | supplyOvervoltage r mv t => exact supplyOvervoltage_stays h t r mv
  | glitchAlarm i t => exact glitchAlarm_stays h t i
  | glitchHoldEnd t => exact glitchHoldEnd_stays s t
  | lightAlarm i t => exact lightAlarm_stays h t i
  | tempSample i x t => exact tempSample_stays h t i x
  | clockWindow c x t => exact clockWindow_stays h t c x
  | pllLockLoss p t => exact pllLockLoss_stays h t p
  | tamperSample i v t => exact tamperSample_stays h i v t
  | meshExcursionTimeout m t => exact meshExcursionTimeout_stays h m t
  | vigilSourceChange d a b t => exact vigilSourceChange_stays s t d a b
  | vigilSourceReturn d t => exact vigilSourceReturn_stays s t d
  | cellMeasure d a b t => exact cellMeasure_stays s t d a b
  | vigilPowerOn t => exact vigilPowerOn_stays s t
  | oscStop t => exact oscStop_stays s t
  | vigilReachesDead t => exact vigilReachesDead_stays s t
  | sealWrite l x y t => exact sealWrite_stays s t l x y
  | i3cPrivateWrite b ok t => exact i3cPrivateWrite_stays s t b ok
  | mctpHostMeasure p t => exact mctpHostMeasure_stays s t p
  | eventRead g => exact eventRead_stays s g
  | eventClear g mask meet => exact eventClear_stays s g mask meet
  | entdaa a => exact entdaa_stays s a
  | setdasa a => exact setdasa_stays s a
  | enec e => exact enec_stays s e
  | setmwl n => exact setmwl_stays s n
  | setmrl n => exact setmrl_stays s n
  | dbgChallenge t => exact dbgChallenge_stays s t
  | dbgToken p t => exact dbgToken_stays s t p
  | gpioEdge pin level t => exact gpioEdge_stays s t pin level
  | configWrite rid reg t => exact configWrite_stays s t rid reg
  | daybookFlushTimer t => exact daybookFlushTimer_stays s t
  | daybookFlushDone ok t => exact daybookFlushDone_stays s t h ok
  | operatingTimeTick t => exact operatingTimeTick_stays s t
  | startTimeout t => exact startTimeout_stays hp t
  | provisioningExchange m t => exact provisioningExchange_stays hp m t
  | rstdaa => exact stays_i3c (show _ = execRstdaa s from rfl) rfl
  | disec e => exact stays_i3c (show _ = execDisec e s from rfl) rfl
  | getpid => exact stays_i3c (show _ = execGetpid s from rfl) rfl
  | getbcr => exact stays_i3c (show _ = execGetbcr s from rfl) rfl
  | getdcr => exact stays_i3c (show _ = execGetdcr s from rfl) rfl
  | getstatus => exact stays_i3c (show _ = execGetstatus s from rfl) rfl
  | getmwl => exact stays_i3c (show _ = execGetmwl s from rfl) rfl
  | getmrl => exact stays_i3c (show _ = execGetmrl s from rfl) rfl
  | getStatus => exact stays_bus (show _ = execGetStatus s from rfl) rfl
  | extest cells => exact stays_bus (show _ = execExtest cells s from rfl) rfl
  | samplePreload cells => exact stays_bus (show _ = execSamplePreload cells s from rfl) rfl
  | idcode => exact stays_bus (show _ = execIdcode s from rfl) rfl
  | clamp cells => exact stays_bus (show _ = execClamp cells s from rfl) rfl
  | highz cells => exact stays_bus (show _ = execHighz cells s from rfl) rfl
  | bypass => exact stays_bus (show _ = execBypass s from rfl) rfl
  | _ => exact stays_stopped hp fun _ => rfl

/-- Where a part in Silence stands after a command that leaves it there. -/
theorem Stays.silence {c : Instr} {s v : State} (h : Stays c s) (hp : s.faults.phase = .silent) (hs : s.faults.silent = true)
    (hv : exec c s = .next v) : (v.faults.phase = .silent ∧ v.faults.silent = true) ∧
      (s.faults.silenceLatched = true → v.faults.silenceLatched = true) := by
  obtain ⟨w, hw, he⟩ := h
  obtain rfl := Host.Outcome.next.inj (hw.symm.trans hv)
  obtain ⟨h1, h2, h3⟩ : w.faults.phase = s.faults.phase ∧ w.faults.silent = s.faults.silent ∧
      w.faults.silenceLatched = s.faults.silenceLatched := by simpa [stand] using he
  exact ⟨⟨h1.trans hp, h2.trans hs⟩, fun hl => h3.trans hl⟩

/-- Settles O60: in Silence the core, the host, the worlds and a start do nothing, and what still runs keeps Silence and its
latch. -/
theorem silenceLasts : Obligations.SilenceLasts := by
  unfold Obligations.SilenceLasts
  dsimp only
  refine ⟨fun c s v ⟨hp, hs⟩ hv => ?command, fun s v ⟨⟨hp, hs⟩, hl, hq⟩ hv => ?step⟩
  case command =>
    by_cases hc : EndsSilence c s
    · exact .inr hc
    · exact .inl ((exec_stays c hp hs hc).silence hp hs hv)
  case step =>
    cases hr : s.pending with
    | nil =>
      obtain rfl := Host.Outcome.next.inj ((stepRunsFront.2 s hr).symm.trans hv)
      exact ⟨⟨hp, hs⟩, hl, hq⟩
    | cons c rest =>
      obtain ⟨w, l, hw, hpend, -⟩ := step_answers hr
      obtain rfl := Host.Outcome.next.inj (hw.symm.trans hv)
      have he : exec c { s with pending := rest } = .next w := by
        rw [← hv, step, hr]
      rw [hr] at hq
      obtain ⟨hperst, hreset⟩ := hq c List.mem_cons_self
      have hc : ¬ EndsSilence c { s with pending := rest } := by
        rintro (⟨t, rfl⟩ | ⟨r, m, t, rfl⟩ | ⟨e, rfl, hn, -⟩)
        · exact hperst t rfl
        · exact hreset r m t rfl
        · exact Bool.false_ne_true (hn.symm.trans hl)
      obtain ⟨hquiet, hlatch⟩ := (exec_stays c (s := { s with pending := rest }) hp hs hc).silence hp hs he
      refine ⟨hquiet, hlatch hl, fun x hx => hq x (List.mem_cons_of_mem c ?_)⟩
      rw [hpend] at hx
      exact hx

end Machine
end Sys2Proof
end

section
/-!
PROOFS. What the commands of the environment monitors are made of: dips and the loss of main power, glitches, samples of the junction
sensors and windows of the clocks (11 R499, R506 to R509; 12 R541 to R545; 16 R673).
-/
namespace Sys2Proof
namespace Machine

/-! ### Entries of the monitors behind the gate, and tests of two conditions -/

@[simp] theorem mon_gate (s v : State) (m : Nat) : mon (gate s v) m = mon v m := rfl

@[simp] theorem mon_holdClear (c : HoldCause) (s : State) (m : Nat) : mon (holdClear c s) m = mon s m := rfl

@[simp] theorem mon_alarmOff (m : Nat) (s : State) : mon (alarmOff m s) m = { mon s m with alarm := false } :=
  mon_modMon_same m _ s

/-- Of two conditions that a command tests in turn, one holds. -/
theorem either_decided {p q : Prop} [Decidable p] [Decidable q] (h : p ∨ q) : (decide p || decide q) = true :=
  Bool.or_eq_true_iff.mpr (h.imp decide_eq_true decide_eq_true)

theorem neither_decided {p q : Prop} [Decidable p] [Decidable q] (hp : ¬ p) (hq : ¬ q) : ¬ (decide p || decide q) = true :=
  fun h => (Bool.or_eq_true_iff.mp h).elim (fun h => hp (of_decide_eq_true h)) fun h => hq (of_decide_eq_true h)

/-- What a step establishes for its element, and every step keeps, holds of each element after the fold. -/
theorem foldl_establishes {α : Type} (P : α → State → Prop) (f : State → α → State) (hself : ∀ s a, P a (f s a))
    (hkeep : ∀ s a b, P b s → P b (f s a)) (l : List α) : ∀ s, ∀ a ∈ l, P a (l.foldl f s) := by
  induction l with
  | nil => exact fun _ _ ha => absurd ha List.not_mem_nil
  | cons b l ih =>
    intro s a ha
    rcases List.mem_cons.mp ha with rfl | ha
    · exact List.foldlRecOn l f (motive := P a) (hself s a) fun v hv b _ => hkeep v b a hv
    · exact ih (f s b) a ha

/-! ### Dips of the supplies, and the loss of main power -/

/-- The times of dips within 1 s (11 R509). -/
def setDipTimes (l : List Nat) (s : State) : State := { s with mon := { s.mon with dipTimes := l } }

@[simp] theorem setDipTimes_faults (l : List Nat) (s : State) : (setDipTimes l s).faults = s.faults := rfl

@[simp] theorem mon_setDipTimes (l : List Nat) (s : State) (m : Nat) : mon (setDipTimes l s) m = mon s m := rfl

/-- A dip that begins, in the entry of its rail and among the times of dips (11 R508, R509). -/
def dipNoted (r mv : Nat) (s : State) : State :=
  setDipTimes (within 1000000000 s.mon.dipTimes s.clock)
    (alarmOn r (modMon r (fun e => { e with dipAt := some s.clock, dipMin := mv }) (measure r mv lower s)))

theorem dipNoted_faults (r mv : Nat) (s : State) : (dipNoted r mv s).faults = s.faults := by
  rw [dipNoted, setDipTimes_faults, alarmOn_faults, modMon_faults, measure_faults]

theorem mon_dipNoted (r mv : Nat) (s : State) : mon (dipNoted r mv s) r =
    raised { measured mv lower (mon s r) with dipAt := some s.clock, dipMin := mv } := by
  rw [dipNoted, mon_setDipTimes, mon_alarmOn, mon_modMon_same, mon_measure]

/-- The part Hold that a dip begins flushes the Daybook, too (11 R506). -/
def dipBegun (r mv : Nat) (s : State) : State := beginFlush (holdEnter .supply true (dipNoted r mv s))

theorem dipBegun_silent (r mv : Nat) (s : State) : (dipBegun r mv s).faults.silent = s.faults.silent :=
  (congrArg Faults.silent (beginFlush_frame _).faults).trans
    ((holdEnter_leaves .supply true _).2.trans (congrArg Faults.silent (dipNoted_faults r mv s)))

/-- A cause of the part Hold in force (11 R488). -/
def Holds (c : HoldCause) (v : State) : Prop := c ∈ v.faults.holds ∧ v.faults.holdCovered = true

/-- A dip that begins holds the part and stands in the entry of its rail (11 R506, R508). -/
theorem dipBegun_holds (r mv : Nat) {s : State} (hl : s.faults.silent = false) :
    let v := dipBegun r mv s
    Holds .supply v ∧ (mon v r).dipAt = some s.clock ∧ (mon v r).dipMin = mv ∧ (mon v r).alarm = true := by
  have hb : EvidenceOnly (holdEnter .supply true (dipNoted r mv s)) (dipBegun r mv s) := beginFlush_frame _
  have he : mon (dipBegun r mv s) r = _ :=
    (mon_congr (hb.mon.trans (holdEnter_leaves .supply true _).1) r).trans (mon_dipNoted r mv s)
  dsimp only
  refine ⟨?_, by rw [he]; rfl, by rw [he]; rfl, by rw [he]; rfl⟩
  rw [Holds, hb.faults]
  exact holdEnter_holds (by rw [dipNoted_faults]; exact hl) .supply true

/-- The end of a dip in the entry of its rail (11 R507). -/
theorem dipNote_ended (n : Nat) (s : State) (r : Nat) : (mon (dipNote n s r) r).dipAt = none := by
  unfold dipNote
  dsimp only
  split
  · next h => exact h
  · rw [mon_congr (record_frame _ _ _ _ _ _).mon, alarmOff, mon_modMon_same, mon_modMon_same]

/-- The end of a dip begins none on another rail. -/
theorem dipNote_begins_none (n : Nat) (s : State) (r j : Nat) (h : (mon s j).dipAt = none) : (mon (dipNote n s r) j).dipAt = none := by
  by_cases hj : j = r
  · rw [hj]
    exact dipNote_ended n s r
  · unfold dipNote
    dsimp only
    split
    · exact h
    · rw [mon_congr (record_frame _ _ _ _ _ _).mon, alarmOff, mon_modMon_other hj, mon_modMon_other hj]
      exact h

/-- The running time moves no source of the Vigil (12 R526). -/
theorem vigilRun_src (v : Vigil) (k : Nat) : (vigilRun k v).src = v.src := by unfold vigilRun; split <;> rfl

/-- What the loss of main power leaves (11 R509; 12 R517, R525, R530). -/
def poweredOff (s : State) : State :=
  { s with
    faults := { s.faults with phase := .off, railsUp := false }
    vigil := { s.vigil with power := if s.vigil.src = 0 then 1 else 2, sealRead := false }
    day := { s.day with flushing := false, flushAgain := false } }

/-! ### Glitches -/

/-- A glitch that is counted, raises its alarm and is recorded (12 R545). -/
def glitchNoted (i sev : Nat) (s : State) : State :=
  crossed (40 + i) sev 0 (alarmOn (40 + i) { s with mon := { s.mon with
    glitchTimes := within 1000000000 s.mon.glitchTimes s.clock, glitches := satAdd 32 s.mon.glitches 1 } })

theorem glitchNoted_faults (i sev : Nat) (s : State) : (glitchNoted i sev s).faults = s.faults := by
  rw [glitchNoted, crossed_faults, alarmOn_faults]

theorem glitchNoted_glitches (i sev : Nat) (s : State) : (glitchNoted i sev s).mon.glitches = satAdd 32 s.mon.glitches 1 := by
  rw [glitchNoted, (crossed_frame _ _ _ _).mon, (alarmOn_frame _ _).mon]
  rfl

/-- The end of the Hold of one glitch sensor (11 R499). -/
def glitchOver (s : State) (i : Nat) : State := alarmOff (40 + i) (holdClear (.glitch i) s)

/-- A glitch sensor neither holds the part nor shows an alarm. -/
def GlitchCalm (i : Nat) (v : State) : Prop := .glitch i ∉ v.faults.holds ∧ (mon v (40 + i)).alarm = false

theorem glitchOver_holds (s : State) (i : Nat) :
    (glitchOver s i).faults.holds = s.faults.holds.filter (fun x => x != .glitch i) := rfl

theorem glitchOver_calm (s : State) (i : Nat) : GlitchCalm i (glitchOver s i) := by
  refine ⟨?_, by rw [glitchOver, mon_alarmOff]⟩
  rw [glitchOver_holds]
  simp

theorem glitchOver_keeps_calm (s : State) (i j : Nat) (h : GlitchCalm j s) : GlitchCalm j (glitchOver s i) := by
  obtain ⟨hh, ha⟩ := h
  constructor
  · rw [glitchOver_holds]
    exact fun hm => hh (List.mem_of_mem_filter hm)
  · by_cases hj : j = i
    · rw [hj, glitchOver, mon_alarmOff]
    · rw [glitchOver, alarmOff, mon_modMon_other (by omega), mon_holdClear]
      exact ha

/-! ### Samples of the junction sensors -/

/-- A limit that is crossed: the alarm of its monitor and the record (12 R543, R544). -/
def limitCrossed (m sev limit : Nat) (s : State) : State := crossed m sev limit (alarmOn m s)

@[simp] theorem limitCrossed_faults (m sev limit : Nat) (s : State) : (limitCrossed m sev limit s).faults = s.faults := by
  rw [limitCrossed, crossed_faults, alarmOn_faults]

theorem mon_limitCrossed (m sev limit : Nat) (s : State) : mon (limitCrossed m sev limit s) m = raised (mon s m) := by
  rw [limitCrossed, mon_crossed, mon_alarmOn]

theorem limitCrossed_throttle (m sev limit : Nat) (s : State) : (limitCrossed m sev limit s).mon.throttle = s.mon.throttle := by
  rw [limitCrossed, (crossed_frame _ _ _ _).mon, (alarmOn_frame _ _).mon]
  rfl

/-- What a sample makes of the counts of a junction sensor (12 R543). -/
def tempRun (lim x : Int) (clock : Nat) (e : MonEnt) : MonEnt :=
  { e with
    runLow := if x < -100 then min 255 (e.runLow + 1) else 0
    runUser := if lim < x then min 255 (e.runUser + 1) else 0
    runFactory := if 460 < x then min 255 (e.runFactory + 1) else 0
    coolAt := if x ≤ lim - 20 then some (e.coolAt.getD clock) else none }

/-- A sample that is taken and counted (12 R543). -/
def tempTaken (i : Nat) (x : Int) (s : State) : State :=
  let s1 := measure (24 + i) x higher s
  modMon (24 + i) (fun e => tempRun (mon s1 (24 + i)).userLimit x s.clock e) s1

theorem mon_tempTaken (i : Nat) (x : Int) (s : State) : mon (tempTaken i x s) (24 + i) =
    tempRun ((mon s (24 + i)).userLimit : Int) x s.clock (measured x higher (mon s (24 + i))) := by
  rw [tempTaken, mon_modMon_same, mon_measure]
  rfl

@[simp] theorem tempTaken_faults (i : Nat) (x : Int) (s : State) : (tempTaken i x s).faults = s.faults := rfl

/-- A sample that is taken changes its MON entry and nothing else of the monitors. -/
theorem tempTaken_throttle (i : Nat) (x : Int) (s : State) : (tempTaken i x s).mon.throttle = s.mon.throttle := rfl

/-- A sample that is not below the lower limit ends a run of such (12 R543). -/
theorem tempTaken_runLow {x : Int} (hx : -100 ≤ x) (i : Nat) (s : State) : ¬ (mon (tempTaken i x s) (24 + i)).runLow = 4 := by
  rw [mon_tempTaken]
  simp [tempRun, Int.not_lt.mpr hx]

theorem tempTaken_runFactory {x : Int} (hx : x ≤ 460) (i : Nat) (s : State) :
    ¬ (mon (tempTaken i x s) (24 + i)).runFactory = 4 := by
  rw [mon_tempTaken]
  simp [tempRun, Int.not_lt.mpr hx]

theorem alarmOff_throttle (m : Nat) (s : State) : (alarmOff m s).mon.throttle = s.mon.throttle := rfl

theorem thermAlert_mon (low : Bool) (s : State) : (thermAlert low s).mon = { s.mon with thermAlert := low } := by
  unfold thermAlert
  split
  · next h => rw [← h]
  · rfl

/-- The temperature Throttle comes into force (12 R543; 16 R673). -/
def throttleOn (s : State) : State := thermAlert true (event 3 { s with mon := { s.mon with throttle := true } })

theorem throttleOn_mon (s : State) : (throttleOn s).mon = { s.mon with throttle := true, thermAlert := true } := by
  rw [throttleOn, thermAlert_mon, (event_frame _ _).mon]

theorem throttleOn_faults (s : State) : (throttleOn s).faults = s.faults := by
  rw [throttleOn, thermAlert_faults, (event_frame _ _).faults]

theorem mon_throttleOn (s : State) (m : Nat) : mon (throttleOn s) m = mon s m := by
  rw [mon, throttleOn_mon]
  rfl

/-- How a sample that is taken is judged: the lower limit, the upper limit, the throttle level, in this order (12 R543). -/
def tempJudged (i : Nat) (x : Int) (s : State) : State :=
  let v := tempTaken i x s
  let e := mon v (24 + i)
  if e.runLow = 4 then zeroize 0x0204 (limitCrossed (24 + i) sevZeroize (i16 (-100)).toNat v)
  else if e.runFactory = 4 then silence 0x000D (thermAlert true (limitCrossed (24 + i) sevSilence 460 v))
  else if e.runUser = e.userFilter && !e.alarm then
    let w := limitCrossed (24 + i) sevThrottle e.userLimit v
    if w.mon.throttle then w else throttleOn w
  else
    let w := if x ≤ ((mon (measure (24 + i) x higher s) (24 + i)).userLimit : Int) then alarmOff (24 + i) v else v
    if w.mon.throttle && cooled w then
      thermAlert (w.faults.silent && w.faults.lastCause == 0x000D) { w with mon := { w.mon with throttle := false } }
    else w

/-- TEMP_SAMPLE is this judgement, for a sensor that the part has. -/
theorem execTempSample_eq (i : Nat) (x : Int) (t : Nat) (s : State) :
    execTempSample i x t s = powered (fun s => let s := tick t s; if 8 ≤ i then s else tempJudged i x s) s := by
  simp only [execTempSample, tempJudged, tempTaken, tempRun, throttleOn, limitCrossed]
  rfl

/-! ### Windows of the clocks -/

/-- What a window makes of the counts of a clock (12 R544). -/
def clockRun (c : Nat) (x : Int) (e : MonEnt) : MonEnt :=
  { e with
    runUser := if outside c x e.userLimit then min 255 (e.runUser + 1) else 0
    runFactory := if outside c x e.factoryLimit then min 255 (e.runFactory + 1) else 0 }

/-- A window that is taken and counted (12 R544). -/
def clockTaken (c : Nat) (x : Int) (s : State) : State :=
  modMon (32 + c) (fun e => clockRun c x e) (measure (32 + c) x larger s)

theorem mon_clockTaken (c : Nat) (x : Int) (s : State) :
    mon (clockTaken c x s) (32 + c) = clockRun c x (measured x larger (mon s (32 + c))) := by
  rw [clockTaken, mon_modMon_same, mon_measure]

@[simp] theorem clockTaken_faults (c : Nat) (x : Int) (s : State) : (clockTaken c x s).faults = s.faults := rfl

/-- How a window that is taken is judged: the factory window, then the user window (11 R499; 12 R544). -/
def clockJudged (c : Nat) (x : Int) (s : State) : State :=
  let v := clockTaken c x s
  let e := mon v (32 + c)
  if e.runFactory = e.factoryFilter then silence 0x000C (limitCrossed (32 + c) sevSilence e.factoryLimit v)
  else if e.runUser = e.userFilter then holdEnter (.clock c) true (limitCrossed (32 + c) sevHold e.userLimit v)
  else if e.runUser = 0 then holdClear (.clock c) (alarmOff (32 + c) v)
  else v

/-- CLOCK_WINDOW is this judgement, for a clock that the part has. -/
theorem execClockWindow_eq (c : Nat) (x : Int) (t : Nat) (s : State) :
    execClockWindow c x t s = powered (fun s => let s := tick t s; if 7 ≤ c then s else clockJudged c x s) s := by
  simp only [execClockWindow, clockJudged, clockTaken, clockRun, limitCrossed]
  rfl

/-- A window inside the factory limit ends a run outside it (12 R544). -/
theorem clockTaken_runFactory {c : Nat} {x : Int} {s : State} (h : outside c x (mon s (32 + c)).factoryLimit = false)
    (hf : (mon s (32 + c)).factoryFilter ≠ 0) :
    ¬ (mon (clockTaken c x s) (32 + c)).runFactory = (mon (clockTaken c x s) (32 + c)).factoryFilter := by
  rw [mon_clockTaken]
  simp [clockRun, measured, h, hf.symm]

theorem clockTaken_runUser {c : Nat} {x : Int} {s : State} (h : outside c x (mon s (32 + c)).userLimit = false) :
    (mon (clockTaken c x s) (32 + c)).runUser = 0 := by
  rw [mon_clockTaken]
  simp [clockRun, measured, h]

theorem clockTaken_userFilter (c : Nat) (x : Int) (s : State) :
    (mon (clockTaken c x s) (32 + c)).userFilter = (mon s (32 + c)).userFilter := by
  rw [mon_clockTaken]
  rfl

end Machine
end Sys2Proof
end

section
/-!
PROOFS. The environment monitors: supplies, glitches, light, temperature and clocks (11 R496 to R499, R506 to R509; 12 R541 to R545;
16 R673).
-/
namespace Sys2Proof
namespace Machine

/-! ### What the commands of the monitors answer -/

/-! The egress gate changes no register of the response ladder and no key. -/

theorem Holds.gate {c : HoldCause} {s v : State} (h : Holds c v) : Holds c (gate s v) := by
  rw [Holds, gate_faults]
  exact h

theorem Lost.gate {n : Nat} {s v : State} (h : Lost n v) : Lost n (gate s v) := by
  rw [Lost, gate_faults]
  exact h

theorem Gone.gate {n : Nat} {s v : State} (h : Gone n v) : Gone n (gate s v) := by
  obtain ⟨hl, h⟩ := h
  refine ⟨hl.gate, ?_⟩
  rw [gate_faults, gate_munim, gate_vigil]
  exact h

/-- Without main power no monitor runs (12 R541). -/
theorem powered_ignored {c : Instr} {f : State → State} {s : State} (hr : s.faults.railsUp = false)
    (hc : exec c s = powered f s) : Ignores c s :=
  hc.trans (act_quiet (if_neg (ne_true_of_eq_false hr)) rfl rfl)

section
variable {c : Instr} {f : State → State} {s v : State} (hr : s.faults.railsUp = true) (hc : exec c s = powered f s)
include hr hc

/-- Under main power a command of the monitors answers what its meaning leaves behind the egress gate. -/
theorem powered_next (hv : f s = v) : exec c s = .next (gate s v) := by rw [hc, powered_up f s hr, hv]

/-- One whose meaning is none but the time moves the time. -/
theorem powered_time {t : Nat} (hv : f s = tick t s) : exec c s = .next (tick t s) := by
  rw [powered_next hr hc hv, gate_tick]

theorem powered_lost {cause : Nat} (hv : f s = silence cause v) (hl : v.faults.silent = false) : Does c s (Lost cause) :=
  ⟨_, powered_next hr hc hv, (silence_lost cause hl).gate⟩

theorem powered_gone {cause : Nat} (hv : f s = zeroize cause v) (hl : v.faults.silent = false) : Does c s (Gone cause) :=
  ⟨_, powered_next hr hc hv, (zeroize_gone cause hl).gate⟩

end

section
variable {s : State} (hr : s.faults.railsUp = true) (t : Nat)
include hr

/-! ### Supplies -/

section
variable {r mv : Nat}

theorem supplyWarning_calm (h : 6 ≤ r ∨ (mon s r).userLimit ≤ mv) : exec (.supplyWarning r mv t) s = .next (tick t s) :=
  powered_time hr (show _ = execSupplyWarning r mv t s from rfl) (if_pos (either_decided h))

/-- A further sample of a dip keeps the lowest voltage (11 R508). -/
theorem supplyWarning_dipping (h6 : r < 6) (h : mv < (mon s r).userLimit) {d : Nat} (hd : (mon s r).dipAt = some d) :
    Does (.supplyWarning r mv t) s (fun v => (mon v r).dipMin = min (mon s r).dipMin mv ∧ v.faults = s.faults) := by
  have hm : (mon (measure r mv lower (tick t s)) r).dipAt = some d := by rw [mon_measure]; exact hd
  have hn : exec (.supplyWarning r mv t) s = .next (gate s
      (modMon r (fun e => { e with dipMin := min e.dipMin mv }) (measure r mv lower (tick t s)))) := by
    refine powered_next hr (show _ = execSupplyWarning r mv t s from rfl)
      ((if_neg (neither_decided (Nat.not_le_of_lt h6) (Nat.not_le_of_lt h))).trans ?_)
    dsimp only
    rw [hm]
  refine ⟨_, hn, ?_, ?_⟩
  · rw [mon_gate, mon_modMon_same, mon_measure]
    rfl
  · rw [gate_faults, modMon_faults, measure_faults, tick_faults]

end

section
variable {r mv : Nat} (h6 : r < 6) (h : mv < (mon s r).userLimit) (hd : (mon s r).dipAt = none)
include h6 h hd

/-- A dip that begins is the Hold, or Silence when it is the 16th within 1 s (11 R506, R509). -/
theorem supplyWarning_next : exec (.supplyWarning r mv t) s = .next (gate s
    (if 16 ≤ (within 1000000000 s.mon.dipTimes (tick t s).clock).length then silence 0x000E (dipBegun r mv (tick t s))
     else dipBegun r mv (tick t s))) := by
  have hm : (mon (measure r mv lower (tick t s)) r).dipAt = none := by rw [mon_measure]; exact hd
  refine powered_next hr (show _ = execSupplyWarning r mv t s from rfl)
    ((if_neg (neither_decided (Nat.not_le_of_lt h6) (Nat.not_le_of_lt h))).trans ?_)
  dsimp only
  rw [hm]
  rfl

theorem supplyWarning_holds (hl : s.faults.silent = false)
    (hn : (within 1000000000 s.mon.dipTimes (tick t s).clock).length < 16) :
    Does (.supplyWarning r mv t) s (fun v => Holds .supply v ∧ (mon v r).dipAt = some (tick t s).clock ∧ (mon v r).dipMin = mv ∧
      (mon v r).alarm = true) := by
  have hx := supplyWarning_next hr t h6 h hd
  rw [if_neg (Nat.not_le_of_lt hn)] at hx
  obtain ⟨hh, he⟩ := dipBegun_holds r mv (s := tick t s) hl
  exact ⟨_, hx, hh.gate, by rw [mon_gate]; exact he⟩

theorem supplyWarning_lost (hl : s.faults.silent = false)
    (hn : 16 ≤ (within 1000000000 s.mon.dipTimes (tick t s).clock).length) :
    Does (.supplyWarning r mv t) s (Lost 0x000E) := by
  have hx := supplyWarning_next hr t h6 h hd
  rw [if_pos hn] at hx
  exact ⟨_, hx, (silence_lost 0x000E ((dipBegun_silent r mv (tick t s)).trans hl)).gate⟩

end

/-- What the recovery of the supplies clears (11 R507). -/
theorem supplyRecovered_clears : Does (.supplyRecovered t) s (fun v =>
    v.faults.holds = s.faults.holds.filter (fun x => x != .supply) ∧ ∀ r, r < 6 → (mon v r).dipAt = none) := by
  obtain ⟨n, hn⟩ : ∃ n, exec (.supplyRecovered t) s =
      .next (gate s (holdClear .supply ((List.range 6).foldl (dipNote n) (tick t s)))) :=
    ⟨_, powered_next hr (show _ = execSupplyRecovered t s from rfl) rfl⟩
  refine ⟨_, hn, ?_, fun r h6 => ?_⟩
  · have hf : ((List.range 6).foldl (dipNote n) (tick t s)).faults = s.faults :=
      foldl_keeps State.faults _ (dipNote_faults n) _ _
    rw [gate_faults, holdClear, hf]
  · rw [mon_gate, mon_holdClear]
    exact foldl_establishes (fun r v => (mon v r).dipAt = none) (dipNote n) (dipNote_ended n) (dipNote_begins_none n)
      (List.range 6) (tick t s) r (List.mem_range.mpr h6)

/-- No dip lasts longer than 1 ms (11 R509). -/
theorem dipTimeout_calm (h : ∀ r, r < 6 → ∀ d, (mon s r).dipAt = some d → (tick t s).clock ≤ d + 1000000) :
    exec (.dipTimeout t) s = .next (tick t s) := by
  refine powered_time hr (show _ = execDipTimeout t s from rfl) (if_neg ?_)
  rw [List.any_eq_true]
  rintro ⟨r, h6, hd⟩
  rw [mon_tick] at hd
  split at hd
  · next d he => exact Nat.not_lt_of_le (h r (List.mem_range.mp h6) d he) (of_decide_eq_true hd)
  · exact Bool.false_ne_true hd

/-- A dip lasts longer (11 R509). -/
theorem dipTimeout_lost (hl : s.faults.silent = false) {r d : Nat} (h6 : r < 6) (hd : (mon s r).dipAt = some d)
    (h : d + 1000000 < (tick t s).clock) : Does (.dipTimeout t) s (Lost 0x000E) := by
  refine powered_lost hr (show _ = execDipTimeout t s from rfl) (if_pos ?_) (v := tick t s) hl
  refine List.any_eq_true.mpr ⟨r, List.mem_range.mpr h6, ?_⟩
  rw [mon_tick, hd]
  exact decide_eq_true h

theorem supplyBelowReset_calm {r mv : Nat} (h : 6 ≤ r ∨ railReset r ≤ mv) :
    exec (.supplyBelowReset r mv t) s = .next (tick t s) :=
  powered_time hr (show _ = execSupplyBelowReset r mv t s from rfl) (if_pos (either_decided h))

theorem supplyBelowReset_off (hl : s.faults.silent = false) {r mv : Nat} (h6 : r < 6) (h : mv < railReset r) :
    Does (.supplyBelowReset r mv t) s (fun v => v.faults.phase = .off ∧ v.faults.railsUp = false ∧ v.munim.deviceRoot = none ∧
      v.pair.pairSecret = none ∧ v.faults.lastCause = 0x000E ∧ v.vigil.power = (if s.vigil.src = 0 then 1 else 2)) := by
  let w := clearKeys (measure r mv lower (tick t s))
  have hn : exec (.supplyBelowReset r mv t) s = .next (gate s (poweredOff (flushAll (silence 0x000E w)))) :=
    powered_next hr (show _ = execSupplyBelowReset r mv t s from rfl)
      (if_neg (neither_decided (Nat.not_le_of_lt h6) (Nat.not_le_of_lt h)))
  have hw : w.faults.silent = false := hl
  obtain ⟨-, hv, hk, hp, -⟩ := silenceAt_leaves 1 0x000E hw
  have hc := (silence_lost 0x000E hw).2
  have hf := flushAll_frame (silence 0x000E w)
  refine ⟨_, hn, rfl, rfl, ?_, ?_, ?_, ?_⟩
  · exact (congrArg Muniment.deviceRoot (hf.munim.trans hk)).trans rfl
  · exact (hf.pair Pair.pairSecret fun _ _ _ _ => rfl).trans hp
  · exact (congrArg Faults.lastCause hf.faults).trans hc
  · have hsrc : (flushAll (silence 0x000E w)).vigil.src = s.vigil.src :=
      (congrArg Vigil.src (hf.vigil.trans hv)).trans (vigilRun_src s.vigil _)
    show (if (flushAll (silence 0x000E w)).vigil.src = 0 then 1 else 2) = _
    rw [hsrc]

theorem supplyOvervoltage_calm {r mv : Nat} (h : 6 ≤ r ∨ mv ≤ railUpper r) :
    exec (.supplyOvervoltage r mv t) s = .next (tick t s) :=
  powered_time hr (show _ = execSupplyOvervoltage r mv t s from rfl) (if_pos (either_decided h))

theorem supplyOvervoltage_gone (hl : s.faults.silent = false) {r mv : Nat} (h6 : r < 6) (h : railUpper r < mv) :
    Does (.supplyOvervoltage r mv t) s (Gone 0x0203) :=
  powered_gone hr (show _ = execSupplyOvervoltage r mv t s from rfl)
    (if_neg (neither_decided (Nat.not_le_of_lt h6) (Nat.not_le_of_lt h))) (by simpa using hl)

/-! ### Glitches and light -/

theorem glitchAlarm_past {i : Nat} (h : 8 ≤ i) : exec (.glitchAlarm i t) s = .next (tick t s) :=
  powered_time hr (show _ = execGlitchAlarm i t s from rfl) (if_pos h)

/-- Fewer than four glitches within 1 s hold the part (11 R499). -/
theorem glitchAlarm_holds (hl : s.faults.silent = false) {i : Nat} (h8 : i < 8)
    (h : (within 1000000000 s.mon.glitchTimes (tick t s).clock).length < 4) :
    Does (.glitchAlarm i t) s (fun v => Holds (.glitch i) v ∧ v.mon.glitches = satAdd 32 s.mon.glitches 1) := by
  have hn : exec (.glitchAlarm i t) s = .next (gate s (holdEnter (.glitch i) true (glitchNoted i sevHold (tick t s)))) :=
    powered_next hr (show _ = execGlitchAlarm i t s from rfl)
      ((if_neg (Nat.not_le_of_lt h8)).trans (if_neg (Nat.not_le_of_lt h)))
  have hs : (glitchNoted i sevHold (tick t s)).faults.silent = false := by rw [glitchNoted_faults]; exact hl
  refine ⟨_, hn, Holds.gate (holdEnter_holds hs (.glitch i) true), ?_⟩
  rw [gate_mon, (holdEnter_leaves _ _ _).1, glitchNoted_glitches, tick_mon]

/-- The fourth is Zeroize (12 R545). -/
theorem glitchAlarm_gone (hl : s.faults.silent = false) {i : Nat} (h8 : i < 8)
    (h : 4 ≤ (within 1000000000 s.mon.glitchTimes (tick t s).clock).length) : Does (.glitchAlarm i t) s (Gone 0x0205) :=
  powered_gone hr (show _ = execGlitchAlarm i t s from rfl) ((if_neg (Nat.not_le_of_lt h8)).trans (if_pos h))
    (v := glitchNoted i sevZeroize (tick t s)) (by rw [glitchNoted_faults]; exact hl)

theorem glitchHoldEnd_early (h : ∃ x ∈ s.mon.glitchTimes, (tick t s).clock < x + 10000) :
    exec (.glitchHoldEnd t) s = .next (tick t s) := by
  obtain ⟨x, hx, ht⟩ := h
  exact powered_time hr (show _ = execGlitchHoldEnd t s from rfl)
    (if_pos (List.any_eq_true.mpr ⟨x, hx, decide_eq_true ht⟩))

/-- 10 us after the last glitch no sensor holds the part (11 R499). -/
theorem glitchHoldEnd_calms (h : ∀ x ∈ s.mon.glitchTimes, x + 10000 ≤ (tick t s).clock) :
    Does (.glitchHoldEnd t) s (fun v => ∀ i, i < 8 → GlitchCalm i v) := by
  have hq : ¬ (tick t s).mon.glitchTimes.any (fun x => decide ((tick t s).clock < x + 10000)) = true := by
    rw [List.any_eq_true]
    rintro ⟨x, hx, ht⟩
    exact Nat.not_lt_of_le (h x hx) (of_decide_eq_true ht)
  have hn : exec (.glitchHoldEnd t) s = .next (gate s ((List.range 8).foldl glitchOver (tick t s))) :=
    powered_next hr (show _ = execGlitchHoldEnd t s from rfl) (if_neg hq)
  refine ⟨_, hn, fun i h8 => ?_⟩
  have hc := foldl_establishes GlitchCalm glitchOver glitchOver_calm glitchOver_keeps_calm (List.range 8) (tick t s) i
    (List.mem_range.mpr h8)
  rw [GlitchCalm, gate_faults, mon_gate]
  exact hc

theorem lightAlarm_past {i : Nat} (h : 16 ≤ i) : exec (.lightAlarm i t) s = .next (tick t s) :=
  powered_time hr (show _ = execLightAlarm i t s from rfl) (if_pos h)

theorem lightAlarm_gone (hl : s.faults.silent = false) {i : Nat} (h : i < 16) : Does (.lightAlarm i t) s (Gone 0x0202) :=
  powered_gone hr (show _ = execLightAlarm i t s from rfl) (if_neg (Nat.not_le_of_lt h)) (by simpa using hl)

/-! ### Temperature -/

theorem tempSample_past {i : Nat} (h : 8 ≤ i) (x : Int) : exec (.tempSample i x t) s = .next (tick t s) :=
  powered_time hr (show _ = execTempSample i x t s from rfl) (if_pos h)

section
variable {i : Nat} (h8 : i < 8) {x : Int}
include h8

theorem tempSample_next : exec (.tempSample i x t) s = .next (gate s (tempJudged i x (tick t s))) :=
  powered_next hr ((show _ = execTempSample i x t s from rfl).trans (execTempSample_eq i x t s)) (if_neg (Nat.not_le_of_lt h8))

/-- The fourth sample below the lower limit is Zeroize (12 R543). -/
theorem tempSample_gone (hl : s.faults.silent = false) (hx : x < -100) (h : (mon s (24 + i)).runLow = 3) :
    Does (.tempSample i x t) s (Gone 0x0204) := by
  have hlow : (mon (tempTaken i x (tick t s)) (24 + i)).runLow = 4 := by
    rw [mon_tempTaken, mon_tick]
    simp [tempRun, measured, hx, h]
  have hn := tempSample_next hr t h8 (x := x)
  rw [tempJudged, if_pos hlow] at hn
  exact ⟨_, hn, (zeroize_gone 0x0204 (by simpa using hl)).gate⟩

/-- The fourth above the upper limit is Silence (11 R499; 12 R543). -/
theorem tempSample_lost (hl : s.faults.silent = false) (hx : 460 < x) (h : (mon s (24 + i)).runFactory = 3) :
    Does (.tempSample i x t) s (fun v => Lost 0x000D v ∧ v.mon.thermAlert = true) := by
  have hhigh : (mon (tempTaken i x (tick t s)) (24 + i)).runFactory = 4 := by
    rw [mon_tempTaken, mon_tick]
    simp [tempRun, measured, hx, h]
  let w := thermAlert true (limitCrossed (24 + i) sevSilence 460 (tempTaken i x (tick t s)))
  have hn : exec (.tempSample i x t) s = .next (gate s (silence 0x000D w)) := by
    rw [tempSample_next hr t h8, tempJudged, if_neg (tempTaken_runLow (by omega) i _), if_pos hhigh]
  have hw : w.faults.silent = false := by
    rw [thermAlert_faults, limitCrossed_faults, tempTaken_faults]
    exact hl
  refine ⟨_, hn, (silence_lost 0x000D hw).gate, ?_⟩
  rw [gate_mon, silence, (silenceAt_leaves 1 0x000D hw).1, thermAlert_mon]

/-- The last sample of the filter above the throttle level is Throttle (12 R543; 16 R673). -/
theorem tempSample_throttles (hx : -100 ≤ x) (hu : ((mon s (24 + i)).userLimit : Int) < x) (hx' : x ≤ 460)
    (hc : (mon s (24 + i)).runUser + 1 = (mon s (24 + i)).userFilter) (hf : (mon s (24 + i)).userFilter ≤ 255)
    (ha : (mon s (24 + i)).alarm = false) (ht : s.mon.throttle = false) :
    Does (.tempSample i x t) s (fun v => v.mon.throttle = true ∧ v.mon.thermAlert = true ∧ (mon v (24 + i)).alarm = true ∧
      v.faults = s.faults) := by
  have huser : ((mon (tempTaken i x (tick t s)) (24 + i)).runUser = (mon (tempTaken i x (tick t s)) (24 + i)).userFilter &&
      !(mon (tempTaken i x (tick t s)) (24 + i)).alarm) = true := by
    rw [mon_tempTaken, mon_tick]
    simp [tempRun, measured, hu, ha, hc, hf]
  let lim := (mon (tempTaken i x (tick t s)) (24 + i)).userLimit
  let w := limitCrossed (24 + i) sevThrottle lim (tempTaken i x (tick t s))
  have hw : ¬ w.mon.throttle = true := by
    rw [limitCrossed_throttle, tempTaken_throttle]
    simpa using ht
  have hn : exec (.tempSample i x t) s = .next (gate s (throttleOn w)) := by
    rw [tempSample_next hr t h8, tempJudged, if_neg (tempTaken_runLow hx i _), if_neg (tempTaken_runFactory hx' i _), if_pos huser,
      if_neg hw]
  refine ⟨_, hn, ?_, ?_, ?_, ?_⟩
  · rw [gate_mon, throttleOn_mon]
  · rw [gate_mon, throttleOn_mon]
  · rw [mon_gate, mon_throttleOn, mon_limitCrossed]
    rfl
  · rw [gate_faults, throttleOn_faults, limitCrossed_faults, tempTaken_faults, tick_faults]

/-- A sample within limits only changes what is measured (12 R543). -/
theorem tempSample_within (hx : -100 ≤ x) (hu : x ≤ ((mon s (24 + i)).userLimit : Int)) (hx' : x ≤ 460)
    (hf : (mon s (24 + i)).userFilter ≠ 0) (ht : s.mon.throttle = false) :
    Does (.tempSample i x t) s (fun v => v.faults = s.faults ∧ v.mon.throttle = false ∧ (mon v (24 + i)).value = i16 x ∧
      (mon v (24 + i)).alarm = false) := by
  have huser : ¬ ((mon (tempTaken i x (tick t s)) (24 + i)).runUser = (mon (tempTaken i x (tick t s)) (24 + i)).userFilter &&
      !(mon (tempTaken i x (tick t s)) (24 + i)).alarm) = true := by
    rw [mon_tempTaken, mon_tick]
    simp [tempRun, measured, Int.not_lt.mpr hu, hf.symm]
  have hlim : x ≤ ((mon (measure (24 + i) x higher (tick t s)) (24 + i)).userLimit : Int) := by
    rw [mon_measure]
    exact hu
  have hoff : (alarmOff (24 + i) (tempTaken i x (tick t s))).mon.throttle = false := by
    rw [alarmOff_throttle, tempTaken_throttle, tick_mon, ht]
  have hn : exec (.tempSample i x t) s = .next (gate s (alarmOff (24 + i) (tempTaken i x (tick t s)))) := by
    rw [tempSample_next hr t h8, tempJudged, if_neg (tempTaken_runLow hx i _), if_neg (tempTaken_runFactory hx' i _), if_neg huser,
      if_pos hlim]
    refine congrArg (fun v => Host.Outcome.next (gate s v)) (if_neg fun h => ?_)
    exact Bool.false_ne_true (hoff.symm.trans (Bool.and_eq_true_iff.mp h).1)
  refine ⟨_, hn, ?_, ?_, ?_, ?_⟩
  · rw [gate_faults, alarmOff, modMon_faults, tempTaken_faults, tick_faults]
  · rw [gate_mon, hoff]
  · rw [mon_gate, mon_alarmOff, mon_tempTaken]
    rfl
  · rw [mon_gate, mon_alarmOff]

end

/-! ### Clocks -/

theorem clockWindow_past {c : Nat} (h : 7 ≤ c) (x : Int) : exec (.clockWindow c x t) s = .next (tick t s) :=
  powered_time hr (show _ = execClockWindow c x t s from rfl) (if_pos h)

section
variable {c : Nat} (h7 : c < 7) {x : Int}
include h7

theorem clockWindow_next : exec (.clockWindow c x t) s = .next (gate s (clockJudged c x (tick t s))) :=
  powered_next hr ((show _ = execClockWindow c x t s from rfl).trans (execClockWindow_eq c x t s)) (if_neg (Nat.not_le_of_lt h7))

/-- The last window of the factory filter outside the factory limit is Silence (11 R499; 12 R544). -/
theorem clockWindow_lost (hl : s.faults.silent = false) (hx : outside c x (mon s (32 + c)).factoryLimit = true)
    (hc : (mon s (32 + c)).runFactory + 1 = (mon s (32 + c)).factoryFilter) (hf : (mon s (32 + c)).factoryFilter ≤ 255) :
    Does (.clockWindow c x t) s (Lost 0x000C) := by
  have hlast : (mon (clockTaken c x (tick t s)) (32 + c)).runFactory = (mon (clockTaken c x (tick t s)) (32 + c)).factoryFilter := by
    rw [mon_clockTaken, mon_tick]
    simp [clockRun, measured, hx, hc, hf]
  have hn := clockWindow_next hr t h7 (x := x)
  rw [clockJudged, if_pos hlast] at hn
  exact ⟨_, hn, (silence_lost 0x000C (by simpa using hl)).gate⟩

/-- The last window of the user filter outside the user limit alone holds the part (11 R499; 12 R544). -/
theorem clockWindow_holds (hl : s.faults.silent = false) (hx : outside c x (mon s (32 + c)).factoryLimit = false)
    (hu : outside c x (mon s (32 + c)).userLimit = true) (hf : (mon s (32 + c)).factoryFilter ≠ 0)
    (hc : (mon s (32 + c)).runUser + 1 = (mon s (32 + c)).userFilter) (hu' : (mon s (32 + c)).userFilter ≤ 255) :
    Does (.clockWindow c x t) s (Holds (.clock c)) := by
  have hlast : (mon (clockTaken c x (tick t s)) (32 + c)).runUser = (mon (clockTaken c x (tick t s)) (32 + c)).userFilter := by
    rw [mon_clockTaken, mon_tick]
    simp [clockRun, measured, hu, hc, hu']
  have hn := clockWindow_next hr t h7 (x := x)
  rw [clockJudged, if_neg (clockTaken_runFactory (s := tick t s) hx hf), if_pos hlast] at hn
  exact ⟨_, hn, Holds.gate (holdEnter_holds (by simpa using hl) (.clock c) true)⟩

/-- A window inside both ends the clock's cause of the Hold (11 R499; 12 R544). -/
theorem clockWindow_clears (hx : outside c x (mon s (32 + c)).factoryLimit = false)
    (hu : outside c x (mon s (32 + c)).userLimit = false) (hf : (mon s (32 + c)).factoryFilter ≠ 0)
    (hu' : (mon s (32 + c)).userFilter ≠ 0) : Does (.clockWindow c x t) s (fun v =>
      v.faults.holds = s.faults.holds.filter (fun x => x != .clock c) ∧ (mon v (32 + c)).alarm = false) := by
  have hz := clockTaken_runUser (s := tick t s) hu
  have hlast : ¬ (mon (clockTaken c x (tick t s)) (32 + c)).runUser = (mon (clockTaken c x (tick t s)) (32 + c)).userFilter := by
    rw [hz, clockTaken_userFilter]
    exact hu'.symm
  have hn := clockWindow_next hr t h7 (x := x)
  rw [clockJudged, if_neg (clockTaken_runFactory (s := tick t s) hx hf), if_neg hlast, if_pos hz] at hn
  refine ⟨_, hn, ?_, ?_⟩
  · rw [gate_faults, holdClear, alarmOff, modMon_faults, clockTaken_faults, tick_faults]
  · rw [mon_gate, mon_holdClear, mon_alarmOff]

end

theorem pllLockLoss_lost (hl : s.faults.silent = false) (p : Nat) : Does (.pllLockLoss p t) s (Lost 0x000C) :=
  powered_lost hr (show _ = execPllLockLoss p t s from rfl) rfl (v := tick t s) hl

end

/-- Without main power no command of the monitors has an effect (12 R541). -/
theorem monitors_unpowered {s : State} (h : s.faults.railsUp = false) (t r a : Nat) (b : Int) :
    Ignores (.supplyWarning r a t) s ∧ Ignores (.supplyRecovered t) s ∧ Ignores (.dipTimeout t) s ∧
      Ignores (.supplyBelowReset r a t) s ∧ Ignores (.supplyOvervoltage r a t) s ∧ Ignores (.glitchAlarm r t) s ∧
      Ignores (.glitchHoldEnd t) s ∧ Ignores (.lightAlarm r t) s ∧ Ignores (.tempSample r b t) s ∧ Ignores (.clockWindow r b t) s ∧
      Ignores (.pllLockLoss r t) s :=
  ⟨powered_ignored h (show _ = execSupplyWarning r a t s from rfl), powered_ignored h (show _ = execSupplyRecovered t s from rfl),
    powered_ignored h (show _ = execDipTimeout t s from rfl), powered_ignored h (show _ = execSupplyBelowReset r a t s from rfl),
    powered_ignored h (show _ = execSupplyOvervoltage r a t s from rfl), powered_ignored h (show _ = execGlitchAlarm r t s from rfl),
    powered_ignored h (show _ = execGlitchHoldEnd t s from rfl), powered_ignored h (show _ = execLightAlarm r t s from rfl),
    powered_ignored h (show _ = execTempSample r b t s from rfl), powered_ignored h (show _ = execClockWindow r b t s from rfl),
    powered_ignored h (show _ = execPllLockLoss r t s from rfl)⟩

/-- Settles O51: one row of a monitor after another, under main power and without it. -/
theorem environmentRows : Obligations.EnvironmentRows := by
  unfold Obligations.EnvironmentRows
  intro s t hl
  dsimp only
  refine ⟨fun h r a b => monitors_unpowered h t r a b, fun hr => ⟨fun r mv h => supplyWarning_calm hr t h,
    fun r mv h6 h => ⟨fun d hd => supplyWarning_dipping hr t h6 h hd, fun hd hn => supplyWarning_holds hr t h6 h hd hl hn,
      fun hd hn => supplyWarning_lost hr t h6 h hd hl hn⟩, supplyRecovered_clears hr t, dipTimeout_calm hr t,
    fun r d h6 hd h => dipTimeout_lost hr t hl h6 hd h, fun r mv h => supplyBelowReset_calm hr t h,
    fun r mv h6 h => supplyBelowReset_off hr t hl h6 h, fun r mv h => supplyOvervoltage_calm hr t h,
    fun r mv h6 h => supplyOvervoltage_gone hr t hl h6 h,
    fun i h8 => ⟨glitchAlarm_holds hr t hl h8, glitchAlarm_gone hr t hl h8⟩, fun i h => glitchAlarm_past hr t h,
    glitchHoldEnd_early hr t, glitchHoldEnd_calms hr t, fun i h => lightAlarm_gone hr t hl h, fun i h => lightAlarm_past hr t h,
    fun i x h => tempSample_past hr t h x, fun i x h8 => ⟨tempSample_gone hr t h8 hl, tempSample_lost hr t h8 hl,
      tempSample_throttles hr t h8, tempSample_within hr t h8⟩, fun c x h => clockWindow_past hr t h x,
    fun c x h7 => ⟨clockWindow_lost hr t h7 hl, clockWindow_holds hr t h7 hl, clockWindow_clears hr t h7⟩,
    pllLockLoss_lost hr t hl⟩⟩

end Machine
end Sys2Proof
end
